-- ==== Sys2Proof/Word.lean ====
section
/-! DEFINITION. The bit widths the manual counts in: bytes, the 16-bit indexes and the 32-bit memory words
(00 "Conventions", R175). -/

namespace Sys2Proof

/-- One byte of memory or of a link frame. -/
abbrev Byte := BitVec 8

/-- A 16-bit index, reference, id or sequence (00 "Conventions": an index counts modulo 65,536). -/
abbrev Half := BitVec 16

/-- A 32-bit memory word, amount, stamp or address. -/
abbrev Word := BitVec 32

end Sys2Proof
end

