-- ==== Sys2Proof/Syntax.lean ====
section
/-! DEFINITION. The commands of the block: one constructor of `Instr` for each row of spec/opcode_table.json, with the
operands the row's event brings from outside. What a row takes from inside the part (the fetched record, the received
frame, the claim waiting) stands in State and is no operand. -/

namespace Sys2Proof

/-- The four serial links, numbered 0 to 3 (04, table of links). -/
inductive LinkId where
  | platter | bag | card | printer
  deriving DecidableEq, Repr

/-- The two filtered inputs of the Till Unit (R139). -/
inductive InputId where
  | sense | key
  deriving DecidableEq, Repr

/-- The eleven blocks (00, "The blocks and how they work together"). -/
inductive BlockId where
  | bi | re | nu | lu | pwu | bwu | su | ctu | tu | pu | ju
  deriving DecidableEq, Repr

/-- The steps of the part. A host write word carries its byte enables (bit k for byte k), its data, and `last`: whether it
is the last word of its burst (R4 writes the refusal record after each burst). -/
inductive Instr where
  | hostWriteWord (addr : Word) (be : BitVec 4) (data : Word) (last : Bool)
  | hostReadBurst (addr : Word) (len : Nat)
  | reqProducerWrite (be : BitVec 4) (data : Word) (last : Bool)
  | evtConsumerWrite (be : BitVec 4) (data : Word) (last : Bool)
  | journalExportWrite (be : BitVec 4) (data : Word) (last : Bool)
  | noticeMaskWrite (be : BitVec 4) (data : Word) (last : Bool)
  | receiptFillWrite (be : BitVec 4) (data : Word) (last : Bool)
  | printPageTableWrite (word : Nat) (be : BitVec 4) (data : Word) (last : Bool)
  | apertureWrite (word : Nat) (be : BitVec 4) (data : Word) (last : Bool)
  | apertureRead (word : Nat)
  | updateWindowOpen (index : Nat)
  | updateWindowClose (index : Nat)
  | memoryPortGrant
  | requestFetched
  | setupCommit
  | laneReset
  | completionWritten (askFirst : Bool)
  | payloadAnswer (block : BlockId)
  | conditionRecordWritten
  | resetNAssert
  | resetNRelease (laSel : BitVec 4) (bagFit : Bool)
  | rxCharacter (link : LinkId) (char : Byte) (stopHigh : Bool)
  | gapTimeout (link : LinkId)
  | breakDetected (link : LinkId)
  | breakLineHigh (link : LinkId)
  | silenceExpiry (link : LinkId)
  | frameSent (link : LinkId)
  | platterSample
  | zeroTrackExpiry
  | platterLinkChange
  | scaleZero
  | scaleTare
  | tareClear
  | saleOpen
  | itemAdd
  | itemWeigh
  | lineVoid
  | bagSample
  | bagWaitExpiry
  | bagLinkChange
  | bagSaleOpened
  | bagSaleClosing
  | bagSaleEnded
  | holdRelease
  | bagSettlementClaim
  | bagHoldClaim
  | bagClearClaim
  | tenderClaim
  | cardTender
  | cardCancel
  | tenderVerdict
  | cardIn
  | cardOut
  | moduleStatus
  | authResult
  | noRecord
  | cardWaitExpiry
  | cancelWaitExpiry
  | cardLinkChange
  | sensorEdge
  | forcedOpeningTell
  | keyEdge
  | kickWidthExpiry
  | kickConfirmExpiry
  | drawerLimitExpiry
  | cashTender
  | drawerNosale
  | printerStatus
  | lineDone
  | printerLinkChange
  | printFrameOffer
  | printSubmit
  | receiptBegin
  | receiptCloseMark
  | saleIdleTell
  | receiptAbandon
  | saleClose
  | saleAbort
  | receiptEndedClaim
  | laneClockTick
  | rawLevelChange (input : InputId) (level : Bool)
  | lineRiseFraming (link : LinkId)
  deriving DecidableEq, Repr

end Sys2Proof
end

