-- ==== Sys2Proof/Decode.lean ====
section
/-! DEFINITION. The table gives no row any bits ("fields": [] in every row), so no word spells a command (log 30). -/

namespace Sys2Proof

/-- The command that `nbits` bits of value `w` spell by the table: none, since no row of the table has bits. -/
def decodeTableWord (_nbits _w : Nat) : Option Instr := none

end Sys2Proof
end

