-- ==== Sys2Proof/Config.lean ====
section
/-! DEFINITION. The fixed sizes and places of the lane area (00 "The lane area at a glance", R178-R180), and the free values
of what the manual leaves without a value. -/

namespace Sys2Proof.Config

/-- The memory the part serves: 256 MiB (R1). -/
def servedBytes : Nat := 268435456
/-- The lane area is 512 KiB (R2). -/
def laneBytes : Nat := 524288

def setupOff : Nat := 0x0
def controlOff : Nat := 0x1000
def statusOff : Nat := 0x2000
def queueOff : Nat := 0x4000
def ringOff : Nat := 0x6000
def saleOff : Nat := 0x8000
def linesOff : Nat := 0x8200
def tendersOff : Nat := 0x9A00
def captureOff : Nat := 0xC000
def cardOff : Nat := 0xC400
def pageTableOff : Nat := 0xD000
def jobsOff : Nat := 0xD200
def journalOff : Nat := 0x10000
def apertureOff : Nat := 0x40000

/-- The lane clock value the BWU's timer-expiry field shows while the bag wait timer is stopped: R123 and R180 state none.
Free value (log 14). -/
opaque stoppedExpiry : Nat → Word

/-- The byte the Card Session Record shows for the CTU's view of a tender's state while there is none: R124 and R179 state no
number for "none". Free value (log 14). -/
opaque noTenderView : Nat → Byte

/-- The module's approved amount that the last conflict records for a NO_RECORD, which carries none (R136). Free value
(log 14, log 21). -/
opaque noRecordAmount : Nat → Word

end Sys2Proof.Config
end

