-- ==== Sys2Proof/Machine/State.lean ====
section
/-! DEFINITION. The state of the LB240 as plain data, one structure for each block that owns it (00 "The blocks and how they
work together"), and the state right after the release of RESET_N. -/

namespace Sys2Proof.Machine

/-- The part stops nowhere: no rule of the spec ends its running, so no step faults and this type has no constructor. -/
inductive Fault where
  deriving DecidableEq, Repr

/-- Refusals. -/
inductive Refusal where
  /-- A command whose row has no meaning yet; raised by a dispatch arm only. Safe: the machine stops. No arm raises it. -/
  | notModelled (mnemonic : String)
  deriving DecidableEq, Repr

/-! ### Named values (R176 gives their numbers; Machine/Formats.lean encodes them) -/

/-- The sections of the lane area (R3). -/
inductive LaneSection where
  | setupBlock | controlWords | statusPage | requestQueue | eventRing | saleRecord | captureTable | cardSession
  | pageTable | jobTable | journal | aperture
  deriving DecidableEq, Repr

/-- R28. -/
inductive DeviceState where
  | unconfigured | ready
  deriving DecidableEq, Repr

/-- 02 "The engine phases". -/
inductive EnginePhase where
  | idle | stalled | fetching | executing | completing
  deriving DecidableEq, Repr

/-- R36. -/
inductive CommitResult where
  | none | done | setupBad
  deriving DecidableEq, Repr

/-- The 19 request kinds (R176). -/
inductive RequestKind where
  | setupCommit | laneReset | saleOpen | itemAdd | itemWeigh | lineVoid | scaleZero | scaleTare | tareClear | holdRelease
  | cardTender | cardCancel | tenderVerdict | cashTender | drawerNosale | printSubmit | saleClose | saleAbort
  | receiptAbandon
  deriving DecidableEq, Repr

/-- R26, in the order of its table. -/
inductive ResultCode where
  | done | notReady | badKind | badParam | wrongState | held | needKey | linkDown | noCapture | staleCapture | tableFull
  | limit | setupBad | journalFull | drawerFault | drawerOpen | busy
  deriving DecidableEq, Repr

/-- The 21 condition kinds, in priority order (R46). -/
inductive CondKind where
  | drawerForced | drawerFault | linkChange | bagHoldSet | bagHoldClear | tenderOutcome | tenderConflict | saleFinished
  | printStopped | printResumed | documentDone | captureReady | captureStale | drawerOpened | drawerShut | drawerLong
  | cardChange | paperLow | scaleLimit | writeRefused | apertureFault
  deriving DecidableEq, Repr

/-- 04 "Link states". -/
inductive LinkState where
  | quiet | unseen | up | mismatch | down
  deriving DecidableEq, Repr

/-- R70; `none` before any change. -/
inductive LinkReason where
  | none | laneUp | rateChanged | identMatched | identWrong | brk | silence | badFrames | frameResumed | laneReset
  deriving DecidableEq, Repr

/-- R62. -/
inductive ErrorKind where
  | none | framing | length | gap | check | brk | overrun | kind
  deriving DecidableEq, Repr

/-- The receiver states (04 "The receiver"), which are also the error fields of R62. -/
inductive RxField where
  | hunt | length | header | payload | check
  deriving DecidableEq, Repr

/-- The receiver's view of its line: stopped in QUIET; running; a character whose stop bit read low, not yet judged (R60);
waiting for the line to be high after a BREAK. -/
inductive RxLine where
  | stopped | running | lowStop | breakWait
  deriving DecidableEq, Repr

/-- R76, R77. -/
inductive LimitState where
  | normal | over | under | fault | offline
  deriving DecidableEq, Repr

/-- R74. -/
inductive LoadZone where
  | empty | loaded
  deriving DecidableEq, Repr

/-- 05 "The capture machine". -/
inductive CaptureMachine where
  | armed | captured | spent
  deriving DecidableEq, Repr

/-- R82. -/
inductive CaptureState where
  | free | fresh | used | stale
  deriving DecidableEq, Repr

/-- R92. -/
inductive SaleState where
  | idle | opened | tendering | settled | closing
  deriving DecidableEq, Repr

/-- The mode of a sale; `none` in a cleared header (R109, R176). -/
inductive SaleMode where
  | none | staffed | self
  deriving DecidableEq, Repr

/-- R94. -/
inductive SaleOutcome where
  | none | sold | voided
  deriving DecidableEq, Repr

/-- R93. -/
inductive HoldReason where
  | none | unexpectedAdd | unexpectedRemoval | mismatch | timeout
  deriving DecidableEq, Repr

/-- R93. -/
inductive ClearReason where
  | none | restored | matched | released
  deriving DecidableEq, Repr

/-- R95. -/
inductive LineKind where
  | item | weighed
  deriving DecidableEq, Repr

/-- R96. -/
inductive BagStatus where
  | none | exempt | pending | bagged | overridden | removalPending | removed
  deriving DecidableEq, Repr

/-- R97. -/
inductive TenderKind where
  | card | cash
  deriving DecidableEq, Repr

/-- R97. -/
inductive TenderState where
  | requested | cancelling | approved | declined | cancelled | unresolved | taken
  deriving DecidableEq, Repr

/-- R135. -/
inductive Verdict where
  | approved | declined
  deriving DecidableEq, Repr

/-- R110. -/
inductive Verification where
  | inactive | staffed | self
  deriving DecidableEq, Repr

/-- R124. -/
inductive ModuleStatus where
  | none | ready | busy | fault
  deriving DecidableEq, Repr

/-- 09 "Drawer states and the solenoid". -/
inductive DrawerState where
  | shut | kicking | opened | fault
  deriving DecidableEq, Repr

/-- R141. -/
inductive KickCause where
  | none | cash | refund | nosale
  deriving DecidableEq, Repr

/-- R155. -/
inductive PrinterCond where
  | offline | stopped | ready
  deriving DecidableEq, Repr

/-- R155, R166. -/
inductive StopCause where
  | none | paperOut | coverOpen | linkDown
  deriving DecidableEq, Repr

/-- R155. -/
inductive Paper where
  | ok | low | out
  deriving DecidableEq, Repr

/-- R162. -/
inductive Owner where
  | none | receipt | job (index : Nat)
  deriving DecidableEq, Repr

/-- R157, R158, R160. -/
inductive ReceiptState where
  | none | printing | closing | block | ended
  deriving DecidableEq, Repr

/-- R161-R163. -/
inductive JobState where
  | free | queued | printing | suspended | done
  deriving DecidableEq, Repr

/-- R158. -/
inductive BlockKind where
  | closing | void
  deriving DecidableEq, Repr

/-- R169. -/
inductive JournalKind where
  | sale | void | nosale
  deriving DecidableEq, Repr

/-- A running timer: its start on the lane clock and its limit in milliseconds (R29). -/
structure Timer where
  start : Word
  limit : Nat
  deriving DecidableEq, Repr

/-! ### Bus Interposer -/

/-- One entry of the Print Page Table copy as its two words (R178). -/
structure PageEntry where
  frame : Word
  valid : Word
  deriving DecidableEq, Repr

/-- A result with its two detail words (R25). -/
structure ReqOutcome where
  result : ResultCode
  detail1 : Word
  detail2 : Word
  deriving DecidableEq, Repr

/-- A completion handed to the Notice Unit (R25). -/
structure Completion where
  tag : Half
  kind : Byte
  outcome : ReqOutcome
  deriving DecidableEq, Repr

/-- What a window writes whose values are taken when the window opens: the Status Page fields of an owner whose rule says so,
and the Capture Table entries written with them (R4, R62, R78, R123, R150); a completion record, whose stamp is the clock at
the moment of writing (R25, R44). -/
inductive LiveBlock where
  | bi | pwu | bwu | tu
  | link (link : LinkId)
  | captureEntry (slot : Nat)
  | captureFree (slot : Nat)
  | completion (c : Completion)
  deriving DecidableEq, Repr

/-- What the SU tells the BWU (R114). -/
inductive BagTell where
  | saleOpened (mode : SaleMode) (baseline : Int)
  | saleClosing
  | saleEnded
  deriving DecidableEq, Repr

/-- What the SU tells the PU (R157, R158, R160). -/
inductive PrintTell where
  | receiptBegins
  | closeMark (mark : Half) (kind : BlockKind)
  | saleIdle
  deriving DecidableEq, Repr

/-- What follows when a window has closed: the next window of the same event, or what the owner does after its writes. -/
inductive After where
  /-- the SU's window of the event in hand is asked (R104, R172: the PWU's and the JU's window come first) -/
  | suWrite
  /-- the SU's event ends (R91) -/
  | suDone
  /-- the journal head advances (R167) -/
  | headAdvance
  /-- the CTU goes on with a tender whose entry has been written (R127) -/
  | cardAsk (index amount : Nat)
  /-- the till begins a kick if the drawer is SHUT (R147) -/
  | kick (cause : KickCause)
  | tellBag (tell : BagTell)
  | tellPrint (tell : PrintTell)
  /-- SALE_FINISHED is raised (R172 step 3) -/
  | saleFinished
  deriving DecidableEq, Repr

/-- A window a unit has asked for and the BI has not opened (R16). `fixed` are words decided at the event, by lane-area
offset; `live` blocks are taken at the opening; requests of one `group` were asked at the same time (log 5); `ofRequest`:
the request in execution waits for it (R24). -/
structure WindowAsk where
  id : Nat
  group : Nat
  owner : BlockId
  sections : List LaneSection
  fixed : List (Nat × Word)
  live : List LiveBlock
  after : List After
  ofRequest : Bool
  deriving DecidableEq, Repr

/-- An open update window (R16). Its writes stand in the engine queue under its number. -/
structure OpenWindow where
  id : Nat
  owner : BlockId
  sections : List LaneSection
  after : List After
  ofRequest : Bool
  deriving DecidableEq, Repr

/-- An access of the part waiting at the memory port (R18). -/
inductive EngineAccess where
  /-- half 0 or 1 of the request record at the consumer index (R22) -/
  | fetch (half : Nat)
  /-- 8 words of the Setup Block (R30) -/
  | setup (index : Nat)
  /-- entry `page` of the Print Page Table, for a slot fetch (R152) -/
  | pageEntry (page : Nat)
  /-- `count` words of a print slot, from memory address `addr` (R152) -/
  | slot (addr count : Nat)
  /-- up to 8 words of window `window`, by memory address -/
  | write (window : Nat) (words : List (Nat × Word))
  /-- the BI's own write of JOURNAL_EXPORT for a SETUP_COMMIT that takes the journal indices (R15): the head and the export copy
  change with it -/
  | journalWrite (head exported : Word)
  deriving DecidableEq, Repr

/-- A host write word as the bus presents it (01 "Accesses on the upstream bus"). -/
structure HostWord where
  addr : Nat
  be : BitVec 4
  data : Word
  last : Bool
  deriving DecidableEq, Repr

/-- A host access that waits on the ready/wait output: a write word for the memory port, a word of RECEIPT_FILL for the Sale
Unit's answer (R14, R108), a read burst held by an open window (R17), or a read burst checked and waiting for the memory
port. -/
inductive HostWait where
  | write (word : HostWord)
  | fillAsk (word : HostWord)
  | readHeld (addr : Nat) (len : Nat)
  | readServing (addr : Nat) (len : Nat)
  deriving DecidableEq, Repr

/-- The state of the Bus Interposer. -/
structure Bi where
  laSel : BitVec 4
  bagFit : Bool
  inReset : Bool
  reqProducer : Word
  evtConsumer : Word
  journalExport : Word
  noticeMask : Word
  receiptFill : Word
  pageTable : List PageEntry
  refusedCount : Nat
  lastRefused : Word
  setupSpan : Bool
  waiting : List WindowAsk
  opened : List OpenWindow
  nextWindow : Nat
  nextGroup : Nat
  hostStall : Option HostWait
  burstGranted : Bool
  burstRefused : Bool
  waitCount : Nat
  engine : List EngineAccess
  readData : List Word
  deriving DecidableEq, Repr

/-! ### Request Engine -/

/-- The validated setup (R31), field by field. -/
structure Setup where
  lane : Nat
  saleNumber : Word
  head : Word
  exported : Word
  rates : List Nat
  silences : List Nat
  platCapacity : Nat
  platDivision : Nat
  platMinNet : Nat
  platWindow : Nat
  platBand : Nat
  platTracking : Bool
  platTareLimit : Nat
  bagCapacity : Nat
  bagDivision : Nat
  bagWindow : Nat
  bagBand : Nat
  bagAbsTol : Nat
  bagRelTol : Nat
  bagWait : Nat
  cardWait : Nat
  cancelWait : Nat
  kickWidth : Nat
  kickConfirm : Nat
  drawerLimit : Nat
  labels : List (List Byte)
  deriving DecidableEq, Repr

/-- The state of the Request Engine. `resetDue`: the completion of a LANE_RESET is in the ring and the reset is not yet applied;
`resetting`: the units that have been told to reset and finish an event or an open window first (R16, R38, R174). -/
structure Re where
  device : DeviceState
  consumer : Half
  phase : EnginePhase
  fetched : List Word
  record : List Word
  outcome : Option ReqOutcome
  statusDue : Bool
  setupRead : List Word
  setup : Option Setup
  laneNumber : Option Half
  clock : Word
  lastCommit : CommitResult
  failField : Nat
  resetDue : Bool
  resetting : List BlockId
  deriving DecidableEq, Repr

/-! ### Notice Unit -/

/-- A condition latch (R46). -/
structure Latch where
  pending : Bool
  count : Nat
  stamp : Word
  source : Nat
  deriving DecidableEq, Repr

/-- What the ring writer is doing (R44, R47): nothing; a completion whose window is asked or open; a condition record for
which payload answers are awaited from `waiting`; a condition whose window is asked or open. -/
inductive Writer where
  | free
  | completion
  | asking (kind : CondKind) (count : Nat) (stamp : Word) (source : Nat) (waiting : List BlockId) (payload : List Byte)
  | condition
  deriving DecidableEq, Repr

/-- The state of the Notice Unit. -/
structure Nu where
  producer : Half
  reserved : Nat
  latches : List Latch
  attn : Bool
  writer : Writer
  owed : Option Completion
  deriving DecidableEq, Repr

/-! ### Link Unit -/

/-- The seven error counters (R62). -/
structure ErrorCounters where
  framing : Nat
  length : Nat
  gap : Nat
  check : Nat
  brk : Nat
  overrun : Nat
  kind : Nat
  deriving DecidableEq, Repr

/-- R62. -/
structure LastError where
  kind : ErrorKind
  field : RxField
  offset : Nat
  stamp : Word
  deriving DecidableEq, Repr

/-- A frame of the transmit queue; `seq` is assigned when its sending starts (R64). -/
structure TxFrame where
  kind : Byte
  payload : List Byte
  seq : Option Byte
  deriving DecidableEq, Repr

/-- What stands in the ordered path to the owning unit (R63). -/
inductive PathItem where
  | frame (kind : Byte) (payload : List Byte) (gap : Bool)
  | change (old : LinkState) (new : LinkState)
  deriving DecidableEq, Repr

/-- The state of one link channel. -/
structure Link where
  state : LinkState
  rate : Nat
  rateNext : Option Nat
  identSeen : Bool
  tracked : Option Byte
  txSeq : Byte
  attempt : Option (List Byte)
  line : RxLine
  freshStart : Bool
  path : List PathItem
  firstAfterUp : Bool
  tx : List TxFrame
  lastSent : List Byte
  errors : ErrorCounters
  seqGaps : Nat
  lastError : LastError
  badRun : Nat
  silence : Option Timer
  prevState : LinkState
  reason : LinkReason
  errorSum : Nat
  identKind : Byte
  deriving DecidableEq, Repr

/-- The four links of the Link Unit. -/
structure Lu where
  platter : Link
  bag : Link
  card : Link
  printer : Link
  deriving DecidableEq, Repr

/-! ### Weigh units -/

/-- A Capture Table entry (R79, R82). -/
structure Capture where
  id : Half
  state : CaptureState
  net : Int
  tare : Int
  gross : Int
  stamp : Word
  line : Nat
  deriving DecidableEq, Repr

/-- The state of the Platter Weigh Unit. -/
structure Pwu where
  zero : Int
  tare : Int
  window : List Int
  zone : LoadZone
  limit : LimitState
  gross : Int
  weight : Int
  machine : CaptureMachine
  curSlot : Nat
  refGross : Int
  table : List Capture
  writeSlot : Nat
  nextId : Half
  zeroTimer : Option Timer
  lastIssued : Half
  lastStale : Half
  deriving DecidableEq, Repr

/-- An entry of the pending list (R115). -/
structure Expectation where
  line : Nat
  delta : Int
  tolerance : Int
  deriving DecidableEq, Repr

/-- The state of the Bag Weigh Unit. -/
structure Bwu where
  window : List Int
  limit : LimitState
  gross : Int
  weight : Int
  settled : Int
  baseline : Int
  verif : Verification
  pend : List Expectation
  hold : Bool
  holdReason : HoldReason
  clearReason : ClearReason
  matched : List Nat
  waitTimer : Option Timer
  lastDelta : Int
  tells : List BagTell
  deriving DecidableEq, Repr

/-! ### Sale Unit -/

/-- A line entry with its bag status (R95, R96). -/
structure SaleLine where
  live : Bool
  kind : LineKind
  code : BitVec 64
  quantity : Nat
  weight : Nat
  price : Nat
  amount : Nat
  delta : Option Int
  captureId : Half
  stamp : Word
  bag : BagStatus
  deriving DecidableEq, Repr

/-- A tender entry (R97). -/
structure Tender where
  kind : TenderKind
  state : TenderState
  requested : Nat
  received : Nat
  applied : Nat
  reference : Half
  entryMethod : Byte
  lastFour : List Byte
  code : List Byte
  byKey : Bool
  created : Word
  final : Word
  deriving DecidableEq, Repr

/-- What a CTU claim moving a tender carries (R107, R129, R135). -/
structure TenderMove where
  index : Nat
  state : TenderState
  amount : Nat
  entryMethod : Byte
  lastFour : List Byte
  code : List Byte
  byKey : Bool
  deriving DecidableEq, Repr

/-- A line a BWU claim names, with the status it moves the line from (R96). -/
structure NamedLine where
  line : Nat
  removal : Bool
  deriving DecidableEq, Repr

/-- What waits at the Sale Unit, in the order of arrival (R91). -/
inductive SaleItem where
  /-- the request in execution, handed over by the RE -/
  | request
  | settlement (lines : List NamedLine) (baseline : Int)
  | holdSet (reason : HoldReason)
  | holdClear (reason : ClearReason) (baseline : Int) (lines : List NamedLine)
  | tender (move : TenderMove) (ofRequest : Bool)
  | receiptEnded (incomplete : Bool) (ofRequest : Bool)
  /-- the Notice Unit's ask for the SALE_FINISHED payload (R47) -/
  | payloadAsk
  /-- the Bus Interposer's ask for the RECEIPT_FILL check (R14, R108) -/
  | fillAsk
  deriving DecidableEq, Repr

/-- The event whose window is still to close: what it writes and what it does afterwards. -/
structure SaleEvent where
  words : List (Nat × Word)
  after : List After
  ofRequest : Bool
  deriving DecidableEq, Repr

/-- A consume claim the SU has made on the PWU and waits to have answered (R83, R103): the id named, if any, the largest net it
can charge, the line number; and the lane clock when the SU took the request, the line's stamp (R29, R104). -/
structure ConsumeClaim where
  capture : Option Half
  largest : Nat
  line : Nat
  stamp : Word
  deriving DecidableEq, Repr

/-- The sale most recently finished (R172). -/
structure FinishedSale where
  number : Word
  outcome : SaleOutcome
  entry : Word
  incomplete : Bool
  byKey : Bool
  deriving DecidableEq, Repr

/-- The header fields the SU keeps; the totals and counts are computed from the entries (R94). -/
structure Header where
  number : Word
  state : SaleState
  mode : SaleMode
  operator : Half
  outcome : SaleOutcome
  bagHold : Bool
  holdReason : HoldReason
  clearReason : ClearReason
  baseline : Int
  overrides : Nat
  receiptStart : Half
  closeMark : Half
  openStamp : Word
  endStamp : Word
  deriving DecidableEq, Repr

/-- The state of the Sale Unit. -/
structure Su where
  header : Header
  lines : List SaleLine
  tenders : List Tender
  nextNumber : Word
  inbox : List SaleItem
  event : Option SaleEvent
  claim : Option ConsumeClaim
  finished : FinishedSale
  deriving DecidableEq, Repr

/-! ### Card Tender Unit -/

/-- The outstanding tender (R124). -/
structure OutTender where
  index : Nat
  reference : Half
  amount : Nat
  state : TenderState
  deriving DecidableEq, Repr

/-- A verdict list entry (R124), with the amount of the tender, which R136 compares (log 21). -/
structure VerdictEntry where
  reference : Half
  index : Nat
  verdict : Verdict
  amount : Nat
  deriving DecidableEq, Repr

/-- The last conflict (R136). -/
structure Conflict where
  verdict : Verdict
  outcome : Nat
  amount : Word
  reference : Half
  deriving DecidableEq, Repr

/-- The tender of the latest TENDER_OUTCOME raise as the CTU last claimed it (R137). -/
structure LastOutcome where
  state : TenderState
  applied : Nat
  reference : Half
  deriving DecidableEq, Repr

/-- The state of the Card Tender Unit. `notices` counts the link's notices of frames sent that wait to be taken (R24, R128). -/
structure Ctu where
  present : Bool
  scheme : Half
  entryMethod : Byte
  lastFour : List Byte
  module : ModuleStatus
  out : Option OutTender
  queryAsked : Bool
  refCounter : Half
  verdicts : List VerdictEntry
  conflict : Option Conflict
  stray : Nat
  late : Nat
  conflicts : Nat
  sendList : List (Byte × List Byte)
  notices : Nat
  cardWait : Option Timer
  cancelWait : Option Timer
  linkUp : Bool
  lastOutcome : LastOutcome
  deriving DecidableEq, Repr

/-! ### Till Unit -/

/-- An input filter: the raw pin level, the filtered level, and the milliseconds the raw level has held the other value
(R139). True is OPEN for the sensor and ON for the key. -/
structure Filter where
  raw : Bool
  level : Bool
  count : Option Nat
  deriving DecidableEq, Repr

/-- A debounced edge on its way to the Till Unit (R139). -/
structure Edge where
  input : InputId
  level : Bool
  deriving DecidableEq, Repr

/-- The state of the Till Unit. -/
structure Tu where
  drawer : DrawerState
  forced : Bool
  attempts : Nat
  cause : KickCause
  solenoid : Bool
  width : Option Timer
  confirm : Option Timer
  limitTimer : Option Timer
  sensor : Bool
  key : Bool
  sensorStamp : Word
  keyStamp : Word
  openStamp : Word
  closeStamp : Word
  forcedCount : Nat
  nosaleCount : Nat
  senseFilter : Filter
  keyFilter : Filter
  edges : List Edge
  deriving DecidableEq, Repr

/-! ### Print Unit -/

/-- What a frame on the flight list acknowledges (R154). -/
inductive FlightKind where
  | stream | jobLine | blockFrame | cut
  deriving DecidableEq, Repr

/-- A frame on the flight list (R153). -/
structure Flight where
  seq : Half
  kind : FlightKind
  deriving DecidableEq, Repr

/-- A frame of the composed block (R159): the text of a line, a FEED, the CUT. -/
inductive BlockFrame where
  | line (text : List Byte)
  | feed (count : Nat)
  | cut
  deriving DecidableEq, Repr

/-- A frame made and waiting for the link (R153). -/
structure ReadyFrame where
  kind : Byte
  payload : List Byte
  flight : FlightKind
  deriving DecidableEq, Repr

/-- A slot fetch in hand (R152): the slot, what its line acknowledges, whether the PU still wants it (a suspension or a reset
gives it up; the accesses already asked for run on), how many accesses are still to return, and the words read. -/
structure SlotFetch where
  slot : Nat
  flight : FlightKind
  wanted : Bool
  left : Nat
  words : List Word
  deriving DecidableEq, Repr

/-- A Print Job Table entry (R161); `cutSent` says that the job's CUT is in flight. -/
structure Job where
  state : JobState
  first : Nat
  count : Nat
  next : Nat
  acked : Nat
  cutSent : Bool
  submission : Half
  submitted : Word
  started : Word
  finished : Word
  deriving DecidableEq, Repr

/-- The state of the Print Unit. `notices` counts the link's notices of frames sent that wait to be taken (R24); `notice`: one has
been taken for the frame that waits; `lost`: the link has refused a frame because it is not UP, and the PU waits to be told
(R153). -/
structure Pu where
  cond : PrinterCond
  cause : StopCause
  paper : Paper
  coverOpen : Bool
  prevPaper : Option Paper
  reported : Bool
  credits : Nat
  flight : List Flight
  lineSeq : Half
  owner : Owner
  printIndex : Half
  nextUnsent : Half
  bound : Bool
  receipt : ReceiptState
  closeMark : Half
  blockKind : BlockKind
  block : List BlockFrame
  blockNext : Nat
  blockAcked : Nat
  jobs : List Job
  submissions : Half
  jobsDone : Half
  stray : Nat
  fetch : Option SlotFetch
  ready : Option ReadyFrame
  notices : Nat
  notice : Bool
  lost : Bool
  tells : List PrintTell
  suspOwner : Owner
  suspCount : Nat
  lastDone : Nat
  lastDoneFirst : Nat
  deriving DecidableEq, Repr

/-! ### Journal Unit -/

/-- A journal entry's fields but the RECEIPT_INCOMPLETE flag, which is set when the entry is written (R169). -/
structure JournalEntry where
  number : Word
  kind : JournalKind
  mode : SaleMode
  lane : Half
  sale : Word
  openStamp : Word
  endStamp : Word
  live : Nat
  voided : Nat
  subtotal : Nat
  card : Nat
  cash : Nat
  change : Nat
  overrides : Nat
  forced : Nat
  nosales : Nat
  byKey : Bool
  check : Half
  deriving DecidableEq, Repr

/-- The state of the Journal Unit; `tells` counts the forced openings told and not yet taken (R168). -/
structure Ju where
  head : Word
  forcedCarry : Nat
  nosaleCarry : Nat
  fixed : Option JournalEntry
  tells : Nat
  deriving DecidableEq, Repr

/-! ### Arrivals -/

/-- The timers of the units. -/
inductive UnitTimer where
  | zeroTrack | bagWait | cardWait | cancelWait | kickWidth | kickConfirm | drawerLimit
  deriving DecidableEq, Repr

/-- What reaches a unit and waits to be taken: the next item of its link's ordered path, a debounced edge, a tell of the SU, the
Notice Unit's ask, a link's notice that a frame has been sent, a timer that is due (R24). -/
inductive UnitEvent where
  | link | edge | tell | ask | sent
  | timer (t : UnitTimer)
  deriving DecidableEq, Repr

/-- The arrival of an event at a unit; `held`: it waited while the unit was in the middle of a request (R24). -/
structure Arrival where
  unit : BlockId
  event : UnitEvent
  held : Bool
  deriving DecidableEq, Repr

/-- The state of the part. `mem` is in the canonical form of `Memory.wf`; `free` counts the free values drawn (log 14);
`arrivals` keeps the order in which the events that wait at the units arrived (R24; log 44); `pending` is the queue of
commands. -/
structure State where
  bi : Bi
  re : Re
  nu : Nu
  lu : Lu
  pwu : Pwu
  bwu : Bwu
  su : Su
  ctu : Ctu
  tu : Tu
  pu : Pu
  ju : Ju
  mem : List Host.Cell
  free : Nat
  arrivals : List Arrival
  pending : List Instr
  deriving DecidableEq, Repr

/-! ### Reset values -/

/-- R19: both span sets, windows and the engine queue are empty, every copy is 0. -/
def Bi.reset : Bi where
  laSel := 0
  bagFit := false
  inReset := false
  reqProducer := 0
  evtConsumer := 0
  journalExport := 0
  noticeMask := 0
  receiptFill := 0
  pageTable := List.replicate 64 { frame := 0, valid := 0 }
  refusedCount := 0
  lastRefused := 0
  setupSpan := false
  waiting := []
  opened := []
  nextWindow := 0
  nextGroup := 0
  hostStall := none
  burstGranted := false
  burstRefused := false
  waitCount := 0
  engine := []
  readData := []

/-- R39. -/
def Re.reset : Re where
  device := .unconfigured
  consumer := 0
  phase := .idle
  fetched := []
  record := []
  outcome := none
  statusDue := false
  setupRead := []
  setup := none
  laneNumber := none
  clock := 0
  lastCommit := .none
  failField := 0
  resetDue := false
  resetting := []

/-- R46, R52. -/
def Latch.clear : Latch where
  pending := false
  count := 0
  stamp := 0
  source := 0

/-- R53. -/
def Nu.reset : Nu where
  producer := 0
  reserved := 0
  latches := List.replicate 24 Latch.clear
  attn := false
  writer := .free
  owed := none

/-- R62: every counter 0. -/
def ErrorCounters.zero : ErrorCounters where
  framing := 0
  length := 0
  gap := 0
  check := 0
  brk := 0
  overrun := 0
  kind := 0

/-- R71, with R62's counters and record at 0; what R71 does not name, the recorded sum of the error counters among it, is as
log 12 gives it. -/
def Link.reset : Link where
  state := .quiet
  rate := 0
  rateNext := none
  identSeen := false
  tracked := none
  txSeq := 0
  attempt := none
  line := .stopped
  freshStart := false
  path := []
  firstAfterUp := false
  tx := []
  lastSent := []
  errors := ErrorCounters.zero
  seqGaps := 0
  lastError := { kind := .none, field := .hunt, offset := 0, stamp := 0 }
  badRun := 0
  silence := none
  prevState := .quiet
  reason := .none
  errorSum := 0
  identKind := 0

/-- R65. -/
def Lu.reset : Lu where
  platter := Link.reset
  bag := Link.reset
  card := Link.reset
  printer := Link.reset

/-- A FREE entry has id 0 (R82). -/
def Capture.free : Capture where
  id := 0
  state := .free
  net := 0
  tare := 0
  gross := 0
  stamp := 0
  line := 0

/-- R89; the next capture id, not used while UNCONFIGURED, is 1 (log 12). -/
def Pwu.reset : Pwu where
  zero := 0
  tare := 0
  window := []
  zone := .empty
  limit := .offline
  gross := 0
  weight := 0
  machine := .armed
  curSlot := 0
  refGross := 0
  table := List.replicate 16 Capture.free
  writeSlot := 0
  nextId := 1
  zeroTimer := none
  lastIssued := 0
  lastStale := 0

/-- R110. -/
def Bwu.reset : Bwu where
  window := []
  limit := .offline
  gross := 0
  weight := 0
  settled := 0
  baseline := 0
  verif := .inactive
  pend := []
  hold := false
  holdReason := .none
  clearReason := .none
  matched := []
  waitTimer := none
  lastDelta := 0
  tells := []

/-- R109: IDLE and every other field 0. -/
def Header.cleared : Header where
  number := 0
  state := .idle
  mode := .none
  operator := 0
  outcome := .none
  bagHold := false
  holdReason := .none
  clearReason := .none
  baseline := 0
  overrides := 0
  receiptStart := 0
  closeMark := 0
  openStamp := 0
  endStamp := 0

/-- R109. -/
def Su.reset : Su where
  header := Header.cleared
  lines := []
  tenders := []
  nextNumber := 0
  inbox := []
  event := none
  claim := none
  finished := { number := 0, outcome := .none, entry := 0, incomplete := false, byKey := false }

/-- R138. -/
def Ctu.reset : Ctu where
  present := false
  scheme := 0
  entryMethod := 0
  lastFour := [0, 0, 0, 0]
  module := .none
  out := none
  queryAsked := false
  refCounter := 1
  verdicts := []
  conflict := none
  stray := 0
  late := 0
  conflicts := 0
  sendList := []
  notices := 0
  cardWait := none
  cancelWait := none
  linkUp := false
  lastOutcome := { state := .requested, applied := 0, reference := 0 }

/-- R151, with both inputs at SHUT and OFF (log 12). -/
def Tu.reset : Tu where
  drawer := .shut
  forced := false
  attempts := 0
  cause := .none
  solenoid := false
  width := none
  confirm := none
  limitTimer := none
  sensor := false
  key := false
  sensorStamp := 0
  keyStamp := 0
  openStamp := 0
  closeStamp := 0
  forcedCount := 0
  nosaleCount := 0
  senseFilter := { raw := false, level := false, count := none }
  keyFilter := { raw := false, level := false, count := none }
  edges := []

/-- A FREE print job entry (R166). -/
def Job.free : Job where
  state := .free
  first := 0
  count := 0
  next := 0
  acked := 0
  cutSent := false
  submission := 0
  submitted := 0
  started := 0
  finished := 0

/-- R166. -/
def Pu.reset : Pu where
  cond := .offline
  cause := .linkDown
  paper := .ok
  coverOpen := false
  prevPaper := none
  reported := false
  credits := 0
  flight := []
  lineSeq := 0
  owner := .none
  printIndex := 0
  nextUnsent := 0
  bound := false
  receipt := .none
  closeMark := 0
  blockKind := .closing
  block := []
  blockNext := 0
  blockAcked := 0
  jobs := List.replicate 8 Job.free
  submissions := 0
  jobsDone := 0
  stray := 0
  fetch := none
  ready := none
  notices := 0
  notice := false
  lost := false
  tells := []
  suspOwner := .none
  suspCount := 0
  lastDone := 0
  lastDoneFirst := 0

/-- R174. -/
def Ju.reset : Ju where
  head := 0
  forcedCarry := 0
  nosaleCarry := 0
  fixed := none
  tells := 0

/-- The part right after the release of RESET_N, with the straps and inputs of log 12: the words written at the release are
all 0 (R2, R39, R53, R62), so memory lists nothing (log 11, log 13). -/
def State.reset : State where
  bi := Bi.reset
  re := Re.reset
  nu := Nu.reset
  lu := Lu.reset
  pwu := Pwu.reset
  bwu := Bwu.reset
  su := Su.reset
  ctu := Ctu.reset
  tu := Tu.reset
  pu := Pu.reset
  ju := Ju.reset
  mem := []
  free := 0
  arrivals := []
  pending := []

/-! ### One setter for each block, so that proofs need not unfold a record update (Laws/State.lean) -/

def State.setBi (s : State) (x : Bi) : State := { s with bi := x }
def State.setRe (s : State) (x : Re) : State := { s with re := x }
def State.setNu (s : State) (x : Nu) : State := { s with nu := x }
def State.setLu (s : State) (x : Lu) : State := { s with lu := x }
def State.setPwu (s : State) (x : Pwu) : State := { s with pwu := x }
def State.setBwu (s : State) (x : Bwu) : State := { s with bwu := x }
def State.setSu (s : State) (x : Su) : State := { s with su := x }
def State.setCtu (s : State) (x : Ctu) : State := { s with ctu := x }
def State.setTu (s : State) (x : Tu) : State := { s with tu := x }
def State.setPu (s : State) (x : Pu) : State := { s with pu := x }
def State.setJu (s : State) (x : Ju) : State := { s with ju := x }
def State.setMem (s : State) (x : List Host.Cell) : State := { s with mem := x }
def State.setFree (s : State) (x : Nat) : State := { s with free := x }
def State.setArrivals (s : State) (x : List Arrival) : State := { s with arrivals := x }

end Sys2Proof.Machine
end

