-- ==== Sys2Proof/Machine/Memory.lean ====
section
/-! DEFINITION. The lane's memory as a sorted list of the bytes that differ from what an unlisted byte reads as, and the
little-endian words built from it (R175). -/

namespace Sys2Proof.Machine

/-- What a byte that nothing has written reads as (log 11). -/
def Memory.unlisted : Byte := 0

/-- Addresses strictly rising, and no entry equal to what an unlisted address reads as. -/
def Memory.wf : List Host.Cell → Bool
  | [] => true
  | [(_, v)] => v != Memory.unlisted
  | (a, v) :: (b, w) :: rest => v != Memory.unlisted && decide (a < b) && Memory.wf ((b, w) :: rest)

/-- The byte at an address. -/
def Memory.readByte : List Host.Cell → Nat → Byte
  | [], _ => Memory.unlisted
  | (k, v) :: rest, a => if k = a then v else if a < k then Memory.unlisted else Memory.readByte rest a

/-- A byte write that keeps the canonical form: writing the unlisted value removes the entry. -/
def Memory.writeByte : List Host.Cell → Nat → Byte → List Host.Cell
  | [], a, v => if v = Memory.unlisted then [] else [(a, v)]
  | (k, w) :: rest, a, v =>
      if a < k then (if v = Memory.unlisted then (k, w) :: rest else (a, v) :: (k, w) :: rest)
      else if a = k then (if v = Memory.unlisted then rest else (a, v) :: rest)
      else (k, w) :: Memory.writeByte rest a v

/-- The word of four bytes, the first the least significant (R175). -/
def wordOfBytes (b0 b1 b2 b3 : Byte) : Word := b3 ++ b2 ++ b1 ++ b0

/-- Byte `k` of a word, 0 the least significant. -/
def byteOfWord (w : Word) (k : Nat) : Byte := w.extractLsb' (8 * k) 8

/-- The word at a word-aligned address. -/
def Memory.readWord (m : List Host.Cell) (a : Nat) : Word :=
  wordOfBytes (Memory.readByte m a) (Memory.readByte m (a + 1)) (Memory.readByte m (a + 2)) (Memory.readByte m (a + 3))

/-- One byte of a word write: written where its enable is set. -/
def Memory.writeLane (m : List Host.Cell) (a : Nat) (be : BitVec 4) (w : Word) (k : Nat) : List Host.Cell :=
  if be.getLsbD k then Memory.writeByte m (a + k) (byteOfWord w k) else m

/-- A word write with byte enables (R1). -/
def Memory.writeWord (m : List Host.Cell) (a : Nat) (be : BitVec 4) (w : Word) : List Host.Cell :=
  Memory.writeLane (Memory.writeLane (Memory.writeLane (Memory.writeLane m a be w 0) a be w 1) a be w 2) a be w 3

/-- All four byte enables. -/
def allBytes : BitVec 4 := 15

/-- Several whole words, in order. -/
def Memory.writeWords : List Host.Cell → List (Nat × Word) → List Host.Cell
  | m, [] => m
  | m, (a, w) :: rest => Memory.writeWords (Memory.writeWord m a allBytes w) rest

/-- `n` consecutive words from address `a`. -/
def Memory.readWords (m : List Host.Cell) (a : Nat) : Nat → List Word
  | 0 => []
  | n + 1 => Memory.readWord m a :: Memory.readWords m (a + 4) n

end Sys2Proof.Machine
end

