-- ==== Sys2Proof/Machine/Formats.lean ====
section
/-! DEFINITION. The numbers of the named values (R176), the packing of fields into bytes and words (R175), the check of
frames and journal entries (R56), and the words of the records the part writes (R177-R180). -/

namespace Sys2Proof.Machine

/-! ### Numbers of the named values (R176) -/

def RequestKind.code : RequestKind → Nat
  | .setupCommit => 1 | .laneReset => 2 | .saleOpen => 3 | .itemAdd => 4 | .itemWeigh => 5 | .lineVoid => 6
  | .scaleZero => 7 | .scaleTare => 8 | .tareClear => 9 | .holdRelease => 10 | .cardTender => 11 | .cardCancel => 12
  | .tenderVerdict => 13 | .cashTender => 14 | .drawerNosale => 15 | .printSubmit => 16 | .saleClose => 17
  | .saleAbort => 18 | .receiptAbandon => 19

/-- The kind a kind byte names, if any (R23 check 1). -/
def RequestKind.ofCode : Nat → Option RequestKind
  | 1 => some .setupCommit | 2 => some .laneReset | 3 => some .saleOpen | 4 => some .itemAdd | 5 => some .itemWeigh
  | 6 => some .lineVoid | 7 => some .scaleZero | 8 => some .scaleTare | 9 => some .tareClear | 10 => some .holdRelease
  | 11 => some .cardTender | 12 => some .cardCancel | 13 => some .tenderVerdict | 14 => some .cashTender
  | 15 => some .drawerNosale | 16 => some .printSubmit | 17 => some .saleClose | 18 => some .saleAbort
  | 19 => some .receiptAbandon | _ => none

def ResultCode.code : ResultCode → Nat
  | .done => 0 | .notReady => 1 | .badKind => 2 | .badParam => 3 | .wrongState => 4 | .held => 5 | .needKey => 6
  | .linkDown => 7 | .noCapture => 8 | .staleCapture => 9 | .tableFull => 10 | .limit => 11 | .setupBad => 12
  | .journalFull => 13 | .drawerFault => 14 | .drawerOpen => 15 | .busy => 16

/-- The event type of a condition: 1 to 21 in priority order. -/
def CondKind.code : CondKind → Nat
  | .drawerForced => 1 | .drawerFault => 2 | .linkChange => 3 | .bagHoldSet => 4 | .bagHoldClear => 5
  | .tenderOutcome => 6 | .tenderConflict => 7 | .saleFinished => 8 | .printStopped => 9 | .printResumed => 10
  | .documentDone => 11 | .captureReady => 12 | .captureStale => 13 | .drawerOpened => 14 | .drawerShut => 15
  | .drawerLong => 16 | .cardChange => 17 | .paperLow => 18 | .scaleLimit => 19 | .writeRefused => 20
  | .apertureFault => 21

def CommitResult.code : CommitResult → Nat
  | .none => 0 | .done => 1 | .setupBad => 2
def DeviceState.code : DeviceState → Nat
  | .unconfigured => 0 | .ready => 1
def SaleMode.code : SaleMode → Nat
  | .none => 0 | .staffed => 1 | .self => 2
def SaleState.code : SaleState → Nat
  | .idle => 0 | .opened => 1 | .tendering => 2 | .settled => 3 | .closing => 4
def SaleOutcome.code : SaleOutcome → Nat
  | .none => 0 | .sold => 1 | .voided => 2
def HoldReason.code : HoldReason → Nat
  | .none => 0 | .unexpectedAdd => 1 | .unexpectedRemoval => 2 | .mismatch => 3 | .timeout => 4
def ClearReason.code : ClearReason → Nat
  | .none => 0 | .restored => 1 | .matched => 2 | .released => 3
def LineKind.code : LineKind → Nat
  | .item => 0 | .weighed => 1
def BagStatus.code : BagStatus → Nat
  | .none => 0 | .exempt => 1 | .pending => 2 | .bagged => 3 | .overridden => 4 | .removalPending => 5 | .removed => 6
def TenderKind.code : TenderKind → Nat
  | .card => 0 | .cash => 1
def TenderState.code : TenderState → Nat
  | .requested => 0 | .cancelling => 1 | .approved => 2 | .declined => 3 | .cancelled => 4 | .unresolved => 5 | .taken => 6
def CaptureState.code : CaptureState → Nat
  | .free => 0 | .fresh => 1 | .used => 2 | .stale => 3
def CaptureMachine.code : CaptureMachine → Nat
  | .armed => 0 | .captured => 1 | .spent => 2
def LoadZone.code : LoadZone → Nat
  | .empty => 0 | .loaded => 1
def LimitState.code : LimitState → Nat
  | .normal => 0 | .over => 1 | .under => 2 | .fault => 3 | .offline => 4
def Verification.code : Verification → Nat
  | .inactive => 0 | .staffed => 1 | .self => 2
def DrawerState.code : DrawerState → Nat
  | .shut => 0 | .kicking => 1 | .opened => 2 | .fault => 3
def KickCause.code : KickCause → Nat
  | .none => 0 | .cash => 1 | .refund => 2 | .nosale => 3
def ModuleStatus.code : ModuleStatus → Nat
  | .none => 0 | .ready => 1 | .busy => 2 | .fault => 3
def Verdict.code : Verdict → Nat
  | .approved => 1 | .declined => 2
def PrinterCond.code : PrinterCond → Nat
  | .offline => 0 | .stopped => 1 | .ready => 2
def StopCause.code : StopCause → Nat
  | .none => 0 | .paperOut => 1 | .coverOpen => 2 | .linkDown => 3
def Paper.code : Paper → Nat
  | .ok => 0 | .low => 1 | .out => 2
def Owner.code : Owner → Nat
  | .none => 0 | .receipt => 1 | .job j => 16 + j
def ReceiptState.code : ReceiptState → Nat
  | .none => 0 | .printing => 1 | .closing => 2 | .block => 3 | .ended => 4
def JobState.code : JobState → Nat
  | .free => 0 | .queued => 1 | .printing => 2 | .suspended => 3 | .done => 4
def JournalKind.code : JournalKind → Nat
  | .sale => 0 | .void => 1 | .nosale => 2
def LinkState.code : LinkState → Nat
  | .quiet => 0 | .unseen => 1 | .up => 2 | .mismatch => 3 | .down => 4
def LinkReason.code : LinkReason → Nat
  | .none => 0 | .laneUp => 1 | .rateChanged => 2 | .identMatched => 3 | .identWrong => 4 | .brk => 5 | .silence => 6
  | .badFrames => 7 | .frameResumed => 8 | .laneReset => 9
def ErrorKind.code : ErrorKind → Nat
  | .none => 0 | .framing => 1 | .length => 2 | .gap => 3 | .check => 4 | .brk => 5 | .overrun => 6 | .kind => 7
def RxField.code : RxField → Nat
  | .hunt => 0 | .length => 1 | .header => 2 | .payload => 3 | .check => 4
/-- The link numbers of 04's table. -/
def linkNo : LinkId → Nat
  | .platter => 0 | .bag => 1 | .card => 2 | .printer => 3

/-! ### Packing (R175) -/

/-- One byte. -/
def nat1 (n : Nat) : Byte := BitVec.ofNat 8 n
def bool1 (b : Bool) : Byte := if b then 1 else 0
/-- Two bytes, low byte first. -/
def le2 (x : Half) : List Byte := [x.extractLsb' 0 8, x.extractLsb' 8 8]
def nat2 (n : Nat) : List Byte := le2 (BitVec.ofNat 16 n)
/-- Four bytes, low byte first. -/
def le4 (w : Word) : List Byte := [byteOfWord w 0, byteOfWord w 1, byteOfWord w 2, byteOfWord w 3]
def nat4 (n : Nat) : List Byte := le4 (BitVec.ofNat 32 n)
/-- A signed 32-bit field. -/
def int4 (i : Int) : List Byte := le4 (BitVec.ofInt 32 i)
def zeros (n : Nat) : List Byte := List.replicate n 0

/-- The words of a byte list; a last incomplete word is filled with 0. -/
def packWords : List Byte → List Word
  | a :: b :: c :: d :: rest => wordOfBytes a b c d :: packWords rest
  | [a, b, c] => [wordOfBytes a b c 0]
  | [a, b] => [wordOfBytes a b 0 0]
  | [a] => [wordOfBytes a 0 0 0]
  | [] => []

/-- Words at consecutive offsets from `off`. -/
def wordsAt : Nat → List Word → List (Nat × Word)
  | _, [] => []
  | off, w :: rest => (off, w) :: wordsAt (off + 4) rest

/-- The bytes of words. -/
def bytesOfWords : List Word → List Byte
  | [] => []
  | w :: rest => le4 w ++ bytesOfWords rest

/-- A field of a condition payload: its size and its value. -/
inductive Field where
  | one (b : Byte)
  | two (h : Half)
  | four (w : Word)
  deriving DecidableEq, Repr

/-- Payload fields in order, each beginning at the next multiple of its own size (R175), from offset `at_`. -/
def packFrom : Nat → List Field → List Byte
  | _, [] => []
  | k, .one b :: rest => b :: packFrom (k + 1) rest
  | k, .two h :: rest => zeros (k % 2) ++ le2 h ++ packFrom (k + k % 2 + 2) rest
  | k, .four w :: rest => zeros ((4 - k % 4) % 4) ++ le4 w ++ packFrom (k + (4 - k % 4) % 4 + 4) rest

/-- The 16 bytes of a condition payload; what no field fills is 0 (R48). -/
def packPayload (fs : List Field) : List Byte := (packFrom 0 fs ++ zeros 16).take 16

/-! ### The CRC-16 of frames and journal entries (R56, R169) -/

/-- One data bit: compare with the top bit, shift left, combine with 0x1021 if they differed. -/
def crcBit (r : Half) (bit : Bool) : Half :=
  if r.getLsbD 15 != bit then (r <<< 1) ^^^ 0x1021 else r <<< 1

/-- One byte, most significant bit first. -/
def crcByte (r : Half) (b : Byte) : Half :=
  crcBit (crcBit (crcBit (crcBit (crcBit (crcBit (crcBit (crcBit r (b.getLsbD 7)) (b.getLsbD 6)) (b.getLsbD 5))
    (b.getLsbD 4)) (b.getLsbD 3)) (b.getLsbD 2)) (b.getLsbD 1)) (b.getLsbD 0)

/-- The check over bytes in order, from 0xFFFF. -/
def crc16 (bs : List Byte) : Half := bs.foldl crcByte 0xFFFF

/-! ### Frames (R56, R57, R177) -/

def syncByte : Byte := 0xD5
def kHello : Byte := 0x01
def kIdent : Byte := 0x02
def kSample : Byte := 0x10
def kAmountReq : Byte := 0x20
def kCancelReq : Byte := 0x21
def kStatusQuery : Byte := 0x22
def kCardIn : Byte := 0x28
def kCardOut : Byte := 0x29
def kAuthResult : Byte := 0x2A
def kNoRecord : Byte := 0x2B
def kModuleStatus : Byte := 0x2C
def kPrintLine : Byte := 0x30
def kFeed : Byte := 0x31
def kCut : Byte := 0x32
def kPrinterStatus : Byte := 0x38
def kLineDone : Byte := 0x39

/-- The minimum LEN of a KIND that is valid on a link from device to part, if it is (R57). -/
def allowedMinLen (l : LinkId) (kind : Byte) : Option Nat :=
  if kind = kIdent then some 1
  else match l with
    | .platter => if kind = kSample then some 5 else none
    | .bag => if kind = kSample then some 5 else none
    | .card =>
        if kind = kCardIn then some 7
        else if kind = kCardOut then some 0
        else if kind = kAuthResult then some 13
        else if kind = kNoRecord then some 2
        else if kind = kModuleStatus then some 1
        else none
    | .printer =>
        if kind = kPrinterStatus then some 3
        else if kind = kLineDone then some 2
        else none

/-- The bytes of a whole frame: SYNC, LEN, KIND, SEQ, payload, CHECK low byte first. -/
def frameBytes (kind seq : Byte) (payload : List Byte) : List Byte :=
  let body := nat1 payload.length :: kind :: seq :: payload
  syncByte :: (body ++ le2 (crc16 body))

/-! ### Sale totals (R94, R106) -/

def sumNat (xs : List Nat) : Nat := xs.foldl (· + ·) 0

/-- The sum of the amounts of LIVE lines. -/
def Su.subtotal (u : Su) : Nat := sumNat (u.lines.map fun l => if l.live then l.amount else 0)
def Su.applied (u : Su) : Nat := sumNat (u.tenders.map fun t => t.applied)
def Su.cardApproved (u : Su) : Nat :=
  sumNat (u.tenders.map fun t => if t.kind = .card then t.applied else 0)
def Su.cashReceived (u : Su) : Nat :=
  sumNat (u.tenders.map fun t => if t.kind = .cash then t.received else 0)
def Su.change (u : Su) : Nat :=
  sumNat (u.tenders.map fun t => if t.kind = .cash then t.received - t.applied else 0)
/-- Subtotal minus applied total. -/
def Su.balance (u : Su) : Nat := u.subtotal - u.applied
def Su.entriesUsed (u : Su) : Nat := u.lines.length
def Su.liveCount (u : Su) : Nat := (u.lines.filter fun l => l.live).length
def Su.voidCount (u : Su) : Nat := (u.lines.filter fun l => !l.live).length
def Su.bagPending (u : Su) : Nat :=
  (u.lines.filter fun l => l.bag = .pending || l.bag = .removalPending).length
/-- TENDER_HOLD: some tender is UNRESOLVED (R93). -/
def Su.tenderHold (u : Su) : Bool := u.tenders.any fun t => t.state = .unresolved
/-- A card tender in progress: REQUESTED, CANCELLING or UNRESOLVED (R108). -/
def Su.cardInProgress (u : Su) : Bool :=
  u.tenders.any fun t => t.state = .requested || t.state = .cancelling || t.state = .unresolved
def Su.byKey (u : Su) : Bool := u.tenders.any fun t => t.byKey

/-! ### Records of the sale section (R179) -/

/-- The 48 words of the header the SU writes (R94). -/
def saleHeaderWords (u : Su) : List Word :=
  let h := u.header
  packWords
    (le4 h.number ++ [nat1 h.state.code, nat1 h.mode.code] ++ le2 h.operator
      ++ [nat1 h.outcome.code, bool1 h.bagHold, nat1 h.holdReason.code, nat1 h.clearReason.code]
      ++ [bool1 u.tenderHold, 0] ++ nat2 u.entriesUsed ++ nat2 u.liveCount ++ nat2 u.voidCount
      ++ nat4 u.subtotal ++ nat4 u.applied ++ nat4 u.cardApproved ++ nat4 u.cashReceived ++ nat4 u.change ++ nat4 u.balance
      ++ nat2 u.tenders.length ++ zeros 2 ++ int4 h.baseline ++ nat2 u.bagPending ++ nat2 h.overrides
      ++ ((u.lines.map fun l => nat1 l.bag.code) ++ zeros 96).take 96
      ++ le2 h.receiptStart ++ le2 h.closeMark ++ le4 h.openStamp ++ le4 h.endStamp ++ zeros 28)

/-- The 16 words of line `n` (from 1). An absent expected delta is written as 0 beside its clear flag (log 38). -/
def lineWords (n : Nat) (l : SaleLine) : List Word :=
  packWords
    (nat2 n ++ [if l.live then 0 else 1, nat1 l.kind.code] ++ zeros 4
      ++ le4 (l.code.extractLsb' 0 32) ++ le4 (l.code.extractLsb' 32 32) ++ nat2 l.quantity ++ zeros 2 ++ nat4 l.weight
      ++ nat4 l.price ++ nat4 l.amount ++ int4 (l.delta.getD 0) ++ [bool1 l.delta.isSome, 0] ++ le2 l.captureId
      ++ le4 l.stamp ++ zeros 20)

/-- The 16 words of tender `t` (from 0). -/
def tenderWords (t : Nat) (x : Tender) : List Word :=
  packWords
    ([nat1 t, nat1 x.kind.code, nat1 x.state.code, bool1 x.byKey] ++ nat4 x.requested ++ nat4 x.received ++ nat4 x.applied
      ++ le2 x.reference ++ [x.entryMethod] ++ (x.lastFour ++ zeros 4).take 4 ++ (x.code ++ zeros 6).take 6 ++ zeros 3
      ++ le4 x.created ++ le4 x.final ++ zeros 24)

/-- The words of `new` that differ from `old`, with their offsets. -/
def changedWords : Nat → List Word → List Word → List (Nat × Word)
  | _, _, [] => []
  | off, [], n :: new => (off, n) :: changedWords (off + 4) [] new
  | off, o :: old, n :: new =>
      if o = n then changedWords (off + 4) old new else (off, n) :: changedWords (off + 4) old new

/-! ### The other records (R179) -/

/-- The 8 words of a completion record. -/
def completionWords (seq : Half) (stamp : Word) (c : Completion) : List Word :=
  packWords (le2 seq ++ [0, 0, 1, 0, 0, 0] ++ le4 stamp ++ le2 c.tag ++ [c.kind, nat1 c.outcome.result.code]
    ++ le4 c.outcome.detail1 ++ le4 c.outcome.detail2 ++ zeros 8)

/-- The 8 words of a condition record. -/
def conditionWords (seq : Half) (kind : CondKind) (source count : Nat) (stamp : Word) (payload : List Byte) : List Word :=
  packWords (le2 seq ++ [nat1 kind.code, nat1 source, nat1 count, 0, 0, 0] ++ le4 stamp ++ (payload ++ zeros 16).take 16
    ++ zeros 4)

/-- The first word of a capture entry: id and state. -/
def captureHead (c : Capture) : List Byte := le2 c.id ++ [nat1 c.state.code, 0]

/-- The 16 words of a capture entry. -/
def captureWords (c : Capture) : List Word :=
  packWords (captureHead c ++ int4 c.net ++ int4 c.tare ++ int4 c.gross ++ le4 c.stamp ++ nat2 c.line ++ zeros 42)

/-- The 5 words of the Card Session Record. -/
def cardSessionWords (u : Ctu) (noView : Byte) : List Word :=
  packWords
    ([bool1 u.present, u.entryMethod] ++ le2 u.scheme ++ (u.lastFour ++ zeros 4).take 4
      ++ [nat1 u.module.code,
          (match u.out with | some t => nat1 t.index | none => 0xFF),
          (match u.out with | some t => nat1 t.state.code | none => noView),
          bool1 u.queryAsked]
      ++ (match u.out with | some t => le2 t.reference | none => zeros 2)
      ++ nat2 u.stray ++ nat2 u.late ++ nat2 u.conflicts)

/-- The 16 words of a print job entry. -/
def jobWords (j : Job) : List Word :=
  packWords ([nat1 j.state.code, 0, 0, 0] ++ nat2 j.first ++ nat2 j.count ++ nat2 j.next ++ nat2 j.acked
    ++ le2 j.submission ++ zeros 2 ++ le4 j.submitted ++ le4 j.started ++ le4 j.finished ++ zeros 36)

/-- Bytes 0 to 61 of a journal entry. -/
def journalBody (e : JournalEntry) (incomplete : Bool) : List Byte :=
  le4 e.number ++ [nat1 e.kind.code, nat1 e.mode.code] ++ le2 e.lane ++ le4 e.sale ++ le4 e.openStamp ++ le4 e.endStamp
    ++ nat2 e.live ++ nat2 e.voided ++ nat4 e.subtotal ++ nat4 e.card ++ nat4 e.cash ++ nat4 e.change
    ++ nat2 e.overrides ++ nat2 e.forced ++ nat2 e.nosales
    ++ [(if incomplete then 1 else 0) + (if e.byKey then 2 else 0)] ++ zeros 15

/-- The 16 words of a journal entry. -/
def journalWords (e : JournalEntry) (incomplete : Bool) : List Word :=
  packWords (journalBody e incomplete ++ le2 e.check)

/-- The check code of an entry, over bytes 0 to 61 with RECEIPT_INCOMPLETE clear (R169). -/
def journalCheck (e : JournalEntry) : Half := crc16 (journalBody e false)

/-! ### The Status Page (R180): the words of each owner, by offset in the page -/

def biStatus (u : Bi) : List Word :=
  packWords ([nat1 u.laSel.toNat, bool1 u.bagFit] ++ nat2 u.refusedCount ++ le4 u.lastRefused)

/-- The RE's two words at 0x010: device state, last commit result, lane number; consumer index, failing field. -/
def reStatus (u : Re) : List Word :=
  packWords ([nat1 u.device.code, nat1 u.lastCommit.code] ++ le2 (u.laneNumber.getD 0) ++ le2 u.consumer
    ++ [nat1 u.failField, 0])

/-- Motion STABLE: the window holds W values (R75). -/
def isStable (window : List Int) (w : Nat) : Bool := decide (0 < w) && decide (window.length = w)

/-- The id of the FRESH capture, 0 if none (R78). -/
def Pwu.freshId (u : Pwu) : Half :=
  match u.table.find? fun c => c.state = .fresh with
  | some c => c.id
  | none => 0

def pwuStatus (u : Pwu) (w : Nat) : List Word :=
  packWords (int4 u.gross ++ int4 u.weight
    ++ [bool1 (isStable u.window w), nat1 u.zone.code, nat1 u.limit.code, nat1 u.machine.code]
    ++ int4 u.zero ++ int4 u.tare ++ le2 u.freshId ++ le2 u.nextId)

/-- The lane clock at which a running timer expires. -/
def Timer.expiry (t : Timer) : Word := t.start + BitVec.ofNat 32 t.limit

def bwuStatus (u : Bwu) (w : Nat) (stopped : Word) : List Word :=
  packWords (int4 u.gross ++ int4 u.weight
    ++ [bool1 (isStable u.window w), nat1 u.limit.code, nat1 u.verif.code, bool1 u.hold, nat1 u.holdReason.code,
        bool1 u.waitTimer.isSome] ++ nat2 u.pend.length
    ++ int4 u.settled ++ int4 u.baseline
    ++ (match u.waitTimer with | some t => le4 t.expiry | none => le4 stopped))

def tuStatus (u : Tu) : List Word :=
  packWords ([nat1 u.drawer.code, bool1 u.forced, nat1 u.attempts, nat1 u.cause.code, bool1 u.sensor, bool1 u.key]
    ++ nat2 u.forcedCount ++ nat2 u.nosaleCount ++ zeros 2 ++ le4 u.sensorStamp ++ le4 u.keyStamp ++ le4 u.openStamp
    ++ le4 u.closeStamp)

def puStatus (u : Pu) (fill : Half) : List Word :=
  packWords ([nat1 u.cond.code, nat1 u.cause.code, nat1 u.paper.code, bool1 u.coverOpen, nat1 u.credits,
      nat1 u.flight.length, nat1 u.owner.code, nat1 u.receipt.code]
    ++ le2 u.printIndex ++ le2 u.nextUnsent ++ le2 fill ++ le2 u.closeMark ++ le2 u.lineSeq ++ nat2 u.stray)

def linkStatus (l : Link) : List Word :=
  packWords (nat2 l.errors.framing ++ nat2 l.errors.length ++ nat2 l.errors.gap ++ nat2 l.errors.check ++ nat2 l.errors.brk
    ++ nat2 l.errors.overrun ++ nat2 l.errors.kind ++ nat2 l.seqGaps
    ++ [nat1 l.lastError.kind.code, nat1 l.lastError.field.code, nat1 l.lastError.offset, nat1 l.state.code]
    ++ [l.identKind, 0, 0, 0] ++ le4 l.lastError.stamp)

end Sys2Proof.Machine
end

