-- ==== Sys2Proof/Machine/Operands.lean ====
section
/-! DEFINITION. The operand forms: the parameters of a request record (R178), the fields of received frames (R177), and the
setup copy with its validation (R31). -/

namespace Sys2Proof.Machine

/-! ### Request records (R178): `r` is the 16 words of the private copy -/

def recByte (r : List Word) (k : Nat) : Byte := byteOfWord (r.getD (k / 4) 0) (k % 4)
def recHalf (r : List Word) (k : Nat) : Half := recByte r (k + 1) ++ recByte r k
def recWord (r : List Word) (k : Nat) : Word := r.getD (k / 4) 0

def recTag (r : List Word) : Half := recHalf r 0
def recKindByte (r : List Word) : Byte := recByte r 2
def recKind (r : List Word) : Option RequestKind := RequestKind.ofCode (recKindByte r).toNat
/-- Flag bit 0: the optional parameter is present (R23). -/
def recOptional (r : List Word) : Bool := (recByte r 3).getLsbD 0

/-- SALE_OPEN's mode; a value naming no sale mode gives none (R98 check 1). -/
def recMode (r : List Word) : Option SaleMode :=
  if recByte r 4 = 1 then some .staffed else if recByte r 4 = 2 then some .self else none
def recOperator (r : List Word) : Half := recHalf r 6
def recItemCode (r : List Word) : BitVec 64 := recWord r 12 ++ recWord r 8
def recQuantity (r : List Word) : Nat := (recHalf r 16).toNat
def recUnitPrice (r : List Word) : Nat := (recWord r 20).toNat
/-- The expected unit weight, when present. -/
def recUnitWeight (r : List Word) : Option Nat := if recOptional r then some (recWord r 24).toNat else none
def recKiloPrice (r : List Word) : Nat := (recWord r 16).toNat
/-- The capture id, when present. -/
def recCaptureId (r : List Word) : Option Half := if recOptional r then some (recHalf r 20) else none
def recLineNumber (r : List Word) : Nat := (recHalf r 4).toNat
/-- The preset tare, when present. -/
def recTare (r : List Word) : Option Nat := if recOptional r then some (recWord r 4).toNat else none
/-- CARD_TENDER's amount, when present. -/
def recCardAmount (r : List Word) : Option Nat := if recOptional r then some (recWord r 4).toNat else none
def recCashAmount (r : List Word) : Nat := (recWord r 4).toNat
def recTenderIndex (r : List Word) : Nat := (recByte r 4).toNat
def recVerdict (r : List Word) : Option Verdict :=
  if recByte r 5 = 1 then some .approved else if recByte r 5 = 2 then some .declined else none
def recFirstSlot (r : List Word) : Nat := (recHalf r 4).toNat
def recLineCount (r : List Word) : Nat := (recHalf r 6).toNat

/-! ### Fields of received frames (R177): `p` is the payload -/

def payByte (p : List Byte) (k : Nat) : Byte := p.getD k 0
def payHalf (p : List Byte) (k : Nat) : Half := payByte p (k + 1) ++ payByte p k
def payWord (p : List Byte) (k : Nat) : Word := wordOfBytes (payByte p k) (payByte p (k + 1)) (payByte p (k + 2)) (payByte p (k + 3))
def payBytes (p : List Byte) (k n : Nat) : List Byte := ((p.drop k) ++ zeros n).take n

/-- SAMPLE: gross, signed tenths of a gram. -/
def sampleGross (p : List Byte) : Int := (payWord p 0).toInt
def sampleFault (p : List Byte) : Bool := (payByte p 4).getLsbD 0
def sampleOverrange (p : List Byte) : Bool := (payByte p 4).getLsbD 1

/-- MODULE_STATUS; a number naming no value is recorded as FAULT (R176). -/
def moduleOf (p : List Byte) : ModuleStatus :=
  if payByte p 0 = 0 then .none else if payByte p 0 = 1 then .ready else if payByte p 0 = 2 then .busy else .fault

/-- PRINTER_STATUS paper; a number naming no value is OUT (R176). -/
def paperOf (p : List Byte) : Paper :=
  if payByte p 0 = 0 then .ok else if payByte p 0 = 1 then .low else .out
/-- PRINTER_STATUS cover; only 0 is SHUT (R176). -/
def coverOpenOf (p : List Byte) : Bool := payByte p 1 != 0
def creditsOf (p : List Byte) : Nat := (payByte p 2).toNat

/-! ### The setup block (R31, R178) -/

/-- Field `n`, 0 to 32, of the copied words. -/
def setupField (c : List Word) (n : Nat) : Nat := (c.getD n 0).toNat

/-- Label `i` of field 33: 16 bytes at 0x084 + 16 i. -/
def setupLabel (c : List Word) (i : Nat) : List Byte := bytesOfWords ((c.drop (33 + 4 * i)).take 4)

/-- The sum, modulo 65,536, of the 512 halfwords. -/
def setupSum (c : List Word) : Nat :=
  (c.foldl (fun acc w => acc + (w.extractLsb' 0 16).toNat + (w.extractLsb' 16 16).toNat) 0) % 65536

/-- Text bytes, then zero bytes to the end, with at least one text byte. -/
def labelTail : List Byte → Bool
  | [] => true
  | b :: rest => if b = 0 then rest.all (· == 0) else decide (0x20 ≤ b.toNat) && decide (b.toNat ≤ 0x7E) && labelTail rest

def labelOk (l : List Byte) : Bool := labelTail l && (match l with | b :: _ => b != 0 | [] => false)

def inRange (x lo hi : Nat) : Bool := decide (lo ≤ x) && decide (x ≤ hi)

/-- The fields in number order with what each passes on (R31). "14 ÷ 15 no more than 10,000" is judged exactly (log 23). -/
def setupChecks (c : List Word) (lane : Option Half) : List (Nat × Bool) :=
  let f := setupField c
  let div := fun x => x == 1 || x == 2 || x == 5 || x == 10
  [ (0, setupSum c == 0xFFFF),
    (1, f 1 == 1),
    (2, inRange (f 2) 1 999 && (match lane with | none => true | some l => f 2 == l.toNat)),
    (5, decide ((c.getD 4 0 - c.getD 5 0).toNat ≤ 2048)),
    (6, decide (f 6 ≤ 6)), (7, decide (f 7 ≤ 6)), (8, decide (f 8 ≤ 6)), (9, decide (f 9 ≤ 6)),
    (10, inRange (f 10) 100 5000), (11, inRange (f 11) 100 5000), (12, inRange (f 12) 100 5000),
    (13, inRange (f 13) 100 5000),
    (14, inRange (f 14) 1000 30000),
    (15, div (f 15) && decide (f 14 ≤ 10000 * f 15)),
    (16, inRange (f 16) 1 50), (17, inRange (f 17) 4 32), (18, inRange (f 18) 1 200), (19, decide (f 19 ≤ 1)),
    (20, decide (f 20 ≤ f 14)),
    (21, inRange (f 21) 1000 60000), (22, div (f 22)), (23, inRange (f 23) 4 32), (24, inRange (f 24) 1 200),
    (25, inRange (f 25) 1 500), (26, decide (f 26 ≤ 200)), (27, inRange (f 27) 2 60), (28, inRange (f 28) 10 300),
    (29, inRange (f 29) 2 30), (30, inRange (f 30) 50 250),
    (31, inRange (f 31) 200 2000 && decide (f 30 < f 31)),
    (32, inRange (f 32) 5 600),
    (33, (List.range 8).all fun i => labelOk (setupLabel c i)) ]

/-- The first field that fails; at a recommit a failure of field 5 does not count (R35). -/
def setupFailure (c : List Word) (lane : Option Half) (recommit : Bool) : Option Nat :=
  ((setupChecks c lane).find? fun x => !x.2 && !(recommit && x.1 == 5)).map (·.1)

/-- Field 5 passes: the journal indices may be taken from the setup (R35). -/
def setupJournalOk (c : List Word) : Bool := decide ((c.getD 4 0 - c.getD 5 0).toNat ≤ 2048)

/-- The snapshot of a validated copy. -/
def setupOf (c : List Word) : Setup where
  lane := setupField c 2
  saleNumber := c.getD 3 0
  head := c.getD 4 0
  exported := c.getD 5 0
  rates := [setupField c 6, setupField c 7, setupField c 8, setupField c 9]
  silences := [setupField c 10, setupField c 11, setupField c 12, setupField c 13]
  platCapacity := setupField c 14
  platDivision := setupField c 15
  platMinNet := setupField c 16
  platWindow := setupField c 17
  platBand := setupField c 18
  platTracking := setupField c 19 == 1
  platTareLimit := setupField c 20
  bagCapacity := setupField c 21
  bagDivision := setupField c 22
  bagWindow := setupField c 23
  bagBand := setupField c 24
  bagAbsTol := setupField c 25
  bagRelTol := setupField c 26
  bagWait := setupField c 27
  cardWait := setupField c 28
  cancelWait := setupField c 29
  kickWidth := setupField c 30
  kickConfirm := setupField c 31
  drawerLimit := setupField c 32
  labels := (List.range 8).map (setupLabel c)

/-- A snapshot of zeros: what `cfg` reads while there is no snapshot. No event of a unit that uses a parameter comes about
then (R28), so its values are never used. -/
def Setup.zero : Setup where
  lane := 0
  saleNumber := 0
  head := 0
  exported := 0
  rates := []
  silences := []
  platCapacity := 0
  platDivision := 0
  platMinNet := 0
  platWindow := 0
  platBand := 0
  platTracking := false
  platTareLimit := 0
  bagCapacity := 0
  bagDivision := 0
  bagWindow := 0
  bagBand := 0
  bagAbsTol := 0
  bagRelTol := 0
  bagWait := 0
  cardWait := 0
  cancelWait := 0
  kickWidth := 0
  kickConfirm := 0
  drawerLimit := 0
  labels := []

/-- The setup in force. -/
def cfg (s : State) : Setup := s.re.setup.getD Setup.zero

def cfgRate (s : State) (l : LinkId) : Nat := (cfg s).rates.getD (linkNo l) 0
def cfgSilence (s : State) (l : LinkId) : Nat := (cfg s).silences.getD (linkNo l) 0

end Sys2Proof.Machine
end

