-- ==== Sys2Proof/Machine/Ops.lean ====
section
/-! DEFINITION. The shared operations of the memory path: where an address lies in the lane area (R3), the protected spans
(R5-R7), aperture translation (R8), update windows (R16), the memory port arbiter (R18), timers and saturating counts. -/

namespace Sys2Proof.Machine

/-! ### Counts, indexes, timers -/

/-- A counter that stays at 65,535 (R4, R61, R62, R124, R139, R154, R168). -/
def sat (n : Nat) : Nat := if n < 65535 then n + 1 else 65535

/-- "A is ahead of B by n": (A − B) modulo 65,536 (00 "Conventions"). -/
def ahead (a b : Half) : Nat := (a - b).toNat

/-- The same for 32-bit entry numbers. -/
def ahead32 (a b : Word) : Nat := (a - b).toNat

/-- The low 16 bits of a control word, which R10 checks. -/
def lowHalf (w : Word) : Half := w.extractLsb' 0 16

def startTimer (s : State) (limit : Nat) : Option Timer := some { start := s.re.clock, limit := limit }

/-- A running timer whose limit has passed: differences of lane clock values modulo 2^32 (R29). -/
def timerDue (s : State) : Option Timer → Bool
  | some t => decide (t.limit ≤ ahead32 s.re.clock t.start)
  | none => false

/-! ### Where an address lies (R1-R3) -/

/-- The lane area base: LA_SEL × 16 MiB (R2). -/
def laneBase (s : State) : Nat := s.bi.laSel.toNat * 16777216

/-- The lane-area offset of an address inside the lane area. -/
def laneOffset (s : State) (a : Nat) : Option Nat :=
  if laneBase s ≤ a ∧ a < laneBase s + Config.laneBytes then some (a - laneBase s) else none

/-- The section of a lane-area offset; none in a gap (R3). -/
def sectionAt (o : Nat) : Option LaneSection :=
  if o < 0x1000 then some .setupBlock
  else if o < 0x1100 then some .controlWords
  else if o < 0x2000 then none
  else if o < 0x3000 then some .statusPage
  else if o < 0x4000 then none
  else if o < 0x6000 then some .requestQueue
  else if o < 0x8000 then some .eventRing
  else if o < 0xA000 then some .saleRecord
  else if o < 0xC000 then none
  else if o < 0xC400 then some .captureTable
  else if o < 0xC500 then some .cardSession
  else if o < 0xD000 then none
  else if o < 0xD200 then some .pageTable
  else if o < 0xD400 then some .jobTable
  else if o < 0x10000 then none
  else if o < 0x30000 then some .journal
  else if o < 0x40000 then none
  else if o < 0x80000 then some .aperture
  else none

/-- The section an address lies in. -/
def sectionOf (s : State) (a : Nat) : Option LaneSection :=
  match laneOffset s a with
  | some o => sectionAt o
  | none => none

/-! ### Protected spans (R5-R7) -/

/-- The copies' low halves, with the names of the chapters that use them. -/
def producerCopy (s : State) : Half := lowHalf s.bi.reqProducer
def consumerCopy (s : State) : Half := lowHalf s.bi.evtConsumer
def fillCopy (s : State) : Half := lowHalf s.bi.receiptFill

/-- The request slot (0-127) lies in the submitted-request span (R6): the consumer index up to the producer copy. -/
def slotSubmitted (s : State) (slot : Nat) : Bool :=
  decide ((slot + 128 - s.re.consumer.toNat % 128) % 128 < ahead (producerCopy s) s.re.consumer)

/-- A job still holding its slots (R163). -/
def Job.active (j : Job) : Bool := j.state = .queued || j.state = .printing || j.state = .suspended

/-- The aperture slot (0-4095) is protected: an unprinted receipt slot or a slot of an active document job (R5, R7). -/
def slotProtected (s : State) (slot : Nat) : Bool :=
  if slot < 2048 then
    decide ((slot + 2048 - s.pu.printIndex.toNat % 2048) % 2048 < ahead (fillCopy s) s.pu.printIndex)
  else s.pu.jobs.any fun j => j.active && decide (j.first ≤ slot) && decide (slot < j.first + j.count)

/-- Entry `p` of the page table is in use: its page holds a protected slot (R7). -/
def entryInUse (s : State) (p : Nat) : Bool := (List.range 64).any fun i => slotProtected s (p * 64 + i)

def pageEntry (s : State) (p : Nat) : PageEntry := s.bi.pageTable.getD p { frame := 0, valid := 0 }

/-- The 4 KiB frame of an entry: its low 12 bits are ignored (R8). -/
def entryFrame (e : PageEntry) : Nat := e.frame.toNat / 4096 * 4096

/-- The entry maps its page: valid, below 256 MiB, not inside the lane area (R8). -/
def entryMaps (s : State) (e : PageEntry) : Bool :=
  e.valid.getLsbD 0 && decide (entryFrame e < Config.servedBytes)
    && !(decide (laneBase s ≤ entryFrame e) && decide (entryFrame e < laneBase s + Config.laneBytes))

/-- The memory address of an aperture offset (from 0x40000), if its page is mapped (R8). -/
def translate (s : State) (o : Nat) : Option Nat :=
  let e := pageEntry s ((o - 0x40000) / 4096)
  if entryMaps s e then some (entryFrame e + (o - 0x40000) % 4096) else none

/-- A memory address lies in the 64 bytes of a protected slot of some mapped page (R7). -/
def addrProtected (s : State) (a : Nat) : Bool :=
  (List.range 64).any fun p =>
    entryMaps s (pageEntry s p) && decide (entryFrame (pageEntry s p) = a / 4096 * 4096)
      && slotProtected s (p * 64 + a % 4096 / 64)

/-! ### Update windows (R16) -/

def sectionsMeet (a b : List LaneSection) : Bool := a.any fun x => b.contains x

/-- The offset of ring slot `p` (03 "The Event Ring and its indices"). -/
def ringSlot (p : Half) : Nat := Config.ringOff + p.toNat % 256 * 32

/-- The words of a live block, by lane-area offset, as they stand (R4, R62, R78, R123, R150; R44: the completion record with
the clock as it is written, and the word of the new producer index). -/
def liveWords (s : State) : LiveBlock → List (Nat × Word)
  | .bi => wordsAt 0x2000 (biStatus s.bi)
  | .pwu => wordsAt 0x2040 (pwuStatus s.pwu (cfg s).platWindow)
  | .bwu => wordsAt 0x2060 (bwuStatus s.bwu (cfg s).bagWindow (Config.stoppedExpiry s.free))
  | .tu => wordsAt 0x2080 (tuStatus s.tu)
  | .link .platter => wordsAt 0x2100 (linkStatus s.lu.platter)
  | .link .bag => wordsAt 0x2120 (linkStatus s.lu.bag)
  | .link .card => wordsAt 0x2140 (linkStatus s.lu.card)
  | .link .printer => wordsAt 0x2160 (linkStatus s.lu.printer)
  | .captureEntry k => wordsAt (0xC000 + 64 * k) (captureWords (s.pwu.table.getD k Capture.free))
  | .captureFree k => wordsAt (0xC000 + 64 * k) (packWords (captureHead (s.pwu.table.getD k Capture.free)))
  | .completion c =>
      wordsAt (ringSlot s.nu.producer) (completionWords s.nu.producer s.re.clock c)
        ++ [(0x2020, (s.nu.producer + 1).setWidth 32)]

/-- How many words a live block writes. -/
def liveSize : LiveBlock → Nat
  | .bi => 2 | .pwu => 6 | .bwu => 7 | .tu => 7 | .link _ => 7
  | .captureEntry _ => 16 | .captureFree _ => 1 | .completion _ => 9

def unionOf {α : Type} [DecidableEq α] (a b : List α) : List α := a ++ b.filter fun x => !a.contains x

/-- A waiting request of the same owner that takes all its values at its opening, into which a further write of that owner
can be gathered (R4, R62, R78, R123, R150: the write that follows carries the values as they stand; log 4). Only the BI, the
LU, the PWU, the BWU and the TU ask for such windows. The links' writes are kept apart, and a window keeps within 48
words. -/
def gathers (owner : BlockId) (live : List LiveBlock) (w : WindowAsk) : Bool :=
  decide (w.owner = owner) && w.fixed.isEmpty && !w.live.isEmpty
    && (decide (owner ≠ .lu) || decide (w.live = live))
    && decide (sumNat ((unionOf w.live live).map liveSize) ≤ 48)

/-- Gather into the first waiting request that can take it. -/
def gatherInto (owner : BlockId) (sections : List LaneSection) (live : List LiveBlock) (after : List After)
    (ofRequest : Bool) : List WindowAsk → List WindowAsk
  | [] => []
  | w :: rest =>
      if gathers owner live w then
        { w with sections := unionOf w.sections sections, live := unionOf w.live live, after := w.after ++ after,
                 ofRequest := w.ofRequest || ofRequest } :: rest
      else w :: gatherInto owner sections live after ofRequest rest

/-- Ask for a window at the end of the waiting list. -/
def askWindow (s : State) (owner : BlockId) (sections : List LaneSection) (fixed : List (Nat × Word))
    (live : List LiveBlock) (after : List After) (ofRequest : Bool) : State :=
  s.setBi { s.bi with
    waiting := s.bi.waiting ++ [{ id := s.bi.nextWindow, group := s.bi.nextGroup, owner := owner, sections := sections,
                                  fixed := fixed, live := live, after := after, ofRequest := ofRequest }]
    nextWindow := s.bi.nextWindow + 1
    nextGroup := s.bi.nextGroup + 1 }

/-- Ask for a window whose words are decided now. -/
def askFixed (s : State) (owner : BlockId) (sections : List LaneSection) (fixed : List (Nat × Word)) (after : List After)
    (ofRequest : Bool) : State :=
  askWindow s owner sections fixed [] after ofRequest

/-- Ask for a window whose words are taken at its opening, gathered with a waiting one of the owner. -/
def askLiveAfter (s : State) (owner : BlockId) (sections : List LaneSection) (live : List LiveBlock)
    (after : List After) (ofRequest : Bool) : State :=
  if s.bi.waiting.any (gathers owner live) then
    s.setBi { s.bi with waiting := gatherInto owner sections live after ofRequest s.bi.waiting }
  else askWindow s owner sections [] live after ofRequest

def askLive (s : State) (owner : BlockId) (sections : List LaneSection) (live : List LiveBlock) (ofRequest : Bool) : State :=
  askLiveAfter s owner sections live [] ofRequest

/-- A window whose values are taken now. -/
def WindowAsk.freeze (s : State) (w : WindowAsk) : WindowAsk :=
  { w with fixed := w.fixed ++ (w.live.map (liveWords s)).flatten, live := [] }

/-- The waiting windows of a unit keep the values of state `old`. -/
def freezeWaiting (old s : State) (owner : BlockId) : State :=
  s.setBi { s.bi with waiting := s.bi.waiting.map fun w => if w.owner = owner then w.freeze old else w }

/-- The PWU's window (R78): where the write cannot join the waiting one within 48 words, that one keeps the values of `old`,
the state before the event, so that no window shows the Status Page apart from the table (log 4). -/
def askPwuLive (old s : State) (sections : List LaneSection) (live : List LiveBlock) (after : List After)
    (ofRequest : Bool) : State :=
  askLiveAfter (if s.bi.waiting.any (gathers .pwu live) then s else freezeWaiting old s .pwu) .pwu sections live after
    ofRequest

/-- The asks made since window number `start` count as asked at the same time (R16, R32, R38; log 5). -/
def tieAsks (s : State) (start : Nat) : State :=
  s.setBi { s.bi with
    waiting := s.bi.waiting.map fun w => if start ≤ w.id then { w with group := s.bi.nextGroup } else w
    nextGroup := s.bi.nextGroup + 1 }

/-- Status Page writes of the owners. -/
def askBiStatus (s : State) : State := askLive s .bi [.statusPage] [.bi] false
def askBwuStatus (s : State) (ofRequest : Bool) : State := askLive s .bwu [.statusPage] [.bwu] ofRequest
def askTuStatus (s : State) (ofRequest : Bool) : State := askLive s .tu [.statusPage] [.tu] ofRequest
def askLinkStatus (s : State) (l : LinkId) (ofRequest : Bool) : State := askLive s .lu [.statusPage] [.link l] ofRequest

/-- The JU's event in hand still owes its window and the head's advance (R167). -/
def headOwed (s : State) : Bool :=
  s.bi.waiting.any (fun w => w.after.contains .headAdvance) || s.bi.opened.any fun o => o.after.contains .headAdvance

/-- The head the JU publishes: an entry whose window was asked before stands in memory when a later window opens (R167). -/
def publishedHead (s : State) : Word := if headOwed s then s.ju.head + 1 else s.ju.head

/-- The JU's window for its head and export copy (R167). -/
def askJuStatus (s : State) (ofRequest : Bool) : State :=
  askFixed s .ju [.statusPage] [(0x2024, publishedHead s), (0x2028, s.bi.journalExport)] [] ofRequest

/-- The job entries an event writes: those whose state or acknowledged count it changes (R163). -/
def changedJobs (old new : Pu) : List Nat :=
  (List.range 8).filter fun k =>
    decide ((old.jobs.getD k Job.free).state ≠ (new.jobs.getD k Job.free).state)
      || decide ((old.jobs.getD k Job.free).acked ≠ (new.jobs.getD k Job.free).acked)

def jobEntryWords (u : Pu) (k : Nat) : List (Nat × Word) := wordsAt (0xD200 + 64 * k) (jobWords (u.jobs.getD k Job.free))

/-- The PU's window of an event, with the values the event leaves (R16, R163, R165): its Status Page fields, and the job
entries the event changes. `old` is the PU before the event. A Status Page write is asked at every event, also at one that
changes no field of R165's list (log 43). -/
def askPu (old : Pu) (s : State) (ofRequest : Bool) : State :=
  askFixed s .pu (if (changedJobs old s.pu).isEmpty then [.statusPage] else [.statusPage, .jobTable])
    (wordsAt 0x20A0 (puStatus s.pu (fillCopy s)) ++ ((changedJobs old s.pu).map (jobEntryWords s.pu)).flatten) [] ofRequest

/-- The RE's Status Page fields, as they stand at the ask. -/
def askReStatus (s : State) (ofRequest : Bool) : State :=
  askFixed s .re [.statusPage] (wordsAt 0x2010 (reStatus s.re)) [] ofRequest
/-- The consumer index field's word alone (R20). -/
def askReConsumer (s : State) : State :=
  askFixed s .re [.statusPage] (wordsAt 0x2014 ((reStatus s.re).drop 1)) [] false

/-- The Card Session Record (R124), as it stands at the ask. -/
def askCardSession (s : State) (ofRequest : Bool) : State :=
  (askFixed s .ctu [.cardSession] (wordsAt 0xC400 (cardSessionWords s.ctu (Config.noTenderView s.free))) [] ofRequest).setFree
    (s.free + 1)

/-- The next run of at most `n` consecutive word addresses after `a`, and what is left. -/
def takeRun : Nat → Nat → List (Nat × Word) → List (Nat × Word) × List (Nat × Word)
  | _, _, [] => ([], [])
  | 0, _, rest => ([], rest)
  | n + 1, a, (b, w) :: rest =>
      if b = a + 4 then ((b, w) :: (takeRun n b rest).1, (takeRun n b rest).2) else ([], (b, w) :: rest)

/-- Words cut into accesses of 1 to 8 consecutive words (R18); the first argument bounds the number of accesses. -/
def cutRuns : Nat → List (Nat × Word) → List (List (Nat × Word))
  | 0, _ => []
  | _, [] => []
  | n + 1, (a, w) :: rest => ((a, w) :: (takeRun 7 a rest).1) :: cutRuns n (takeRun 7 a rest).2

/-- The words a window will write, by memory address: those decided at the ask, then the live ones. -/
def windowWords (s : State) (w : WindowAsk) : List (Nat × Word) :=
  (w.fixed ++ (w.live.map (liveWords s)).flatten).map fun x => (laneBase s + x.1, x.2)

/-- The engine accesses of a window just opened. -/
def windowAccesses (s : State) (w : WindowAsk) : List EngineAccess :=
  (cutRuns (windowWords s w).length (windowWords s w)).map (EngineAccess.write w.id)

def EngineAccess.ofWindow (id : Nat) : EngineAccess → Bool
  | .write w _ => decide (w = id)
  | _ => false

/-- Every write of an open window has reached memory. -/
def windowWritten (s : State) (id : Nat) : Bool := !(s.bi.engine.any fun a => a.ofWindow id)

/-- The words of a read burst. -/
def burstAddrs : Nat → Nat → List Nat
  | _, 0 => []
  | a, n + 1 => a :: burstAddrs (a + 4) n

/-- A read burst touches one of the sections. -/
def burstTouches (s : State) (addr len : Nat) (sections : List LaneSection) : Bool :=
  (burstAddrs addr len).any fun a =>
    match sectionOf s a with
    | some x => sections.contains x
    | none => false

/-- A read burst touches a section with an open window (R17). -/
def windowHeld (s : State) (addr len : Nat) : Bool := s.bi.opened.any fun w => burstTouches s addr len w.sections

/-- The BI's Status Page write after a burst with refused words still waits for its window (R4). -/
def statusOwed (s : State) : Bool := s.bi.waiting.any fun w => decide (w.owner = .bi)

/-- A read burst is held: by an open window on a section it touches (R17), or, where it touches the Status Page, by the BI's write of
R4, which holds it until that window has closed. -/
def burstHeld (s : State) (addr len : Nat) : Bool :=
  windowHeld s addr len || (statusOwed s && burstTouches s addr len [.statusPage])

/-- A host read burst that touches the sections is being served (R16). -/
def servingTouches (s : State) (sections : List LaneSection) : Bool :=
  match s.bi.hostStall with
  | some (.readServing a n) => burstTouches s a n sections
  | _ => false

/-- Request `i` of the waiting list can be opened (R16): no open window and no served burst on its sections, and no request
asked earlier waits on one of them. -/
def canOpen (s : State) (w : WindowAsk) : Bool :=
  !(s.bi.opened.any fun o => sectionsMeet o.sections w.sections)
    && !(servingTouches s w.sections)
    && !(s.bi.waiting.any fun x => decide (x.group < w.group) && sectionsMeet x.sections w.sections)

/-- The BI opens a window: its values are taken, and all its writes go to the engine queue at once (log 48). -/
def openWindow (s : State) (w : WindowAsk) : State :=
  (s.setBi { s.bi with
    waiting := s.bi.waiting.filter fun x => x.id != w.id
    opened := s.bi.opened ++ [{ id := w.id, owner := w.owner, sections := w.sections, after := w.after,
                                ofRequest := w.ofRequest }]
    engine := s.bi.engine ++ windowAccesses s w }).setFree (s.free + 1)

/-! ### The memory port arbiter (R18) -/

/-- 8 consecutive host bursts were granted while an engine access waits: the next grant is the engine's. -/
def engineOwed (s : State) : Bool := !s.bi.engine.isEmpty && decide (8 ≤ s.bi.waitCount)

/-- A host burst is granted: it counts while an engine access waits. -/
def hostGrant (s : State) : State :=
  s.setBi { s.bi with waitCount := if s.bi.engine.isEmpty then 0 else s.bi.waitCount + 1 }

/-- One word read by the host (R1, R3, R9): outside the served memory and in an unmapped aperture page it is 0. -/
def hostReadWord (s : State) (a : Nat) : Word :=
  if Config.servedBytes ≤ a then 0
  else match sectionOf s a with
    | some .aperture =>
        match translate s (a - laneBase s) with
        | some m => Memory.readWord s.mem m
        | none => 0
    | _ => Memory.readWord s.mem a

/-- A read word that needs the memory port (R18). -/
def readNeedsPort (s : State) (a : Nat) : Bool :=
  if Config.servedBytes ≤ a then false
  else match sectionOf s a with
    | some .aperture => (translate s (a - laneBase s)).isSome
    | _ => true

/-- A read burst that has passed the check of R17 is presented and, unless the port is owed to the engine, served. -/
def serveRead (s : State) (addr len : Nat) : State :=
  let needs := (burstAddrs addr len).any (readNeedsPort s)
  if needs && engineOwed s then s.setBi { s.bi with hostStall := some (.readServing addr len) }
  else
    let t := s.setBi { s.bi with hostStall := none, readData := (burstAddrs addr len).map (hostReadWord s) }
    if needs then hostGrant t else t

/-- A held burst is released once nothing holds it (R4, R17). -/
def releaseHeld (s : State) : State :=
  match s.bi.hostStall with
  | some (.readHeld a n) => if burstHeld s a n then s else serveRead s a n
  | _ => s

/-- Entry `p` of the Print Page Table as an engine access reads it from memory. -/
def fetchEntry (s : State) (p : Nat) : PageEntry where
  frame := Memory.readWord s.mem (laneBase s + Config.pageTableOff + 8 * p)
  valid := Memory.readWord s.mem (laneBase s + Config.pageTableOff + 8 * p + 4)

/-- The page table entry of the fetch in hand has been read: the slot's first 13 words are asked for as two accesses, both at
once (log 48), or the slot is taken as attribute 0 and length 0 (R152). -/
def entryFetched (s : State) (f : SlotFetch) (e : PageEntry) : State :=
  if !f.wanted then s.setPu { s.pu with fetch := none }
  else if entryMaps s e then
    (s.setPu { s.pu with fetch := some { f with left := 2 } }).setBi
      { s.bi with
        engine := s.bi.engine
          ++ [.slot (entryFrame e + f.slot % 64 * 64) 8, .slot (entryFrame e + f.slot % 64 * 64 + 32) 5] }
  else s.setPu { s.pu with fetch := some { f with left := 0, words := [0] } }

/-- Words of the slot have been read. A fetch the PU has given up ends with its last access. -/
def slotFetched (s : State) (f : SlotFetch) (ws : List Word) : State :=
  s.setPu { s.pu with
    fetch := if f.left ≤ 1 && !f.wanted then none else some { f with left := f.left - 1, words := f.words ++ ws } }

/-- The journal indices of a SETUP_COMMIT are taken: the JU's head, and the BI's copy of JOURNAL_EXPORT with its memory word; the
JU's Status Page write follows (R15, R35). -/
def installJournal (s : State) (head exported : Word) : State :=
  askJuStatus
    (((s.setJu { s.ju with head := head }).setBi { s.bi with journalExport := exported }).setMem
      (Memory.writeWord s.mem (laneBase s + 0x1008) allBytes exported))
    true

/-- The words an engine access moves. -/
def engineAccess (s : State) : EngineAccess → State
  | .fetch half =>
      s.setRe { s.re with
        fetched := s.re.fetched
          ++ Memory.readWords s.mem (laneBase s + Config.queueOff + s.re.consumer.toNat % 128 * 64 + 32 * half) 8 }
  | .setup k =>
      s.setRe { s.re with setupRead := s.re.setupRead ++ Memory.readWords s.mem (laneBase s + 32 * k) 8 }
  | .pageEntry p =>
      match s.pu.fetch with
      | some f => entryFetched s f (fetchEntry s p)
      | none => s
  | .slot a n =>
      match s.pu.fetch with
      | some f => slotFetched s f (Memory.readWords s.mem a n)
      | none => s
  | .write _ words => s.setMem (Memory.writeWords s.mem words)
  | .journalWrite head exported => installJournal s head exported

/-- The oldest engine access is granted; the waiting count returns to 0. -/
def engineGrant (s : State) : State :=
  match s.bi.engine with
  | [] => s
  | a :: rest => engineAccess (s.setBi { s.bi with engine := rest, waitCount := 0 }) a

/-! ### Links: access by number -/

def Lu.get (u : Lu) : LinkId → Link
  | .platter => u.platter | .bag => u.bag | .card => u.card | .printer => u.printer

def Lu.set (u : Lu) (l : LinkId) (x : Link) : Lu :=
  match l with
  | .platter => { u with platter := x }
  | .bag => { u with bag := x }
  | .card => { u with card := x }
  | .printer => { u with printer := x }

def State.link (s : State) (l : LinkId) : Link := s.lu.get l
def State.setLink (s : State) (l : LinkId) (x : Link) : State := s.setLu (s.lu.set l x)

/-! ### Requests: whose they are and whether a unit is held by one (R23, R24) -/

/-- The owner of a request kind (R23's table). -/
def RequestKind.owner : RequestKind → BlockId
  | .setupCommit => .re | .laneReset => .re
  | .saleOpen => .su | .itemAdd => .su | .itemWeigh => .su | .lineVoid => .su | .saleClose => .su | .saleAbort => .su
  | .scaleZero => .pwu | .scaleTare => .pwu | .tareClear => .pwu
  | .holdRelease => .bwu
  | .cardTender => .ctu | .cardCancel => .ctu | .tenderVerdict => .ctu
  | .cashTender => .tu | .drawerNosale => .tu
  | .printSubmit => .pu | .receiptAbandon => .pu


/-- A LANE_RESET whose completion is in the ring is not yet applied on every unit: the RE asks for no reservation (R52). -/
def State.resetOwed (s : State) : Bool := s.re.resetDue || !s.re.resetting.isEmpty

/-- The unit takes no event of its own: it is in the middle of a request, which it has taken and whose windows have not all
closed (R24); or a reset is being applied and has not reached every unit (log 16). -/
def unitBusy (s : State) (b : BlockId) : Bool :=
  (decide (s.re.phase = .executing) && s.re.outcome.isSome
    && decide ((recKind s.re.record).map RequestKind.owner = some b))
    || !s.re.resetting.isEmpty

/-! ### The events that wait at a unit, in the order they arrived (R24; log 44) -/

/-- The units that own requests and are reached by events of several kinds. The SU's events stand in its one list (R91). -/
def hearsMany : BlockId → Bool
  | .pwu => true
  | .bwu => true
  | .ctu => true
  | .tu => true
  | .pu => true
  | _ => false

/-- The unit that takes a link's ordered path (R63). -/
def linkOwner : LinkId → BlockId
  | .platter => .pwu
  | .bag => .bwu
  | .card => .ctu
  | .printer => .pu

def UnitTimer.all : List UnitTimer :=
  [.zeroTrack, .bagWait, .cardWait, .cancelWait, .kickWidth, .kickConfirm, .drawerLimit]

def UnitTimer.owner : UnitTimer → BlockId
  | .zeroTrack => .pwu
  | .bagWait => .bwu
  | .cardWait => .ctu
  | .cancelWait => .ctu
  | .kickWidth => .tu
  | .kickConfirm => .tu
  | .drawerLimit => .tu

/-- The timer as it runs. -/
def UnitTimer.of (s : State) : UnitTimer → Option Timer
  | .zeroTrack => s.pwu.zeroTimer
  | .bagWait => s.bwu.waitTimer
  | .cardWait => s.ctu.cardWait
  | .cancelWait => s.ctu.cancelWait
  | .kickWidth => s.tu.width
  | .kickConfirm => if s.tu.drawer = .kicking then s.tu.confirm else none
  | .drawerLimit => if s.tu.drawer = .opened then s.tu.limitTimer else none

/-- How many items of its link's path wait at a unit. -/
def pathWaits (s : State) : BlockId → Nat
  | .pwu => (s.link .platter).path.length
  | .bwu => (s.link .bag).path.length
  | .ctu => (s.link .card).path.length
  | .pu => (s.link .printer).path.length
  | _ => 0

/-- How many events of a kind wait at a unit. -/
def waitsAt (s : State) (b : BlockId) : UnitEvent → Nat
  | .link => pathWaits s b
  | .edge => s.tu.edges.length
  | .tell => if b = .bwu then s.bwu.tells.length else s.pu.tells.length
  | .ask => match s.nu.writer with
    | .asking _ _ _ _ waiting _ => if waiting.contains b then 1 else 0
    | _ => 0
  | .sent => if b = .ctu then s.ctu.notices else s.pu.notices
  | .timer t => if timerDue s (t.of s) then 1 else 0

/-- The arrivals whose events still wait: of one kind at one unit the latest ones, as many as wait. -/
def liveArrivals (s : State) : List Arrival → List Arrival
  | [] => []
  | a :: rest =>
      if rest.countP (fun x => decide (x.unit = a.unit) && decide (x.event = a.event)) < waitsAt s a.unit a.event then
        a :: liveArrivals s rest
      else liveArrivals s rest

/-- An arrival that waits at a unit in the middle of a request has been held by it. -/
def Arrival.waits (s : State) (a : Arrival) : Arrival := if unitBusy s a.unit then { a with held := true } else a

/-- Events reach units, while the arrivals `old` still wait. It is done before the events stand where they wait. -/
def arriveAfter (s : State) (old : List Arrival) (es : List (BlockId × UnitEvent)) : State :=
  s.setArrivals
    ((old ++ (es.filter fun e => hearsMany e.1).map fun e => ({ unit := e.1, event := e.2, held := false } : Arrival)).map
      (Arrival.waits s))

def arriveAll (s : State) (es : List (BlockId × UnitEvent)) : State := arriveAfter s (liveArrivals s s.arrivals) es

def arrive (s : State) (b : BlockId) (e : UnitEvent) : State := arriveAll s [(b, e)]

/-- The unit takes an event of this kind: it is not in the middle of a request, and no event that was held by a request and
arrived before it still waits (R24). -/
def unitTakes (s : State) (b : BlockId) (e : UnitEvent) : Bool :=
  !unitBusy s b
    && (((liveArrivals s s.arrivals).filter fun a => decide (a.unit = b)).takeWhile fun a => decide (a.event ≠ e)).all
        fun a => !a.held

/-- An event that was held by an earlier request still waits at the unit. -/
def unitHolds (s : State) (b : BlockId) : Bool :=
  hearsMany b && (liveArrivals s s.arrivals).any fun a => decide (a.unit = b) && a.held

/-- Items leave a path other than from its front: the arrivals of those whose flag is clear. -/
def dropPathArrivals (b : BlockId) : List Bool → List Arrival → List Arrival
  | _, [] => []
  | flags, a :: rest =>
      if a.unit = b ∧ a.event = .link then
        (match flags with
          | [] => a :: dropPathArrivals b [] rest
          | true :: more => a :: dropPathArrivals b more rest
          | false :: more => dropPathArrivals b more rest)
      else a :: dropPathArrivals b flags rest

/-- The arrivals that are left when the items of a path stay whose flags are set. -/
def keptArrivals (s : State) (l : LinkId) (kept : List Bool) : List Arrival :=
  dropPathArrivals (linkOwner l) kept (liveArrivals s s.arrivals)

def forgetPath (s : State) (l : LinkId) (kept : List Bool) : State := s.setArrivals (keptArrivals s l kept)

/-- An item leaves a path and another joins it at its end. -/
def arriveAgain (s : State) (l : LinkId) (kept : List Bool) : State :=
  arriveAfter s (keptArrivals s l kept) [(linkOwner l, .link)]

/-- The request in hand is of this kind, its owner has not yet taken it, and the events an earlier request held there, which
arrived before it, have been taken (R24). -/
def awaits (s : State) (k : RequestKind) : Bool :=
  decide (s.re.phase = .executing) && s.re.outcome.isNone && decide (recKind s.re.record = some k) && !unitHolds s k.owner

/-- The SU is between events: it is not in the middle of a request, none of its events waits for a window, and no ITEM_WEIGH of
its waits for the PWU's answer (R24, R91, R103). -/
def saleBetween (s : State) : Bool := !unitBusy s .su && s.su.event.isNone && s.su.claim.isNone

/-- The SU can take an ask at once: it is between events and nothing waits before the ask (R24, R91, R108). -/
def saleReady (s : State) : Bool := saleBetween s && s.su.inbox.isEmpty

/-- The SU answers an ask of the BWU: it is between events, and nothing but a request waits (R91, R108). A request that waits may have
reached the SU with the ask, and two that come together are taken in either order (log 47). -/
def saleAnswers (s : State) : Bool := saleBetween s && s.su.inbox.all fun x => decide (x = .request)

def SaleItem.ofRequest : SaleItem → Bool
  | .request => false
  | .settlement _ _ => false
  | .holdSet _ => false
  | .holdClear _ _ _ => false
  | .tender _ q => q
  | .receiptEnded _ q => q
  | .payloadAsk => false
  | .fillAsk => false

/-- The BI's write of a SETUP_COMMIT's journal export, which belongs to the request (R15). -/
def EngineAccess.ofRequest : EngineAccess → Bool
  | .journalWrite _ _ => true
  | _ => false

/-- A window, a write or a claim of the request in execution is still to end (R24). -/
def requestPending (s : State) : Bool :=
  s.bi.waiting.any (fun w => w.ofRequest) || s.bi.opened.any (fun w => w.ofRequest)
    || s.bi.engine.any EngineAccess.ofRequest
    || s.su.inbox.any SaleItem.ofRequest
    || (match s.su.event with | some e => e.ofRequest | none => false)

end Sys2Proof.Machine
end

