-- ==== Sys2Proof/Machine/Flags.lean ====
section
/-! DEFINITION. The Notice Unit's flags: the condition latches and their raising (R46), the taking of a latch (R47), the
completion slots (R42, R43), the attention line (R50); and the end of a request's execution (R24, R25). -/

namespace Sys2Proof.Machine

/-! ### The ring and the latches -/

/-- Records written and not yet consumed (R41). -/
def unconsumed (s : State) : Nat := ahead s.nu.producer (consumerCopy s)

/-- A condition record already begun holds one slot (R43, second case; log 17). -/
def conditionBegun : Writer → Nat
  | .free => 0
  | .completion => 0
  | .asking _ _ _ _ _ _ => 1
  | .condition => 1

/-- 256 minus the unconsumed records (R41). -/
def freeSlots (s : State) : Nat := 256 - unconsumed s

/-- The latch of a kind and source, numbered in priority order: LINK_CHANGE has four (R46). -/
def latchIndex (k : CondKind) (source : Nat) : Nat :=
  match k with
  | .drawerForced => 0
  | .drawerFault => 1
  | .linkChange => 2 + source
  | _ => k.code + 2

/-- The kind of latch `i`. -/
def latchKind : Nat → CondKind
  | 0 => .drawerForced | 1 => .drawerFault | 2 => .linkChange | 3 => .linkChange | 4 => .linkChange | 5 => .linkChange
  | 6 => .bagHoldSet | 7 => .bagHoldClear | 8 => .tenderOutcome | 9 => .tenderConflict | 10 => .saleFinished
  | 11 => .printStopped | 12 => .printResumed | 13 => .documentDone | 14 => .captureReady | 15 => .captureStale
  | 16 => .drawerOpened | 17 => .drawerShut | 18 => .drawerLong | 19 => .cardChange | 20 => .paperLow | 21 => .scaleLimit
  | 22 => .writeRefused | _ => .apertureFault

/-- Mask bit: one less than the kind's number (R46's table); a set bit masks the kind (R49). -/
def kindMasked (s : State) (k : CondKind) : Bool := s.bi.noticeMask.getLsbD (k.code - 1)

def latchAt (s : State) (i : Nat) : Latch := s.nu.latches.getD i Latch.clear

def latchEligible (s : State) (i : Nat) : Bool := (latchAt s i).pending && !kindMasked s (latchKind i)

/-- The pending unmasked latch of highest priority. -/
def firstEligible (s : State) : Option Nat := (List.range 24).find? (latchEligible s)

/-- The units whose payload fields a kind carries (R47). -/
def askedUnits : CondKind → List BlockId
  | .drawerForced => [.tu] | .drawerFault => [.tu] | .drawerOpened => [.tu] | .drawerShut => [.tu] | .drawerLong => [.tu]
  | .linkChange => [.lu]
  | .bagHoldSet => [.bwu] | .bagHoldClear => [.bwu]
  | .tenderOutcome => [.ctu] | .tenderConflict => [.ctu] | .cardChange => [.ctu]
  | .saleFinished => [.su]
  | .printStopped => [.pu] | .printResumed => [.pu] | .documentDone => [.pu] | .paperLow => [.pu]
  | .captureReady => [.pwu] | .captureStale => [.pwu]
  | .scaleLimit => [.pwu, .bwu]
  | .writeRefused => [.bi] | .apertureFault => [.bi]

/-- An ask for a payload that reaches the SU waits in its list with the requests and claims (R91). -/
def askSalePayload (s : State) (k : CondKind) : State :=
  if k = .saleFinished then s.setSu { s.su with inbox := s.su.inbox ++ [.payloadAsk] } else s

/-- The Notice Unit takes latch `i`: it copies it, clears it and asks for the payload (R47). The ask reaches the units. -/
def takeLatch (s : State) (i : Nat) : State :=
  let l := latchAt s i
  askSalePayload
    ((arriveAll s ((askedUnits (latchKind i)).map fun b => (b, .ask))).setNu { s.nu with
      latches := s.nu.latches.set i { l with pending := false, count := 0 }
      writer := .asking (latchKind i) l.count l.stamp l.source (askedUnits (latchKind i)) (zeros 16) })
    (latchKind i)

/-- The window of a condition record: the record and the word of the new producer index (R41, R47). -/
def askRecord (s : State) (words : List Word) : State :=
  askFixed s .nu [.eventRing, .statusPage]
    (wordsAt (ringSlot s.nu.producer) words ++ [(0x2020, (s.nu.producer + 1).setWidth 32)]) [] false

/-- The writing of a completion begins: its window is asked, and its stamp is the clock when the window opens and the record
is written (R25, R44, R45). -/
def beginCompletion (s : State) (c : Completion) : State :=
  askWindow (s.setNu { s.nu with writer := .completion, owed := none }) .nu [.eventRing, .statusPage] [] [.completion c] []
    false

/-- The Notice Unit looks again (R44, R46): an owed completion first, then the first eligible latch while the free slots are
more than the reservations. -/
def look (s : State) : State :=
  match s.nu.writer with
  | .free =>
      match s.nu.owed with
      | some c => beginCompletion s c
      | none =>
          match firstEligible s with
          | some i => if s.nu.reserved < freeSlots s then takeLatch s i else s
          | none => s
  | _ => s

/-- What a raise does to its latch (R46). -/
def Latch.raised (l : Latch) (clock : Word) (source : Nat) : Latch :=
  if l.pending then { l with count := if l.count < 255 then l.count + 1 else 255, source := source }
  else { pending := true, count := 1, stamp := clock, source := source }

/-- A unit raises a condition: the latch records it, and the Notice Unit looks (R46). -/
def raise (s : State) (k : CondKind) (source : Nat) : State :=
  let i := latchIndex k source
  look (s.setNu { s.nu with latches := s.nu.latches.set i ((latchAt s i).raised s.re.clock source) })

/-! ### LANE_ATTN (R50) -/

def updateAttn (s : State) : State := s.setNu { s.nu with attn := s.nu.producer != consumerCopy s }

/-! ### Reservations (R21, R42, R43) -/

/-- A granted reservation: the RE enters FETCHING and its two accesses wait at the port (R21, R22), both asked for at once (log
48). -/
def grantReservation (s : State) : State :=
  ((s.setNu { s.nu with reserved := 1 }).setRe { s.re with phase := .fetching, fetched := [] }).setBi
    { s.bi with engine := s.bi.engine ++ [.fetch 0, .fetch 1] }

/-- The ask finds room (R43). -/
def reservationFits (s : State) : Bool :=
  decide (unconsumed s + s.nu.reserved + conditionBegun s.nu.writer < 256)

/-- The RE, between requests, asks for a reservation if a request is submitted (R21, R25). -/
def nextRequest (s : State) : State :=
  if producerCopy s = s.re.consumer then s.setRe { s.re with phase := .idle }
  else if reservationFits s then grantReservation s
  else s.setRe { s.re with phase := .stalled }

/-- A consumer advance (R42): the outstanding reservation, the pending conditions, the line. -/
def consumerAdvance (s : State) : State :=
  updateAttn (look (if s.re.phase = .stalled then grantReservation s else s))

/-! ### The end of an execution (R24, R25) -/

/-- The RE passes the completion to the Notice Unit. -/
def passCompletion (s : State) (o : ReqOutcome) : State :=
  look ((s.setRe { s.re with phase := .completing }).setNu
    { s.nu with owed := some { tag := recTag s.re.record, kind := recKindByte s.re.record, outcome := o } })

/-- Once the result is reported and every window and claim of the request has closed, the RE writes its Status Page fields
where they are due, and then passes the completion (R24, R32 steps 4 and 5). -/
def requestProgress (s : State) : State :=
  match s.re.outcome with
  | none => s
  | some o =>
      if s.re.phase != .executing || requestPending s then s
      else if s.re.statusDue then askReStatus (s.setRe { s.re with statusDue := false }) true
      else passCompletion s o

/-- The owner reports the result and the two detail words. -/
def finishRequest (s : State) (r : ResultCode) (d1 d2 : Word) : State :=
  requestProgress (s.setRe { s.re with outcome := some { result := r, detail1 := d1, detail2 := d2 } })

/-- A result other than DONE with both details 0 (R27). -/
def failRequest (s : State) (r : ResultCode) : State := finishRequest s r 0 0

end Sys2Proof.Machine
end

