-- ==== Sys2Proof/Machine/LinkOps.lean ====
section
/-! DEFINITION. The shared operations of the Link Unit: errors and their record (R62), the transmitter (R64), the changes of
link state (R65-R70), delivery (R63), acceptance (R61) and the receiver's scan of held bytes (R58, R59). -/

namespace Sys2Proof.Machine

/-- A step that happens when it is enabled while RESET_N is high, and else changes nothing (log 2). -/
def stepIf (s : State) (enabled : Bool) (t : State) : Host.Outcome State Fault Refusal :=
  .next (if !s.bi.inReset && enabled then t else s)

/-! ### Errors (R62) -/

def ErrorCounters.add (e : ErrorCounters) : ErrorKind → ErrorCounters
  | .none => e
  | .framing => { e with framing := sat e.framing }
  | .length => { e with length := sat e.length }
  | .gap => { e with gap := sat e.gap }
  | .check => { e with check := sat e.check }
  | .brk => { e with brk := sat e.brk }
  | .overrun => { e with overrun := sat e.overrun }
  | .kind => { e with kind := sat e.kind }

def ErrorCounters.sum (e : ErrorCounters) : Nat :=
  e.framing + e.length + e.gap + e.check + e.brk + e.overrun + e.kind

/-- The receiver state and the byte offset at which the byte after `bs` would stand (R58, R62). -/
def rxPlace (bs : List Byte) : RxField × Nat :=
  if bs.length = 0 then (.hunt, 0)
  else if bs.length = 1 then (.length, 0)
  else if bs.length = 2 then (.header, 0)
  else if bs.length = 3 then (.header, 1)
  else if bs.length < 4 + (bs.getD 1 0).toNat then (.payload, bs.length - 4)
  else (.check, 0)

/-- The receiver state of a link. -/
def Link.place (l : Link) : RxField × Nat := rxPlace (l.attempt.getD [])

/-- One error is counted and becomes the last-error record; the Status Page write follows (R62). -/
def linkError (s : State) (l : LinkId) (kind : ErrorKind) (place : RxField × Nat) : State :=
  let x := s.link l
  askLinkStatus
    (s.setLink l { x with
      errors := x.errors.add kind
      lastError := { kind := kind, field := place.1, offset := place.2, stamp := s.re.clock } })
    l false

/-! ### The transmitter (R64) -/

def TxFrame.sending (f : TxFrame) : Bool := f.seq.isSome

/-- The oldest frame starts, with the part's SEQ. -/
def Link.startTx (x : Link) : Link :=
  match x.tx with
  | [] => x
  | f :: rest =>
      match f.seq with
      | some _ => x
      | none => { x with tx := { f with seq := some x.txSeq } :: rest, txSeq := x.txSeq + 1 }

def Link.push (x : Link) (kind : Byte) (payload : List Byte) : Link :=
  Link.startTx { x with tx := x.tx ++ [{ kind := kind, payload := payload, seq := none }] }

/-- A frame being sent is finished; the frames waiting behind it are dropped (R65, R66, R68). -/
def Link.dropWaiting (x : Link) : Link := { x with tx := x.tx.filter TxFrame.sending }

/-- The payload of a HELLO (R57, R177). -/
def helloPayload (s : State) (l : LinkId) : List Byte :=
  le2 (s.re.laneNumber.getD 0) ++ [nat1 (linkNo l), nat1 (cfgRate s l)]

/-- The LU queues a HELLO itself: not in QUIET or MISMATCH, and not while one waits unsent. -/
def queueHello (s : State) (l : LinkId) : State :=
  let x := s.link l
  if x.state = .quiet || x.state = .mismatch || x.tx.any (fun f => decide (f.kind = kHello) && !f.sending) then s
  else s.setLink l (x.push kHello (helloPayload s l))

/-- The LU takes a unit's frame: the link is UP and fewer than four frames are queued. -/
def linkTakes (s : State) (l : LinkId) : Bool := decide ((s.link l).state = .up) && decide ((s.link l).tx.length < 4)

def linkSend (s : State) (l : LinkId) (kind : Byte) (payload : List Byte) : State :=
  s.setLink l ((s.link l).push kind payload)

/-! ### Changes of state (R65-R70) -/

def startSilence (s : State) (l : LinkId) : State :=
  s.setLink l { s.link l with silence := startTimer s (cfgSilence s l) }

/-- A change of link state: the record for the payload, the raise, the Status Page write, and the tell to the owner (R70). A
change sets the run of bad frames to 0 (R68). -/
def changeLink (s : State) (l : LinkId) (new : LinkState) (reason : LinkReason) : State :=
  let x := s.link l
  askLinkStatus
    (raise
      ((arrive s (linkOwner l) .link).setLink l { x with
        state := new, prevState := x.state, reason := reason, errorSum := x.errors.sum, badRun := 0
        path := x.path ++ [.change x.state new], firstAfterUp := decide (new = .up) })
      .linkChange (linkNo l))
    l false

/-- Entry to UNSEEN (R65): at once at the new rate, or after the frame being sent. The receiver starts anew, so that a line still
low after a reported BREAK is timed from this moment and may be reported once more (R60; log 39). -/
def enterUnseen (s : State) (l : LinkId) (reason : LinkReason) : State :=
  let x := (s.link l).dropWaiting
  let busy := !x.tx.isEmpty
  queueHello
    (startSilence
      (changeLink
        (s.setLink l { x with
          identSeen := false, txSeq := 0, tracked := none, attempt := none, line := .running, freshStart := true
          rate := if busy then x.rate else cfgRate s l
          rateNext := if busy then some (cfgRate s l) else none })
        l .unseen reason)
      l)
    l

/-- Entry to DOWN (R68). -/
def enterDown (s : State) (l : LinkId) (reason : LinkReason) : State :=
  queueHello (startSilence (changeLink (s.setLink l (s.link l).dropWaiting) l .down reason) l) l

/-- Entry to MISMATCH (R66). -/
def enterMismatch (s : State) (l : LinkId) : State :=
  changeLink (s.setLink l { (s.link l).dropWaiting with silence := none }) l .mismatch .identWrong

/-- Entry to UP; from MISMATCH the silence timer starts (R67). -/
def enterUp (s : State) (l : LinkId) (reason : LinkReason) : State :=
  let t := changeLink s l .up reason
  if (s.link l).state = .mismatch then startSilence t l else t

/-- An attempt ended by an error outside HUNT: the error, and the run of bad frames (R68). -/
def badAttempt (s : State) (l : LinkId) (kind : ErrorKind) (place : RxField × Nat) : State :=
  let t := linkError s l kind place
  let x := t.link l
  let run := if x.badRun < 8 then x.badRun + 1 else 8
  let u := t.setLink l { x with badRun := run }
  if run = 8 && (x.state = .unseen || x.state = .up) then enterDown u l .badFrames else u

/-! ### Delivery and acceptance (R61, R63, R66, R69) -/

def PathItem.isFrame : PathItem → Bool
  | .frame _ _ _ => true
  | .change _ _ => false

/-- The path without its newest frame. -/
def dropNewestFrame (p : List PathItem) : List PathItem :=
  match p.reverse.findIdx? PathItem.isFrame with
  | some i => p.eraseIdx (p.length - 1 - i)
  | none => p

/-- Which items of a path stay when its newest frame leaves it. -/
def newestFrameLeaves (p : List PathItem) : List Bool :=
  match p.reverse.findIdx? PathItem.isFrame with
  | some i => List.replicate (p.length - 1 - i) true ++ false :: List.replicate i true
  | none => List.replicate p.length true

/-- A frame accepted for delivery goes into the buffer; with both slots full it replaces the newer frame (R63). -/
def deliver (s : State) (l : LinkId) (kind : Byte) (payload : List Byte) (gap : Bool) : State :=
  let x := s.link l
  if (x.path.filter PathItem.isFrame).length < 2 then
    (arrive s (linkOwner l) .link).setLink l { x with
      path := x.path ++ [.frame kind payload (gap || x.firstAfterUp)], firstAfterUp := false }
  else
    linkError
      ((arriveAgain s l (newestFrameLeaves x.path)).setLink l
        { x with path := dropNewestFrame x.path ++ [.frame kind payload true], firstAfterUp := false })
      l .overrun (.check, 0)

/-- The device kind a link expects (R66, R176). -/
def expectedDevice : LinkId → Byte
  | .platter => 1 | .bag => 1 | .card => 2 | .printer => 3

/-- A valid IDENT meets the link state machine (R66, R69). -/
def takeIdent (s : State) (l : LinkId) (device : Byte) : State :=
  let x := s.link l
  let t := askLinkStatus (s.setLink l { x with identKind := device }) l false
  if device = expectedDevice l then
    let u := t.setLink l { t.link l with identSeen := true }
    if x.state = .unseen || x.state = .mismatch || x.state = .down then enterUp u l .identMatched else u
  else if x.state = .unseen || x.state = .up || x.state = .down then enterMismatch t l
  else t

/-- A valid frame other than IDENT meets the link state machine (R69). -/
def takeFrame (s : State) (l : LinkId) (kind : Byte) (payload : List Byte) (gap : Bool) : State :=
  let x := s.link l
  if x.state = .up then deliver s l kind payload gap
  else if x.state = .down && x.identSeen then deliver (enterUp s l .frameResumed) l kind payload true
  else s

/-- Acceptance of a valid frame (R61). At a sequence gap the link's fields are written also where the counter stays at 65,535
(R62; log 43). -/
def acceptFrame (s : State) (l : LinkId) (kind seq : Byte) (payload : List Byte) : State :=
  let x := s.link l
  let runs := x.state = .unseen || x.state = .up || x.state = .down
  let s1 := s.setLink l { x with badRun := 0 }
  let s2 := if runs then startSilence s1 l else s1
  if kind = kIdent then
    takeIdent (s2.setLink l { s2.link l with tracked := some seq }) l (payByte payload 0)
  else
    let gap := match x.tracked with | some t => seq != t + 1 | none => false
    let s3 := s2.setLink l { s2.link l with tracked := some seq, seqGaps := if gap then sat x.seqGaps else x.seqGaps }
    takeFrame (if gap then askLinkStatus s3 l false else s3) l kind payload gap

/-! ### The receiver's scan (R58, R59) -/

/-- What becomes of a frame attempt whose bytes after the SYNC are `bs`. -/
inductive Attempt where
  | incomplete
  | error (kind : ErrorKind) (field : RxField)
  | valid (kind seq : Byte) (payload : List Byte)
  deriving DecidableEq, Repr

/-- LENGTH, HEADER, PAYLOAD and CHECK over the bytes after a SYNC. -/
def tryFrame (l : LinkId) (bs : List Byte) : Attempt :=
  match bs with
  | [] => .incomplete
  | [len] => if 120 < len.toNat then .error .length .length else .incomplete
  | len :: kind :: rest =>
      if 120 < len.toNat then .error .length .length
      else match allowedMinLen l kind with
        | none => .error .kind .header
        | some least =>
            if len.toNat < least then .error .length .header
            else match rest with
              | [] => .incomplete
              | seq :: rest =>
                  if rest.length < len.toNat + 2 then .incomplete
                  else
                    let payload := rest.take len.toNat
                    let check := payHalf rest len.toNat
                    if crc16 (len :: kind :: seq :: payload) = check then .valid kind seq payload
                    else .error .check .check

/-- The held bytes, and after them the byte that has just arrived, are taken as if they arrived (R58, R59): bytes that are not
SYNC are dropped; an attempt ended by an error is counted, and the scan goes on with the byte after its SYNC; a valid frame
is accepted, and its bytes are skipped; an attempt still open stays in hand. -/
def scan (s : State) (l : LinkId) (skip : Nat) : List Byte → State
  | [] => s.setLink l { s.link l with attempt := none }
  | b :: rest =>
      match skip with
      | k + 1 => scan s l k rest
      | 0 =>
          if b != syncByte then scan s l 0 rest
          else match tryFrame l rest with
            | .incomplete => s.setLink l { s.link l with attempt := some (b :: rest) }
            | .error kind field => scan (badAttempt s l kind (field, 0)) l 0 rest
            | .valid kind seq payload => scan (acceptFrame s l kind seq payload) l (payload.length + 5) rest

/-! ### The owner's side of the ordered path (R63) -/

/-- The kind, payload and gap flag of the frame at the front of the path. -/
def frontFrame (s : State) (l : LinkId) : Option (Byte × List Byte × Bool) :=
  match (s.link l).path with
  | .frame kind payload gap :: _ => some (kind, payload, gap)
  | _ => none

/-- The change at the front of the path. -/
def frontChange (s : State) (l : LinkId) : Option (LinkState × LinkState) :=
  match (s.link l).path with
  | .change old new :: _ => some (old, new)
  | _ => none

/-- The link has gone QUIET at a LANE_RESET, and the owner has yet to take that change: it took its reset values with the same
LANE_RESET, so the change, and those before it, change nothing more (R77, R89, R110, R138, R155, R166; R63). -/
def wentQuiet (s : State) (l : LinkId) : Bool :=
  (s.link l).path.any fun x => match x with
    | .change _ new => decide (new = .quiet)
    | .frame _ _ _ => false

/-- The owner takes the front of the path. -/
def popPath (s : State) (l : LinkId) : State := s.setLink l { s.link l with path := (s.link l).path.tail }

end Sys2Proof.Machine
end

