-- ==== Sys2Proof/Machine/Platter.lean ====
section
/-! DEFINITION. The Platter Weigh Unit (05): what a sample does (R72-R76), link changes (R77), the capture machine and the
consume claim (R79-R83), zero and tare (R84-R87). -/

namespace Sys2Proof.Machine

/-! ### Weight, zone, motion -/

/-- A net in tenths of a gram, rounded to whole divisions with halves away from zero, in grams (R73). -/
def roundDivision (net : Int) (d : Nat) : Int :=
  let q : Nat := (2 * net.natAbs + 10 * d) / (20 * d)
  if net < 0 then -((q * d : Nat) : Int) else ((q * d : Nat) : Int)

/-- The largest less the smallest of the values together with `g` is within the band (R75). -/
def withinBand (window : List Int) (g : Int) (band : Nat) : Bool :=
  decide (window.foldl max g - window.foldl min g ≤ (band : Int))

/-- A gross value enters the stability window (R75). -/
def enterWindow (window : List Int) (g : Int) (w band : Nat) : List Int :=
  let kept := if w ≤ window.length then window.tail else window
  if withinBand kept g band then kept ++ [g] else [g]

def LimitState.stops : LimitState → Bool
  | .normal => false
  | _ => true

/-- The limit state of a sample (R76, R111): capacity in grams, division in grams. -/
def judgeLimit (fault overrange : Bool) (gross : Int) (capacity division : Nat) : LimitState :=
  if fault then .fault
  else if overrange || decide (((capacity * 10 + 90 * division : Nat) : Int) < gross) then .over
  else if gross < -((200 * division : Nat) : Int) then .under
  else .normal

/-- SCALE_LIMIT is raised when the state changes to OVER, UNDER or FAULT from any other (R76). -/
def limitRaises (old new : LimitState) : Bool :=
  decide (old ≠ new) && (new = .over || new = .under || new = .fault)

/-- The net in tenths of a gram (R73). -/
def Pwu.net (u : Pwu) : Int := u.gross - u.zero - 10 * u.tare

/-- Net, weight and load zone anew from the current gross (R73, R74); OFFLINE keeps the weight and shows EMPTY. -/
def Pwu.recompute (u : Pwu) (c : Setup) : Pwu :=
  if u.limit = .offline then { u with zone := .empty }
  else
    let weight := roundDivision u.net c.platDivision
    { u with weight := weight, zone := if weight.natAbs < c.platMinNet * c.platDivision then .empty else .loaded }

def Pwu.stable (u : Pwu) (c : Setup) : Bool := isStable u.window c.platWindow

/-! ### Zero tracking (R84, R85) -/

/-- Capacity ÷ 5, the end of the zero range in tenths of a gram. -/
def zeroRange (c : Setup) : Int := ((c.platCapacity / 5 : Nat) : Int)

def inZeroRange (c : Setup) (g : Int) : Bool := decide (-(zeroRange c) ≤ g) && decide (g ≤ zeroRange c)

def Pwu.tracks (u : Pwu) (c : Setup) : Bool :=
  c.platTracking && decide (u.machine = .armed) && decide (u.limit = .normal) && u.stable c && decide (u.tare = 0)
    && decide (u.net.natAbs ≤ 5 * c.platDivision)

/-- The judgement: the timer starts, runs on or stops. -/
def Pwu.judgeTracking (u : Pwu) (c : Setup) (clock : Word) : Pwu :=
  if u.tracks c then
    (if u.zeroTimer.isNone then { u with zeroTimer := some { start := clock, limit := 1000 } } else u)
  else { u with zeroTimer := none }

/-! ### The capture machine (R79-R82) -/

def Pwu.entry (u : Pwu) (k : Nat) : Capture := u.table.getD k Capture.free

/-- The current capture becomes STALE, the window is emptied, the machine is ARMED (R80). -/
def Pwu.makeStale (u : Pwu) : Pwu :=
  { u with
    table := u.table.set u.curSlot { u.entry u.curSlot with state := .stale }
    window := [], machine := .armed, lastStale := (u.entry u.curSlot).id }

/-- After 65,535 comes 1 (R82, R127). -/
def nextNonzero (h : Half) : Half := if h = 0xFFFF then 1 else h + 1

/-- A capture is issued at the write slot (R79, R82). -/
def Pwu.issue (u : Pwu) (clock : Word) : Pwu :=
  { u with
    table := u.table.set u.writeSlot
      { id := u.nextId, state := .fresh, net := u.weight, tare := u.tare, gross := u.weight + u.tare, stamp := clock, line := 0 }
    curSlot := u.writeSlot, refGross := u.gross, machine := .captured, lastIssued := u.nextId
    nextId := nextNonzero u.nextId, writeSlot := (u.writeSlot + 1) % 16 }

/-- What the machine step of a sample did. -/
inductive CaptureStep where
  | none | issued | staled
  deriving DecidableEq, Repr

/-- The machine step of a sample (R79-R81); `fault`: the sample stays out of the window (R76, log 24). -/
def Pwu.machineStep (u : Pwu) (c : Setup) (clock : Word) (fault : Bool) : Pwu × CaptureStep :=
  match u.machine with
  | .armed =>
      if u.limit = .normal && u.stable c && u.zone = .loaded && decide (0 < u.weight) then (u.issue clock, .issued)
      else (u, .none)
  | .captured =>
      if u.limit.stops || decide (c.platBand < (u.gross - u.refGross).natAbs) then
        ({ u.makeStale with window := if fault then [] else [u.gross] }, .staled)
      else (u, .none)
  | .spent => if u.stable c && u.zone = .empty then ({ u with machine := .armed }, .none) else (u, .none)

/-- The state before the machine step of a sample: limit, window, net, weight, zone (R72). -/
def Pwu.takeSample (u : Pwu) (c : Setup) (gross : Int) (fault overrange gap : Bool) : Pwu :=
  let w0 := if gap then [] else u.window
  Pwu.recompute
    { u with
      gross := gross, limit := judgeLimit fault overrange gross c.platCapacity c.platDivision
      window := if fault then [] else enterWindow w0 gross c.platWindow c.platBand }
    c

/-! ### Windows and raises -/

/-- The PWU's window after a change of a capture's entry, or of its Status Page fields alone (R78); `old` is the state before
the event. It is asked for also where the event changes no published value (log 43). -/
def askPwu (old s : State) (slot : Option Nat) (ofRequest : Bool) : State :=
  match slot with
  | some k => askPwuLive old s [.captureTable, .statusPage] [.pwu, .captureEntry k] [] ofRequest
  | none => askPwuLive old s [.statusPage] [.pwu] [] ofRequest

/-- A CAPTURED capture becomes STALE by a change of tare, zero, link or setup (R80). -/
def staleCurrent (old s : State) (u : Pwu) (ofRequest : Bool) : State :=
  if u.machine = .captured then askPwu old (raise (s.setPwu u.makeStale) .captureStale 0) (some u.curSlot) ofRequest
  else askPwu old (s.setPwu u) none ofRequest

/-- After a change of zero or tare: recomputed, the timer stopped, the capture STALE, tracking judged (R73, R80, R85). A SCALE_ZERO
that finds the offset already at the current gross counts as a change too (log 45). -/
def offsetChanged (s : State) (u : Pwu) (ofRequest : Bool) : State :=
  let t := staleCurrent s s { u.recompute (cfg s) with zeroTimer := none } ofRequest
  t.setPwu (t.pwu.judgeTracking (cfg t) t.re.clock)

/-! ### Events -/

/-- R72: one SAMPLE frame. -/
def platterSample (s : State) (payload : List Byte) (gap : Bool) : State :=
  let c := cfg s
  let u := s.pwu.takeSample c (sampleGross payload) (sampleFault payload) (sampleOverrange payload) gap
  let m := u.machineStep c s.re.clock (sampleFault payload)
  let t := (popPath s .platter).setPwu (m.1.judgeTracking c s.re.clock)
  let t1 := if limitRaises s.pwu.limit u.limit then raise t .scaleLimit 0 else t
  match m.2 with
  | .issued => askPwu s (raise t1 .captureReady 0) (some u.writeSlot) false
  | .staled => askPwu s (raise t1 .captureStale 0) (some u.curSlot) false
  | .none => askPwu s t1 none false

def execPlatterSample (s : State) : Host.Outcome State Fault Refusal :=
  match frontFrame s .platter with
  | some (kind, payload, gap) =>
      stepIf s (decide (kind = kSample) && unitTakes s .pwu .link) (platterSample s payload gap)
  | none => .next s

/-- R77: the platter link goes DOWN or comes back UP. Changes up to the link's going QUIET change nothing: the PWU has been
reset. -/
def platterLinkChange (s : State) (old new : LinkState) : State :=
  let t := popPath s .platter
  if wentQuiet s .platter then t
  else if new = .up then askPwu s (t.setPwu { t.pwu with limit := .normal, window := [] }) none false
  else if old = .up then
    staleCurrent s t { t.pwu with limit := .offline, window := [], zone := .empty, zeroTimer := none } false
  else t

def execPlatterLinkChange (s : State) : Host.Outcome State Fault Refusal :=
  match frontChange s .platter with
  | some (old, new) => stepIf s (unitTakes s .pwu .link) (platterLinkChange s old new)
  | none => .next s

/-- R85: the zero offset moves to the current gross, or to the nearer end of the zero range. -/
def zeroTracked (s : State) : State :=
  let z := max (-(zeroRange (cfg s))) (min s.pwu.gross (zeroRange (cfg s)))
  let u := Pwu.recompute { s.pwu with zero := z, zeroTimer := none } (cfg s)
  askPwu s (s.setPwu (u.judgeTracking (cfg s) s.re.clock)) none false

def execZeroTrackExpiry (s : State) : Host.Outcome State Fault Refusal :=
  stepIf s (timerDue s s.pwu.zeroTimer && unitTakes s .pwu (.timer .zeroTrack)) (zeroTracked s)

/-! ### The consume claim (R83) -/

inductive ConsumeAnswer where
  | noCapture | staleCapture | limit
  | found (slot : Nat)
  deriving DecidableEq, Repr

/-- The entry with a given id that is not FREE. -/
def Pwu.slotOf (u : Pwu) (id : Half) : Option Nat :=
  u.table.findIdx? fun c => decide (c.id = id) && decide (c.state ≠ .free)

def Pwu.freshSlot (u : Pwu) : Option Nat := u.table.findIdx? fun c => decide (c.state = .fresh)

/-- The answer to a claim that names `id` or none and carries the largest net it can charge. -/
def Pwu.answerConsume (u : Pwu) (id : Option Half) (largest : Nat) : ConsumeAnswer :=
  let slot := match id with
    | some h => u.slotOf h
    | none => u.freshSlot
  match slot with
  | none => .noCapture
  | some k =>
      match (u.entry k).state with
      | .fresh => if (largest : Int) < (u.entry k).net then .limit else .found k
      | .stale => .staleCapture
      | _ => .noCapture

/-- The entry becomes USED with the line's number, the machine SPENT (R83); tracking is judged (R85). -/
def Pwu.consume (u : Pwu) (c : Setup) (clock : Word) (slot line : Nat) : Pwu :=
  Pwu.judgeTracking
    { u with table := u.table.set slot { u.entry slot with state := .used, line := line }, machine := .spent } c clock

/-! ### Requests (R84, R86, R87). The PWU treats the link as UP while its limit state is not OFFLINE (log 19). -/

def platterUp (s : State) : Bool := decide (s.pwu.limit ≠ .offline)

/-- R84. -/
def scaleZero (s : State) : State :=
  if !platterUp s then failRequest s .linkDown
  else if s.pwu.limit ≠ .normal then failRequest s .wrongState
  else if s.pwu.tare ≠ 0 then failRequest s .wrongState
  else if !s.pwu.stable (cfg s) then failRequest s .wrongState
  else if !inZeroRange (cfg s) s.pwu.gross then failRequest s .limit
  else
    finishRequest (offsetChanged s { s.pwu with zero := s.pwu.gross } true) .done (BitVec.ofInt 32 s.pwu.gross) 0

def execScaleZero (s : State) : Host.Outcome State Fault Refusal := stepIf s (awaits s .scaleZero) (scaleZero s)

/-- A tare that has passed (R86). -/
def setTare (s : State) (tare : Int) : State :=
  finishRequest
    (if tare = s.pwu.tare then askPwu s s none true else offsetChanged s { s.pwu with tare := tare } true)
    .done (BitVec.ofInt 32 tare) 0

/-- R86. -/
def scaleTare (s : State) : State :=
  let c := cfg s
  match recTare s.re.record with
  | none =>
      let candidate := roundDivision (s.pwu.gross - s.pwu.zero) c.platDivision
      if !platterUp s then failRequest s .linkDown
      else if s.pwu.limit ≠ .normal then failRequest s .wrongState
      else if !s.pwu.stable c then failRequest s .wrongState
      else if !(decide (0 < candidate) && decide (candidate ≤ (c.platTareLimit : Int))) then failRequest s .limit
      else setTare s candidate
  | some v =>
      if !(decide (0 < v) && decide (v ≤ c.platTareLimit) && decide (v % c.platDivision = 0)) then failRequest s .badParam
      else if !platterUp s then failRequest s .linkDown
      else if s.pwu.limit = .fault then failRequest s .wrongState
      else if !s.pwu.stable c then failRequest s .wrongState
      else setTare s (v : Int)

def execScaleTare (s : State) : Host.Outcome State Fault Refusal := stepIf s (awaits s .scaleTare) (scaleTare s)

/-- R87. -/
def tareClear (s : State) : State :=
  if !platterUp s then failRequest s .linkDown
  else if s.pwu.tare = 0 then finishRequest s .done 0 0
  else finishRequest (offsetChanged s { s.pwu with tare := 0 } true) .done 0 0

def execTareClear (s : State) : Host.Outcome State Fault Refusal := stepIf s (awaits s .tareClear) (tareClear s)

end Sys2Proof.Machine
end

