-- ==== Sys2Proof/Machine/SaleOps.lean ====
section
/-! DEFINITION. The shared operations of the Sale Unit: the window of an event (R91, R94), tender claims (R106, R107), bag
claims (R93, R96, R121), and the asks other units make (R108). -/

namespace Sys2Proof.Machine

/-! ### The window of an event (R91) -/

/-- The words of line `n` (from 1) and of tender `t` (from 0), where the event writes one. -/
def lineEntryWords (u : Su) : Option Nat → List (Nat × Word)
  | some n => match u.lines[n - 1]? with
    | some l => wordsAt (Config.linesOff + (n - 1) * 64) (lineWords n l)
    | none => []
  | none => []

def tenderEntryWords (u : Su) : Option Nat → List (Nat × Word)
  | some t => match u.tenders[t]? with
    | some x => wordsAt (Config.tendersOff + t * 64) (tenderWords t x)
    | none => []
  | none => []

/-- The header words an event changes, with the line entry and the tender entry it writes. -/
def saleWords (old new : Su) (line tender : Option Nat) : List (Nat × Word) :=
  changedWords Config.saleOff (saleHeaderWords old) (saleHeaderWords new) ++ lineEntryWords new line
    ++ tenderEntryWords new tender

/-- All 48 header words (R94). -/
def headerWords (u : Su) : List (Nat × Word) := wordsAt Config.saleOff (saleHeaderWords u)

/-- The SU's event is decided: its new state, and the words its window will write. -/
def suDecide (s : State) (new : Su) (words : List (Nat × Word)) (after : List After) (ofRequest : Bool) : State :=
  s.setSu { new with event := some { words := words, after := after, ofRequest := ofRequest } }

/-- The SU asks for the window of the event in hand; the event ends when it closes. -/
def suAskWindow (s : State) : State :=
  match s.su.event with
  | some e => askFixed s .su [.saleRecord] e.words (e.after ++ [.suDone]) e.ofRequest
  | none => s

/-- An event whose window is asked at once. -/
def suWrite (s : State) (new : Su) (words : List (Nat × Word)) (after : List After) (ofRequest : Bool) : State :=
  suAskWindow (suDecide s new words after ofRequest)

/-- The sale takes tender and bag claims: OPEN, TENDERING or SETTLED (R121). -/
def SaleState.active : SaleState → Bool
  | .opened => true
  | .tendering => true
  | .settled => true
  | _ => false

/-! ### Tender claims (R106, R107) -/

/-- SETTLED when a tender claim leaves the balance at 0; an OPEN sale with a new tender is at least TENDERING (R92). -/
def Su.afterTender (u : Su) (creating : Bool) : Su :=
  let st := u.header.state
  let st1 := if creating && decide (st = .opened) then .tendering else st
  let st2 := if st1 = .tendering && decide (u.balance = 0) then .settled else st1
  { u with header := { u.header with state := st2 } }

/-- A creating claim writes the new entry at the tender count (R107); what is applied is no more than the balance (R106). The
final stamp of a new entry is its created stamp (log 22); the entry method, the digits and the approved amount, which R97 gives
a CARD tender only later, are 0 (log 38). -/
def Su.create (u : Su) (kind : TenderKind) (state : TenderState) (requested received toApply : Nat) (reference : Half)
    (clock : Word) : Su :=
  Su.afterTender
    { u with tenders := u.tenders ++
        [{ kind := kind, state := state, requested := requested, received := received, applied := min toApply u.balance
           reference := reference, entryMethod := 0, lastFour := zeros 4, code := zeros 6, byKey := false
           created := clock, final := clock }] }
    true

/-- A claim moving an existing entry (R107). The amount of an APPROVED tender is recorded as given and applied up to the
balance (R106); a tender that is not APPROVED has applied amount 0 (R97, R135) and keeps the approved amount it has, 0 (log
38). -/
def Tender.move (t : Tender) (m : TenderMove) (balance : Nat) (clock : Word) : Tender :=
  { t with
    state := m.state
    received := if m.state = .approved then m.amount else t.received
    applied := if m.state = .approved then min m.amount balance else 0
    entryMethod := m.entryMethod, lastFour := m.lastFour, code := m.code, byKey := t.byKey || m.byKey, final := clock }

def Su.moveTender (u : Su) (m : TenderMove) (clock : Word) : Su :=
  match u.tenders[m.index]? with
  | some t => Su.afterTender { u with tenders := u.tenders.set m.index (t.move m u.balance clock) } false
  | none => u

/-- The SU takes a claim moving a tender. -/
def suMoveTender (s : State) (m : TenderMove) (ofRequest : Bool) : State :=
  let new := s.su.moveTender m s.re.clock
  suWrite s new (saleWords s.su new none (some m.index)) [] ofRequest

/-! ### Bag claims (R93, R96, R121) -/

/-- A named line moves only from the status the claim moves it from. -/
def SaleLine.moveBag (l : SaleLine) (removal : Bool) (item : BagStatus) : SaleLine :=
  if removal then (if l.bag = .removalPending then { l with bag := .removed } else l)
  else (if l.bag = .pending then { l with bag := item } else l)

/-- The named lines move to `item` or REMOVED. -/
def moveNamed (lines : List SaleLine) (named : List NamedLine) (item : BagStatus) : List SaleLine :=
  named.foldl
    (fun ls n => match ls[n.line - 1]? with
      | some l => if n.line = 0 then ls else ls.set (n.line - 1) (l.moveBag n.removal item)
      | none => ls)
    lines

/-- What a settlement claim writes. -/
def Su.settlement (u : Su) (named : List NamedLine) (baseline : Int) : Su :=
  { u with lines := moveNamed u.lines named .bagged, header := { u.header with baseline := baseline } }

/-- What a hold claim writes. -/
def Su.holdSet (u : Su) (reason : HoldReason) : Su :=
  { u with header := { u.header with bagHold := true, holdReason := reason, clearReason := .none } }

/-- What a clear claim writes. -/
def Su.holdClear (u : Su) (reason : ClearReason) (baseline : Int) (named : List NamedLine) : Su :=
  { u with
    lines := moveNamed u.lines named .bagged
    header := { u.header with bagHold := false, clearReason := reason, baseline := baseline } }

/-- What a release claim writes (R120, R121). -/
def Su.release (u : Su) (named : List NamedLine) (baseline : Int) : Su :=
  { u with
    lines := moveNamed u.lines named .overridden
    header := { u.header with
      bagHold := false, clearReason := .released, baseline := baseline, overrides := u.header.overrides + 1 } }

/-- The SU takes a bag claim: its writes while the sale is OPEN, TENDERING or SETTLED; else it is discarded (R121). -/
def suBagClaim (s : State) (new : Su) (ofRequest : Bool) : State :=
  if s.su.header.state.active then suWrite s new (saleWords s.su new none none) [] ofRequest else s

/-! ### The list (R91) -/

/-- What stands at the front of the SU's list, while the SU is between events (R91) and no request of its own still waits for
another unit's window (R24). -/
def suFront (s : State) : Option SaleItem :=
  if unitBusy s .su then none
  else match s.su.event with
    | some _ => none
    | none => s.su.inbox.head?

/-- The SU takes the front of its list. -/
def suPop (s : State) : State := s.setSu { s.su with inbox := s.su.inbox.tail }

/-- Another unit sends a claim. -/
def suSend (s : State) (x : SaleItem) : State := s.setSu { s.su with inbox := s.su.inbox ++ [x] }

/-- The SU's own request in execution reaches the front of its list. -/
def suTakes (s : State) (k : RequestKind) : Bool := awaits s k && decide (suFront s = some .request)

/-- A request the SU refuses writes nothing (R91). -/
def suFail (s : State) (r : ResultCode) : State := failRequest (suPop s) r

end Sys2Proof.Machine
end

