-- ==== Sys2Proof/Machine/Bag.lean ====
section
/-! DEFINITION. The Bag Weigh Unit (07): samples and settlements (R111-R113), the pending list and matching (R115, R116), the
bag wait timer (R117), the hold (R118, R119), the attendant's release (R120), and what the SU tells it (R114). -/

namespace Sys2Proof.Machine

/-! ### The pending list (R115) -/

/-- The larger of the absolute tolerance and |delta| × relative ÷ 1000. -/
def bagTolerance (c : Setup) (delta : Int) : Int :=
  ((max c.bagAbsTol (delta.natAbs * c.bagRelTol / 1000) : Nat) : Int)

/-- An entry at its place in line order. -/
def insertByLine (e : Expectation) : List Expectation → List Expectation
  | [] => [e]
  | x :: rest => if e.line < x.line then e :: x :: rest else x :: insertByLine e rest

def waitLimit (c : Setup) : Nat := c.bagWait * 1000

/-- An add or a removal: the entry joins, the matched mark is cleared; the timer starts when the list was empty and the hold is
clear (R115, R117). -/
def Bwu.expect (u : Bwu) (c : Setup) (clock : Word) (line : Nat) (delta : Int) : Bwu :=
  { u with
    pend := insertByLine { line := line, delta := delta, tolerance := bagTolerance c delta } u.pend
    matched := u.matched.filter fun n => n != line
    waitTimer := if u.pend.isEmpty && !u.hold then some { start := clock, limit := waitLimit c } else u.waitTimer }

/-- A withdrawal; true: withdrawn, false: already matched (R115). A list that it empties stops the timer. -/
def Bwu.withdraw (u : Bwu) (line : Nat) : Bwu × Bool :=
  if u.pend.any fun e => decide (e.line = line) then
    let rest := u.pend.filter fun e => e.line != line
    ({ u with pend := rest, waitTimer := if rest.isEmpty then none else u.waitTimer }, true)
  else (u, !u.matched.contains line)

/-! ### Matching (R116) -/

def sumDelta (es : List Expectation) : Int := es.foldl (fun (a : Int) e => a + e.delta) 0
def sumTolerance (es : List Expectation) : Int := es.foldl (fun (a : Int) e => a + e.tolerance) 0

/-- The smallest k from 1 with |D − S_k| ≤ T_k. -/
def findMatch (d : Int) (pend : List Expectation) : Option Nat :=
  ((List.range pend.length).find? fun i =>
    decide (((d - sumDelta (pend.take (i + 1))).natAbs : Int) ≤ sumTolerance (pend.take (i + 1)))).map (· + 1)

/-- The lines of some entries, with the status a claim moves them from. -/
def namedOf (es : List Expectation) : List NamedLine := es.map fun e => { line := e.line, removal := decide (e.delta < (0 : Int)) }

/-- The first k entries leave the list matched; the timer restarts if entries remain, and else stops. -/
def Bwu.matchFirst (u : Bwu) (c : Setup) (clock : Word) (k : Nat) : Bwu :=
  let rest := u.pend.drop k
  { u with
    pend := rest
    matched := u.matched ++ ((u.pend.take k).map fun e => e.line)
    baseline := u.baseline + sumDelta (u.pend.take k)
    waitTimer := if rest.isEmpty then none else some { start := clock, limit := waitLimit c } }

/-- The reason of step 3 of R116. -/
def failReason (pend : List Expectation) (d : Int) : HoldReason :=
  if !pend.isEmpty then .mismatch else if 0 < d then .unexpectedAdd else .unexpectedRemoval

/-! ### The hold (R118, R119) -/

/-- The hold is set or renewed: the reason, the timer, the raise, the claim. -/
def setHold (s : State) (reason : HoldReason) : State :=
  suSend (raise (s.setBwu { s.bwu with hold := true, holdReason := reason, waitTimer := none }) .bagHoldSet 0) (.holdSet reason)

/-- The hold clears: the timer starts if entries remain, the raise, the claim (R119). The hold reason stays (log 34). -/
def clearHold (s : State) (reason : ClearReason) (named : List NamedLine) : State :=
  let u := s.bwu
  let t := s.setBwu { u with
    hold := false, clearReason := reason
    waitTimer := if u.pend.isEmpty then none else startTimer s (waitLimit (cfg s)) }
  suSend (raise t .bagHoldClear 0) (.holdClear reason u.baseline named)

/-- A settlement in a SELF sale with the hold clear (R116). -/
def judgeClear (s : State) (d : Int) : State :=
  let u := s.bwu
  match findMatch d u.pend with
  | some k =>
      let v := u.matchFirst (cfg s) s.re.clock k
      suSend (s.setBwu v) (.settlement (namedOf (u.pend.take k)) v.baseline)
  | none => if d.natAbs ≤ (cfg s).bagAbsTol then s else setHold s (failReason u.pend d)

/-- A settlement in a SELF sale under the hold (R119). -/
def judgeHeld (s : State) (d : Int) : State :=
  let u := s.bwu
  if d.natAbs ≤ (cfg s).bagAbsTol then clearHold s .restored []
  else match (if u.holdReason = .timeout then findMatch d u.pend else none) with
    | some k =>
        clearHold (s.setBwu (u.matchFirst (cfg s) s.re.clock k)) .matched (namedOf (u.pend.take k))
    | none => setHold s (failReason u.pend d)

/-- A BWU whose verification is ACTIVE with mode SELF asks the SU for the sale's mode and state (R108; log 47). -/
def Bwu.asksSale (u : Bwu) : Bool := decide (u.verif = .self)

/-- The SU's answer: a SELF sale is OPEN, TENDERING or SETTLED (R108, R114). -/
def selfSale (s : State) : Bool := decide (s.su.header.mode = .self) && s.su.header.state.active

/-- A settlement is judged while verification is ACTIVE with mode SELF, by the SU's answer; in CLOSING it only settles (R112, R114). -/
def judgeSettlement (s : State) : State :=
  if s.bwu.asksSale && selfSale s then
    let d := s.bwu.settled - s.bwu.baseline
    let t := s.setBwu { s.bwu with lastDelta := d }
    if s.bwu.hold then judgeHeld t d else judgeClear t d
  else s

/-! ### Samples and link (R111-R113) -/

/-- At rest: STABLE and NORMAL (R112). -/
def Bwu.atRest (u : Bwu) (c : Setup) : Bool := isStable u.window c.bagWindow && decide (u.limit = .normal)

/-- Limit, window, weight of one sample (R111). -/
def Bwu.takeSample (u : Bwu) (c : Setup) (gross : Int) (fault overrange gap : Bool) : Bwu :=
  let w0 := if gap then [] else u.window
  { u with
    gross := gross, limit := judgeLimit fault overrange gross c.bagCapacity c.bagDivision
    window := if fault then [] else enterWindow w0 gross c.bagWindow c.bagBand
    weight := roundDivision gross c.bagDivision }

/-- The sample brings the bag to rest when it was not at rest before: a settlement (R112). -/
def Bwu.settles (old new : Bwu) (c : Setup) (gap : Bool) : Bool := new.atRest c && !(old.atRest c && !gap)

/-- The BWU after the sample of a frame. -/
def sampledBag (s : State) (payload : List Byte) (gap : Bool) : Bwu :=
  s.bwu.takeSample (cfg s) (sampleGross payload) (sampleFault payload) (sampleOverrange payload) gap

/-- R111, R112. The Status Page write is asked for also where the sample repeats every published value (R123; log 43). -/
def bagSample (s : State) (payload : List Byte) (gap : Bool) : State :=
  let u := sampledBag s payload gap
  let settles := s.bwu.settles u (cfg s) gap
  let v := if settles then { u with settled := u.weight } else u
  let t := (popPath s .bag).setBwu v
  let t1 := if limitRaises s.bwu.limit u.limit then raise t .scaleLimit 1 else t
  askBwuStatus (if settles then judgeSettlement t1 else t1) false

/-- A settlement that asks the SU comes when the SU can answer (R108; log 47). -/
def bagSampleReady (s : State) (payload : List Byte) (gap : Bool) : Bool :=
  !(s.bwu.asksSale && s.bwu.settles (sampledBag s payload gap) (cfg s) gap) || saleAnswers s

def execBagSample (s : State) : Host.Outcome State Fault Refusal :=
  match frontFrame s .bag with
  | some (kind, payload, gap) =>
      stepIf s (decide (kind = kSample) && unitTakes s .bwu .link && bagSampleReady s payload gap) (bagSample s payload gap)
  | none => .next s

/-- The change takes the bag link DOWN, and no going QUIET stands behind it (R70, R113). -/
def bagLinkLost (s : State) (old new : LinkState) : Bool :=
  !wentQuiet s .bag && decide (old = .up) && decide (new ≠ .up)

/-- R113: the bag link goes DOWN or comes back UP. Changes up to the link's going QUIET change nothing: the BWU has been reset. -/
def bagLinkChange (s : State) (old new : LinkState) : State :=
  let t := popPath s .bag
  if bagLinkLost s old new then
    let u := t.setBwu { t.bwu with limit := .offline, window := [] }
    askBwuStatus (if u.bwu.asksSale && selfSale u then setHold u .mismatch else u) false
  else if !wentQuiet s .bag && decide (new = .up) then
    askBwuStatus (t.setBwu { t.bwu with limit := .normal, window := [] }) false
  else t

/-- A loss of the link that asks the SU comes when the SU can answer (R108; log 47). -/
def execBagLinkChange (s : State) : Host.Outcome State Fault Refusal :=
  match frontChange s .bag with
  | some (old, new) =>
      stepIf s (unitTakes s .bwu .link && (!(s.bwu.asksSale && bagLinkLost s old new) || saleAnswers s))
        (bagLinkChange s old new)
  | none => .next s

/-- R117: in a SELF sale with entries pending the hold is set with reason TIMEOUT. -/
def bagWaitExpired (s : State) : State :=
  let t := s.setBwu { s.bwu with waitTimer := none }
  askBwuStatus (if t.bwu.verif = .self && !t.bwu.pend.isEmpty then setHold t .timeout else t) false

def execBagWaitExpiry (s : State) : Host.Outcome State Fault Refusal :=
  stepIf s (timerDue s s.bwu.waitTimer && unitTakes s .bwu (.timer .bagWait)) (bagWaitExpired s)

/-! ### What the SU tells (R114) -/

/-- The SU's tell at the front of the BWU's list, while the BWU takes events. -/
def bagTell (s : State) : Option BagTell := if unitTakes s .bwu .tell then s.bwu.tells.head? else none

/-- The tell that a sale has opened. The latest clearing stays what it was (log 34). -/
def bagSaleOpened (s : State) (mode : SaleMode) (baseline : Int) : State :=
  askBwuStatus
    (s.setBwu { s.bwu with
      tells := s.bwu.tells.tail, pend := [], matched := [], hold := false, holdReason := .none, waitTimer := none
      baseline := baseline, lastDelta := 0, verif := if mode = .self then .self else .staffed })
    false

def execBagSaleOpened (s : State) : Host.Outcome State Fault Refusal :=
  match bagTell s with
  | some (.saleOpened mode baseline) => stepIf s true (bagSaleOpened s mode baseline)
  | _ => .next s

/-- The tell that the sale has entered CLOSING. -/
def bagSaleClosing (s : State) : State :=
  askBwuStatus (s.setBwu { s.bwu with tells := s.bwu.tells.tail, verif := .inactive, waitTimer := none }) false

def execBagSaleClosing (s : State) : Host.Outcome State Fault Refusal :=
  match bagTell s with
  | some .saleClosing => stepIf s true (bagSaleClosing s)
  | _ => .next s

/-- The tell that the sale has ended. The latest clearing stays what it was (log 34). The Status Page write is asked also where no
field changes (log 43). -/
def bagSaleEnded (s : State) : State :=
  askBwuStatus
    (s.setBwu { s.bwu with
      tells := s.bwu.tells.tail, pend := [], matched := [], hold := false, holdReason := .none, waitTimer := none })
    false

def execBagSaleEnded (s : State) : Host.Outcome State Fault Refusal :=
  match bagTell s with
  | some .saleEnded => stepIf s true (bagSaleEnded s)
  | _ => .next s

/-! ### The attendant's release (R120) -/

/-- The release takes effect at the BWU and, as its claim, at the SU (log 8). The hold reason stays (log 34). -/
def holdReleased (s : State) : State :=
  let u := s.bwu
  let named := namedOf u.pend
  let t := raise
    (s.setBwu { u with
      baseline := u.settled, pend := [], waitTimer := none, hold := false, clearReason := .released })
    .bagHoldClear 0
  finishRequest
    (suBagClaim (askBwuStatus t true) (t.su.release named u.settled) true)
    .done (BitVec.ofNat 32 named.length) (BitVec.ofInt 32 u.settled)

/-- R120. The key is the Till Unit's debounced reading. -/
def holdRelease (s : State) : State :=
  if !s.tu.key then failRequest s .needKey
  else if !(s.bwu.verif = .self && s.bwu.hold) then failRequest s .wrongState
  else holdReleased s

def execHoldRelease (s : State) : Host.Outcome State Fault Refusal :=
  stepIf s (awaits s .holdRelease && saleReady s && s.bwu.tells.isEmpty) (holdRelease s)

end Sys2Proof.Machine
end

