-- ==== Sys2Proof/Machine/Sale.lean ====
section
/-! DEFINITION. The Sale Unit's own events (06): SALE_OPEN (R98, R99), the item changes (R100-R105), and the claims of the BWU
and the CTU it takes from its list (R91, R107, R121). -/

namespace Sys2Proof.Machine

/-! ### SALE_OPEN (R98, R99) -/

/-- The journal has a free entry (R167). -/
def journalFree (s : State) : Bool := decide (ahead32 s.ju.head s.bi.journalExport < 2048)

/-- The first check of R98 that fails; `none`: the sale opens with this mode. -/
def saleOpenCheck (s : State) : Option ResultCode :=
  match recMode s.re.record with
  | none => some .badParam
  | some mode =>
      if s.su.header.state ≠ .idle then some .wrongState
      else if !journalFree s then some .journalFull
      else if s.tu.drawer ≠ .shut then some .drawerOpen
      else if decide (mode = .self) && !(s.bi.bagFit && decide (s.bwu.limit ≠ .offline)) then some .linkDown
      else if s.pu.jobs.any fun j => decide (j.state = .printing) then some .busy
      else none

/-- The value of the next sale number, or 1 if it is 0 (R99). -/
def assignedNumber (u : Su) : Word := if u.nextNumber = 0 then 1 else u.nextNumber

/-- The header SALE_OPEN writes. -/
def openedHeader (s : State) (mode : SaleMode) : Header where
  number := assignedNumber s.su
  state := .opened
  mode := mode
  operator := recOperator s.re.record
  outcome := .none
  bagHold := false
  holdReason := .none
  clearReason := .none
  baseline := if mode = .self then s.bwu.settled else 0
  overrides := 0
  receiptStart := fillCopy s
  closeMark := 0
  openStamp := s.re.clock
  endStamp := 0

/-- The SU once the sale has opened. -/
def openedSale (s : State) (mode : SaleMode) : Su :=
  let n := assignedNumber s.su
  { s.su with
    header := openedHeader s mode, lines := [], tenders := []
    nextNumber := if n + 1 = 0 then 1 else n + 1, inbox := s.su.inbox.tail }

/-- R99. -/
def saleOpened (s : State) (mode : SaleMode) : State :=
  let new := openedSale s mode
  finishRequest
    (suWrite s new (headerWords new)
      [.tellBag (.saleOpened mode new.header.baseline), .tellPrint .receiptBegins] true)
    .done new.header.number (new.header.receiptStart.setWidth 32)

def saleOpen (s : State) : State :=
  match saleOpenCheck s with
  | some r => suFail s r
  | none => saleOpened s ((recMode s.re.record).getD .staffed)

def execSaleOpen (s : State) : Host.Outcome State Fault Refusal :=
  stepIf s (suTakes s .saleOpen && s.bwu.tells.isEmpty && s.pu.tells.isEmpty) (saleOpen s)

/-! ### Item changes (R100-R105) -/

/-- R100, before the holds. -/
def Su.admitsItems (u : Su) : Bool :=
  decide (u.header.state = .opened)
    || (decide (u.header.state = .tendering) && u.tenders.all fun t => t.state = .declined || t.state = .cancelled)

/-- An item change that is DONE leaves the sale OPEN (R92). -/
def Su.itemsChanged (u : Su) (lines : List SaleLine) : Su :=
  { u with lines := lines, header := { u.header with state := .opened }, inbox := u.inbox.tail }

/-- The BWU can take an ask: a SELF sale's tells have been taken (log 8). -/
def bagReady (s : State) : Bool := decide (s.su.header.mode ≠ .self) || s.bwu.tells.isEmpty

/-- A new line's expected delta is handed to the BWU in the same event (R102). -/
def handExpectation (s : State) (line : Nat) : Option Int → State
  | some d => askBwuStatus (s.setBwu (s.bwu.expect (cfg s) s.re.clock line d)) true
  | none => s

/-- The bag status of a new line (R96). -/
def newBagStatus (mode : SaleMode) (delta : Option Int) : BagStatus :=
  if mode = .self then (if delta.isSome then .pending else .exempt) else .none

def maxLineAmount : Nat := 9999999
def maxSubtotal : Nat := 99999999

/-- The expected delta of an ITEM line: only in a SELF sale with a unit weight (R101). -/
def itemDelta (s : State) : Option Nat :=
  if s.su.header.mode = .self then (recUnitWeight s.re.record).map (· * recQuantity s.re.record) else none

/-- The checks of R100 and R101 in order. -/
def itemAddCheck (s : State) : Option ResultCode :=
  let r := s.re.record
  let amount := recQuantity r * recUnitPrice r
  if !s.su.admitsItems then some .wrongState
  else if s.su.header.bagHold then some .held
  else if !(inRange (recQuantity r) 1 999 && decide (recUnitPrice r ≤ 999999)
      && (match recUnitWeight r with | some w => inRange w 1 30000 | none => true)) then some .badParam
  else if (match itemDelta s with | some d => decide ((cfg s).bagCapacity < d) | none => false) then some .badParam
  else if 96 ≤ s.su.entriesUsed then some .tableFull
  else if !(decide (amount ≤ maxLineAmount) && decide (s.su.subtotal + amount ≤ maxSubtotal)) then some .limit
  else none

/-- The line ITEM_ADD adds (R101). -/
def itemLine (s : State) : SaleLine :=
  let r := s.re.record
  let delta := (itemDelta s).map fun d => (d : Int)
  { live := true, kind := .item, code := recItemCode r, quantity := recQuantity r, weight := 0, price := recUnitPrice r
    amount := recQuantity r * recUnitPrice r, delta := delta, captureId := 0, stamp := s.re.clock
    bag := newBagStatus s.su.header.mode delta }

/-- R101. -/
def itemAdded (s : State) : State :=
  let l := itemLine s
  let n := s.su.entriesUsed + 1
  let new := s.su.itemsChanged (s.su.lines ++ [l])
  finishRequest (suWrite (handExpectation s n l.delta) new (saleWords s.su new (some n) none) [] true)
    .done (BitVec.ofNat 32 n) (BitVec.ofNat 32 l.amount)

def itemAdd (s : State) : State :=
  match itemAddCheck s with
  | some r => suFail s r
  | none => itemAdded s

def execItemAdd (s : State) : Host.Outcome State Fault Refusal :=
  stepIf s (suTakes s .itemAdd && bagReady s) (itemAdd s)

/-- The checks of R100 and R103 before the consume claim. -/
def itemWeighCheck (s : State) : Option ResultCode :=
  if !s.su.admitsItems then some .wrongState
  else if s.su.header.bagHold then some .held
  else if !inRange (recKiloPrice s.re.record) 1 999999 then some .badParam
  else if !platterUp s then some .linkDown
  else if 96 ≤ s.su.entriesUsed then some .tableFull
  else none

/-- The largest net weight the SU can charge (R103). -/
def largestNet (s : State) : Nat :=
  let a := min maxLineAmount (maxSubtotal - s.su.subtotal)
  let n := (1000 * a + 499) / recKiloPrice s.re.record
  if s.su.header.mode = .self then min n (cfg s).bagCapacity else n

/-- The line ITEM_WEIGH adds (R104), with the lane clock at which the SU took the request (R29). -/
def weighedLine (s : State) (c : Capture) (stamp : Word) : SaleLine :=
  let r := s.re.record
  let delta := if s.su.header.mode = .self then some c.net else none
  { live := true, kind := .weighed, code := recItemCode r, quantity := 1, weight := c.net.toNat, price := recKiloPrice r
    amount := (c.net.toNat * recKiloPrice r + 500) / 1000, delta := delta, captureId := c.id, stamp := stamp
    bag := newBagStatus s.su.header.mode delta }

/-- The checks have passed: the SU makes the consume claim and waits for the PWU's answer, its event going on (R91, R103). The
request keeps its place at the front of the list, so the SU takes nothing else. -/
def claimConsume (s : State) : State :=
  s.setSu { s.su with
    claim := some
      { capture := recCaptureId s.re.record, largest := largestNet s, line := s.su.entriesUsed + 1
        stamp := s.re.clock } }

/-- The PWU answers with the capture in `slot`: its window comes before the SU's (R104). -/
def itemWeighed (s : State) (a : ConsumeClaim) (slot : Nat) : State :=
  let l := weighedLine s (s.pwu.entry slot) a.stamp
  let new := { s.su.itemsChanged (s.su.lines ++ [l]) with claim := none }
  let t := askPwuLive s (s.setPwu (s.pwu.consume (cfg s) s.re.clock slot a.line)) [.captureTable, .statusPage]
    [.pwu, .captureEntry slot] [.suWrite] true
  finishRequest (suDecide (handExpectation t a.line l.delta) new (saleWords s.su new (some a.line) none) [] true)
    .done (BitVec.ofNat 32 a.line) (l.captureId.setWidth 32)

/-- A refusal by the PWU: detail 2 is the named id, or 0 (R103, R27). -/
def weighRefused (s : State) (a : ConsumeClaim) (r : ResultCode) : State :=
  finishRequest (s.setSu { s.su with inbox := s.su.inbox.tail, claim := none }) r 0 ((a.capture.getD 0).setWidth 32)

/-- The PWU takes the consume claim, against its state now, and the SU goes on with the answer (R83, R103). -/
def consumeAnswered (s : State) (a : ConsumeClaim) : State :=
  match s.pwu.answerConsume a.capture a.largest with
  | .noCapture => weighRefused s a .noCapture
  | .staleCapture => weighRefused s a .staleCapture
  | .limit => weighRefused s a .limit
  | .found slot => itemWeighed s a slot

/-- ITEM_WEIGH is taken twice: the checks with the ask of the link, and the consume claim, between which the PWU may take
events of its own (R103; log 7). -/
def itemWeigh (s : State) : State :=
  match s.su.claim with
  | some a => consumeAnswered s a
  | none =>
      match itemWeighCheck s with
      | some r => suFail s r
      | none => claimConsume s

def execItemWeigh (s : State) : Host.Outcome State Fault Refusal :=
  stepIf s (suTakes s .itemWeigh && bagReady s) (itemWeigh s)

/-- The BWU's part in a void and the status after it (R105). -/
def voidBag (s : State) (n : Nat) (l : SaleLine) : Bwu × BagStatus :=
  let removed := fun (b : Bwu) => b.expect (cfg s) s.re.clock n (-(l.delta.getD 0))
  if l.bag = .pending then
    let w := s.bwu.withdraw n
    if w.2 then (w.1, .exempt) else (removed w.1, .removalPending)
  else if l.bag = .bagged then (removed s.bwu, .removalPending)
  else (s.bwu, l.bag)

/-- R105. -/
def lineVoided (s : State) (n : Nat) (l : SaleLine) : State :=
  let b := voidBag s n l
  let new := s.su.itemsChanged (s.su.lines.set (n - 1) { l with live := false, bag := b.2 })
  let t := if b.1 = s.bwu then s else askBwuStatus (s.setBwu b.1) true
  finishRequest (suWrite t new (saleWords s.su new (some n) none) [] true)
    .done (BitVec.ofNat 32 n) (BitVec.ofNat 32 new.subtotal)

def lineVoid (s : State) : State :=
  if !s.su.admitsItems then suFail s .wrongState
  else
    let n := recLineNumber s.re.record
    match (if n = 0 then none else s.su.lines[n - 1]?) with
    | some l => if l.live then lineVoided s n l else suFail s .badParam
    | none => suFail s .badParam

def execLineVoid (s : State) : Host.Outcome State Fault Refusal :=
  stepIf s (suTakes s .lineVoid && bagReady s) (lineVoid s)

/-! ### Claims (R91, R107, R121) -/

def execBagSettlementClaim (s : State) : Host.Outcome State Fault Refusal :=
  match suFront s with
  | some (.settlement named baseline) =>
      stepIf s true (suBagClaim (suPop s) ((suPop s).su.settlement named baseline) false)
  | _ => .next s

def execBagHoldClaim (s : State) : Host.Outcome State Fault Refusal :=
  match suFront s with
  | some (.holdSet reason) => stepIf s true (suBagClaim (suPop s) ((suPop s).su.holdSet reason) false)
  | _ => .next s

def execBagClearClaim (s : State) : Host.Outcome State Fault Refusal :=
  match suFront s with
  | some (.holdClear reason baseline named) =>
      stepIf s true (suBagClaim (suPop s) ((suPop s).su.holdClear reason baseline named) false)
  | _ => .next s

def execTenderClaim (s : State) : Host.Outcome State Fault Refusal :=
  match suFront s with
  | some (.tender move ofRequest) => stepIf s true (suMoveTender (suPop s) move ofRequest)
  | _ => .next s

end Sys2Proof.Machine
end

