-- ==== Sys2Proof/Machine/Card.lean ====
section
/-! DEFINITION. The Card Tender Unit (08): the send list (R128), the card session (R125), asking, cancelling, expiries and the
link (R126-R133), results (R129, R134, R136) and the attendant's verdict (R135). -/

namespace Sys2Proof.Machine

/-! ### The send list (R128) -/

/-- Frames are offered oldest first until one is not taken. -/
def offerCard (s : State) : List (Byte × List Byte) → State
  | [] => s.setCtu { s.ctu with sendList := [] }
  | f :: rest =>
      if linkTakes s .card then offerCard (linkSend s .card f.1 f.2) rest
      else s.setCtu { s.ctu with sendList := f :: rest }

/-- The card link has left UP and the CTU has yet to take that change from the ordered path (R63). -/
def cardLeft (s : State) : Bool :=
  (s.link .card).path.any fun x => match x with
    | .change old _ => decide (old = .up)
    | .frame _ _ _ => false

/-- The frames that wait are offered, but not while the link has left UP without the CTU having been told: it will empty the
list then, and the frames made for that link are never sent (R128). -/
def cardOffers (s : State) : State := if cardLeft s then s else offerCard s s.ctu.sendList

/-- A frame the CTU has made joins the list, and the oldest is offered; a frame that is alone on the list meets the link as it
stands (R63, R64). -/
def cardSend (s : State) (kind : Byte) (payload : List Byte) : State :=
  if s.ctu.sendList.isEmpty then offerCard s [(kind, payload)]
  else cardOffers (s.setCtu { s.ctu with sendList := s.ctu.sendList ++ [(kind, payload)] })

/-- The link's notice that a frame has been sent reaches the CTU. It is taken at once; behind a request, or an event that one has
held, it keeps its place among the events that wait (R24, R128). -/
def cardNotice (s : State) : State :=
  if unitBusy s .ctu || unitHolds s .ctu then (arrive s .ctu .sent).setCtu { s.ctu with notices := s.ctu.notices + 1 }
  else cardOffers s

/-- The oldest notice is taken, and the next after it, while nothing held stands before it. -/
def takeCardNotices : Nat → State → State
  | 0, s => s
  | n + 1, s =>
      if unitTakes s .ctu .sent then
        takeCardNotices n (cardOffers (s.setCtu { s.ctu with notices := s.ctu.notices - 1 }))
      else s

/-- The notices whose turn has come are taken, in the step that lets them come (R24; log 44): no command stands for them. -/
def cardNotices (s : State) : State := takeCardNotices s.ctu.notices s

def amountReqPayload (s : State) (reference : Half) (amount : Nat) : List Byte :=
  le2 reference ++ le2 (s.re.laneNumber.getD 0) ++ nat4 amount ++ le4 s.su.header.number

/-! ### The card session (R125) -/

/-- The kind and payload of the frame the CTU takes next. -/
def cardFrame (s : State) : Option (Byte × List Byte) :=
  if unitTakes s .ctu .link then (frontFrame s .card).map fun f => (f.1, f.2.1) else none

/-- The session record is written when a field has changed. -/
def askCardIfChanged (s : State) (old : Ctu) : State := if s.ctu = old then s else askCardSession s false

def cardInTaken (s : State) (p : List Byte) : State :=
  let t := (popPath s .card).setCtu { s.ctu with
    present := true, scheme := payHalf p 0, entryMethod := payByte p 2, lastFour := payBytes p 3 4 }
  askCardIfChanged (raise t .cardChange 0) s.ctu

def execCardIn (s : State) : Host.Outcome State Fault Refusal :=
  match cardFrame s with
  | some (kind, p) => stepIf s (decide (kind = kCardIn)) (cardNotices (cardInTaken s p))
  | none => .next s

def cardOutTaken (s : State) : State :=
  if s.ctu.present then
    askCardSession
      (raise ((popPath s .card).setCtu { s.ctu with present := false, scheme := 0, entryMethod := 0, lastFour := zeros 4 })
        .cardChange 0)
      false
  else popPath s .card

def execCardOut (s : State) : Host.Outcome State Fault Refusal :=
  match cardFrame s with
  | some (kind, _) => stepIf s (decide (kind = kCardOut)) (cardNotices (cardOutTaken s))
  | none => .next s

def moduleStatusTaken (s : State) (p : List Byte) : State :=
  askCardIfChanged ((popPath s .card).setCtu { s.ctu with module := moduleOf p }) s.ctu

def execModuleStatus (s : State) : Host.Outcome State Fault Refusal :=
  match cardFrame s with
  | some (kind, p) => stepIf s (decide (kind = kModuleStatus)) (cardNotices (moduleStatusTaken s p))
  | none => .next s

/-! ### Asking for an amount (R126, R127) -/

/-- The checks of R126 in order; `amount` is the tender amount. -/
def cardTenderCheck (s : State) (amount : Nat) : Option ResultCode :=
  let u := s.su
  if !(u.header.state = .opened || u.header.state = .tendering) then some .wrongState
  else if u.header.bagHold || u.tenderHold then some .held
  else if !s.ctu.linkUp then some .linkDown
  else if s.ctu.out.isSome then some .busy
  else if 8 ≤ u.tenders.length then some .tableFull
  else if u.balance = 0 then some .wrongState
  else if !inRange amount 1 u.balance then some .badParam
  else none

/-- The given amount, or the whole balance due. -/
def cardTenderAmount (s : State) : Nat := (recCardAmount s.re.record).getD s.su.balance

/-- The creating claim (R127); the CTU goes on when the SU has written the entry. -/
def cardTendered (s : State) (amount : Nat) : State :=
  let t := s.su.tenders.length
  let new := s.su.create .card .requested amount 0 0 s.ctu.refCounter s.re.clock
  finishRequest (suWrite s new (saleWords s.su new none (some t)) [.cardAsk t amount] true)
    .done (BitVec.ofNat 32 t) (BitVec.ofNat 32 amount)

def cardTender (s : State) : State :=
  match cardTenderCheck s (cardTenderAmount s) with
  | some r => failRequest s r
  | none => cardTendered s (cardTenderAmount s)

def execCardTender (s : State) : Host.Outcome State Fault Refusal :=
  stepIf s (awaits s .cardTender && saleReady s) (cardTender s)

/-- The CTU after its creating claim was taken: the counter, the outstanding tender, the AMOUNT_REQ, the timer, the record. -/
def cardAsks (s : State) (index amount : Nat) : State :=
  let reference := s.ctu.refCounter
  let t := s.setCtu { s.ctu with
    refCounter := nextNonzero reference
    out := some { index := index, reference := reference, amount := amount, state := .requested }
    queryAsked := false }
  let u := cardSend t kAmountReq (amountReqPayload t reference amount)
  askCardSession (u.setCtu { u.ctu with cardWait := startTimer u ((cfg u).cardWait * 1000) }) true

/-! ### Cancelling and not knowing (R130-R133) -/

/-- A claim that only changes the state of the outstanding tender; it carries no module result, so the entry method and the
digits are 0 (log 38). -/
def stateMove (o : OutTender) (st : TenderState) : TenderMove where
  index := o.index
  state := st
  amount := 0
  entryMethod := 0
  lastFour := zeros 4
  code := zeros 6
  byKey := false

/-- CANCEL_REQ, the timers, the claim, the record (R130, R131). -/
def cancelTender (s : State) (o : OutTender) (ofRequest : Bool) : State :=
  let t := cardSend s kCancelReq (le2 o.reference)
  let u := t.setCtu { t.ctu with
    cardWait := none, cancelWait := startTimer t ((cfg t).cancelWait * 1000)
    out := some { o with state := .cancelling } }
  askCardSession (suSend u (.tender (stateMove o .cancelling) ofRequest)) ofRequest

/-- The outstanding tender in a given state. -/
def outIn (s : State) (st : TenderState) : Option OutTender :=
  match s.ctu.out with
  | some o => if o.state = st then some o else none
  | none => none

/-- R130. -/
def cardCancel (s : State) : State :=
  match outIn s .requested with
  | some o => finishRequest (cancelTender s o true) .done (BitVec.ofNat 32 o.index) 0
  | none => failRequest s .wrongState

/-- CARD_CANCEL asks the SU (R108), and comes when the SU can take the ask (log 8). -/
def execCardCancel (s : State) : Host.Outcome State Fault Refusal :=
  stepIf s (awaits s .cardCancel && saleReady s) (cardCancel s)

/-- R131. -/
def cardWaitExpired (s : State) : State :=
  match outIn s .requested with
  | some o => cancelTender s o false
  | none => s.setCtu { s.ctu with cardWait := none }

def execCardWaitExpiry (s : State) : Host.Outcome State Fault Refusal :=
  stepIf s (timerDue s s.ctu.cardWait && unitTakes s .ctu (.timer .cardWait)) (cardNotices (cardWaitExpired s))

/-- The tender becomes UNRESOLVED: timers, claim, TENDER_OUTCOME (R132, R133). -/
def unresolve (s : State) (o : OutTender) : State :=
  let t := s.setCtu { s.ctu with
    cardWait := none, cancelWait := none, out := some { o with state := .unresolved }
    lastOutcome := { state := .unresolved, applied := 0, reference := o.reference } }
  raise (suSend t (.tender (stateMove o .unresolved) false)) .tenderOutcome o.index

/-- STATUS_QUERY and the query-asked flag (R132, R133). -/
def queryTender (s : State) (o : OutTender) : State :=
  let t := cardSend s kStatusQuery (le2 o.reference)
  t.setCtu { t.ctu with queryAsked := true }

/-- R132. -/
def cancelWaitExpired (s : State) : State :=
  match outIn s .cancelling with
  | some o => askCardSession (queryTender (unresolve s o) o) false
  | none => s.setCtu { s.ctu with cancelWait := none }

def execCancelWaitExpiry (s : State) : Host.Outcome State Fault Refusal :=
  stepIf s (timerDue s s.ctu.cancelWait && unitTakes s .ctu (.timer .cancelWait)) (cardNotices (cancelWaitExpired s))

/-- R133, the link has gone DOWN. -/
def cardLinkDown (s : State) : State :=
  let t := s.setCtu { s.ctu with linkUp := false, sendList := [], module := .none }
  match t.ctu.out with
  | some o =>
      if o.state = .unresolved then askCardSession (t.setCtu { t.ctu with queryAsked := false }) false
      else askCardSession (unresolve t o) false
  | none => askCardSession t false

/-- R133, the link has come back UP. -/
def cardLinkBack (s : State) : State :=
  let t := s.setCtu { s.ctu with linkUp := true }
  match outIn t .unresolved with
  | some o => if t.ctu.queryAsked then t else askCardSession (queryTender t o) false
  | none => t

/-- R133. Changes up to the link's going QUIET change nothing: the CTU has been reset. -/
def cardLinkChange (s : State) (old new : LinkState) : State :=
  let t := popPath s .card
  if wentQuiet s .card then t else if new = .up then cardLinkBack t else if old = .up then cardLinkDown t else t

def execCardLinkChange (s : State) : Host.Outcome State Fault Refusal :=
  match frontChange s .card with
  | some (old, new) => stepIf s (unitTakes s .ctu .link) (cardNotices (cardLinkChange s old new))
  | none => .next s

/-! ### Results (R129, R134, R136) -/

/-- What the module said, once a value that names no outcome has been put aside. -/
inductive CardOutcome where
  | approved | declined | cancelled
  deriving DecidableEq, Repr

def CardOutcome.code : CardOutcome → Nat
  | .approved => 1 | .declined => 2 | .cancelled => 3

/-- The outcome of an AUTH_RESULT; none names no outcome (R129). -/
def cardOutcome (p : List Byte) : Option CardOutcome :=
  if payByte p 2 = 1 then some .approved else if payByte p 2 = 2 then some .declined
  else if payByte p 2 = 3 then some .cancelled else none

def approvedAmount (p : List Byte) : Nat := (payWord p 3).toNat

/-- The tender's state by the outcome: an approved amount outside 1 to the requested amount declines (R129). -/
def resultState (o : CardOutcome) (a requested : Nat) : TenderState :=
  match o with
  | .approved => if inRange a 1 requested then .approved else .declined
  | .declined => .declined
  | .cancelled => .cancelled

/-- The counters: late for a late result, stray for an approved amount out of range (R129, R134). -/
def countLate (u : Ctu) : Ctu := { u with late := sat u.late }
def countStray (u : Ctu) : Ctu := { u with stray := sat u.stray }

/-- A result ends the conversation: the timers, the claim, TENDER_OUTCOME, the record (R129, R134). -/
def finishTender (s : State) (o : OutTender) (st : TenderState) (a : Nat) (code : List Byte) : State :=
  let applied := if st = .approved then a else 0
  let t := s.setCtu { s.ctu with
    cardWait := none, cancelWait := none, out := none, queryAsked := false
    lastOutcome := { state := st, applied := applied, reference := o.reference } }
  let move : TenderMove :=
    { index := o.index, state := st, amount := applied, entryMethod := s.ctu.entryMethod, lastFour := s.ctu.lastFour
      code := if st = .approved then code else zeros 6, byKey := false }
  askCardSession (raise (suSend t (.tender move false)) .tenderOutcome o.index) false

/-- An AUTH_RESULT for the outstanding tender. -/
def authForOut (s : State) (o : OutTender) (p : List Byte) : State :=
  match cardOutcome p with
  | none => askCardSession (s.setCtu (countStray s.ctu)) false
  | some x =>
      let a := approvedAmount p
      let st := resultState x a o.amount
      let t := if o.state = .unresolved then s.setCtu (countLate s.ctu) else s
      let u := if x = .approved && st = .declined then t.setCtu (countStray t.ctu) else t
      finishTender u o st a (payBytes p 7 6)

/-- The verdict list's entry of a reference (R136); of two with one reference, the older (log 21). -/
def verdictOf (s : State) (reference : Half) : Option VerdictEntry :=
  s.ctu.verdicts.find? fun v => decide (v.reference = reference)

/-- A result disagrees with the verdict (R136). -/
def disagrees (v : VerdictEntry) (x : CardOutcome) (a : Nat) : Bool :=
  match v.verdict with
  | .approved => decide (x ≠ .approved) || decide (a ≠ v.amount)
  | .declined => decide (x = .approved)

/-- A late result for a tender settled by verdict: late, and a conflict if it disagrees (R136). -/
def judgeVerdict (s : State) (v : VerdictEntry) (x : CardOutcome) (a : Nat) (shown : Word) : State :=
  let t := s.setCtu (countLate s.ctu)
  if disagrees v x a then
    askCardSession
      (raise
        (t.setCtu { t.ctu with
          conflicts := sat t.ctu.conflicts
          conflict := some { verdict := v.verdict, outcome := x.code, amount := shown, reference := v.reference } })
        .tenderConflict v.index)
      false
  else askCardSession t false

/-- A result for no outstanding tender (R136); `x` none: its outcome names no outcome. The session record is written also where a
counter stays at 65,535 (log 43). -/
def resultForNone (s : State) (reference : Half) (x : Option (CardOutcome × Nat × Word)) : State :=
  match verdictOf s reference with
  | none => askCardSession (s.setCtu (countStray s.ctu)) false
  | some v =>
      match x with
      | none => askCardSession (s.setCtu (countLate s.ctu)) false
      | some (o, a, shown) =>
          let o' := if o = .approved && !inRange a 1 v.amount then .declined else o
          judgeVerdict s v o' a shown

/-- The outstanding tender with a reference. -/
def outWith (s : State) (reference : Half) : Option OutTender :=
  match s.ctu.out with
  | some o => if o.reference = reference then some o else none
  | none => none

def authResult (s : State) (p : List Byte) : State :=
  let t := popPath s .card
  match outWith t (payHalf p 0) with
  | some o => authForOut t o p
  | none =>
      resultForNone t (payHalf p 0)
        ((cardOutcome p).map fun x => (x, approvedAmount p, BitVec.ofNat 32 (approvedAmount p)))

def execAuthResult (s : State) : Host.Outcome State Fault Refusal :=
  match cardFrame s with
  | some (kind, p) => stepIf s (decide (kind = kAuthResult)) (cardNotices (authResult s p))
  | none => .next s

/-- NO_RECORD counts as DECLINED; the amount it would record for a conflict is a free value (log 14, log 21). -/
def noRecord (s : State) (p : List Byte) : State :=
  let t := popPath s .card
  match outWith t (payHalf p 0) with
  | some o =>
      if o.state = .unresolved then finishTender (t.setCtu (countLate t.ctu)) o .declined 0 (zeros 6)
      else askCardSession (t.setCtu (countStray t.ctu)) false
  | none =>
      let u := t.setFree (t.free + 1)
      resultForNone u (payHalf p 0) (some (.declined, 0, Config.noRecordAmount t.free))

def execNoRecord (s : State) : Host.Outcome State Fault Refusal :=
  match cardFrame s with
  | some (kind, p) => stepIf s (decide (kind = kNoRecord)) (cardNotices (noRecord s p))
  | none => .next s

/-! ### The attendant's verdict (R135) -/

/-- The oldest entry leaves a full list. -/
def addVerdict (vs : List VerdictEntry) (v : VerdictEntry) : List VerdictEntry :=
  (if 8 ≤ vs.length then vs.tail else vs) ++ [v]

/-- The verdict makes the tender final, at the CTU and, as its claim, at the SU (log 8). No result was applied, so the entry
method and the digits it writes are 0 (log 38). -/
def verdictGiven (s : State) (o : OutTender) (v : Verdict) : State :=
  let st : TenderState := if v = .approved then .approved else .declined
  let amount := if v = .approved then o.amount else 0
  let applied := min amount s.su.balance
  let move : TenderMove := { stateMove o st with amount := amount, byKey := true }
  let t := suMoveTender s move true
  let u := t.setCtu { t.ctu with
    out := none, queryAsked := false
    verdicts := addVerdict t.ctu.verdicts { reference := o.reference, index := o.index, verdict := v, amount := o.amount }
    lastOutcome := { state := st, applied := amount, reference := o.reference } }
  finishRequest (askCardSession (raise u .tenderOutcome o.index) true)
    .done (BitVec.ofNat 32 o.index) (BitVec.ofNat 32 applied)

/-- R135. -/
def tenderVerdict (s : State) : State :=
  let i := recTenderIndex s.re.record
  match (if 7 < i then none else recVerdict s.re.record) with
  | none => failRequest s .badParam
  | some v =>
      if !s.tu.key then failRequest s .needKey
      else match outIn s .unresolved with
        | some o => if o.index = i then verdictGiven s o v else failRequest s .wrongState
        | none => failRequest s .wrongState

def execTenderVerdict (s : State) : Host.Outcome State Fault Refusal :=
  stepIf s (awaits s .tenderVerdict && saleReady s) (tenderVerdict s)

end Sys2Proof.Machine
end

