-- ==== Sys2Proof/Machine/Till.lean ====
section
/-! DEFINITION. The Till Unit (09): the filters of the two inputs and the millisecond tick (R139, R29), the kick (R141), the
drawer (R143-R145), CASH_TENDER (R146, R147) and DRAWER_NOSALE (R148); and the journal entries the Journal Unit builds (R168,
R169, R173). -/

namespace Sys2Proof.Machine

/-! ### The filters (R139) -/

/-- The raw level changes: away from the debounced reading it starts the count, back to it it drops it. -/
def Filter.rawChange (f : Filter) (level : Bool) : Filter :=
  if level = f.raw then f
  else { f with raw := level, count := if level = f.level then none else some 0 }

/-- One millisecond; at the twentieth the debounced reading changes. -/
def Filter.tick (f : Filter) : Filter :=
  match f.count with
  | none => f
  | some n => if 19 ≤ n then { f with level := f.raw, count := none } else { f with count := some (n + 1) }

/-- The debounced edge of a tick, if it made one. -/
def Filter.edge (f : Filter) (input : InputId) : List Edge :=
  if f.tick.level = f.level then [] else [{ input := input, level := f.tick.level }]

/-- What a millisecond brings the units: the timers it makes due, and then the edges it makes (R24, R29, R139; log 44). -/
def tickArrivals (s : State) (clock : Word) : List (BlockId × UnitEvent) :=
  (UnitTimer.all.filter fun t => !timerDue s (t.of s) && timerDue (s.setRe { s.re with clock := clock }) (t.of s)).map
      (fun t => (t.owner, .timer t))
    ++ (s.tu.senseFilter.edge .sense ++ s.tu.keyFilter.edge .key).map fun _ => (.tu, .edge)

/-- One millisecond: the lane clock advances while READY (R29), and both filters count in both device states (R139, log 9). Of
two edges of one millisecond the sensor's comes first (log 40). -/
def laneClockTick (s : State) : State :=
  let clock := if s.re.device = .ready then s.re.clock + 1 else s.re.clock
  ((arriveAll s (tickArrivals s clock)).setRe { s.re with clock := clock }).setTu { s.tu with
    senseFilter := s.tu.senseFilter.tick, keyFilter := s.tu.keyFilter.tick
    edges := s.tu.edges ++ s.tu.senseFilter.edge .sense ++ s.tu.keyFilter.edge .key }

def execLaneClockTick (s : State) : Host.Outcome State Fault Refusal := stepIf s true (laneClockTick s)

/-- A pin changes; while RESET_N is low the filters do not count. -/
def rawLevelChange (s : State) (input : InputId) (level : Bool) : State :=
  let change := fun (f : Filter) => if s.bi.inReset then { f with raw := level } else f.rawChange level
  match input with
  | .sense => s.setTu { s.tu with senseFilter := change s.tu.senseFilter }
  | .key => s.setTu { s.tu with keyFilter := change s.tu.keyFilter }

def execRawLevelChange (input : InputId) (level : Bool) (s : State) : Host.Outcome State Fault Refusal :=
  .next (rawLevelChange s input level)

/-! ### The kick (R141) -/

/-- The pulse of an attempt. -/
def startPulse (s : State) (u : Tu) : Tu :=
  { u with solenoid := true, width := startTimer s (cfg s).kickWidth, confirm := startTimer s (cfg s).kickConfirm }

/-- A kick begins from SHUT, and from no other state (R141, R142). -/
def beginKick (s : State) (cause : KickCause) (ofRequest : Bool) : State :=
  if s.tu.drawer = .shut then
    askTuStatus (s.setTu (startPulse s { s.tu with drawer := .kicking, cause := cause, attempts := 1 })) ofRequest
  else s

/-- The pulse ends (R141). -/
def kickWidthExpired (s : State) : State := s.setTu { s.tu with solenoid := false, width := none }

def execKickWidthExpiry (s : State) : Host.Outcome State Fault Refusal :=
  stepIf s (timerDue s s.tu.width && unitTakes s .tu (.timer .kickWidth)) (kickWidthExpired s)

/-- The second attempt, or FAULT (R141). -/
def kickConfirmExpired (s : State) : State :=
  if s.tu.attempts = 1 then askTuStatus (s.setTu (startPulse s { s.tu with attempts := 2 })) false
  else
    askTuStatus (raise (s.setTu { s.tu with drawer := .fault, confirm := none, solenoid := false }) .drawerFault 0) false

/-- The pulse always ends before the confirm time (R141). -/
def execKickConfirmExpiry (s : State) : Host.Outcome State Fault Refusal :=
  stepIf s
    (decide (s.tu.drawer = .kicking) && timerDue s s.tu.confirm && s.tu.width.isNone
      && unitTakes s .tu (.timer .kickConfirm))
    (kickConfirmExpired s)

/-! ### The drawer (R143-R145) -/

/-- The TU writes its Status Page fields: always when READY; while UNCONFIGURED not before the first move to READY (R151). -/
def askTuEvent (s : State) : State :=
  if s.re.device = .ready || s.re.laneNumber.isSome then askTuStatus s false else s

/-- On entering OPEN (R144). -/
def enterOpen (s : State) (forced : Bool) : State :=
  raise
    (s.setTu { s.tu with
      drawer := .opened, forced := forced, width := none, confirm := none, solenoid := false, openStamp := s.re.clock
      limitTimer := startTimer s ((cfg s).drawerLimit * 1000) })
    .drawerOpened 0

/-- A forced opening: the count, the tell to the Journal Unit, DRAWER_FORCED, then OPEN (R143). -/
def forcedOpening (s : State) : State :=
  let t := (s.setTu { s.tu with forcedCount := sat s.tu.forcedCount }).setJu { s.ju with tells := s.ju.tells + 1 }
  -- DRAWER_FORCED is raised once the state is OPEN with the flag set, and before DRAWER_OPENED
  enterOpen (raise (t.setTu { t.tu with drawer := .opened, forced := true }) .drawerForced 0) true

/-- The drawer is SHUT (R144). -/
def drawerShut (s : State) : State :=
  raise (s.setTu { s.tu with drawer := .shut, forced := false, limitTimer := none, closeStamp := s.re.clock }) .drawerShut 0

/-- What a sensor edge does to the drawer when READY. -/
def sensorReady (s : State) (level : Bool) : State :=
  if level then
    (match s.tu.drawer with
      | .kicking => enterOpen s false
      | .shut => forcedOpening s
      | .fault => forcedOpening s
      | .opened => s)
  else if s.tu.drawer = .opened then drawerShut s else s

/-- While UNCONFIGURED the TU only follows the sensor (R143); the stamps of the latest opening and closing stay (log 40). -/
def followSensor (s : State) (level : Bool) : State :=
  s.setTu { s.tu with drawer := if level then .opened else .shut }

/-- The edge is stamped with the lane clock as the TU takes it (R29, R139). -/
def sensorEdge (s : State) (e : Edge) : State :=
  let t := s.setTu { s.tu with edges := s.tu.edges.tail, sensor := e.level, sensorStamp := s.re.clock }
  askTuEvent (if t.re.device = .ready then sensorReady t e.level else followSensor t e.level)

/-- The edge the TU takes next, of one input. -/
def nextEdge (s : State) (input : InputId) : Option Edge :=
  if unitTakes s .tu .edge then
    (match s.tu.edges with
      | e :: _ => if e.input = input then some e else none
      | [] => none)
  else none

def execSensorEdge (s : State) : Host.Outcome State Fault Refusal :=
  match nextEdge s .sense with
  | some e => stepIf s true (sensorEdge s e)
  | none => .next s

/-- A key edge; OFF to ON acknowledges a FAULT (R145). -/
def keyEdge (s : State) (e : Edge) : State :=
  let drawer := if e.level && decide (s.tu.drawer = .fault) then DrawerState.shut else s.tu.drawer
  askTuEvent
    (s.setTu { s.tu with edges := s.tu.edges.tail, key := e.level, keyStamp := s.re.clock, drawer := drawer })

def execKeyEdge (s : State) : Host.Outcome State Fault Refusal :=
  match nextEdge s .key with
  | some e => stepIf s true (keyEdge s e)
  | none => .next s

/-- DRAWER_LONG, once for each opening (R144). -/
def drawerLimitExpired (s : State) : State := raise (s.setTu { s.tu with limitTimer := none }) .drawerLong 0

def execDrawerLimitExpiry (s : State) : Host.Outcome State Fault Refusal :=
  stepIf s (decide (s.tu.drawer = .opened) && timerDue s s.tu.limitTimer && unitTakes s .tu (.timer .drawerLimit)) (drawerLimitExpired s)

/-- The Journal Unit takes one tell of a forced opening (R168). -/
def forcedOpeningTold (s : State) : State :=
  s.setJu { s.ju with tells := s.ju.tells - 1, forcedCarry := sat s.ju.forcedCarry }

def execForcedOpeningTell (s : State) : Host.Outcome State Fault Refusal :=
  stepIf s (decide (0 < s.ju.tells)) (forcedOpeningTold s)

/-! ### CASH_TENDER (R146, R147) -/

/-- The checks of R146 in order. -/
def cashTenderCheck (s : State) : Option ResultCode :=
  let u := s.su
  if !inRange (recCashAmount s.re.record) 1 99999999 then some .badParam
  else if !(u.header.state = .opened || u.header.state = .tendering) then some .wrongState
  else if u.header.bagHold || u.tenderHold then some .held
  else if u.cardInProgress then some .busy
  else if 8 ≤ u.tenders.length then some .tableFull
  else if u.balance = 0 then some .wrongState
  else if s.tu.drawer = .fault then some .drawerFault
  else if decide (u.header.mode = .self) && !s.tu.key then some .needKey
  else none

/-- R147: the kick begins when the SU's window has closed (log 25). -/
def cashTendered (s : State) : State :=
  let amount := recCashAmount s.re.record
  let t := s.su.tenders.length
  let new := s.su.create .cash .taken amount amount amount 0 s.re.clock
  finishRequest (suWrite s new (saleWords s.su new none (some t)) [.kick .cash] true)
    .done (BitVec.ofNat 32 t) (BitVec.ofNat 32 (min amount s.su.balance))

def cashTender (s : State) : State :=
  match cashTenderCheck s with
  | some r => failRequest s r
  | none => cashTendered s

def execCashTender (s : State) : Host.Outcome State Fault Refusal :=
  stepIf s (awaits s .cashTender && saleReady s) (cashTender s)

/-! ### Journal entries (R168, R169) -/

/-- The entry with its check code. -/
def JournalEntry.checked (e : JournalEntry) : JournalEntry := { e with check := journalCheck e }

/-- The words of an entry at its slot, with the head that follows it and the export copy (R167). -/
def journalEntryWords (s : State) (e : JournalEntry) (incomplete : Bool) : List (Nat × Word) :=
  wordsAt (Config.journalOff + e.number.toNat % 2048 * 64) (journalWords e incomplete)
    ++ [(0x2024, e.number + 1), (0x2028, s.bi.journalExport)]

/-- The NOSALE entry (R169, R173): the no-sale carry counts this no-sale. -/
def nosaleEntry (s : State) : JournalEntry :=
  JournalEntry.checked
    { number := s.ju.head, kind := .nosale, mode := .none, lane := s.re.laneNumber.getD 0, sale := 0
      openStamp := s.re.clock, endStamp := s.re.clock, live := 0, voided := 0, subtotal := 0, card := 0, cash := 0
      change := 0, overrides := 0, forced := s.ju.forcedCarry, nosales := s.ju.nosaleCarry + 1, byKey := false, check := 0 }

/-- The Journal Unit writes a NOSALE entry within the request (R173). -/
def writeNosale (s : State) : State :=
  let e := nosaleEntry s
  askFixed (s.setJu { s.ju with nosaleCarry := s.ju.nosaleCarry + 1, forcedCarry := 0 }) .ju [.journal, .statusPage]
    (journalEntryWords s e false) [.headAdvance] true

/-! ### DRAWER_NOSALE (R148) -/

/-- The checks of R148 in order. -/
def drawerNosaleCheck (s : State) : Option ResultCode :=
  if s.su.header.state ≠ .idle then some .wrongState
  else if !s.tu.key then some .needKey
  else if s.tu.drawer = .fault then some .drawerFault
  else if s.tu.drawer ≠ .shut then some .drawerOpen
  else if !journalFree s then some .journalFull
  else none

def nosaleOpened (s : State) : State :=
  let t := beginKick (s.setTu { s.tu with nosaleCount := sat s.tu.nosaleCount }) .nosale true
  finishRequest (writeNosale t) .done s.ju.head 0

def drawerNosale (s : State) : State :=
  match drawerNosaleCheck s with
  | some r => failRequest s r
  | none => nosaleOpened s

def execDrawerNosale (s : State) : Host.Outcome State Fault Refusal :=
  stepIf s (awaits s .drawerNosale && saleReady s && decide (s.ju.tells = 0)) (drawerNosale s)

/-! ### The refund kick (R149) -/

/-- The TU's refusal of a refund kick; `none`: kick begun or no kick needed. -/
def refundRefusal (s : State) : Option ResultCode :=
  if !s.tu.key then some .needKey else if s.tu.drawer = .fault then some .drawerFault else none

end Sys2Proof.Machine
end

