-- ==== Sys2Proof/Machine/Block.lean ====
section
/-! DEFINITION. The text of the closing and void blocks (R159), as bytes. -/

namespace Sys2Proof.Machine

/-- The decimal digits of `n`, at most `fuel` of them, before those of `acc`. -/
def decimalFrom : Nat → Nat → List Byte → List Byte
  | 0, _, acc => acc
  | fuel + 1, n, acc =>
      if n < 10 then nat1 (48 + n) :: acc else decimalFrom fuel (n / 10) (nat1 (48 + n % 10) :: acc)

/-- A number in decimal, left-aligned. -/
def decimal (n : Nat) : List Byte := decimalFrom 24 n []

/-- An amount with a point before the last two digits, at least 0.00. -/
def amountText (n : Nat) : List Byte := decimal (n / 100) ++ [46, nat1 (48 + n / 10 % 10), nat1 (48 + n % 10)]

/-- An upper-case hexadecimal digit. -/
def hexDigit (n : Nat) : Byte := if n < 10 then nat1 (48 + n) else nat1 (55 + n)

/-- Four upper-case hexadecimal digits. -/
def hexText (h : Half) : List Byte :=
  let n := h.toNat
  [hexDigit (n / 4096 % 16), hexDigit (n / 256 % 16), hexDigit (n / 16 % 16), hexDigit (n % 16)]

/-- A label's text is its bytes up to its first zero byte. -/
def labelText (s : State) (i : Nat) : List Byte := ((cfg s).labels.getD i []).takeWhile (· != 0)

def spaces (n : Nat) : List Byte := List.replicate n 32

/-- The label, then enough spaces, then the value, 48 characters. -/
def labelValue (label value : List Byte) : List Byte :=
  label ++ spaces (48 - label.length - value.length) ++ value

/-- The value of a CARD line: the code and its space are left out when the code is 0. -/
def cardValue (t : Tender) : List Byte :=
  [42, 42, 42, 42] ++ t.lastFour ++ [32] ++ (if t.code.all (· == 0) then [] else t.code ++ [32]) ++ amountText t.applied

/-- The line of a tender APPROVED or TAKEN. -/
def tenderLine (s : State) (t : Tender) : Option BlockFrame :=
  match t.state with
  | .approved => some (.line (labelValue (labelText s 1) (cardValue t)))
  | .taken => some (.line (labelValue (labelText s 2) (amountText t.received)))
  | _ => none

/-- The SALE/LANE line: characters after the 48th are dropped; a shorter one is not padded (log 46). -/
def saleLaneText (s : State) : List Byte :=
  (labelText s 4 ++ [32] ++ decimal s.su.header.number.toNat ++ [32] ++ labelText s 5 ++ [32]
    ++ decimal (s.re.laneNumber.getD 0).toNat ++ [32] ++ decimal s.su.header.endStamp.toNat).take 48

/-- The check code the Journal Unit fixed. -/
def fixedCheck (s : State) : Half :=
  match s.ju.fixed with
  | some e => e.check
  | none => 0

/-- The frames both blocks end with. The SALE/LANE and CHECK lines have the characters of R159's table, without padding to 48
(log 46). -/
def blockEnd (s : State) : List BlockFrame :=
  [.line (saleLaneText s), .line (labelText s 6 ++ [32] ++ hexText (fixedCheck s)), .feed 4, .cut]

/-- The frames of the block in order. The VOID line is the label alone, without padding to 48 (R159; log 46). -/
def blockFrames (s : State) (kind : BlockKind) : List BlockFrame :=
  let separator := BlockFrame.line (List.replicate 48 45)
  match kind with
  | .closing =>
      separator :: .line (labelValue (labelText s 0) (amountText s.su.subtotal))
        :: (s.su.tenders.filterMap (tenderLine s)
          ++ (if s.su.tenders.any fun t => decide (t.state = .taken) then
                [.line (labelValue (labelText s 3) (amountText s.su.change))]
              else [])
          ++ blockEnd s)
  | .void => separator :: .line (labelText s 7) :: blockEnd s

end Sys2Proof.Machine
end

