-- ==== Sys2Proof/Machine/Printer.lean ====
section
/-! DEFINITION. The Print Unit (10): the slot fetch (R152), frames, credits and the flight list (R153, R154), the printer's
condition (R155, R156), the receipt stream (R157-R160), document jobs (R161-R163) and RECEIPT_ABANDON (R164). -/

namespace Sys2Proof.Machine

/-! ### The slot fetch (R152). Its accesses of the memory port stand in Machine/Ops.lean. -/

/-- Attribute and text from the words of a slot: as many text bytes as the length gives, or 48. -/
def slotText (ws : List Word) : List Byte :=
  let b := bytesOfWords ws
  b.getD 0 0 :: (b.drop 2).take (min (b.getD 1 0).toNat 48)

/-- A fetch begins with the access of the slot's page table entry. -/
def beginFetch (s : State) (slot : Nat) (flight : FlightKind) : State :=
  (s.setPu { s.pu with fetch := some { slot := slot, flight := flight, wanted := true, left := 1, words := [] } }).setBi
    { s.bi with engine := s.bi.engine ++ [.pageEntry (slot / 64)] }

/-- The PU gives up the fetch in hand; accesses already asked for run on, and their words are dropped. -/
def Pu.dropFetch (u : Pu) : Option SlotFetch :=
  match u.fetch with
  | some f => if f.left = 0 then none else some { f with wanted := false }
  | none => none

/-! ### Frames, credits and the flight list (R153) -/

/-- The PRINT_LINE of fetched words. -/
def lineFrame (s : State) (ws : List Word) (flight : FlightKind) : ReadyFrame where
  kind := kPrintLine
  payload := le2 s.pu.lineSeq ++ slotText ws
  flight := flight

def cutFrame (s : State) : ReadyFrame where
  kind := kCut
  payload := le2 s.pu.lineSeq
  flight := .cut

/-- A frame of the block, with the present line sequence (R158). -/
def blockFrame (s : State) : BlockFrame → ReadyFrame
  | .line text => { kind := kPrintLine, payload := le2 s.pu.lineSeq ++ (0 :: text), flight := .blockFrame }
  | .feed n => { kind := kFeed, payload := le2 s.pu.lineSeq ++ [nat1 n], flight := .blockFrame }
  | .cut => cutFrame s

def jobAt (s : State) (j : Nat) : Job := s.pu.jobs.getD j Job.free

/-- What the owner's next frame is made of: the text of a slot, or nothing that is fetched. -/
inductive NextFrame where
  | slot (slot : Nat) (flight : FlightKind)
  | made (frame : ReadyFrame)
  deriving DecidableEq, Repr

/-- The owner's next frame (R157, R158, R163). -/
def nextFrame (s : State) : Option NextFrame :=
  match s.pu.owner with
  | .none => none
  | .receipt =>
      if s.pu.receipt = .block then (s.pu.block[s.pu.blockNext]?).map fun b => .made (blockFrame s b)
      else if s.pu.nextUnsent = fillCopy s then none
      else some (.slot (s.pu.nextUnsent.toNat % 2048) .stream)
  | .job j =>
      let b := jobAt s j
      if b.next < b.first + b.count then some (.slot b.next .jobLine)
      else if b.cutSent then none else some (.made (cutFrame s))

def setJob (u : Pu) (j : Nat) (b : Job) : Pu := { u with jobs := u.jobs.set j b }

/-- The owner's place moves on when the link takes a frame. -/
def Pu.advance (u : Pu) (flight : FlightKind) : Pu :=
  match u.owner with
  | .none => u
  | .receipt =>
      if u.receipt = .block then { u with blockNext := u.blockNext + 1 } else { u with nextUnsent := u.nextUnsent + 1 }
  | .job j =>
      let b := u.jobs.getD j Job.free
      setJob u j (if flight = .cut then { b with cutSent := true } else { b with next := b.next + 1 })

/-- What the PU does when the link takes a frame (R153). -/
def Pu.taken (u : Pu) (f : ReadyFrame) : Pu :=
  Pu.advance
    { u with
      flight := u.flight ++ [{ seq := u.lineSeq, kind := f.flight }], credits := u.credits - 1, lineSeq := u.lineSeq + 1
      ready := none }
    f.flight

/-- The frame is offered to the printer link: taken, kept for the link's notice, or dropped (R153). -/
def offerPrint (s : State) (f : ReadyFrame) : State :=
  if linkTakes s .printer then
    let t := linkSend s .printer f.kind f.payload
    askPu s.pu (t.setPu (t.pu.taken f)) false
  else if (s.link .printer).state = .up then s.setPu { s.pu with ready := some f, notice := false }
  else s.setPu { s.pu with ready := none, lost := true }

/-- The printer is READY and has credit left, and the PU does not wait to be told of a lost link: a frame may be offered
(R153). -/
def Pu.maySend (u : Pu) : Bool := decide (u.cond = .ready) && decide (0 < u.credits) && !u.lost

/-- The frame kept from a full queue is offered again once the link's notice has come, while the printer has credit (R153). -/
def printOffers (s : State) : State :=
  match s.pu.ready with
  | some f => if s.pu.notice && s.pu.maySend then offerPrint (s.setPu { s.pu with notice := false }) f else s
  | none => s

/-- The PU takes the link's notice that a frame has been sent: a frame that waits is offered again (R153). -/
def takeSent (s : State) : State := printOffers (s.setPu { s.pu with notice := s.pu.ready.isSome })

/-- The link's notice reaches the PU. It is taken at once; behind a request, or an event that one has held, it keeps its place
among the events that wait (R24, R153). -/
def printNotice (s : State) : State :=
  if unitBusy s .pu || unitHolds s .pu then (arrive s .pu .sent).setPu { s.pu with notices := s.pu.notices + 1 }
  else takeSent s

/-- The oldest notice is taken, and the next after it, while nothing held stands before it. -/
def takePrintNotices : Nat → State → State
  | 0, s => s
  | n + 1, s =>
      if unitTakes s .pu .sent then takePrintNotices n (takeSent (s.setPu { s.pu with notices := s.pu.notices - 1 })) else s

/-- The notices whose turn has come are taken, in the step that lets them come (R24; log 44): no command stands for them. -/
def printNotices (s : State) : State := takePrintNotices s.pu.notices s

/-- The notices that wait at a unit which has taken an event of its own. -/
def unitNotices (s : State) : BlockId → State
  | .ctu => cardNotices s
  | .pu => printNotices s
  | _ => s

/-- The fetch in hand is the one the owner's next frame asks for. -/
def SlotFetch.serves (f : SlotFetch) (slot : Nat) (flight : FlightKind) : Bool :=
  f.wanted && decide (f.slot = slot) && decide (f.flight = flight)

/-- The PU makes its next frame and offers it. The text of a slot is fetched first: the command is taken once to begin the
fetch and once when the words are there (R152, log 6). -/
def makeFrame (s : State) : NextFrame → State
  | .made f => offerPrint s f
  | .slot slot flight =>
      match s.pu.fetch with
      | none => beginFetch s slot flight
      | some f =>
          if !f.serves slot flight then s.setPu { s.pu with fetch := s.pu.dropFetch }
          else if f.left = 0 then offerPrint (s.setPu { s.pu with fetch := none }) (lineFrame s f.words flight)
          else s

/-- No earlier frame may wait for the link (R153); one that does is offered again. -/
def printFrameOffer (s : State) : State :=
  match s.pu.ready with
  | some _ => printOffers s
  | none =>
      match nextFrame s with
      | some x => makeFrame s x
      | none => s

/-- The PU offers frames between its events: not in a request, nor before the events one has held (R24; log 44). -/
def execPrintFrameOffer (s : State) : Host.Outcome State Fault Refusal :=
  stepIf s (s.pu.maySend && !unitBusy s .pu && !unitHolds s .pu) (printFrameOffer s)

/-! ### The arbiter (R162) -/

/-- The QUEUED job submitted earliest. -/
def earliestJob (u : Pu) : Option Nat :=
  (List.range 8).foldl
    (fun best j =>
      let b := u.jobs.getD j Job.free
      if b.state = .queued then
        match best with
        | none => some j
        | some k =>
            if ahead u.submissions (u.jobs.getD k Job.free).submission < ahead u.submissions b.submission then some j else best
      else best)
    none

/-- The owner is chosen while it is NONE. The event that has it chosen asks for the PU's window. -/
def arbitrate (s : State) : State :=
  match s.pu.owner with
  | .none =>
      if s.pu.bound then
        (if s.pu.receipt = .ended then s else s.setPu { s.pu with owner := .receipt })
      else if s.pu.cond = .ready then
        (match earliestJob s.pu with
          | some j =>
              s.setPu { setJob s.pu j { jobAt s j with state := .printing, started := s.re.clock } with owner := .job j }
          | none => s)
      else s
  | _ => s

/-! ### The receipt's block and end (R158, R160) -/

/-- The print index has reached the close mark: the block is composed (R158). -/
def composeBlock (s : State) : State :=
  if s.pu.receipt = .closing && decide (s.pu.printIndex = s.pu.closeMark) then
    s.setPu { s.pu with block := blockFrames s s.pu.blockKind, blockNext := 0, blockAcked := 0, receipt := .block }
  else s

/-- The block's CUT is acknowledged (R160). -/
def endReceipt (s : State) : State :=
  arbitrate (suSend (s.setPu { s.pu with receipt := .ended, owner := .none }) (.receiptEnded false false))

/-- A job's CUT is acknowledged (R163). -/
def endJob (s : State) (j : Nat) : State :=
  let b := jobAt s j
  let t := s.setPu { setJob s.pu j { b with state := .done, finished := s.re.clock } with
    jobsDone := s.pu.jobsDone + 1, owner := .none, lastDone := j, lastDoneFirst := b.first }
  arbitrate (raise t .documentDone j)

/-! ### LINE_DONE (R154) -/

/-- The acknowledged position of the owner. -/
def acknowledge (s : State) (kind : FlightKind) : State :=
  match kind with
  | .stream => composeBlock (s.setPu { s.pu with printIndex := s.pu.printIndex + 1 })
  | .blockFrame => s.setPu { s.pu with blockAcked := s.pu.blockAcked + 1 }
  | .jobLine =>
      match s.pu.owner with
      | .job j => s.setPu (setJob s.pu j { jobAt s j with acked := (jobAt s j).acked + 1 })
      | _ => s
  | .cut =>
      match s.pu.owner with
      | .job j => endJob s j
      | .receipt => endReceipt s
      | .none => s

/-- The frame acknowledges the oldest in flight, or is stray. -/
def takeLineDone (s : State) (seq : Half) : State :=
  match s.pu.flight with
  | f :: rest =>
      if f.seq = seq then acknowledge (s.setPu { s.pu with flight := rest, credits := min (s.pu.credits + 1) 16 }) f.kind
      else s.setPu { s.pu with stray := sat s.pu.stray }
  | [] => s.setPu { s.pu with stray := sat s.pu.stray }

def lineDone (s : State) (p : List Byte) : State := askPu s.pu (takeLineDone (popPath s .printer) (payHalf p 0)) false

/-- The kind and payload of the frame the PU takes next. -/
def printerFrame (s : State) : Option (Byte × List Byte) :=
  if unitTakes s .pu .link then (frontFrame s .printer).map fun f => (f.1, f.2.1) else none

def execLineDone (s : State) : Host.Outcome State Fault Refusal :=
  match printerFrame s with
  | some (kind, p) => stepIf s (decide (kind = kLineDone)) (printNotices (lineDone s p))
  | none => .next s

/-! ### The printer's condition (R155, R156) -/

/-- The owner's next frame goes back to the oldest not acknowledged; a job is SUSPENDED; the flight list, and a frame being
fetched or waiting for the link, are forgotten (R156, log 28). -/
def Pu.suspend (u : Pu) : Pu :=
  let v : Pu := { u with
    suspOwner := u.owner, suspCount := u.flight.length, flight := [], ready := none, fetch := u.dropFetch, reported := true
    nextUnsent := u.printIndex, blockNext := u.blockAcked }
  match u.owner with
  | .job j =>
      let b : Job := u.jobs.getD j Job.free
      setJob v j { b with state := .suspended, next := b.first + b.acked, cutSent := false }
  | _ => v

/-- The condition leaves READY (R156). -/
def printSuspend (s : State) : State := raise (s.setPu s.pu.suspend) .printStopped 0

/-- The condition becomes READY (R156). -/
def printResume (s : State) : State :=
  let t : State := match s.pu.owner with
    | .job j =>
        if (jobAt s j).state = .suspended then s.setPu (setJob s.pu j { jobAt s j with state := .printing }) else s
    | _ => s
  let u := if t.pu.reported then raise (t.setPu { t.pu with reported := false }) .printResumed 0 else t
  arbitrate u

/-- Credits, paper and cover of a status frame, with the condition it gives (R155). READY has no stop cause (log 36). -/
def Pu.takeStatus (u : Pu) (p : List Byte) : Pu :=
  let stopped := paperOf p = .out || coverOpenOf p
  { u with
    credits := min (creditsOf p) 16 - u.flight.length, paper := paperOf p, coverOpen := coverOpenOf p
    prevPaper := some (paperOf p)
    cond := if stopped then .stopped else .ready
    cause := if paperOf p = .out then .paperOut else if coverOpenOf p then .coverOpen else .none }

/-- R155. The raise of PAPER_LOW comes before those of a change of condition (log 41). -/
def printerStatus (s : State) (p : List Byte) : State :=
  let old := s.pu
  let t := (popPath s .printer).setPu (old.takeStatus p)
  let t1 := if paperOf p = .low && decide (old.prevPaper ≠ some .low) then raise t .paperLow 0 else t
  let t2 :=
    if old.cond = .ready && decide (t1.pu.cond ≠ .ready) then printSuspend t1
    else if decide (old.cond ≠ .ready) && decide (t1.pu.cond = .ready) then printResume t1
    else t1
  askPu old t2 false

def execPrinterStatus (s : State) : Host.Outcome State Fault Refusal :=
  match printerFrame s with
  | some (kind, p) => stepIf s (decide (kind = kPrinterStatus)) (printNotices (printerStatus s p))
  | none => .next s

/-- The printer link goes DOWN or comes back UP (R155). Changes up to the link's going QUIET change nothing: the PU has been
reset (R166). -/
def printerLinkChange (s : State) (old new : LinkState) : State :=
  let t := popPath s .printer
  if wentQuiet s .printer then t
  else if new = .up then askPu s.pu (t.setPu { t.pu with cond := .stopped, cause := .linkDown, prevPaper := none }) false
  else if old = .up then
    let u := t.setPu { t.pu with cond := .offline, cause := .linkDown, credits := 0, lost := false }
    askPu s.pu (if t.pu.cond = .ready then printSuspend u else u) false
  else t

def execPrinterLinkChange (s : State) : Host.Outcome State Fault Refusal :=
  match frontChange s .printer with
  | some (old, new) => stepIf s (unitTakes s .pu .link) (printNotices (printerLinkChange s old new))
  | none => .next s

/-! ### What the SU tells (R157, R158, R160) -/

/-- The SU's tell at the front of the PU's list, while the PU takes events. -/
def printTell (s : State) : Option PrintTell := if unitTakes s .pu .tell then s.pu.tells.head? else none

def receiptBegin (s : State) : State :=
  askPu s.pu (arbitrate (s.setPu { s.pu with tells := s.pu.tells.tail, bound := true, receipt := .printing })) false

def execReceiptBegin (s : State) : Host.Outcome State Fault Refusal :=
  match printTell s with
  | some .receiptBegins => stepIf s true (printNotices (receiptBegin s))
  | _ => .next s

def receiptCloseMark (s : State) (mark : Half) (kind : BlockKind) : State :=
  askPu s.pu
    (composeBlock (s.setPu { s.pu with tells := s.pu.tells.tail, closeMark := mark, blockKind := kind, receipt := .closing }))
    false

def execReceiptCloseMark (s : State) : Host.Outcome State Fault Refusal :=
  match printTell s with
  | some (.closeMark mark kind) => stepIf s true (printNotices (receiptCloseMark s mark kind))
  | _ => .next s

def saleIdleTold (s : State) : State :=
  askPu s.pu (arbitrate (s.setPu { s.pu with tells := s.pu.tells.tail, bound := false, receipt := .none })) false

def execSaleIdleTell (s : State) : Host.Outcome State Fault Refusal :=
  match printTell s with
  | some .saleIdle => stepIf s true (printNotices (saleIdleTold s))
  | _ => .next s

/-! ### PRINT_SUBMIT (R161) -/

/-- Every page that holds a slot of the range is mapped in the BI's copy. -/
def rangeMapped (s : State) (first count : Nat) : Bool :=
  (List.range 64).all fun p =>
    !(decide (first / 64 ≤ p) && decide (p ≤ (first + count - 1) / 64)) || entryMaps s (pageEntry s p)

/-- The lowest-numbered entry that is FREE or DONE. -/
def freeJob (u : Pu) : Option Nat := u.jobs.findIdx? fun b => decide (b.state = .free) || decide (b.state = .done)

/-- The job a PRINT_SUBMIT writes. -/
def submittedJob (s : State) : Job where
  state := .queued
  first := recFirstSlot s.re.record
  count := recLineCount s.re.record
  next := recFirstSlot s.re.record
  acked := 0
  cutSent := false
  submission := s.pu.submissions
  submitted := s.re.clock
  started := 0
  finished := 0

def jobSubmitted (s : State) (j : Nat) : State :=
  let t := arbitrate (s.setPu { setJob s.pu j (submittedJob s) with submissions := s.pu.submissions + 1 })
  finishRequest (askPu s.pu t true) .done (BitVec.ofNat 32 j) (BitVec.ofNat 32 (recFirstSlot s.re.record))

def printSubmit (s : State) : State :=
  let first := recFirstSlot s.re.record
  let count := recLineCount s.re.record
  if !(inRange first 2048 4095 && inRange count 1 2048 && decide (first + count ≤ 4096)) then failRequest s .badParam
  else if !rangeMapped s first count then failRequest s .badParam
  else match freeJob s.pu with
    | some j => jobSubmitted s j
    | none => failRequest s .tableFull

def execPrintSubmit (s : State) : Host.Outcome State Fault Refusal :=
  stepIf s (awaits s .printSubmit && s.pu.tells.isEmpty) (printSubmit s)

/-! ### RECEIPT_ABANDON (R164) -/

/-- The unprinted remainder is dropped. -/
def Pu.abandon (u : Pu) : Pu :=
  { u with
    printIndex := u.closeMark, nextUnsent := u.closeMark, block := [], blockNext := 0, blockAcked := 0, receipt := .ended
    owner := if u.owner = .receipt then .none else u.owner
    ready := if u.owner = .receipt then none else u.ready
    fetch := if u.owner = .receipt then u.dropFetch else u.fetch }

def receiptAbandoned (s : State) : State :=
  let t := arbitrate (s.setPu s.pu.abandon)
  finishRequest (suSend (askPu s.pu t true) (.receiptEnded true true)) .done s.su.header.number 0

def receiptAbandon (s : State) : State :=
  if !(s.pu.receipt = .closing || s.pu.receipt = .block) then failRequest s .wrongState
  else if s.pu.cond = .ready then failRequest s .wrongState
  else if !s.tu.key then failRequest s .needKey
  else receiptAbandoned s

def execReceiptAbandon (s : State) : Host.Outcome State Fault Refusal :=
  stepIf s (awaits s .receiptAbandon && s.pu.tells.isEmpty) (receiptAbandon s)

end Sys2Proof.Machine
end

