-- ==== Sys2Proof/Machine/Closing.lean ====
section
/-! DEFINITION. Closing, abort and the journal (11): the fixed entry (R168-R170), SALE_CLOSE (R170), SALE_ABORT (R171), the end
of CLOSING (R172). -/

namespace Sys2Proof.Machine

/-- The entry of a sale that closes or is aborted, with its check code (R169, R170). `u` is the SU after the event. -/
def saleEntry (s : State) (u : Su) (kind : JournalKind) : JournalEntry :=
  JournalEntry.checked
    { number := s.ju.head, kind := kind, mode := u.header.mode, lane := s.re.laneNumber.getD 0, sale := u.header.number
      openStamp := u.header.openStamp, endStamp := u.header.endStamp, live := u.liveCount, voided := u.voidCount
      subtotal := u.subtotal, card := u.cardApproved, cash := u.applied - u.cardApproved, change := u.change
      overrides := u.header.overrides, forced := s.ju.forcedCarry, nosales := s.ju.nosaleCarry, byKey := u.byKey, check := 0 }

/-- The SU as SALE_CLOSE or SALE_ABORT leaves it. -/
def closingSale (s : State) (outcome : SaleOutcome) : Su :=
  { s.su with
    header := { s.su.header with
      state := .closing, outcome := outcome, closeMark := fillCopy s, endStamp := s.re.clock }
    inbox := s.su.inbox.tail }

/-- The sale enters CLOSING: the JU fixes the entry and takes the carries, the SU writes its window, and then tells the PU and
the BWU (R170, R171). -/
def enterClosing (s : State) (outcome : SaleOutcome) (kind : JournalKind) (block : BlockKind) : State :=
  let new := closingSale s outcome
  let e := saleEntry s new kind
  let t := s.setJu { s.ju with fixed := some e, forcedCarry := 0, nosaleCarry := 0 }
  finishRequest
    (suWrite t new (saleWords s.su new none none)
      [.tellPrint (.closeMark new.header.closeMark block), .tellBag .saleClosing] true)
    .done new.header.number (e.check.setWidth 32)

/-- The checks of R170 in order. -/
def saleCloseCheck (s : State) : Option ResultCode :=
  let u := s.su
  if !u.header.state.active then some .wrongState
  else if u.header.bagHold || u.tenderHold then some .held
  else if u.header.state ≠ .settled then some .wrongState
  else none

def saleClose (s : State) : State :=
  match saleCloseCheck s with
  | some r => suFail s r
  | none => enterClosing s .sold .sale .closing

/-- The JU takes the tells that came before the ask (log 8). -/
def execSaleClose (s : State) : Host.Outcome State Fault Refusal :=
  stepIf s (suTakes s .saleClose && decide (s.ju.tells = 0)) (saleClose s)

/-- A CASH tender is TAKEN: the refund kick is asked (R171). -/
def refundAsked (u : Su) : Bool := u.tenders.any fun t => decide (t.state = .taken)

/-- The checks of R171 in order. -/
def saleAbortCheck (s : State) : Option ResultCode :=
  let u := s.su
  if !(u.header.state = .opened || u.header.state = .tendering) then some .wrongState
  else if u.cardInProgress || (u.tenders.any fun t => decide (t.state = .approved)) then some .wrongState
  else if refundAsked u then refundRefusal s
  else none

def saleAbort (s : State) : State :=
  match saleAbortCheck s with
  | some r => suFail s r
  | none => enterClosing (if refundAsked s.su then beginKick s .refund true else s) .voided .void .void

def execSaleAbort (s : State) : Host.Outcome State Fault Refusal :=
  stepIf s (suTakes s .saleAbort && decide (s.ju.tells = 0)) (saleAbort s)

/-- The end of CLOSING (R172): the JU's window, then the SU's, then SALE_FINISHED and the tells. Without a fixed entry the SU
ends the event without writing. -/
def receiptEnded (s : State) (incomplete ofRequest : Bool) : State :=
  match s.ju.fixed with
  | none => s
  | some e =>
      let new : Su := { s.su with
        header := { s.su.header with state := .idle }
        finished := { number := s.su.header.number, outcome := s.su.header.outcome, entry := e.number
                      incomplete := incomplete, byKey := e.byKey } }
      let t := askFixed (s.setJu { s.ju with fixed := none }) .ju [.journal, .statusPage] (journalEntryWords s e incomplete)
        [.headAdvance, .suWrite] ofRequest
      suDecide t new (saleWords s.su new none none) [.saleFinished, .tellBag .saleEnded, .tellPrint .saleIdle] ofRequest

def execReceiptEndedClaim (s : State) : Host.Outcome State Fault Refusal :=
  match suFront s with
  | some (.receiptEnded incomplete ofRequest) => stepIf s true (receiptEnded (suPop s) incomplete ofRequest)
  | _ => .next s

end Sys2Proof.Machine
end

