-- ==== Sys2Proof/Machine/Links.lean ====
section
/-! DEFINITION. The events of the four links (04): characters and their errors (R58-R60), breaks (R60, R68), silence (R67), and
the end of a frame's sending (R64). -/

namespace Sys2Proof.Machine

/-- A character has come: with its stop bit high it goes to the receiver, and with its stop bit low it waits to be judged (R58,
R60). -/
def rxCharacter (s : State) (l : LinkId) (char : Byte) (stopHigh : Bool) : State :=
  let t := s.setLink l { s.link l with freshStart := false }
  if stopHigh then scan t l 0 ((t.link l).attempt.getD [] ++ [char]) else t.setLink l { t.link l with line := .lowStop }

def execRxCharacter (l : LinkId) (char : Byte) (stopHigh : Bool) (s : State) : Host.Outcome State Fault Refusal :=
  stepIf s (decide ((s.link l).line = .running)) (rxCharacter s l char stopHigh)

/-- An error outside HUNT that keeps no new byte: the attempt ends, and the bytes after its SYNC are rescanned (R58, R59). -/
def failAttempt (s : State) (l : LinkId) (kind : ErrorKind) (held : List Byte) : State :=
  scan (badAttempt s l kind (rxPlace held)) l 0 held.tail

/-- A FRAMING error: outside HUNT it ends the attempt; in HUNT it is counted and the character dropped (R58). -/
def lineRise (s : State) (l : LinkId) : State :=
  let t := s.setLink l { s.link l with line := .running }
  match (t.link l).attempt with
  | some held => failAttempt t l .framing held
  | none => linkError t l .framing (.hunt, 0)

def execLineRiseFraming (l : LinkId) (s : State) : Host.Outcome State Fault Refusal :=
  stepIf s (decide ((s.link l).line = .lowStop)) (lineRise s l)

/-- The attempt ends with a GAP error (R58). -/
def gapTimeout (s : State) (l : LinkId) : State :=
  match (s.link l).attempt with
  | some held => failAttempt s l .gap held
  | none => s

def execGapTimeout (l : LinkId) (s : State) : Host.Outcome State Fault Refusal :=
  stepIf s (decide ((s.link l).line = .running) && (s.link l).attempt.isSome) (gapTimeout s l)

/-- A BREAK: counted, the attempt discarded without a rescan; an UNSEEN or UP link goes DOWN (R60, R68). -/
def breakDetected (s : State) (l : LinkId) : State :=
  let t := linkError s l .brk (s.link l).place
  let u := t.setLink l { t.link l with attempt := none, line := .breakWait, freshStart := false }
  if (u.link l).state = .unseen || (u.link l).state = .up then enterDown u l .brk else u

/-- After a character whose stop bit read low, or from the receiver's start with the line low (R60, log 27). -/
def execBreakDetected (l : LinkId) (s : State) : Host.Outcome State Fault Refusal :=
  stepIf s
    (decide ((s.link l).line = .lowStop) || (decide ((s.link l).line = .running) && (s.link l).freshStart))
    (breakDetected s l)

/-- The line has been high for one whole character time: the receiver enters HUNT (R60). -/
def breakLineHigh (s : State) (l : LinkId) : State := s.setLink l { s.link l with attempt := none, line := .running }

def execBreakLineHigh (l : LinkId) (s : State) : Host.Outcome State Fault Refusal :=
  stepIf s (decide ((s.link l).line = .breakWait)) (breakLineHigh s l)

/-- R67. -/
def silenceExpired (s : State) (l : LinkId) : State :=
  match (s.link l).state with
  | .unseen => enterDown s l .silence
  | .up => enterDown s l .silence
  | .down => startSilence (queueHello s l) l
  | _ => s

def execSilenceExpiry (l : LinkId) (s : State) : Host.Outcome State Fault Refusal :=
  stepIf s (timerDue s (s.link l).silence) (silenceExpired s l)

/-- The owning unit is told that a frame has been sent, and may offer again (R64, R128, R153). -/
def sentNotice (s : State) (l : LinkId) : State :=
  match l with
  | .card => cardNotice s
  | .printer => printNotice s
  | _ => s

/-- The last character of the oldest frame has been sent: it leaves the queue, a waiting rate applies (R65), and the next frame
starts. The receiver, which goes on while the frame is sent, keeps an attempt it has in hand across the change of rate,
and after a BREAK it waits on for the line to go high, reporting no second one (log 39). -/
def frameSent (s : State) (l : LinkId) : State :=
  let x := s.link l
  match x.tx with
  | [] => s
  | f :: rest =>
      let y : Link := { x with
        tx := rest, lastSent := frameBytes f.kind (f.seq.getD 0) f.payload, rate := x.rateNext.getD x.rate
        rateNext := none, freshStart := x.freshStart || x.rateNext.isSome }
      sentNotice (s.setLink l y.startTx) l

def execFrameSent (l : LinkId) (s : State) : Host.Outcome State Fault Refusal :=
  match (s.link l).tx with
  | f :: _ => stepIf s f.sending (frameSent s l)
  | [] => .next s

end Sys2Proof.Machine
end

