-- ==== Sys2Proof/WellFormed.lean ====
section
/-! DEFINITION. Which commands the bench can send: the shape of a bus access (01 "Accesses on the upstream bus") and the
range of a section's word numbers. A command that is not well formed names no event and changes nothing (log 2). -/

namespace Sys2Proof

/-- Word-aligned addresses; bursts of 1 to 8 words that stay inside the 32-bit address space; 128 page table words; 65,536
aperture words. -/
def Instr.wellFormed : Instr → Bool
  | .hostWriteWord addr _ _ _ => addr.toNat % 4 == 0
  | .hostReadBurst addr len =>
      addr.toNat % 4 == 0 && decide (1 ≤ len) && decide (len ≤ 8) && decide (addr.toNat + 4 * len ≤ 4294967296)
  | .printPageTableWrite word _ _ _ => decide (word < 128)
  | .apertureWrite word _ _ _ => decide (word < 65536)
  | .apertureRead word => decide (word < 65536)
  | _ => true

end Sys2Proof
end

