-- ==== Sys2Proof/Machine/HostAccess.lean ====
section
/-! DEFINITION. Host accesses (01): the decision on a write word (R1, R3, R5-R8), refused writes (R4), the watched control words
(R10-R14), the Print Page Table (R3, R8), reads and their holding (R9, R17). -/

namespace Sys2Proof.Machine

/-! ### The watched control words (R10-R14) -/

/-- The five watched words, in the order of their addresses (R178). -/
inductive Watched where
  | reqProducer | evtConsumer | journalExport | noticeMask | receiptFill
  deriving DecidableEq, Repr

/-- The lane-area offset of a watched word. -/
def Watched.offset : Watched → Nat
  | .reqProducer => 0x1000 | .evtConsumer => 0x1004 | .journalExport => 0x1008 | .noticeMask => 0x100C | .receiptFill => 0x1010

/-- The watched word at an offset of the Control Words. -/
def watchedAt (o : Nat) : Option Watched :=
  if o = 0x1000 then some .reqProducer else if o = 0x1004 then some .evtConsumer else if o = 0x1008 then some .journalExport
  else if o = 0x100C then some .noticeMask else if o = 0x1010 then some .receiptFill else none

def watchedCopy (s : State) : Watched → Word
  | .reqProducer => s.bi.reqProducer
  | .evtConsumer => s.bi.evtConsumer
  | .journalExport => s.bi.journalExport
  | .noticeMask => s.bi.noticeMask
  | .receiptFill => s.bi.receiptFill

def setWatched (s : State) (k : Watched) (w : Word) : State :=
  match k with
  | .reqProducer => s.setBi { s.bi with reqProducer := w }
  | .evtConsumer => s.setBi { s.bi with evtConsumer := w }
  | .journalExport => s.setBi { s.bi with journalExport := w }
  | .noticeMask => s.setBi { s.bi with noticeMask := w }
  | .receiptFill => s.setBi { s.bi with receiptFill := w }

/-- A byte of `new` where its enable is set, else of `old`. -/
def mergeByte (be : BitVec 4) (old new : Word) (k : Nat) : Byte := byteOfWord (if be.getLsbD k then new else old) k

/-- Each byte whose enable is set comes from the write, each other from the copy (R10). -/
def mergeWord (be : BitVec 4) (old new : Word) : Word :=
  wordOfBytes (mergeByte be old new 0) (mergeByte be old new 1) (mergeByte be old new 2) (mergeByte be old new 3)

/-- The word's own check of a candidate (R11-R14). -/
def watchedPasses (s : State) (k : Watched) (w : Word) : Bool :=
  match k with
  | .reqProducer =>
      decide (ahead (lowHalf w) (producerCopy s) ≤ 128) && decide (ahead (lowHalf w) s.re.consumer ≤ 128)
  | .evtConsumer => decide (ahead (lowHalf w) (consumerCopy s) ≤ unconsumed s)
  | .journalExport => decide (ahead32 w s.bi.journalExport ≤ ahead32 s.ju.head s.bi.journalExport)
  | .noticeMask => true
  | .receiptFill =>
      decide (s.su.header.state ≠ .idle) && decide (ahead (lowHalf w) (fillCopy s) ≤ 2048)
        && decide (ahead (lowHalf w) s.pu.printIndex ≤ 2048)
        && (decide (s.su.header.state ≠ .closing)
            || decide (ahead (lowHalf w) (fillCopy s) ≤ ahead s.su.header.closeMark (fillCopy s)))

/-- What the acting block does with the delivered value; `old` is the copy before (R10, R21, R42, R46, R167, R165). -/
def deliverWatched (s : State) (k : Watched) (old : Word) : State :=
  match k with
  | .reqProducer => if s.re.phase = .idle && !s.resetOwed then nextRequest s else s
  | .evtConsumer => if consumerCopy s = lowHalf old then s else consumerAdvance s
  | .journalExport => if s.bi.journalExport = old then s else askJuStatus s false
  | .noticeMask => if s.bi.noticeMask = old then s else look s
  | .receiptFill => if fillCopy s = lowHalf old then s else askPu s.pu s false

/-- A passing candidate becomes memory and copy in one step, and is delivered (R10). -/
def storeWatched (s : State) (k : Watched) (w : Word) : State :=
  deliverWatched
    ((setWatched s k w).setMem (Memory.writeWord s.mem (laneBase s + k.offset) allBytes w)) k (watchedCopy s k)

/-! ### The decision on a write word (R1, R3, R6-R8) -/

inductive Decision where
  /-- outside the served memory, or no byte enabled: nothing happens (R1) -/
  | ignored
  /-- refused; `unmapped`: because the aperture page has no mapping (R4) -/
  | refused (unmapped : Bool)
  /-- written at this memory address with its byte enables -/
  | plain (addr : Nat)
  | control (word : Watched) (candidate : Word)
  /-- a word of the Print Page Table, 0 to 127 -/
  | page (word : Nat)
  deriving DecidableEq, Repr

/-- A word inside a section (R3). -/
def decideSection (s : State) (w : HostWord) (o : Nat) : LaneSection → Decision
  | .setupBlock => if s.bi.setupSpan then .refused false else .plain w.addr
  | .controlWords =>
      match watchedAt o with
      | some k =>
          let c := mergeWord w.be (watchedCopy s k) w.data
          if watchedPasses s k c then .control k c else .refused false
      | none => .plain w.addr
  | .requestQueue => if slotSubmitted s ((o - Config.queueOff) / 64) then .refused false else .plain w.addr
  | .pageTable => if entryInUse s ((o - Config.pageTableOff) / 8) then .refused false else .page ((o - Config.pageTableOff) / 4)
  | .aperture =>
      match translate s o with
      | none => .refused true
      | some m => if addrProtected s m then .refused false else .plain m
  | .statusPage => .refused false
  | .eventRing => .refused false
  | .saleRecord => .refused false
  | .captureTable => .refused false
  | .cardSession => .refused false
  | .jobTable => .refused false
  | .journal => .refused false

/-- The decision on a word by its address and the state of the part (R1). -/
def decideWrite (s : State) (w : HostWord) : Decision :=
  if w.be = 0 || decide (Config.servedBytes ≤ w.addr) then .ignored
  else match laneOffset s w.addr with
    | none => if addrProtected s w.addr then .refused false else .plain w.addr
    | some o =>
        match sectionAt o with
        | none => .plain w.addr
        | some x => decideSection s w o x

/-- The word needs the memory port (R18). -/
def Decision.forwarded : Decision → Bool
  | .ignored => false
  | .refused _ => false
  | .plain _ => true
  | .control _ _ => true
  | .page _ => true

/-! ### What becomes of the word -/

/-- A refused word (R4). -/
def refuseWord (s : State) (addr : Nat) (unmapped : Bool) : State :=
  raise
    (s.setBi { s.bi with
      refusedCount := sat s.bi.refusedCount, lastRefused := BitVec.ofNat 32 addr, burstRefused := true })
    (if unmapped then .apertureFault else .writeRefused) 0

/-- The entry copy after a write of one of its words. -/
def PageEntry.write (e : PageEntry) (second : Bool) (be : BitVec 4) (w : Word) : PageEntry :=
  if second then { e with valid := mergeWord be e.valid w } else { e with frame := mergeWord be e.frame w }

/-- A forwarded write of the Print Page Table updates memory and copy (R3, R8). -/
def writePage (s : State) (w : HostWord) (word : Nat) : State :=
  (s.setBi { s.bi with
    pageTable := s.bi.pageTable.set (word / 2) ((pageEntry s (word / 2)).write (decide (word % 2 = 1)) w.be w.data) }).setMem
    (Memory.writeWord s.mem (laneBase s + Config.pageTableOff + 4 * word) w.be w.data)

/-- The first word of a burst that needs the port makes the burst's grant (R18, log 3). -/
def grantBurst (s : State) : State :=
  if s.bi.burstGranted then s
  else
    let t := hostGrant s
    t.setBi { t.bi with burstGranted := true }

def applyDecision (s : State) (w : HostWord) : Decision → State
  | .ignored => s
  | .refused unmapped => refuseWord s w.addr unmapped
  | .plain a => (grantBurst s).setMem (Memory.writeWord s.mem a w.be w.data)
  | .control k c => storeWatched (grantBurst s) k c
  | .page word => writePage (grantBurst s) w word

/-- After the last word of a burst with refused words the BI writes its Status Page fields (R4). -/
def endBurst (s : State) : State :=
  let t := s.setBi { s.bi with burstGranted := false, burstRefused := false }
  if s.bi.burstRefused then askBiStatus t else t

/-- The word is taken. -/
def takeWord (s : State) (w : HostWord) : State :=
  let t := applyDecision s w (decideWrite s w)
  if w.last then endBurst t else t

/-- The decision on the word asks the Sale Unit: a word of RECEIPT_FILL with a byte enabled (R14, R108). -/
def asksSale (s : State) (w : HostWord) : Bool :=
  w.be != 0 && decide (w.addr < Config.servedBytes) && decide (laneOffset s w.addr = some 0x1010)

/-- The BI's ask joins the SU's list, and the word waits for the answer. -/
def askFill (s : State) (w : HostWord) : State :=
  (s.setBi { s.bi with hostStall := some (.fillAsk w) }).setSu { s.su with inbox := s.su.inbox ++ [.fillAsk] }

/-- The word is decided: it waits where the next grant is the engine's (R18). -/
def offerWord (s : State) (w : HostWord) : State :=
  if (decideWrite s w).forwarded && !s.bi.burstGranted && engineOwed s then
    s.setBi { s.bi with hostStall := some (.write w) }
  else takeWord s w

/-- The word is presented: one that asks the SU waits while the SU has an event in hand or others before the ask (R91, R108;
log 42). -/
def presentWord (s : State) (w : HostWord) : State :=
  if asksSale s w && !saleReady s then askFill s w else offerWord s w

/-- No other host access reaches the part while one waits (01 "Accesses on the upstream bus"). -/
def busFree (s : State) : Bool := s.bi.hostStall.isNone

def hostWord (addr : Nat) (be : BitVec 4) (data : Word) (last : Bool) : HostWord :=
  { addr := addr, be := be, data := data, last := last }

/-- A write of one watched word. -/
def watchedWord (s : State) (k : Watched) (be : BitVec 4) (data : Word) (last : Bool) : HostWord :=
  hostWord (laneBase s + k.offset) be data last

/-! ### The write commands -/

def execHostWriteWord (addr : Word) (be : BitVec 4) (data : Word) (last : Bool) (s : State) :
    Host.Outcome State Fault Refusal :=
  stepIf s (busFree s && Instr.wellFormed (.hostWriteWord addr be data last))
    (presentWord s (hostWord addr.toNat be data last))

def execReqProducerWrite (be : BitVec 4) (data : Word) (last : Bool) (s : State) : Host.Outcome State Fault Refusal :=
  stepIf s (busFree s) (presentWord s (watchedWord s .reqProducer be data last))

def execEvtConsumerWrite (be : BitVec 4) (data : Word) (last : Bool) (s : State) : Host.Outcome State Fault Refusal :=
  stepIf s (busFree s) (presentWord s (watchedWord s .evtConsumer be data last))

def execJournalExportWrite (be : BitVec 4) (data : Word) (last : Bool) (s : State) : Host.Outcome State Fault Refusal :=
  stepIf s (busFree s) (presentWord s (watchedWord s .journalExport be data last))

def execNoticeMaskWrite (be : BitVec 4) (data : Word) (last : Bool) (s : State) : Host.Outcome State Fault Refusal :=
  stepIf s (busFree s) (presentWord s (watchedWord s .noticeMask be data last))

def execReceiptFillWrite (be : BitVec 4) (data : Word) (last : Bool) (s : State) : Host.Outcome State Fault Refusal :=
  stepIf s (busFree s) (presentWord s (watchedWord s .receiptFill be data last))

def execPrintPageTableWrite (word : Nat) (be : BitVec 4) (data : Word) (last : Bool) (s : State) :
    Host.Outcome State Fault Refusal :=
  stepIf s (busFree s && Instr.wellFormed (.printPageTableWrite word be data last))
    (presentWord s (hostWord (laneBase s + Config.pageTableOff + 4 * word) be data last))

def execApertureWrite (word : Nat) (be : BitVec 4) (data : Word) (last : Bool) (s : State) :
    Host.Outcome State Fault Refusal :=
  stepIf s (busFree s && Instr.wellFormed (.apertureWrite word be data last))
    (presentWord s (hostWord (laneBase s + Config.apertureOff + 4 * word) be data last))

/-! ### The read commands (R9, R17) -/

/-- The burst is checked whole: it waits while it is held, and is then served (R4, R17). -/
def presentRead (s : State) (addr len : Nat) : State :=
  if burstHeld s addr len then s.setBi { s.bi with hostStall := some (.readHeld addr len) } else serveRead s addr len

/-- A read does not come inside a write burst. -/
def readFree (s : State) : Bool := busFree s && !s.bi.burstGranted && !s.bi.burstRefused

def execHostReadBurst (addr : Word) (len : Nat) (s : State) : Host.Outcome State Fault Refusal :=
  stepIf s (readFree s && Instr.wellFormed (.hostReadBurst addr len)) (presentRead s addr.toNat len)

def execApertureRead (word : Nat) (s : State) : Host.Outcome State Fault Refusal :=
  stepIf s (readFree s && Instr.wellFormed (.apertureRead word))
    (presentRead s (laneBase s + Config.apertureOff + 4 * word) 1)

/-! ### The memory port (R18) -/

/-- The SU's answer to the waiting RECEIPT_FILL word can be taken: the ask stands at the front of its list. -/
def fillAnswered (s : State) : Bool := decide (suFront s = some .fillAsk)

/-- The next grant: the waiting host burst, unless the port is owed to the engine; else the oldest engine access. A word that
waits for the SU is no host burst waiting for the port; it goes on with the command that finds its answer (log 42). -/
def portGrant (s : State) : State :=
  match s.bi.hostStall with
  | some (.fillAsk w) =>
      if fillAnswered s then offerWord (suPop (s.setBi { s.bi with hostStall := none })) w else engineGrant s
  | some (.write w) => if engineOwed s then engineGrant s else presentWord (s.setBi { s.bi with hostStall := none }) w
  | some (.readServing a n) => if engineOwed s then engineGrant s else serveRead s a n
  | _ => engineGrant s

/-- A word of the burst waits for the SU. -/
def fillWaits (s : State) : Bool :=
  match s.bi.hostStall with
  | some (.fillAsk _) => true
  | _ => false

/-- A host burst in progress keeps the port, but not while a word of it waits for the SU, whose own writes need the port
(log 42). -/
def execMemoryPortGrant (s : State) : Host.Outcome State Fault Refusal :=
  stepIf s (!s.bi.burstGranted || fillWaits s) (portGrant s)

end Sys2Proof.Machine
end

