-- ==== Sys2Proof/Machine/LaneReset.lean ====
section
/-! DEFINITION. What each unit does at a LANE_RESET (R52, R71, R89, R109, R110, R138, R151, R166, R174), and how the Request
Engine applies it (R16, R38). -/

namespace Sys2Proof.Machine

/-- The FREE writes of the Capture Table and the Print Job Table: the first word of each entry (R89, R166). -/
def captureFrees : List LiveBlock := (List.range 16).map LiveBlock.captureFree
def jobFrees : List (Nat × Word) := (List.range 8).map fun k => (0xD200 + 64 * k, BitVec.ofNat 32 JobState.free.code)

/-- The PU's window with every job entry FREE. -/
def askPuFree (s : State) (ofRequest : Bool) : State :=
  askFixed s .pu [.jobTable, .statusPage] (wordsAt 0x20A0 (puStatus s.pu (fillCopy s)) ++ jobFrees) [] ofRequest

/-- R52. -/
def resetLatches (s : State) : State := s.setNu { s.nu with latches := List.replicate 24 Latch.clear }

/-- The SU, between events: it drops its claims and writes the cleared header (R109). Asks of other units keep their place. -/
def resetSale (s : State) : State :=
  let new := { s.su with
    header := Header.cleared, lines := [], tenders := []
    inbox := s.su.inbox.filter fun x => decide (x = .payloadAsk) || decide (x = .fillAsk) }
  askFixed (s.setSu new) .su [.saleRecord] (headerWords new) [] false

/-- R89. A window that waits keeps the values of its event, and the FREE writes come after it. The ids last issued and last made
STALE return to their reset values (log 37). -/
def resetPlatter (s : State) : State :=
  askLive ((freezeWaiting s s .pwu).setPwu Pwu.reset) .pwu [.captureTable, .statusPage] (.pwu :: captureFrees) false

/-- R110. The clear reason of the latest clearing and D of the latest settlement return to their reset values (log 37). -/
def resetBag (s : State) : State := askBwuStatus (s.setBwu Bwu.reset) false

/-- R138. The tender last claimed returns to its reset value (log 37). -/
def resetCard (s : State) : State := askCardSession (s.setCtu { Ctu.reset with refCounter := s.ctu.refCounter }) false

/-- R151: the filters, the readings and all stamps are kept. -/
def resetTill (s : State) : State :=
  askTuStatus
    (s.setTu { s.tu with
      drawer := if s.tu.sensor then .opened else .shut, forced := false, attempts := 0, cause := .none, solenoid := false
      width := none, confirm := none, limitTimer := none, forcedCount := 0, nosaleCount := 0 })
    false

/-- R166: the stream starts at the fill copy; the counters and the paper and cover last reported are kept. The latest suspension
and the job most recently DONE return to their reset values (log 37). -/
def resetPrinter (s : State) : State :=
  askPuFree
    (s.setPu { Pu.reset with
      printIndex := fillCopy s, nextUnsent := fillCopy s, lineSeq := s.pu.lineSeq, submissions := s.pu.submissions
      stray := s.pu.stray, paper := s.pu.paper, coverOpen := s.pu.coverOpen, fetch := s.pu.dropFetch })
    false

/-- R174. -/
def resetJournal (s : State) : State :=
  s.setJu { s.ju with forcedCarry := 0, nosaleCarry := 0, fixed := none, tells := 0 }

/-- A link goes QUIET; one that is QUIET already raises nothing (R71). The frames of the ordered path are discarded; its changes,
and the tell of this one, stay for the owner (R63, R70). -/
def quietLink (s : State) (l : LinkId) : State :=
  let x := s.link l
  if x.state = .quiet then s
  else
    let t := changeLink s l .quiet .laneReset
    (forgetPath t l ((t.link l).path.map fun x => !x.isFrame)).setLink l { t.link l with
      identSeen := false, tracked := none, txSeq := 0, attempt := none, line := .stopped, freshStart := false
      path := (t.link l).path.filter fun x => !x.isFrame
      firstAfterUp := false, tx := [], rateNext := none, silence := none }

/-- Each link goes QUIET; the links raise LINK_CHANGE in the order of their numbers (log 41). -/
def resetLinks (s : State) : State := [LinkId.platter, .bag, .card, .printer].foldl quietLink s

/-- The RE: the clock stops at 0, the snapshot is discarded, UNCONFIGURED is written (R38, R28). -/
def resetEngine (s : State) : State :=
  askReStatus (s.setRe { s.re with device := .unconfigured, clock := 0, setup := none }) false

/-- The solenoid is de-energised at once, whatever the TU still has to finish (R151). -/
def cutPulse (s : State) : State := s.setTu { s.tu with solenoid := false, width := none }

/-- One unit's part of a LANE_RESET. The LU resets with the RE, which drops the snapshot, so that no link runs without one. -/
def resetUnit (s : State) : BlockId → State
  | .su => resetSale s
  | .pwu => resetPlatter s
  | .bwu => resetBag s
  | .ctu => resetCard s
  | .tu => resetTill s
  | .pu => resetPrinter s
  | .ju => resetJournal s
  | .re => resetLinks (resetEngine s)
  | .lu => s
  | .bi => s
  | .nu => s

/-- The units that reset. The RE is the last: the clock stops before the links raise (log 16). -/
def resetOrder : List BlockId := [.su, .pwu, .bwu, .ctu, .tu, .pu, .ju, .re]

def hasOpenWindow (s : State) (b : BlockId) : Bool := s.bi.opened.any fun o => decide (o.owner = b)

/-- A unit other than the RE can take the reset: none of its windows is open (R16), and the SU and the JU have no event in hand,
so that an entry whose ask the JU has taken is written and its sale leaves CLOSING first (R91, R174). -/
def unitReady (s : State) (b : BlockId) : Bool :=
  !hasOpenWindow s b
    && (match b with
        | .su => s.su.event.isNone
        | .ju => !headOwed s
        | _ => true)

/-- The RE resets with the last of the units, and waits for the windows of the LU as for its own. -/
def resetReady (s : State) (b : BlockId) : Bool :=
  if b = .re then
    !hasOpenWindow s .re && !hasOpenWindow s .lu && s.re.resetting.all fun x => decide (x = .re) || unitReady s x
  else unitReady s b

/-- The units that can take the reset take it, and their windows count as asked together (log 5); the others stay told. When
none is left, the RE goes on. -/
def takeResets (s : State) : State :=
  let t := tieAsks ((s.re.resetting.filter (resetReady s)).foldl resetUnit s) s.bi.nextWindow
  let u := t.setRe { t.re with resetting := s.re.resetting.filter fun b => !resetReady s b }
  if u.re.resetting.isEmpty then nextRequest u else u

/-- The reset is applied (R38, log 16): the latches first, so that the raises of the reset are reported afresh (R52, R71). A
reset taken while UNCONFIGURED finds the units in their UNCONFIGURED values and only clears the latches. Then the RE asks for
the next reservation (R25, R52). -/
def applyLaneReset (s : State) : State :=
  let t := resetLatches (s.setRe { s.re with resetDue := false })
  if s.re.device = .unconfigured then nextRequest t
  else takeResets (cutPulse (t.setRe { t.re with resetting := resetOrder }))

/-- The units still told to reset look again when an event or a window has ended. -/
def resumeResets (s : State) : State := if s.re.resetting.isEmpty then s else takeResets s

end Sys2Proof.Machine
end

