-- ==== Sys2Proof/Machine/Windows.lean ====
section
/-! DEFINITION. The opening and closing of update windows (R16, R17) and what the owners do after their writes. -/

namespace Sys2Proof.Machine

/-- What follows the close of a window. -/
def runAfter (s : State) : After → State
  | .suWrite => suAskWindow s
  | .suDone => s.setSu { s.su with event := none }
  | .headAdvance => s.setJu { s.ju with head := s.ju.head + 1 }
  | .cardAsk index amount => cardAsks s index amount
  | .kick cause => beginKick s cause true
  | .tellBag tell => (arrive s .bwu .tell).setBwu { s.bwu with tells := s.bwu.tells ++ [tell] }
  | .tellPrint tell => (arrive s .pu .tell).setPu { s.pu with tells := s.pu.tells ++ [tell] }
  | .saleFinished => raise s .saleFinished 0

/-- The window leaves the open windows, and a held read is released (R17). -/
def removeWindow (s : State) (id : Nat) : State :=
  releaseHeld (s.setBi { s.bi with opened := s.bi.opened.filter fun o => o.id != id })

/-- A unit's window closes (R16), and its owner goes on; a request waiting for it may then complete (R24), or a reset reach
its unit (R38). -/
def closeWindow (s : State) (o : OpenWindow) : State :=
  resumeResets (requestProgress (o.after.foldl runAfter (removeWindow s o.id)))

/-- Where the request that kept the CTU or the PU busy in `s` ends in `t`, the link's notices it has held may come (R24). -/
def freedNotices (s t : State) : State :=
  let u := if unitBusy s .ctu then cardNotices t else t
  if unitBusy s .pu then printNotices u else u

def execUpdateWindowOpen (index : Nat) (s : State) : Host.Outcome State Fault Refusal :=
  match s.bi.waiting[index]? with
  | some w => stepIf s (canOpen s w) (openWindow s w)
  | none => .next s

/-- The Notice Unit's windows close with their records: COMPLETION_WRITTEN, CONDITION_RECORD_WRITTEN. -/
def execUpdateWindowClose (index : Nat) (s : State) : Host.Outcome State Fault Refusal :=
  match s.bi.opened[index]? with
  | some o => stepIf s (decide (o.owner ≠ .nu) && windowWritten s o.id) (freedNotices s (closeWindow s o))
  | none => .next s

end Sys2Proof.Machine
end

