-- ==== Sys2Proof/Machine/Requests.lean ====
section
/-! DEFINITION. The Request Engine's events (02): the fetched record (R22, R23), SETUP_COMMIT (R30-R37), LANE_RESET (R38) and
the written completion (R25, R44). -/

namespace Sys2Proof.Machine

/-! ### REQUEST_FETCHED (R22, R23) -/

/-- Taken in both device states (R23 check 2). -/
def takenUnconfigured (k : RequestKind) : Bool := k = .setupCommit || k = .laneReset

/-- The RE decodes the record: kind, device state, and then its owner's turn (R23). -/
def decodeRequest (s : State) : State :=
  match recKind s.re.record with
  | none => failRequest s .badKind
  | some k =>
      if s.re.device = .unconfigured && !takenUnconfigured k then failRequest s .notReady
      else if k.owner = .su then suSend s .request
      else s

/-- The second access has returned (R22). -/
def requestFetched (s : State) : State :=
  decodeRequest
    (askReConsumer
      (s.setRe { s.re with
        consumer := s.re.consumer + 1, record := s.re.fetched, fetched := [], phase := .executing, outcome := none
        statusDue := false }))

def execRequestFetched (s : State) : Host.Outcome State Fault Refusal :=
  stepIf s (decide (s.re.phase = .fetching) && decide (s.re.fetched.length = 16)) (requestFetched s)

/-! ### SETUP_COMMIT (R30-R37) -/

/-- A recommit is taken with the sale IDLE and no job active (R33). -/
def recommitAllowed (s : State) : Bool := decide (s.su.header.state = .idle) && !(s.pu.jobs.any Job.active)

/-- The state check, and the reading of the Setup Block (R30), its accesses asked for all at once (log 48). -/
def beginCommit (s : State) : State :=
  if s.re.device = .ready && !recommitAllowed s then failRequest s .wrongState
  else
    (s.setBi { s.bi with setupSpan := true, engine := s.bi.engine ++ (List.range 32).map EngineAccess.setup }).setRe
      { s.re with setupRead := [] }

/-- The journal indices, fields 4 and 5, are taken when the BI's own write of JOURNAL_EXPORT has the port (R15, R18, R35). -/
def takeJournal (s : State) (c : Setup) : State :=
  s.setBi { s.bi with engine := s.bi.engine ++ [.journalWrite c.head c.exported] }

/-- What the RE itself takes from a valid copy: snapshot, lane number, result, READY (R32 steps 1 and 2, R36). -/
def takeSetup (s : State) (c : Setup) : State :=
  s.setRe { s.re with
    setup := some c, laneNumber := some (s.re.laneNumber.getD (BitVec.ofNat 16 c.lane)), device := .ready
    lastCommit := .done, failField := 0, statusDue := true }

/-- The SU's initialisation (R109). -/
def initSale (s : State) (c : Setup) : State :=
  let new := { s.su with header := Header.cleared, lines := [], tenders := [], nextNumber := c.saleNumber }
  askFixed (s.setSu new) .su [.saleRecord] (headerWords new) [] true

/-- The PWU's (R89). -/
def initPlatter (s : State) : State :=
  askPwuLive s (s.setPwu Pwu.reset) [.captureTable, .statusPage] (.pwu :: captureFrees) [] true

/-- The BWU's (R110). -/
def initBag (s : State) : State := askBwuStatus (s.setBwu Bwu.reset) true

/-- The CTU's: the reference counter keeps its value (R138). -/
def initCard (s : State) : State := askCardSession (s.setCtu { Ctu.reset with refCounter := s.ctu.refCounter }) true

/-- The TU takes SHUT or OPEN from the sensor once more (R151). -/
def initTill (s : State) : State :=
  askTuStatus (s.setTu { s.tu with drawer := if s.tu.sensor then .opened else .shut }) true

/-- The PU's: every entry FREE, no job completed, and what R166's table gives for the move to READY: the condition OFFLINE, no
credit, no owner, an empty flight list, no receipt; the indices and the other counters are kept. -/
def initPrinter (s : State) : State :=
  askPuFree
    (s.setPu { s.pu with
      cond := .offline, cause := .linkDown, credits := 0, reported := false, owner := .none, flight := [], receipt := .none
      closeMark := 0, jobs := List.replicate 8 Job.free, jobsDone := 0 })
    true

/-- The links go to UNSEEN (R65); they raise LINK_CHANGE in the order of their numbers (log 41). -/
def initLinks (s : State) : State :=
  [LinkId.platter, .bag, .card, .printer].foldl (fun t l => enterUnseen t l .laneUp) s

/-- Every window asked in the step, and the links' windows, belong to the commit (R32 step 4). -/
def markCommit (s : State) (start : Nat) : State :=
  s.setBi { s.bi with
    waiting := s.bi.waiting.map fun w =>
      if decide (start ≤ w.id) || decide (w.owner = .lu) then { w with ofRequest := true } else w }

/-- A first commit (R32): the lane clock starts at 0, and each unit initialises. -/
def applyFirst (s : State) (c : Setup) : State :=
  let t := takeSetup s c
  let u := t.setRe { t.re with clock := 0 }
  let v := initPrinter (initTill (initCard (initBag (initPlatter (initSale u c)))))
  let w := takeJournal (v.setJu { v.ju with forcedCarry := 0, nosaleCarry := 0, fixed := none }) c
  markCommit (tieAsks (initLinks w) s.bi.nextWindow) s.bi.nextWindow

/-- A link whose rate code changed (R34, R65). -/
def relink (old : Setup) (s : State) (l : LinkId) : State :=
  if old.rates.getD (linkNo l) 0 = cfgRate s l then s else enterUnseen s l .rateChanged

/-- The platter at a recommit (R34): the tare cleared, a FRESH capture STALE, the window emptied. Weight and zone are computed
anew where the tare changes (R73; log 33). -/
def recommitPlatter (old s : State) : State :=
  let u := { s.pwu with tare := 0, window := [] }
  let v := if s.pwu.tare = 0 then u else { u.recompute (cfg s) with zeroTimer := none }
  let t := staleCurrent old s v true
  t.setPwu (t.pwu.judgeTracking (cfg t) t.re.clock)

/-- A recommit (R34, R35). The links raise their changes in the order of their numbers, and before the platter raises CAPTURE_STALE
(log 41). -/
def applyRecommit (s : State) (c : Setup) (journal : Bool) : State :=
  let t := takeSetup s c
  let u := [LinkId.platter, .bag, .card, .printer].foldl (relink (cfg s)) t
  let v := recommitPlatter s u
  let w := askBwuStatus (v.setBwu { v.bwu with window := [] }) true
  let x := w.setSu { w.su with nextNumber := c.saleNumber }
  let y := if journal then takeJournal x c else x
  markCommit (tieAsks y s.bi.nextWindow) s.bi.nextWindow

/-- The copy has been read: the span ends when the result is decided (R30, R31, R36). -/
def decideCommit (s : State) : State :=
  let copy := s.re.setupRead
  let t := (s.setBi { s.bi with setupSpan := false }).setRe { s.re with setupRead := [] }
  let recommit := decide (s.re.device = .ready)
  match setupFailure copy s.re.laneNumber recommit with
  | some n =>
      finishRequest (askReStatus (t.setRe { t.re with lastCommit := .setupBad, failField := n }) true)
        .setupBad (BitVec.ofNat 32 n) 0
  | none =>
      let c := setupOf copy
      let journal := setupJournalOk copy
      finishRequest (if recommit then applyRecommit t c journal else applyFirst t c)
        .done (BitVec.ofNat 32 c.lane) (if journal then 1 else 0)

/-- SETUP_COMMIT is taken twice: when its execution begins, and when the block has been read (log 7). -/
def setupCommit (s : State) : State := if s.bi.setupSpan then decideCommit s else beginCommit s

/-- The commit goes on when the block has been read, the SU takes its ask (R33), and the JU is between events (R174). -/
def commitReady (s : State) : Bool :=
  if s.bi.setupSpan then decide (s.re.setupRead.length = 256) && !headOwed s
  else decide (s.re.device = .unconfigured) || saleReady s

def execSetupCommit (s : State) : Host.Outcome State Fault Refusal :=
  stepIf s (awaits s .setupCommit && commitReady s) (setupCommit s)

/-! ### LANE_RESET (R38) -/

/-- The completion is passed first; the reset is applied when it has been written. -/
def laneReset (s : State) : State :=
  finishRequest s .done (if s.su.header.state = .idle then 0 else s.su.header.number) 0

/-- LANE_RESET is taken once as the request, when the SU takes the RE's ask (R108), and once more where the Notice Unit has
looked before the reset is applied (log 16). -/
def execLaneReset (s : State) : Host.Outcome State Fault Refusal :=
  stepIf s ((awaits s .laneReset && saleReady s) || s.re.resetDue)
    (if s.re.resetDue then applyLaneReset s else laneReset s)

/-! ### COMPLETION_WRITTEN (R25, R44) -/

/-- The Notice Unit's open window, its writes in memory. -/
def writtenRecord (s : State) : Option OpenWindow :=
  s.bi.opened.find? fun o => decide (o.owner = .nu) && windowWritten s o.id

/-- The record is in memory: the producer index advances, the writer is free, LANE_ATTN is set (R44, R47, R50). -/
def recordWritten (s : State) (o : OpenWindow) (reserved : Nat) : State :=
  let t := removeWindow s o.id
  updateAttn (t.setNu { t.nu with producer := t.nu.producer + 1, reserved := reserved, writer := .free })

/-- The RE leaves COMPLETING (R25). -/
def leaveCompleting (s : State) : State := s.setRe { s.re with phase := .idle, outcome := none }

/-- The next reservation is asked, and the Notice Unit looks again, in either order (R43; log 18). -/
def afterCompletion (s : State) (askFirst : Bool) : State :=
  if askFirst then look (nextRequest s) else nextRequest (look s)

/-- The completion of a LANE_RESET: the RE applies the reset, and the Notice Unit looks again, in either order (R46, R52; log
16). Where the Notice Unit looks first, the reset is applied by the command LANE_RESET. -/
def afterLaneReset (s : State) (askFirst : Bool) : State :=
  if askFirst then look (applyLaneReset s) else look (s.setRe { s.re with resetDue := true })

def completionWritten (s : State) (o : OpenWindow) (askFirst : Bool) : State :=
  let t := leaveCompleting (recordWritten s o 0)
  if recKind s.re.record = some .laneReset then afterLaneReset t askFirst else afterCompletion t askFirst

def execCompletionWritten (askFirst : Bool) (s : State) : Host.Outcome State Fault Refusal :=
  match writtenRecord s with
  | some o => stepIf s (decide (s.nu.writer = .completion)) (completionWritten s o askFirst)
  | none => .next s

end Sys2Proof.Machine
end

