-- ==== Sys2Proof/Machine/Notices.lean ====
section
/-! DEFINITION. The Notice Unit's condition records (03): the payload each unit gives (R48, R88, R122, R137, R150, R165, R172)
and the written record (R47). -/

namespace Sys2Proof.Machine

/-- The four last digits as one field. -/
def digitsWord (ds : List Byte) : Word := wordOfBytes (ds.getD 0 0) (ds.getD 1 0) (ds.getD 2 0) (ds.getD 3 0)

/-- The Till Unit's fields (R150). -/
def tillPayload (u : Tu) : CondKind → List Field
  | .drawerForced => [.one (nat1 u.drawer.code), .one (bool1 u.forced), .two (BitVec.ofNat 16 u.forcedCount), .four u.sensorStamp]
  | .drawerFault => [.one (nat1 u.drawer.code), .two (BitVec.ofNat 16 u.attempts), .one (bool1 u.sensor)]
  | .drawerOpened => [.one (nat1 u.drawer.code), .one (bool1 u.forced), .four u.openStamp]
  | .drawerShut => [.one (nat1 u.drawer.code), .four u.closeStamp]
  | .drawerLong => [.one (nat1 u.drawer.code), .four u.openStamp]
  | _ => []

/-- The Link Unit's fields (R70, R48). -/
def linkPayload (x : Link) : List Field :=
  [.one (nat1 x.state.code), .one (nat1 x.prevState.code), .one (nat1 x.reason.code), .four (BitVec.ofNat 32 x.errorSum)]

/-- The state of a named capture now: FREE when its entry has been overwritten (R88). -/
def Pwu.named (u : Pwu) (id : Half) : Capture :=
  match u.slotOf id with
  | some k => u.entry k
  | none => Capture.free

/-- The Platter Weigh Unit's fields (R88). -/
def platterPayload (u : Pwu) (source : Nat) : CondKind → List Field
  | .captureReady =>
      [.two u.lastIssued, .one (nat1 (u.named u.lastIssued).state.code), .four (BitVec.ofInt 32 (u.named u.lastIssued).net)]
  | .captureStale =>
      [.two u.lastStale, .one (nat1 (u.named u.lastStale).state.code), .one (nat1 u.machine.code)]
  | .scaleLimit => [.one (nat1 u.limit.code), .one 0, .four (if source = 0 then BitVec.ofInt 32 u.gross else 0)]
  | _ => []

/-- The Bag Weigh Unit's fields (R122). -/
def bagPayload (u : Bwu) (source : Nat) : CondKind → List Field
  | .bagHoldSet =>
      [.one (nat1 u.holdReason.code), .four (BitVec.ofInt 32 u.lastDelta), .four (BitVec.ofInt 32 u.baseline)
       , .two (BitVec.ofNat 16 u.pend.length)]
  | .bagHoldClear =>
      [.one (bool1 u.hold), .one (nat1 u.clearReason.code), .four (BitVec.ofInt 32 u.baseline)
       , .two (BitVec.ofNat 16 u.pend.length)]
  | .scaleLimit => [.one 0, .one (nat1 u.limit.code), .four (if source = 1 then BitVec.ofInt 32 u.gross else 0)]
  | _ => []

/-- The Card Tender Unit's fields, with the balance due it asks of the SU (R137). Where there is no conflict, the fields of
TENDER_CONFLICT are 0 (log 38). -/
def cardPayload (u : Ctu) (balance : Nat) : CondKind → List Field
  | .tenderOutcome =>
      [.one (nat1 u.lastOutcome.state.code), .four (BitVec.ofNat 32 u.lastOutcome.applied), .four (BitVec.ofNat 32 balance)
       , .two u.lastOutcome.reference]
  | .tenderConflict =>
      match u.conflict with
      | some c =>
          [.one (nat1 (match c.verdict with | .approved => TenderState.approved | .declined => TenderState.declined).code)
           , .one (nat1 c.outcome), .four c.amount, .two c.reference]
      | none => []
  | .cardChange => [.one (bool1 u.present), .two u.scheme, .one u.entryMethod, .four (digitsWord u.lastFour)]
  | _ => []

/-- The Sale Unit's fields (R172). -/
def salePayload (f : FinishedSale) : List Field :=
  [.four f.number, .one (nat1 f.outcome.code), .four f.entry
   , .one ((if f.incomplete then 1 else 0) + (if f.byKey then 2 else 0))]

/-- The receipt's print index, or a job's next slot not yet acknowledged (R165). -/
def shownIndex (u : Pu) : Owner → Half
  | .job j => BitVec.ofNat 16 ((u.jobs.getD j Job.free).first + (u.jobs.getD j Job.free).acked)
  | _ => u.printIndex

/-- The Print Unit's fields (R165). -/
def printPayload (u : Pu) : CondKind → List Field
  | .printStopped =>
      [.one (nat1 u.cause.code), .one (nat1 u.suspOwner.code), .two (shownIndex u u.suspOwner)
       , .two (BitVec.ofNat 16 u.suspCount)]
  | .printResumed => [.one (nat1 u.owner.code), .two (shownIndex u u.owner), .two (BitVec.ofNat 16 u.credits)]
  | .documentDone => [.two (BitVec.ofNat 16 u.lastDone), .two (BitVec.ofNat 16 u.lastDoneFirst), .two u.jobsDone]
  | .paperLow => [.one (nat1 u.paper.code), .one (bool1 u.coverOpen), .two (BitVec.ofNat 16 u.credits)]
  | _ => []

/-- The Bus Interposer's fields (R48). -/
def busPayload (u : Bi) : List Field := [.two (BitVec.ofNat 16 u.refusedCount), .four u.lastRefused]

/-- The link of a source number (R45). -/
def linkOf : Nat → LinkId
  | 0 => .platter
  | 1 => .bag
  | 2 => .card
  | _ => .printer

/-- The fields a unit answers with, from its state now (R47). -/
def payloadFields (s : State) (kind : CondKind) (source : Nat) : BlockId → List Field
  | .bi => busPayload s.bi
  | .lu => linkPayload (s.link (linkOf source))
  | .pwu => platterPayload s.pwu source kind
  | .bwu => bagPayload s.bwu source kind
  | .su => salePayload s.su.finished
  | .ctu => cardPayload s.ctu s.su.balance kind
  | .tu => tillPayload s.tu kind
  | .pu => printPayload s.pu kind
  | .re => []
  | .nu => []
  | .ju => []

/-- Two answers of one record together: each unit fills its own bytes. -/
def joinPayload (a b : List Byte) : List Byte := List.zipWith (· ||| ·) a b

/-- The unit can take the ask now (R24, R91, R108). -/
def answerReady (s : State) (kind : CondKind) (b : BlockId) : Bool :=
  unitTakes s b .ask
    && (match b with
        | .su => decide (suFront s = some .payloadAsk)
        | .ctu => decide (kind ≠ .tenderOutcome) || saleReady s
        | _ => true)

/-- The SU takes the ask from the front of its list. -/
def takeAsk (s : State) (b : BlockId) : State := if b = .su then suPop s else s

/-- One unit has answered; the last answer opens the way to the record's window (R47). -/
def answered (s : State) (kind : CondKind) (count : Nat) (stamp : Word) (source : Nat) (rest : List BlockId)
    (payload : List Byte) : State :=
  match rest with
  | [] =>
      askRecord (s.setNu { s.nu with writer := .condition })
        (conditionWords s.nu.producer kind source count stamp payload)
  | _ => s.setNu { s.nu with writer := .asking kind count stamp source rest payload }

def execPayloadAnswer (block : BlockId) (s : State) : Host.Outcome State Fault Refusal :=
  match s.nu.writer with
  | .asking kind count stamp source waiting payload =>
      stepIf s (waiting.contains block && answerReady s kind block)
        (unitNotices
          (answered (takeAsk s block) kind count stamp source (waiting.filter fun b => b != block)
            (joinPayload payload (packPayload (payloadFields s kind source block))))
          block)
  | _ => .next s

/-- The record and the new producer index are in memory; the Notice Unit looks again (R46, R47, R50). -/
def conditionWritten (s : State) (o : OpenWindow) : State := look (recordWritten s o s.nu.reserved)

def execConditionRecordWritten (s : State) : Host.Outcome State Fault Refusal :=
  match writtenRecord s with
  | some o => stepIf s (decide (s.nu.writer = .condition)) (conditionWritten s o)
  | none => .next s

end Sys2Proof.Machine
end

