-- ==== Sys2Proof/Machine/Resets.lean ====
section
/-! DEFINITION. RESET_N (R2, R15, R19, R39, R53, R62, R71, R89, R109, R110, R138, R151, R166, R174). -/

namespace Sys2Proof.Machine

/-- The raw levels of the two inputs while RESET_N is low: the filters hold nothing else (R139). -/
def heldFilter (f : Filter) : Filter := { raw := f.raw, level := false, count := none }

/-- RESET_N goes low: every block takes its reset values, the straps and the pins stay (R19, R39, R53, R71, R140). -/
def resetAssert (s : State) : State :=
  { bi := { Bi.reset with laSel := s.bi.laSel, bagFit := s.bi.bagFit, inReset := true }
    re := Re.reset
    nu := Nu.reset
    lu := Lu.reset
    pwu := Pwu.reset
    bwu := Bwu.reset
    su := Su.reset
    ctu := Ctu.reset
    tu := { Tu.reset with senseFilter := heldFilter s.tu.senseFilter, keyFilter := heldFilter s.tu.keyFilter }
    pu := Pu.reset
    ju := Ju.reset
    mem := s.mem
    free := s.free
    arrivals := []
    pending := s.pending }

def execResetNAssert (s : State) : Host.Outcome State Fault Refusal := .next (if s.bi.inReset then s else resetAssert s)

/-- A filter takes the raw level as its debounced reading (R139). -/
def releasedFilter (f : Filter) : Filter := { raw := f.raw, level := f.raw, count := none }

/-- The TU at the release: readings from the raw levels, the drawer from the sensor (R139, R151). -/
def releasedTill (u : Tu) : Tu :=
  { Tu.reset with
    senseFilter := releasedFilter u.senseFilter, keyFilter := releasedFilter u.keyFilter
    sensor := u.senseFilter.raw, key := u.keyFilter.raw, drawer := if u.senseFilter.raw then .opened else .shut }

/-- The words written at the release, by lane-area offset: five control words and the page table (R2, R15), then the Status
Page fields of the BI (R2), the RE (R39), the NU (R41) and the LU (R62). -/
def releaseWords (s : State) : List (Nat × Word) :=
  wordsAt Config.controlOff (List.replicate 5 0) ++ wordsAt Config.pageTableOff (List.replicate 128 0)
    ++ wordsAt 0x2000 (biStatus s.bi) ++ wordsAt 0x2010 (reStatus s.re) ++ [(0x2020, 0)]
    ++ liveWords s (.link .platter) ++ liveWords s (.link .bag) ++ liveWords s (.link .card) ++ liveWords s (.link .printer)

/-- RESET_N is released: the straps are sampled, and the words of the release are written (R2; log 6). -/
def resetRelease (s : State) (laSel : BitVec 4) (bagFit : Bool) : State :=
  let t := (s.setBi { Bi.reset with laSel := laSel, bagFit := bagFit }).setTu (releasedTill s.tu)
  t.setMem (Memory.writeWords t.mem ((releaseWords t).map fun x => (laneBase t + x.1, x.2)))

def execResetNRelease (laSel : BitVec 4) (bagFit : Bool) (s : State) : Host.Outcome State Fault Refusal :=
  .next (if s.bi.inReset then resetRelease s laSel bagFit else s)

end Sys2Proof.Machine
end

