-- ==== Sys2Proof/Machine/Dispatch.lean ====
section
/-! DEFINITION. The dispatch: one arm for each command, each one call of its meaning. -/

namespace Sys2Proof.Machine

/-- The effect of a command on everything but the queue. -/
def exec (i : Instr) (s : State) : Host.Outcome State Fault Refusal :=
  match i with
  | .hostWriteWord addr be data last => Sys2Proof.Machine.execHostWriteWord addr be data last s
  | .hostReadBurst addr len => Sys2Proof.Machine.execHostReadBurst addr len s
  | .reqProducerWrite be data last => Sys2Proof.Machine.execReqProducerWrite be data last s
  | .evtConsumerWrite be data last => Sys2Proof.Machine.execEvtConsumerWrite be data last s
  | .journalExportWrite be data last => Sys2Proof.Machine.execJournalExportWrite be data last s
  | .noticeMaskWrite be data last => Sys2Proof.Machine.execNoticeMaskWrite be data last s
  | .receiptFillWrite be data last => Sys2Proof.Machine.execReceiptFillWrite be data last s
  | .printPageTableWrite word be data last => Sys2Proof.Machine.execPrintPageTableWrite word be data last s
  | .apertureWrite word be data last => Sys2Proof.Machine.execApertureWrite word be data last s
  | .apertureRead word => Sys2Proof.Machine.execApertureRead word s
  | .updateWindowOpen index => Sys2Proof.Machine.execUpdateWindowOpen index s
  | .updateWindowClose index => Sys2Proof.Machine.execUpdateWindowClose index s
  | .memoryPortGrant => Sys2Proof.Machine.execMemoryPortGrant s
  | .requestFetched => Sys2Proof.Machine.execRequestFetched s
  | .setupCommit => Sys2Proof.Machine.execSetupCommit s
  | .laneReset => Sys2Proof.Machine.execLaneReset s
  | .completionWritten askFirst => Sys2Proof.Machine.execCompletionWritten askFirst s
  | .payloadAnswer block => Sys2Proof.Machine.execPayloadAnswer block s
  | .conditionRecordWritten => Sys2Proof.Machine.execConditionRecordWritten s
  | .resetNAssert => Sys2Proof.Machine.execResetNAssert s
  | .resetNRelease laSel bagFit => Sys2Proof.Machine.execResetNRelease laSel bagFit s
  | .rxCharacter link char stopHigh => Sys2Proof.Machine.execRxCharacter link char stopHigh s
  | .gapTimeout link => Sys2Proof.Machine.execGapTimeout link s
  | .breakDetected link => Sys2Proof.Machine.execBreakDetected link s
  | .breakLineHigh link => Sys2Proof.Machine.execBreakLineHigh link s
  | .silenceExpiry link => Sys2Proof.Machine.execSilenceExpiry link s
  | .frameSent link => Sys2Proof.Machine.execFrameSent link s
  | .platterSample => Sys2Proof.Machine.execPlatterSample s
  | .zeroTrackExpiry => Sys2Proof.Machine.execZeroTrackExpiry s
  | .platterLinkChange => Sys2Proof.Machine.execPlatterLinkChange s
  | .scaleZero => Sys2Proof.Machine.execScaleZero s
  | .scaleTare => Sys2Proof.Machine.execScaleTare s
  | .tareClear => Sys2Proof.Machine.execTareClear s
  | .saleOpen => Sys2Proof.Machine.execSaleOpen s
  | .itemAdd => Sys2Proof.Machine.execItemAdd s
  | .itemWeigh => Sys2Proof.Machine.execItemWeigh s
  | .lineVoid => Sys2Proof.Machine.execLineVoid s
  | .bagSample => Sys2Proof.Machine.execBagSample s
  | .bagWaitExpiry => Sys2Proof.Machine.execBagWaitExpiry s
  | .bagLinkChange => Sys2Proof.Machine.execBagLinkChange s
  | .bagSaleOpened => Sys2Proof.Machine.execBagSaleOpened s
  | .bagSaleClosing => Sys2Proof.Machine.execBagSaleClosing s
  | .bagSaleEnded => Sys2Proof.Machine.execBagSaleEnded s
  | .holdRelease => Sys2Proof.Machine.execHoldRelease s
  | .bagSettlementClaim => Sys2Proof.Machine.execBagSettlementClaim s
  | .bagHoldClaim => Sys2Proof.Machine.execBagHoldClaim s
  | .bagClearClaim => Sys2Proof.Machine.execBagClearClaim s
  | .tenderClaim => Sys2Proof.Machine.execTenderClaim s
  | .cardTender => Sys2Proof.Machine.execCardTender s
  | .cardCancel => Sys2Proof.Machine.execCardCancel s
  | .tenderVerdict => Sys2Proof.Machine.execTenderVerdict s
  | .cardIn => Sys2Proof.Machine.execCardIn s
  | .cardOut => Sys2Proof.Machine.execCardOut s
  | .moduleStatus => Sys2Proof.Machine.execModuleStatus s
  | .authResult => Sys2Proof.Machine.execAuthResult s
  | .noRecord => Sys2Proof.Machine.execNoRecord s
  | .cardWaitExpiry => Sys2Proof.Machine.execCardWaitExpiry s
  | .cancelWaitExpiry => Sys2Proof.Machine.execCancelWaitExpiry s
  | .cardLinkChange => Sys2Proof.Machine.execCardLinkChange s
  | .sensorEdge => Sys2Proof.Machine.execSensorEdge s
  | .forcedOpeningTell => Sys2Proof.Machine.execForcedOpeningTell s
  | .keyEdge => Sys2Proof.Machine.execKeyEdge s
  | .kickWidthExpiry => Sys2Proof.Machine.execKickWidthExpiry s
  | .kickConfirmExpiry => Sys2Proof.Machine.execKickConfirmExpiry s
  | .drawerLimitExpiry => Sys2Proof.Machine.execDrawerLimitExpiry s
  | .cashTender => Sys2Proof.Machine.execCashTender s
  | .drawerNosale => Sys2Proof.Machine.execDrawerNosale s
  | .printerStatus => Sys2Proof.Machine.execPrinterStatus s
  | .lineDone => Sys2Proof.Machine.execLineDone s
  | .printerLinkChange => Sys2Proof.Machine.execPrinterLinkChange s
  | .printFrameOffer => Sys2Proof.Machine.execPrintFrameOffer s
  | .printSubmit => Sys2Proof.Machine.execPrintSubmit s
  | .receiptBegin => Sys2Proof.Machine.execReceiptBegin s
  | .receiptCloseMark => Sys2Proof.Machine.execReceiptCloseMark s
  | .saleIdleTell => Sys2Proof.Machine.execSaleIdleTell s
  | .receiptAbandon => Sys2Proof.Machine.execReceiptAbandon s
  | .saleClose => Sys2Proof.Machine.execSaleClose s
  | .saleAbort => Sys2Proof.Machine.execSaleAbort s
  | .receiptEndedClaim => Sys2Proof.Machine.execReceiptEndedClaim s
  | .laneClockTick => Sys2Proof.Machine.execLaneClockTick s
  | .rawLevelChange input level => Sys2Proof.Machine.execRawLevelChange input level s
  | .lineRiseFraming link => Sys2Proof.Machine.execLineRiseFraming link s

end Sys2Proof.Machine
end

