-- ==== Sys2Proof/Safety.lean ====
section
/-! DEFINITION. What a state of the part keeps (the invariants the statements speak of), and what a command leaves unchanged
(the frames the statements speak of). -/

namespace Sys2Proof.Machine

/-! ### Invariants -/

/-- The memory is in its canonical form (log 11). -/
def memoryCanonical (s : State) : Prop := Memory.wf s.mem = true

/-- A request is in hand and its completion slot is reserved (R21, R43). -/
def EnginePhase.reserves : EnginePhase → Bool
  | .fetching => true
  | .executing => true
  | .completing => true
  | .idle => false
  | .stalled => false

/-- There are 24 latches, and the ring never overflows: the records not consumed, the reservation and a condition record begun keep within the 256 slots;
the reservation stands exactly while a request is in hand; a completion is written or owed only in COMPLETING; and while a reset
is owed no request is in hand (R41-R44, R52). -/
structure ringLaw (s : State) : Prop where
  latches : s.nu.latches.length = 24
  bound : unconsumed s + s.nu.reserved + conditionBegun s.nu.writer ≤ 256
  reservation : s.nu.reserved = if s.re.phase.reserves then 1 else 0
  writing : s.nu.writer = .completion → s.re.phase = .completing ∧ s.nu.owed = none
  owing : s.nu.owed ≠ none → s.re.phase = .completing
  resets : s.resetOwed = true → s.re.phase = .idle
  once : s.re.resetDue = true → s.re.resetting = []
  held : s.bi.inReset = true → s.nu = Nu.reset ∧ s.re.phase = .idle

/-- LANE_ATTN is asserted exactly while the producer index differs from the consumer copy (R50). -/
structure lineLaw (s : State) : Prop where
  line : s.nu.attn = true ↔ s.nu.producer ≠ consumerCopy s
  held : s.bi.inReset = true → s.nu = Nu.reset

/-- Credits and frames in flight never exceed 16 together, and a frame made finds a place on the flight list (R153). -/
structure flightLaw (s : State) : Prop where
  credit : s.pu.credits + s.pu.flight.length ≤ 16
  place : s.pu.ready ≠ none → s.pu.flight.length < 16

/-- No two open windows share a section, and no open window touches a read burst that is being served (R16, R17). -/
structure windowLaw (s : State) : Prop where
  disjoint : s.bi.opened.Pairwise fun a b => sectionsMeet a.sections b.sections = false
  served : ∀ a n, s.bi.hostStall = some (.readServing a n) → windowHeld s a n = false

/-- The receive buffer of each link holds at most two frames (R63). -/
def bufferLaw (s : State) : Prop := ∀ l, ((s.link l).path.filter PathItem.isFrame).length ≤ 2

/-- There are 8 job entries, and the owner is none beyond them (R161, R162); the line table, the tender table and the pending
verdicts keep within their sizes (R95, R97, R124); while the SU waits for the answer to a consume claim, ITEM_WEIGH is in execution
and an entry is free for its line (R103). -/
structure tableLaw (s : State) : Prop where
  jobs : s.pu.jobs.length = 8
  owner : ∀ j, s.pu.owner = .job j → j < 8
  lines : s.su.lines.length ≤ 96
  claim : s.su.claim ≠ none → s.su.lines.length < 96 ∧ awaits s .itemWeigh = true
  tenders : s.su.tenders.length ≤ 8
  verdicts : s.ctu.verdicts.length ≤ 8

/-- The event of the SU in hand, and every window waiting or open, is free of a kick. -/
def noKickOwed (s : State) : Prop :=
  (∀ w ∈ s.bi.waiting, ∀ c, After.kick c ∉ w.after) ∧ (∀ o ∈ s.bi.opened, ∀ c, After.kick c ∉ o.after)
    ∧ (∀ e, s.su.event = some e → ∀ c, After.kick c ∉ e.after)

/-- A kick is owed only by windows and an event of the request in execution (R24, R147). -/
def kicksOfRequest (s : State) : Prop :=
  (∀ w ∈ s.bi.waiting, ∀ c, After.kick c ∈ w.after → w.ofRequest = true)
    ∧ (∀ o ∈ s.bi.opened, ∀ c, After.kick c ∈ o.after → o.ofRequest = true)
    ∧ (∀ e, s.su.event = some e → ∀ c, After.kick c ∈ e.after → e.ofRequest = true)

/-- The solenoid is energised exactly while the kick width timer runs, and only while the drawer is KICKING; while the part is
UNCONFIGURED no kick is in progress or owed, and no request of a unit is in execution (R140, R28). A kick is owed only to the
request in execution, and none is in progress once a LANE_RESET has reached the Till Unit (R24, R151). -/
structure solenoidLaw (s : State) : Prop where
  pulse : s.tu.solenoid = true ↔ s.tu.width ≠ none
  kicking : s.tu.solenoid = true → s.tu.drawer = .kicking
  owed : kicksOfRequest s
  done : s.re.phase ≠ .executing → noKickOwed s
  cut : s.re.resetting ≠ [] → s.tu.solenoid = false ∧ (.tu ∉ s.re.resetting → s.tu.drawer ≠ .kicking)
  unconfigured : s.re.device = .unconfigured → s.tu.solenoid = false ∧ s.tu.drawer ≠ .kicking ∧ noKickOwed s
    ∧ (s.re.phase = .executing → s.re.outcome = none →
        recKind s.re.record = some .setupCommit ∨ recKind s.re.record = some .laneReset)

/-! ### Frames -/

/-- Every byte of memory reads as before. -/
def sameMemory (s t : State) : Prop := ∀ a, Memory.readByte t.mem a = Memory.readByte s.mem a

/-- In the Bus Interposer only window requests are added or gathered: the copies, spans, counters, stalls and the memory port
are as before. -/
def windowsAskedOnly (s t : State) : Prop :=
  t.bi = { s.bi with waiting := t.bi.waiting, nextWindow := t.bi.nextWindow, nextGroup := t.bi.nextGroup }

/-- In the Notice Unit only latches and what the writer is doing change: indices, reservation and line are as before. -/
def noticesOnly (s t : State) : Prop :=
  t.nu = { s.nu with latches := t.nu.latches, writer := t.nu.writer, owed := t.nu.owed }

/-- In the Sale Unit only the list of waiting items changes. -/
def listOnly (s t : State) : Prop := t.su = { s.su with inbox := t.su.inbox }

/-- In the Request Engine only the course of the request in execution changes. -/
def courseOnly (s t : State) : Prop :=
  t.re = { s.re with phase := t.re.phase, outcome := t.re.outcome, statusDue := t.re.statusDue }

/-- What an event of a unit leaves unchanged: memory, the queue, the Request Engine, and every block but those listed; in the
BI, the NU and the SU, when they are not listed, only windows asked, notices and waiting items change. -/
structure eventFrame (blocks : List BlockId) (s t : State) : Prop where
  memory : sameMemory s t
  queue : t.pending = s.pending
  bi : .bi ∈ blocks ∨ windowsAskedOnly s t
  re : .re ∈ blocks ∨ t.re = s.re
  nu : .nu ∈ blocks ∨ noticesOnly s t
  lu : .lu ∈ blocks ∨ t.lu = s.lu
  pwu : .pwu ∈ blocks ∨ t.pwu = s.pwu
  bwu : .bwu ∈ blocks ∨ t.bwu = s.bwu
  su : .su ∈ blocks ∨ listOnly s t
  ctu : .ctu ∈ blocks ∨ t.ctu = s.ctu
  tu : .tu ∈ blocks ∨ t.tu = s.tu
  pu : .pu ∈ blocks ∨ t.pu = s.pu
  ju : .ju ∈ blocks ∨ t.ju = s.ju

/-- The same for a request: of the Request Engine only the course of the request changes. -/
structure requestFrame (blocks : List BlockId) (s t : State) : Prop where
  event : eventFrame (.re :: blocks) s t
  course : courseOnly s t

/-- What an event leaves unchanged of everything but memory. -/
def blocksFrame (blocks : List BlockId) (s t : State) : Prop := eventFrame blocks s (t.setMem s.mem)

/-! ### Host accesses -/

/-- The word at `a` has been written with its byte enables, and no other byte (R1). -/
def wordWritten (s t : State) (a : Nat) (be : BitVec 4) (w : Word) : Prop :=
  (∀ k < 4, Memory.readByte t.mem (a + k) = if be.getLsbD k then byteOfWord w k else Memory.readByte s.mem (a + k))
    ∧ ∀ b, b < a ∨ a + 4 ≤ b → Memory.readByte t.mem b = Memory.readByte s.mem b

/-- A host write word presented now is taken at once: no access waits, and the port is not owed to the engine (R18). -/
def hostMayWrite (s : State) : Prop :=
  s.bi.inReset = false ∧ s.bi.hostStall = none ∧ (s.bi.burstGranted = true ∨ engineOwed s = false)

/-- In the Bus Interposer only the account of the burst and the windows asked change. -/
def burstOnly (s t : State) : Prop :=
  t.bi = { s.bi with waitCount := t.bi.waitCount, burstGranted := t.bi.burstGranted, burstRefused := t.bi.burstRefused
                     waiting := t.bi.waiting, nextWindow := t.bi.nextWindow, nextGroup := t.bi.nextGroup }

/-- The arbiter's waiting count after a host grant: it adds 1 while an engine access waits, and is 0 while none does (R18). -/
def waitCounted (s : State) : Nat := if s.bi.engine = [] then 0 else s.bi.waitCount + 1

/-- The word at `a` is read through the memory port (R1, R9, R18). -/
def portWord (s : State) (a : Nat) : Prop :=
  a < Config.servedBytes ∧ (sectionOf s a = some .aperture → translate s (a - laneBase s) ≠ none)

/-- An address of a word that R1 and R3 pass on to memory. -/
def plainPlace (s : State) (a : Nat) : Prop :=
  (laneOffset s a = none ∧ addrProtected s a = false)
    ∨ ∃ o, laneOffset s a = some o
        ∧ (sectionAt o = none
            ∨ (sectionAt o = some .setupBlock ∧ s.bi.setupSpan = false)
            ∨ (sectionAt o = some .controlWords ∧ watchedAt o = none)
            ∨ (sectionAt o = some .requestQueue ∧ slotSubmitted s ((o - 0x4000) / 64) = false))

/-- The sections the host only reads (R3). -/
def LaneSection.partOwned : LaneSection → Bool
  | .statusPage => true
  | .eventRing => true
  | .saleRecord => true
  | .captureTable => true
  | .cardSession => true
  | .jobTable => true
  | .journal => true
  | _ => false

/-- A word that is refused with WRITE_REFUSED (R3, R5-R8, R10). -/
def refusedPlace (s : State) (a : Nat) (be : BitVec 4) (data : Word) : Prop :=
  (laneOffset s a = none ∧ addrProtected s a = true)
    ∨ ∃ o x, laneOffset s a = some o ∧ sectionAt o = some x
        ∧ (x.partOwned = true
            ∨ (x = .setupBlock ∧ s.bi.setupSpan = true)
            ∨ (x = .controlWords ∧ ∃ k, watchedAt o = some k ∧ watchedPasses s k (mergeWord be (watchedCopy s k) data) = false)
            ∨ (x = .requestQueue ∧ slotSubmitted s ((o - 0x4000) / 64) = true)
            ∨ (x = .pageTable ∧ entryInUse s ((o - 0xD000) / 8) = true)
            ∨ (x = .aperture ∧ ∃ m, translate s o = some m ∧ addrProtected s m = true))

/-- A word of an aperture page without a mapping (R8). -/
def unmappedPlace (s : State) (a : Nat) : Prop :=
  ∃ o, laneOffset s a = some o ∧ sectionAt o = some .aperture ∧ translate s o = none

/-- The check of each watched word, in the rules' own arithmetic (R11-R14). -/
def watchedRule (s : State) (w : Word) : Watched → Prop
  | .reqProducer => (lowHalf w - producerCopy s).toNat ≤ 128 ∧ (lowHalf w - s.re.consumer).toNat ≤ 128
  | .evtConsumer => (lowHalf w - consumerCopy s).toNat ≤ (s.nu.producer - consumerCopy s).toNat
  | .journalExport => (w - s.bi.journalExport).toNat ≤ (s.ju.head - s.bi.journalExport).toNat
  | .noticeMask => True
  | .receiptFill =>
      s.su.header.state ≠ .idle ∧ (lowHalf w - fillCopy s).toNat ≤ 2048 ∧ (lowHalf w - s.pu.printIndex).toNat ≤ 2048
        ∧ (s.su.header.state = .closing → (lowHalf w - fillCopy s).toNat ≤ (s.su.header.closeMark - fillCopy s).toNat)

/-- A word that is written through the memory port (R1, R3, R8, R10, R18): a plain one; a watched word whose candidate passes, one of
RECEIPT_FILL where the SU is free to answer; a word of a Print Page Table entry that is not in use; a word of a mapped aperture
page whose slot is not protected. -/
def portPlace (s : State) (a : Nat) (be : BitVec 4) (data : Word) : Prop :=
  plainPlace s a
    ∨ (∃ k : Watched, laneOffset s a = some k.offset ∧ watchedRule s (mergeWord be (watchedCopy s k) data) k
        ∧ (k = .receiptFill → saleReady s = true))
    ∨ (∃ o, laneOffset s a = some o ∧ sectionAt o = some .pageTable ∧ entryInUse s ((o - 0xD000) / 8) = false)
    ∨ ∃ o m, laneOffset s a = some o ∧ sectionAt o = some .aperture ∧ translate s o = some m ∧ addrProtected s m = false

/-- The row of the table that writes a watched word. -/
def watchedRow (k : Watched) (be : BitVec 4) (data : Word) (last : Bool) : Instr :=
  match k with
  | .reqProducer => .reqProducerWrite be data last
  | .evtConsumer => .evtConsumerWrite be data last
  | .journalExport => .journalExportWrite be data last
  | .noticeMask => .noticeMaskWrite be data last
  | .receiptFill => .receiptFillWrite be data last

/-- The lane-area offsets of the words written at the release of RESET_N (R2, R15, R39, R41, R62). -/
def releaseOffsets : List Nat :=
  (List.range 5).map (fun k => 0x1000 + 4 * k) ++ (List.range 128).map (fun k => 0xD000 + 4 * k)
    ++ [0x2000, 0x2004, 0x2010, 0x2014, 0x2020]
    ++ (List.range 7).map (fun k => 0x2100 + 4 * k) ++ (List.range 7).map (fun k => 0x2120 + 4 * k)
    ++ (List.range 7).map (fun k => 0x2140 + 4 * k) ++ (List.range 7).map (fun k => 0x2160 + 4 * k)

/-- The Till Unit with its reset values, for these filters, readings and drawer (R151). -/
def tillReset (sense keyOn : Filter) (sensor key : Bool) (drawer : DrawerState) : Tu where
  drawer := drawer
  forced := false
  attempts := 0
  cause := .none
  solenoid := false
  width := none
  confirm := none
  limitTimer := none
  sensor := sensor
  key := key
  sensorStamp := 0
  keyStamp := 0
  openStamp := 0
  closeStamp := 0
  forcedCount := 0
  nosaleCount := 0
  senseFilter := sense
  keyFilter := keyOn
  edges := []

/-! ### The setup, the records -/

/-- The byte at offset `k` of a record of words: byte 0 is the low byte of the first word (R175). -/
def recordByte (r : List Word) (k : Nat) : Nat := (r.getD (k / 4) 0 >>> (8 * (k % 4))).toNat % 256

/-- The field of so many bytes at offset `k` of a record, low byte first (R175). -/
def recordField (r : List Word) : Nat → Nat → Nat
  | _, 0 => 0
  | k, n + 1 => recordByte r k + 256 * recordField r (k + 1) n

/-- Where the fields of a request record lie, and what its named values say (R176, R178). An optional parameter is present where bit
0 of the flags is set (R23). -/
structure recordFields (r : List Word) : Prop where
  tag : (recTag r).toNat = recordField r 0 2
  kindByte : (recKindByte r).toNat = recordByte r 2
  kind : ∀ k, recKind r = some k ↔ 1 ≤ recordByte r 2
    ∧ [RequestKind.setupCommit, .laneReset, .saleOpen, .itemAdd, .itemWeigh, .lineVoid, .scaleZero, .scaleTare, .tareClear
       , .holdRelease, .cardTender, .cardCancel, .tenderVerdict, .cashTender, .drawerNosale, .printSubmit, .saleClose
       , .saleAbort, .receiptAbandon][recordByte r 2 - 1]? = some k
  optional : recOptional r = true ↔ recordByte r 3 % 2 = 1
  mode : recMode r = if recordByte r 4 = 1 then some .staffed else if recordByte r 4 = 2 then some .self else none
  operator : (recOperator r).toNat = recordField r 6 2
  itemCode : (recItemCode r).toNat = recordField r 8 8
  quantity : recQuantity r = recordField r 16 2
  unitPrice : recUnitPrice r = recordField r 20 4
  unitWeight : recUnitWeight r = if recordByte r 3 % 2 = 1 then some (recordField r 24 4) else none
  kiloPrice : recKiloPrice r = recordField r 16 4
  capture : (recCaptureId r).map (fun x => x.toNat) = if recordByte r 3 % 2 = 1 then some (recordField r 20 2) else none
  line : recLineNumber r = recordField r 4 2
  tare : recTare r = if recordByte r 3 % 2 = 1 then some (recordField r 4 4) else none
  cardAmount : recCardAmount r = if recordByte r 3 % 2 = 1 then some (recordField r 4 4) else none
  cashAmount : recCashAmount r = recordField r 4 4
  tender : recTenderIndex r = recordByte r 4
  verdict : recVerdict r
    = if recordByte r 5 = 1 then some .approved else if recordByte r 5 = 2 then some .declined else none
  firstSlot : recFirstSlot r = recordField r 4 2
  lineCount : recLineCount r = recordField r 6 2

/-- Where the fields of the Setup Block lie (R178), what its check adds up, and what a closing label holds (R31). -/
structure setupFields (c : List Word) : Prop where
  field : ∀ n, setupField c n = (c.getD n 0).toNat
  sum : setupSum c = (c.map fun w => w.toNat % 65536 + w.toNat / 65536).sum % 65536
  label : c.length = 256 → ∀ i < 8, (setupLabel c i).length = 16
    ∧ ∀ k < 16, ((setupLabel c i).getD k 0).toNat = recordByte c (0x084 + 16 * i + k)
  text : ∀ i, labelOk (setupLabel c i) = true ↔ ∃ (text : List Byte) (n : Nat),
    setupLabel c i = text ++ List.replicate n 0 ∧ text ≠ [] ∧ ∀ b ∈ text, 0x20 ≤ b.toNat ∧ b.toNat ≤ 0x7E
  snapshot : ∀ f : Nat → Nat, f = (fun n => (c.getD n 0).toNat) → setupOf c =
    { lane := f 2, saleNumber := c.getD 3 0, head := c.getD 4 0, exported := c.getD 5 0, rates := [f 6, f 7, f 8, f 9]
      silences := [f 10, f 11, f 12, f 13], platCapacity := f 14, platDivision := f 15, platMinNet := f 16
      platWindow := f 17, platBand := f 18, platTracking := decide (f 19 = 1), platTareLimit := f 20, bagCapacity := f 21
      bagDivision := f 22, bagWindow := f 23, bagBand := f 24, bagAbsTol := f 25, bagRelTol := f 26, bagWait := f 27
      cardWait := f 28, cancelWait := f 29, kickWidth := f 30, kickConfirm := f 31, drawerLimit := f 32
      labels := [setupLabel c 0, setupLabel c 1, setupLabel c 2, setupLabel c 3, setupLabel c 4, setupLabel c 5
                 , setupLabel c 6, setupLabel c 7] }

/-- What field `n` of a setup copy passes on (R31); `lane` is the lane number once it is fixed. -/
structure setupRule (c : List Word) (lane : Option Half) (n : Nat) : Prop where
  check : n = 0 → setupSum c = 0xFFFF
  format : n = 1 → setupField c 1 = 1
  number : n = 2 → 1 ≤ setupField c 2 ∧ setupField c 2 ≤ 999 ∧ ∀ l, lane = some l → setupField c 2 = l.toNat
  exported : n = 5 → (c.getD 4 0 - c.getD 5 0).toNat ≤ 2048
  rates : 6 ≤ n → n ≤ 9 → setupField c n ≤ 6
  silences : 10 ≤ n → n ≤ 13 → 100 ≤ setupField c n ∧ setupField c n ≤ 5000
  platCapacity : n = 14 → 1000 ≤ setupField c 14 ∧ setupField c 14 ≤ 30000
  platDivision : n = 15 →
    (setupField c 15 = 1 ∨ setupField c 15 = 2 ∨ setupField c 15 = 5 ∨ setupField c 15 = 10)
      ∧ setupField c 14 ≤ 10000 * setupField c 15
  platMinNet : n = 16 → 1 ≤ setupField c 16 ∧ setupField c 16 ≤ 50
  platWindow : n = 17 → 4 ≤ setupField c 17 ∧ setupField c 17 ≤ 32
  platBand : n = 18 → 1 ≤ setupField c 18 ∧ setupField c 18 ≤ 200
  platTracking : n = 19 → setupField c 19 ≤ 1
  platTareLimit : n = 20 → setupField c 20 ≤ setupField c 14
  bagCapacity : n = 21 → 1000 ≤ setupField c 21 ∧ setupField c 21 ≤ 60000
  bagDivision : n = 22 → setupField c 22 = 1 ∨ setupField c 22 = 2 ∨ setupField c 22 = 5 ∨ setupField c 22 = 10
  bagWindow : n = 23 → 4 ≤ setupField c 23 ∧ setupField c 23 ≤ 32
  bagBand : n = 24 → 1 ≤ setupField c 24 ∧ setupField c 24 ≤ 200
  bagAbsTol : n = 25 → 1 ≤ setupField c 25 ∧ setupField c 25 ≤ 500
  bagRelTol : n = 26 → setupField c 26 ≤ 200
  bagWait : n = 27 → 2 ≤ setupField c 27 ∧ setupField c 27 ≤ 60
  cardWait : n = 28 → 10 ≤ setupField c 28 ∧ setupField c 28 ≤ 300
  cancelWait : n = 29 → 2 ≤ setupField c 29 ∧ setupField c 29 ≤ 30
  kickWidth : n = 30 → 50 ≤ setupField c 30 ∧ setupField c 30 ≤ 250
  kickConfirm : n = 31 → 200 ≤ setupField c 31 ∧ setupField c 31 ≤ 2000 ∧ setupField c 30 < setupField c 31
  drawerLimit : n = 32 → 5 ≤ setupField c 32 ∧ setupField c 32 ≤ 600
  labels : n = 33 → ∀ i < 8, labelOk (setupLabel c i) = true

/-- The words stand one after another from a lane-area offset, and these are their bytes (R175). -/
def bytesFrom (off : Nat) (ws : List (Nat × Word)) (bs : List Byte) : Prop :=
  ws.map (fun x => x.1) = (List.range ws.length).map (fun k => off + 4 * k) ∧ bytesOfWords (ws.map fun x => x.2) = bs

/-- One window has been asked for, at the end of the waiting list. -/
def oneAsked (s t : State) (owner : BlockId) (sections : List LaneSection) (fixed : List (Nat × Word)) (after : List After)
    (ofRequest : Bool) : Prop :=
  ∃ w, t.bi.waiting = s.bi.waiting ++ [w] ∧ w.owner = owner ∧ w.sections = sections ∧ w.fixed = fixed ∧ w.live = []
    ∧ w.after = after ∧ w.ofRequest = ofRequest

/-- The numbers of the named values, each list in the order of R176's table; the link numbers are those of 04's. -/
structure namedValues : Prop where
  requestKind : [RequestKind.setupCommit, .laneReset, .saleOpen, .itemAdd, .itemWeigh, .lineVoid, .scaleZero, .scaleTare
    , .tareClear, .holdRelease, .cardTender, .cardCancel, .tenderVerdict, .cashTender, .drawerNosale, .printSubmit, .saleClose
    , .saleAbort, .receiptAbandon].map RequestKind.code = (List.range 19).map (· + 1)
  result : [ResultCode.done, .notReady, .badKind, .badParam, .wrongState, .held, .needKey, .linkDown, .noCapture, .staleCapture
    , .tableFull, .limit, .setupBad, .journalFull, .drawerFault, .drawerOpen, .busy].map ResultCode.code = List.range 17
  eventType : [CondKind.drawerForced, .drawerFault, .linkChange, .bagHoldSet, .bagHoldClear, .tenderOutcome, .tenderConflict
    , .saleFinished, .printStopped, .printResumed, .documentDone, .captureReady, .captureStale, .drawerOpened, .drawerShut
    , .drawerLong, .cardChange, .paperLow, .scaleLimit, .writeRefused, .apertureFault].map CondKind.code
      = (List.range 21).map (· + 1)
  lastCommit : [CommitResult.none, .done, .setupBad].map CommitResult.code = [0, 1, 2]
  device : [DeviceState.unconfigured, .ready].map DeviceState.code = [0, 1]
  mode : [SaleMode.none, .staffed, .self].map SaleMode.code = [0, 1, 2]
  sale : [SaleState.idle, .opened, .tendering, .settled, .closing].map SaleState.code = [0, 1, 2, 3, 4]
  outcome : [SaleOutcome.none, .sold, .voided].map SaleOutcome.code = [0, 1, 2]
  holdReason : [HoldReason.none, .unexpectedAdd, .unexpectedRemoval, .mismatch, .timeout].map HoldReason.code = [0, 1, 2, 3, 4]
  clearReason : [ClearReason.none, .restored, .matched, .released].map ClearReason.code = [0, 1, 2, 3]
  lineKind : [LineKind.item, .weighed].map LineKind.code = [0, 1]
  bagStatus : [BagStatus.none, .exempt, .pending, .bagged, .overridden, .removalPending, .removed].map BagStatus.code
    = [0, 1, 2, 3, 4, 5, 6]
  tenderKind : [TenderKind.card, .cash].map TenderKind.code = [0, 1]
  tender : [TenderState.requested, .cancelling, .approved, .declined, .cancelled, .unresolved, .taken].map TenderState.code
    = [0, 1, 2, 3, 4, 5, 6]
  capture : [CaptureState.free, .fresh, .used, .stale].map CaptureState.code = [0, 1, 2, 3]
  machine : [CaptureMachine.armed, .captured, .spent].map CaptureMachine.code = [0, 1, 2]
  zone : [LoadZone.empty, .loaded].map LoadZone.code = [0, 1]
  limit : [LimitState.normal, .over, .under, .fault, .offline].map LimitState.code = [0, 1, 2, 3, 4]
  verification : [Verification.inactive, .staffed, .self].map Verification.code = [0, 1, 2]
  drawer : [DrawerState.shut, .kicking, .opened, .fault].map DrawerState.code = [0, 1, 2, 3]
  kickCause : [KickCause.none, .cash, .refund, .nosale].map KickCause.code = [0, 1, 2, 3]
  module : [ModuleStatus.none, .ready, .busy, .fault].map ModuleStatus.code = [0, 1, 2, 3]
  verdict : [Verdict.approved, .declined].map Verdict.code = [1, 2]
  printer : [PrinterCond.offline, .stopped, .ready].map PrinterCond.code = [0, 1, 2]
  stopCause : [StopCause.none, .paperOut, .coverOpen, .linkDown].map StopCause.code = [0, 1, 2, 3]
  paper : [Paper.ok, .low, .out].map Paper.code = [0, 1, 2]
  owner : Owner.none.code = 0 ∧ Owner.receipt.code = 1 ∧ ∀ j, (Owner.job j).code = 0x10 + j
  receipt : [ReceiptState.none, .printing, .closing, .block, .ended].map ReceiptState.code = [0, 1, 2, 3, 4]
  job : [JobState.free, .queued, .printing, .suspended, .done].map JobState.code = [0, 1, 2, 3, 4]
  journal : [JournalKind.sale, .void, .nosale].map JournalKind.code = [0, 1, 2]
  link : [LinkState.quiet, .unseen, .up, .mismatch, .down].map LinkState.code = [0, 1, 2, 3, 4]
  deviceKind : [LinkId.platter, .bag, .card, .printer].map expectedDevice = [1, 1, 2, 3]
  linkReason : [LinkReason.laneUp, .rateChanged, .identMatched, .identWrong, .brk, .silence, .badFrames, .frameResumed
    , .laneReset].map LinkReason.code = (List.range 9).map (· + 1)
  errorKind : [ErrorKind.none, .framing, .length, .gap, .check, .brk, .overrun, .kind].map ErrorKind.code
    = [0, 1, 2, 3, 4, 5, 6, 7]
  errorField : [RxField.hunt, .length, .header, .payload, .check].map RxField.code = [0, 1, 2, 3, 4]
  linkNumber : [LinkId.platter, .bag, .card, .printer].map linkNo = [0, 1, 2, 3]

/-! ### The frames received -/

/-- The field of so many bytes at offset `k` of a payload, low byte first (R175). -/
def payloadField (p : List Byte) : Nat → Nat → Nat
  | _, 0 => 0
  | k, n + 1 => (p.getD k 0).toNat + 256 * payloadField p (k + 1) n

/-- What a unit reads of a received frame, by offset in its payload (R177), and what the numbers there say (R176). -/
structure frameFields (p : List Byte) : Prop where
  byte : ∀ k, (payByte p k).toNat = payloadField p k 1
  half : ∀ k, (payHalf p k).toNat = payloadField p k 2
  word : ∀ k, (payWord p k).toNat = payloadField p k 4
  bytes : ∀ k n, k + n ≤ p.length → payBytes p k n = (p.drop k).take n
  gross : sampleGross p
    = if payloadField p 0 4 < 2147483648 then (payloadField p 0 4 : Int) else (payloadField p 0 4 : Int) - 4294967296
  fault : sampleFault p = true ↔ payloadField p 4 1 % 2 = 1
  overrange : sampleOverrange p = true ↔ payloadField p 4 1 / 2 % 2 = 1
  module : moduleOf p = match payloadField p 0 1 with | 0 => ModuleStatus.none | 1 => .ready | 2 => .busy | _ => .fault
  paper : paperOf p = match payloadField p 0 1 with | 0 => Paper.ok | 1 => .low | _ => .out
  cover : coverOpenOf p = true ↔ payloadField p 1 1 ≠ 0
  credits : creditsOf p = payloadField p 2 1

/-- The check value of bytes (R56): the register starts at 0xFFFF; the bytes come in order, each most significant bit first; each bit
is compared with the register's top bit, the register is shifted left by one place, and combined with 0x1021 if they differed. -/
def checkRule (bs : List Byte) : Half :=
  (bs.flatMap fun b => [7, 6, 5, 4, 3, 2, 1, 0].map b.getLsbD).foldl
    (fun (r : Half) (bit : Bool) => if r.getLsbD 15 = bit then r <<< 1 else r <<< 1 ^^^ 0x1021) 0xFFFF

/-! ### Weighing -/

/-- `w` grams is the net (tenths of a gram) rounded to whole divisions of `d` grams, halves away from zero (R73). -/
def roundedTo (net : Int) (d : Nat) (w : Int) : Prop :=
  ∃ q : Int, w = q * (d : Int) ∧ 2 * (net - 10 * w).natAbs ≤ 10 * d ∧ (2 * (net - 10 * w).natAbs = 10 * d → net.natAbs ≤ (10 * w).natAbs)

/-- The limit state of a sample, from its flags and its gross (R76, R111). -/
def limitRule (fault overrange : Bool) (gross : Int) (capacity division : Nat) : LimitState :=
  if fault = true then .fault
  else if overrange = true ∨ ((10 * capacity + 90 * division : Nat) : Int) < gross then .over
  else if gross < -((200 * division : Nat) : Int) then .under
  else .normal

/-- Any two of the values are within the band (R75). -/
def allWithin (band : Nat) (vs : List Int) : Prop := ∀ x ∈ vs, ∀ y ∈ vs, x - y ≤ (band : Int)

/-- The stability window after a gross value enters it: with the oldest of `size` values gone, and begun anew with the value when
the values are not within the band (R75). -/
def windowRule (old new : List Int) (gross : Int) (size band : Nat) : Prop :=
  (allWithin band ((if size ≤ old.length then old.tail else old) ++ [gross]) →
      new = (if size ≤ old.length then old.tail else old) ++ [gross])
    ∧ (¬ allWithin band ((if size ≤ old.length then old.tail else old) ++ [gross]) → new = [gross])

/-! ### Results, notices, windows asked -/

/-- The request in execution has been given this result. -/
def answeredWith (t : State) (r : ResultCode) (d1 d2 : Word) : Prop :=
  t.re.outcome = some { result := r, detail1 := d1, detail2 := d2 }

/-- A condition of this kind and source has been raised in the step: its latch is pending with that source, or the Notice Unit
has taken it (R46, R47). -/
def reported (t : State) (k : CondKind) (source : Nat) : Prop :=
  ((latchAt t (latchIndex k source)).pending = true ∧ (latchAt t (latchIndex k source)).source = source)
    ∨ ∃ n stamp waiting payload, t.nu.writer = .asking k n stamp source waiting payload

/-- The transmit queue of a link that has entered DOWN, where `x` is the link before: the frame being sent stays, the frames that
wait are discarded, and a HELLO is queued, which starts at once where none is being sent (R64, R68). -/
def downQueue (s : State) (l : LinkId) (x : Link) : List TxFrame :=
  x.tx.filter (fun f => f.seq.isSome)
    ++ [{ kind := kHello, payload := helloPayload s l
          seq := if ∃ f ∈ x.tx, f.seq.isSome = true then none else some x.txSeq }]

/-- What the end of a frame attempt by an error leaves of a link, where `x` is the link with the error counted and the attempt
dropped, in state `s`: the run of bad frames grows to at most 8; the eighth takes a link that is UNSEEN or UP DOWN (R68). -/
def badFrameCounted (s t : State) (l : LinkId) (x : Link) : Prop :=
  if x.badRun < 7 ∨ (x.state ≠ .unseen ∧ x.state ≠ .up) then
    t.link l = { x with badRun := min (x.badRun + 1) 8 } ∧ t.nu = s.nu
  else (t.link l).state = .down ∧ (t.link l).reason = .badFrames ∧ (t.link l).prevState = x.state ∧ (t.link l).badRun = 0
    ∧ (t.link l).errorSum = x.errors.sum
    ∧ (t.link l).path = x.path ++ [.change x.state .down] ∧ (t.link l).errors = x.errors ∧ (t.link l).lastError = x.lastError
    ∧ (t.link l).attempt = x.attempt ∧ (t.link l).line = x.line ∧ (t.link l).silence = startTimer s (cfgSilence s l)
    ∧ (t.link l).tx = downQueue s l x ∧ reported t .linkChange (linkNo l)

/-- The bytes have arrived one after another, each with its stop bit high. -/
def arrived (l : LinkId) : State → List Byte → State → Prop
  | s, [], t => t = s
  | s, b :: rest, t => ∃ u, exec (.rxCharacter l b true) s = .next u ∧ arrived l u rest t

/-- A link has entered UNSEEN at a commit (R65, R70): at the new rate at once, with its HELLO started under SEQ 0, or, while a frame
is being sent, at the old one until its end, with the HELLO behind it. -/
def linkUnseen (s t : State) (l : LinkId) (reason : LinkReason) (rate silence : Nat) (lane : Half) : Prop :=
  ∃ (hello : TxFrame) (sent : List TxFrame) (old : Link), old = s.link l ∧ sent = old.tx.filter (fun f => f.seq.isSome)
    ∧ hello = { kind := kHello, payload := le2 lane ++ [BitVec.ofNat 8 (linkNo l), BitVec.ofNat 8 rate]
                seq := if sent = [] then some 0 else none }
    ∧ t.link l = { old with
        state := .unseen, prevState := old.state, reason := reason, errorSum := old.errors.sum, badRun := 0
        path := old.path ++ [.change old.state .unseen], firstAfterUp := false, identSeen := false, tracked := none
        attempt := none, line := .running, freshStart := true, tx := sent ++ [hello]
        txSeq := if sent = [] then 1 else 0, rate := if sent = [] then rate else old.rate
        rateNext := if sent = [] then none else some rate, silence := startTimer t silence }

/-- Latch `i` has the highest priority among the pending latches whose kind the mask leaves open (R46, R49). -/
def firstOpen (s : State) (mask : Word) (i : Nat) : Prop :=
  i < 24 ∧ (latchAt s i).pending = true ∧ mask.getLsbD ((latchKind i).code - 1) = false
    ∧ ∀ j < i, (latchAt s j).pending = false ∨ mask.getLsbD ((latchKind j).code - 1) = true

/-- The Notice Unit has taken latch `i` and no other: the latch is cleared, its count, stamp and source go into the record, and the
units of its kind are asked (R47). -/
def latchTaken (s t : State) (i : Nat) : Prop :=
  t.nu.latches = s.nu.latches.set i { latchAt s i with pending := false, count := 0 }
    ∧ t.nu.writer = .asking (latchKind i) (latchAt s i).count (latchAt s i).stamp (latchAt s i).source
        (askedUnits (latchKind i)) (List.replicate 16 0)

/-- What a free writer takes when the Notice Unit looks with no completion owed, under a mask, with so many completion slots
reserved and so many slots free: the first open latch where more are free than reserved, and else nothing (R46, R47, R49). -/
def looked (s t : State) (mask : Word) (reserved free : Nat) : Prop :=
  (∀ i, firstOpen s mask i → reserved < free → latchTaken s t i)
    ∧ ((∀ i, ¬ firstOpen s mask i) ∨ free ≤ reserved → t.nu.latches = s.nu.latches ∧ t.nu.writer = .free)

/-- The owner has asked for a window that covers a section. -/
def askedFor (t : State) (owner : BlockId) (x : LaneSection) : Prop :=
  ∃ w ∈ t.bi.waiting, w.owner = owner ∧ x ∈ w.sections

/-! ### The bytes of the records (R179) -/

/-- The 192 bytes of the Sale Record header (R94, R179). -/
def headerBytes (u : Su) : List Byte :=
  let h := u.header
  le4 h.number ++ [BitVec.ofNat 8 h.state.code, BitVec.ofNat 8 h.mode.code] ++ le2 h.operator
    ++ [BitVec.ofNat 8 h.outcome.code, if h.bagHold then 1 else 0, BitVec.ofNat 8 h.holdReason.code
        , BitVec.ofNat 8 h.clearReason.code]
    ++ [if (∃ x ∈ u.tenders, x.state = .unresolved) then (1 : Byte) else 0, 0] ++ le2 (BitVec.ofNat 16 u.lines.length)
    ++ le2 (BitVec.ofNat 16 (u.lines.countP fun l => l.live)) ++ le2 (BitVec.ofNat 16 (u.lines.countP fun l => !l.live))
    ++ ([u.subtotal, u.applied, u.cardApproved, u.cashReceived, u.change, u.subtotal - u.applied].map
          fun n => le4 (BitVec.ofNat 32 n)).flatten
    ++ le2 (BitVec.ofNat 16 u.tenders.length) ++ [(0 : Byte), 0] ++ le4 (BitVec.ofInt 32 h.baseline)
    ++ le2 (BitVec.ofNat 16 (u.lines.countP fun l => decide (l.bag = .pending ∨ l.bag = .removalPending)))
    ++ le2 (BitVec.ofNat 16 h.overrides)
    ++ u.lines.map (fun l => BitVec.ofNat 8 l.bag.code) ++ List.replicate (96 - u.lines.length) 0
    ++ le2 h.receiptStart ++ le2 h.closeMark ++ le4 h.openStamp ++ le4 h.endStamp ++ List.replicate 28 0

/-- The 64 bytes of line entry `n`, from 1 (R95, R179). -/
def lineBytes (n : Nat) (l : SaleLine) : List Byte :=
  le2 (BitVec.ofNat 16 n) ++ [if l.live then (0 : Byte) else 1, BitVec.ofNat 8 l.kind.code, 0, 0, 0, 0]
    ++ le4 (l.code.extractLsb' 0 32) ++ le4 (l.code.extractLsb' 32 32) ++ le2 (BitVec.ofNat 16 l.quantity) ++ [(0 : Byte), 0]
    ++ ([l.weight, l.price, l.amount].map fun k => le4 (BitVec.ofNat 32 k)).flatten
    ++ le4 (match l.delta with | some d => BitVec.ofInt 32 d | none => 0) ++ [if l.delta = none then (0 : Byte) else 1, 0]
    ++ le2 l.captureId ++ le4 l.stamp ++ List.replicate 20 0

/-- The 64 bytes of tender entry `i`, from 0 (R97, R179). -/
def tenderBytes (i : Nat) (x : Tender) : List Byte :=
  [BitVec.ofNat 8 i, BitVec.ofNat 8 x.kind.code, BitVec.ofNat 8 x.state.code, if x.byKey then 1 else 0]
    ++ ([x.requested, x.received, x.applied].map fun k => le4 (BitVec.ofNat 32 k)).flatten ++ le2 x.reference
    ++ [x.entryMethod] ++ x.lastFour ++ x.code ++ [(0 : Byte), 0, 0] ++ le4 x.created ++ le4 x.final ++ List.replicate 24 0

/-- Bytes 0 to 61 of a journal entry, with its flags (R169, R179). -/
def entryBytes (e : JournalEntry) (flags : Byte) : List Byte :=
  le4 e.number ++ [BitVec.ofNat 8 e.kind.code, BitVec.ofNat 8 e.mode.code] ++ le2 e.lane ++ le4 e.sale ++ le4 e.openStamp
    ++ le4 e.endStamp ++ le2 (BitVec.ofNat 16 e.live) ++ le2 (BitVec.ofNat 16 e.voided)
    ++ ([e.subtotal, e.card, e.cash, e.change].map fun n => le4 (BitVec.ofNat 32 n)).flatten
    ++ ([e.overrides, e.forced, e.nosales].map fun n => le2 (BitVec.ofNat 16 n)).flatten ++ [flags] ++ List.replicate 15 0

/-- An entry's check code is the CRC-16 of its bytes 0 to 61 with RECEIPT_INCOMPLETE clear (R169). -/
def entryChecked (e : JournalEntry) : Prop := e.check = crc16 (entryBytes e (if e.byKey then 2 else 0))

/-- The entry SALE_CLOSE or SALE_ABORT fixes (R169): the header's fields and totals as they stand, the clock as the end stamp, the
carries, and its check code. -/
structure closingEntry (s : State) (kind : JournalKind) (e : JournalEntry) : Prop where
  entry : e.number = s.ju.head ∧ e.kind = kind ∧ e.mode = s.su.header.mode ∧ e.lane = s.re.laneNumber.getD 0
  sale : e.sale = s.su.header.number ∧ e.openStamp = s.su.header.openStamp ∧ e.endStamp = s.re.clock
  counts : e.live = s.su.lines.countP (fun l => l.live) ∧ e.voided = s.su.lines.countP (fun l => !l.live)
  money : e.subtotal = s.su.subtotal ∧ e.card = s.su.cardApproved ∧ e.cash = s.su.applied - s.su.cardApproved
    ∧ e.change = s.su.change
  carries : e.overrides = s.su.header.overrides ∧ e.forced = s.ju.forcedCarry ∧ e.nosales = s.ju.nosaleCarry
  flags : e.byKey = true ↔ ∃ x ∈ s.su.tenders, x.byKey = true
  check : entryChecked e

/-- The header words that an event of the SU changes, by lane-area offset. -/
def headerChanges (old new : Su) : List (Nat × Word) :=
  (wordsAt 0x8000 (saleHeaderWords new)).filter fun x => !(wordsAt 0x8000 (saleHeaderWords old)).contains x

/-- The SU has an event in hand whose window writes the header words it changes, and these bytes from a lane-area offset on
(R91, R94). -/
def saleEventWrites (s t : State) (off : Nat) (bytes : List Byte) : Prop :=
  ∃ (e : SaleEvent) (entry : List (Nat × Word)), t.su.event = some e ∧ e.words = headerChanges s.su t.su ++ entry
    ∧ bytesFrom off entry bytes

/-- The window of the SU's event has been asked for. -/
def saleEventAsked (t : State) : Prop :=
  ∃ (e : SaleEvent) (w : WindowAsk), t.su.event = some e ∧ w ∈ t.bi.waiting ∧ w.owner = .su ∧ w.sections = [.saleRecord]
    ∧ w.fixed = e.words ∧ w.live = [] ∧ w.after = e.after ++ [.suDone] ∧ w.ofRequest = e.ofRequest

/-! ### The bag's expectations -/

/-- An expectation has joined the BWU's list (R115, R117): at its place in line-number order, with the larger of the absolute
tolerance and |delta| × relative tolerance ÷ 1000; its line's matched mark is cleared; and the wait timer starts where the list
was empty and the hold is clear. -/
def expectationJoined (s t : State) (line : Nat) (delta : Int) : Prop :=
  t.bwu = { s.bwu with
    pend := s.bwu.pend.takeWhile (fun e => decide (e.line ≤ line))
      ++ [{ line := line, delta := delta
            tolerance := ((max (cfg s).bagAbsTol (delta.natAbs * (cfg s).bagRelTol / 1000) : Nat) : Int) }]
      ++ s.bwu.pend.dropWhile (fun e => decide (e.line ≤ line))
    matched := s.bwu.matched.filter fun n => n != line
    waitTimer := if s.bwu.pend = [] ∧ s.bwu.hold = false then startTimer s ((cfg s).bagWait * 1000) else s.bwu.waitTimer }

/-! ### The printer's owner and its blocks -/

/-- Job `k` is QUEUED, and no QUEUED job was submitted earlier: none has a submission number further behind the counter, modulo
65,536 (R161, R162). -/
def earliestQueued (u : Pu) (k : Nat) : Prop :=
  k < 8 ∧ (u.jobs.getD k Job.free).state = .queued
    ∧ ∀ j < 8, (u.jobs.getD j Job.free).state = .queued →
        (u.submissions - (u.jobs.getD j Job.free).submission).toNat ≤ (u.submissions - (u.jobs.getD k Job.free).submission).toNat

/-- What the arbiter leaves of a PU `u` whose owner is NONE (R162): a bound receipt that is not ENDED is the owner; with none
bound, while the printer is READY, the QUEUED job submitted earliest is, and is PRINTING with its started stamp; else the owner
stays NONE. -/
def arbiterChose (clock : Word) (u v : Pu) : Prop :=
  (u.bound = true → v.jobs = u.jobs ∧ v.owner = if u.receipt = .ended then .none else .receipt)
  ∧ (u.bound = false → u.cond = .ready → (∃ j < 8, (u.jobs.getD j Job.free).state = .queued) →
      ∃ k < 8, earliestQueued u k ∧ v.owner = .job k
        ∧ v.jobs = u.jobs.set k { u.jobs.getD k Job.free with state := .printing, started := clock })
  ∧ (u.bound = false → u.cond ≠ .ready ∨ (∀ j < 8, (u.jobs.getD j Job.free).state ≠ .queued) →
      v.owner = .none ∧ v.jobs = u.jobs)

/-- These bytes are the decimal digits of a number, without leading zeros (R159). -/
def decimalDigits (n : Nat) (t : List Byte) : Prop :=
  t ≠ [] ∧ (∀ d ∈ t, 48 ≤ d.toNat ∧ d.toNat ≤ 57) ∧ t.foldl (fun a d => 10 * a + (d.toNat - 48)) 0 = n
    ∧ (1 < t.length → t.head? ≠ some 48)

/-- The frames of the closing or void block (R159), written from the closing labels, the sale and the fixed check code; `number`
writes a number in decimal. -/
def blockRule (s : State) (number : Nat → List Byte) (kind : BlockKind) : List BlockFrame :=
  let label := fun i => ((cfg s).labels.getD i []).takeWhile (· != 0)
  let money := fun n => number (n / 100) ++ [46, BitVec.ofNat 8 (48 + n / 10 % 10), BitVec.ofNat 8 (48 + n % 10)]
  let line := fun (a b : List Byte) => BlockFrame.line (a ++ List.replicate (48 - (a.length + b.length)) 32 ++ b)
  let check := match s.ju.fixed with | some e => e.check.toNat | none => 0
  let hex := fun n => ([48, 49, 50, 51, 52, 53, 54, 55, 56, 57, 65, 66, 67, 68, 69, 70] : List Byte).getD (n % 16) 0
  [.line (List.replicate 48 45)]
    ++ (match kind with
        | .void => [.line (label 7)]
        | .closing =>
            [line (label 0) (money s.su.subtotal)]
              ++ s.su.tenders.filterMap (fun x =>
                  if x.state = .approved then
                    some (line (label 1) ([42, 42, 42, 42] ++ x.lastFour ++ [32]
                      ++ (if ∀ c ∈ x.code, c = 0 then [] else x.code ++ [32]) ++ money x.applied))
                  else if x.state = .taken then some (line (label 2) (money x.received))
                  else none)
              ++ (if ∃ x ∈ s.su.tenders, x.state = .taken then [line (label 3) (money s.su.change)] else []))
    ++ [.line ((label 4 ++ [32] ++ number s.su.header.number.toNat ++ [32] ++ label 5 ++ [32]
          ++ number (s.re.laneNumber.getD 0).toNat ++ [32] ++ number s.su.header.endStamp.toNat).take 48)
        , .line (label 6 ++ [32, hex (check / 4096), hex (check / 256), hex (check / 16), hex check]), .feed 4, .cut]

/-! ### The consume claim -/

/-- The PWU has refused a consume claim with this result: detail 2 is the capture named, or 0, and the SU's event ends with nothing
written (R103). -/
def consumeRefused (s t : State) (r : ResultCode) (named : Word) : Prop :=
  answeredWith t r 0 named ∧ t.su = { s.su with inbox := s.su.inbox.tail, claim := none } ∧ requestFrame [.su] s t

/-! ### The card link -/

/-- The frame at the front has left the ordered path of a link, and the other links are as before (R63). -/
def pathTaken (s t : State) (l : LinkId) : Prop :=
  (t.link l).path = (s.link l).path.tail ∧ ∀ k, k ≠ l → t.link k = s.link k

/-- The CTU has made a frame: it joins the send list, and the oldest frames enter the link's queue, which takes them while the link
is UP and holds fewer than four; but the waiting frames stay while the link has left UP without the CTU having been told (R64,
R128). -/
def cardHanded (s t : State) (frame : Byte × List Byte) : Prop :=
  ∃ n, n = (if (s.ctu.sendList ≠ [] ∧ cardLeft s = true) ∨ (s.link .card).state ≠ .up then 0
            else 4 - (s.link .card).tx.length)
    ∧ (t.link .card).tx.map (fun f => (f.kind, f.payload))
        = (s.link .card).tx.map (fun f => (f.kind, f.payload)) ++ (s.ctu.sendList ++ [frame]).take n
    ∧ t.ctu.sendList = (s.ctu.sendList ++ [frame]).drop n

/-- After the event that leaves `t` the CTU takes the link's notices of frames sent whose turn has come, which leaves `v` (R24, R64,
R128; that they are taken in the same step is log 44): none while it is in a request, or while an event that a request held
stands before them. At a notice the frames of the send list are offered, oldest first, but not those made for a link that has
left UP without the CTU having been told. -/
structure cardNoticesTaken (t v : State) : Prop where
  stays : t.ctu.notices = 0 ∨ unitTakes t .ctu .sent = false → v = t
  turn : t.ctu.notices ≠ 0 → unitTakes t .ctu .sent = true →
    v.ctu.notices < t.ctu.notices ∧ (v.ctu.notices = 0 ∨ unitTakes v .ctu .sent = false)
  offered : t.ctu.notices ≠ 0 → unitTakes t .ctu .sent = true →
    ∃ n, n = (if cardLeft t = true ∨ (t.link .card).state ≠ .up then 0 else 4 - (t.link .card).tx.length)
      ∧ v.ctu.sendList = t.ctu.sendList.drop n
      ∧ (v.link .card).tx.map (fun f => (f.kind, f.payload))
          = (t.link .card).tx.map (fun f => (f.kind, f.payload)) ++ t.ctu.sendList.take n
  rest : v.ctu = { t.ctu with notices := v.ctu.notices, sendList := v.ctu.sendList }
  links : ∀ l, l ≠ .card → v.link l = t.link l
  frame : eventFrame [.ctu, .lu] t v
  bi : v.bi = t.bi

/-- The same of the PU: at a notice the frame that waits is offered, where the printer is READY and has credit (R24, R64, R153;
log 44). -/
structure printNoticesTaken (t v : State) : Prop where
  stays : t.pu.notices = 0 ∨ unitTakes t .pu .sent = false → v = t
  turn : t.pu.notices ≠ 0 → unitTakes t .pu .sent = true →
    v.pu.notices < t.pu.notices ∧ (v.pu.notices = 0 ∨ unitTakes v .pu .sent = false)
  idle : t.pu.ready = none →
    v.pu = { t.pu with notices := v.pu.notices, notice := v.pu.notice } ∧ v.lu = t.lu ∧ v.bi = t.bi
  waits : ∀ f, t.pu.ready = some f → t.pu.notices ≠ 0 → unitTakes t .pu .sent = true →
    t.pu.cond ≠ .ready ∨ t.pu.credits = 0 ∨ t.pu.lost = true →
    v.pu = { t.pu with notices := v.pu.notices, notice := true } ∧ v.lu = t.lu ∧ v.bi = t.bi
  offered : ∀ f, t.pu.ready = some f → t.pu.notices ≠ 0 → unitTakes t .pu .sent = true →
    t.pu.cond = .ready → 0 < t.pu.credits → t.pu.lost = false →
    ((t.link .printer).state = .up → (t.link .printer).tx.length < 4 →
      v.pu.ready = none ∧ v.pu.flight = t.pu.flight ++ [{ seq := t.pu.lineSeq, kind := f.flight }]
        ∧ v.pu.credits = t.pu.credits - 1 ∧ v.pu.lineSeq = t.pu.lineSeq + 1
        ∧ (v.link .printer).tx.map (fun g => (g.kind, g.payload))
            = (t.link .printer).tx.map (fun g => (g.kind, g.payload)) ++ [(f.kind, f.payload)]
        ∧ askedFor v .pu .statusPage)
    ∧ ((t.link .printer).state = .up → 4 ≤ (t.link .printer).tx.length →
        v.pu = { t.pu with notices := v.pu.notices, notice := false } ∧ v.lu = t.lu ∧ v.bi = t.bi)
    ∧ ((t.link .printer).state ≠ .up → v.pu.ready = none ∧ v.pu.lost = true ∧ v.lu = t.lu ∧ v.bi = t.bi)
  links : ∀ l, l ≠ .printer → v.link l = t.link l
  frame : eventFrame [.pu, .lu] t v

/-- Where the request that kept the CTU or the PU busy in `s` has ended in `t`, the notices it held come next (R24). -/
def noticesFreed (s t v : State) : Prop :=
  ∃ u, (unitBusy s .ctu = true → cardNoticesTaken t u) ∧ (unitBusy s .ctu = false → u = t)
    ∧ (unitBusy s .pu = true → printNoticesTaken u v) ∧ (unitBusy s .pu = false → v = u)

/-! ### Zero and tare -/

/-- The zero offset has become `zero` and the tare `tare` (R73, R74, R80, R85): weight and load zone follow the current gross; a
capture standing on the platter becomes STALE, with the window emptied and the tracking timer stopped; else the timer starts
again from zero where the conditions of R85 hold after the change. -/
structure reweighed (s t : State) (zero tare : Int) : Prop where
  weight : roundedTo (s.pwu.gross - zero - 10 * tare) (cfg s).platDivision t.pwu.weight
  zone : t.pwu.zone
    = if t.pwu.weight.natAbs < (cfg s).platMinNet * (cfg s).platDivision then LoadZone.empty else LoadZone.loaded
  stale : s.pwu.machine = .captured →
    t.pwu = { s.pwu with
      zero := zero, tare := tare, weight := t.pwu.weight, zone := t.pwu.zone, zeroTimer := none, window := [], machine := .armed
      table := s.pwu.table.set s.pwu.curSlot { s.pwu.entry s.pwu.curSlot with state := .stale }
      lastStale := (s.pwu.entry s.pwu.curSlot).id }
    ∧ reported t .captureStale 0 ∧ askedFor t .pwu .captureTable
  kept : s.pwu.machine ≠ .captured →
    t.pwu = { s.pwu with
      zero := zero, tare := tare, weight := t.pwu.weight, zone := t.pwu.zone
      zeroTimer := if (cfg s).platTracking = true ∧ s.pwu.machine = .armed ∧ s.pwu.limit = .normal
                       ∧ isStable s.pwu.window (cfg s).platWindow = true ∧ tare = 0
                       ∧ (s.pwu.gross - zero).natAbs ≤ 5 * (cfg s).platDivision then
                     startTimer s 1000 else none }
    ∧ t.nu = s.nu
  asked : askedFor t .pwu .statusPage

/-! ### LANE_RESET -/

/-- A LANE_RESET has reached every unit: the lane is UNCONFIGURED with its clock at 0, and every unit has its reset values (R38,
R52, R71, R89, R109, R110, R138, R151, R166, R174). Of an ordered path the frames are discarded, and its changes stay, with the
tell of the change to QUIET (R63, R70, R71). That paper and cover as last reported stay, and that the latest suspension and the
job most recently DONE go, is log 37; that a slot fetch goes on unwanted is log 28. -/
structure laneWasReset (s t : State) : Prop where
  memory : sameMemory s t
  queue : t.pending = s.pending
  engine : t.re = { s.re with
    device := .unconfigured, clock := 0, setup := none, resetDue := false, resetting := [], phase := t.re.phase
    outcome := t.re.outcome, fetched := t.re.fetched }
  sale : t.su = { s.su with
    header := Header.cleared, lines := [], tenders := []
    inbox := s.su.inbox.filter fun x => decide (x = .payloadAsk) || decide (x = .fillAsk) }
  platter : t.pwu = Pwu.reset
  bag : t.bwu = Bwu.reset
  card : t.ctu = { Ctu.reset with refCounter := s.ctu.refCounter }
  till : t.tu = { s.tu with
    drawer := if s.tu.sensor then .opened else .shut, forced := false, attempts := 0, cause := .none
    solenoid := false, width := none, confirm := none, limitTimer := none, forcedCount := 0, nosaleCount := 0 }
  printer : t.pu = { Pu.reset with
    printIndex := fillCopy s, nextUnsent := fillCopy s, lineSeq := s.pu.lineSeq, submissions := s.pu.submissions
    stray := s.pu.stray, paper := s.pu.paper, coverOpen := s.pu.coverOpen, fetch := t.pu.fetch }
  fetch : ∀ f, t.pu.fetch = some f → f.wanted = false
  journal : t.ju = { s.ju with forcedCarry := 0, nosaleCarry := 0, fixed := none, tells := 0 }
  links : ∀ l, (t.link l).state = .quiet
    ∧ ((s.link l).state ≠ .quiet → (t.link l).line = .stopped ∧ (t.link l).tx = [] ∧ (t.link l).silence = none
        ∧ (t.link l).path = (s.link l).path.filter (fun x => !x.isFrame) ++ [.change (s.link l).state .quiet]
        ∧ (t.link l).reason = .laneReset ∧ (t.link l).prevState = (s.link l).state ∧ (t.link l).errors = (s.link l).errors
        ∧ (t.link l).errorSum = (s.link l).errors.sum)
  asked : askedFor t .su .saleRecord ∧ askedFor t .pwu .captureTable ∧ askedFor t .ctu .cardSession
    ∧ askedFor t .pu .jobTable ∧ askedFor t .bwu .statusPage ∧ askedFor t .tu .statusPage ∧ askedFor t .re .statusPage

/-- The latches after a LANE_RESET: all clear but those of the links that leave a state other than QUIET, which report that
change alone (R52, R71). -/
structure latchesReset (s t : State) : Prop where
  cleared : ∀ i < 24, (i < 2 ∨ 6 ≤ i) → latchAt t i = Latch.clear
  quiet : ∀ l, (s.link l).state = .quiet → latchAt t (2 + linkNo l) = Latch.clear
  raised : ∀ l, (s.link l).state ≠ .quiet →
    latchAt t (2 + linkNo l) = { pending := true, count := 1, stamp := 0, source := linkNo l }
      ∨ t.nu.writer = .asking .linkChange 1 0 (linkNo l) [.lu] (List.replicate 16 0)

end Sys2Proof.Machine
end

