-- ==== Sys2Proof/Certificates/Slice0/Obligations.lean ====
section
/-! DEFINITION. The statements for the provers, in the order of the spec's chapters. Each says of a command that it answers a
next state, which one, and what it leaves unchanged. -/

section

open Sys2Proof Sys2Proof.Machine

/-! ### The machine -/

/-- A step runs the command at the front of the queue on the state with the rest of the queue; on an empty queue the block
idles; no word spells a command (the model's choices of log 1 and log 30). -/
def Obligations.StepRunsTheFrontCommand : Prop :=
  (∀ (c : Instr) (rest : List Instr) (s : State), s.pending = c :: rest → step s = exec c { s with pending := rest })
    ∧ (∀ s : State, s.pending = [] → step s = .next s)
    ∧ ∀ (s : State) (nbits w : Nat), decodeTableWord nbits w = none ∧ s.withFetchWord nbits w = s

/-- Every command answers a next state, in every state, and none touches the queue: the model's choice (log 1: the queue; log 2: a
command whose event cannot occur leaves the state as it is). -/
def Obligations.EveryCommandAnswersNextAndLeavesTheQueue : Prop :=
  ∀ (c : Instr) (s : State), ∃ t, exec c s = .next t ∧ t.pending = s.pending

/-! ### RESET_N -/

/-- The state at the release has the values the rules give for it (R19, R28, R39, R53, R71, R89, R109, R110, R138, R151, R166,
R174), and meets every invariant of the model. The drawer reads SHUT by the sensor level that log 12 chooses. -/
def Obligations.ResetLeavesTheReleasedPart : Prop :=
  let s := State.reset
  (s.bi.reqProducer = 0 ∧ s.bi.evtConsumer = 0 ∧ s.bi.journalExport = 0 ∧ s.bi.noticeMask = 0 ∧ s.bi.receiptFill = 0
      ∧ s.bi.pageTable = List.replicate 64 { frame := 0, valid := 0 } ∧ s.bi.refusedCount = 0 ∧ s.bi.lastRefused = 0
      ∧ s.bi.setupSpan = false ∧ s.bi.waiting = [] ∧ s.bi.opened = [] ∧ s.bi.engine = [])
    ∧ (s.re.device = .unconfigured ∧ s.re.phase = .idle ∧ s.re.consumer = 0 ∧ s.re.lastCommit = .none ∧ s.re.failField = 0
      ∧ s.re.laneNumber = none ∧ s.re.setup = none ∧ s.re.clock = 0)
    ∧ (s.nu.producer = 0 ∧ s.nu.reserved = 0 ∧ (∀ i < 24, (latchAt s i).pending = false) ∧ s.nu.attn = false)
    ∧ (∀ l, (s.link l).state = .quiet ∧ (s.link l).line = .stopped ∧ (s.link l).path = [] ∧ (s.link l).tx = [] ∧ (s.link l).errors.sum = 0)
    ∧ (s.pwu.limit = .offline ∧ s.pwu.zero = 0 ∧ s.pwu.tare = 0 ∧ s.pwu.machine = .armed
      ∧ s.bwu.limit = .offline ∧ s.bwu.verif = .inactive ∧ s.bwu.pend = [] ∧ s.bwu.hold = false)
    ∧ (s.su.header.state = .idle ∧ s.su.lines = [] ∧ s.su.tenders = [] ∧ s.ctu.out = none ∧ s.ctu.refCounter = 1)
    ∧ (s.tu.drawer = .shut ∧ s.tu.solenoid = false ∧ s.pu.cond = .offline ∧ s.pu.owner = .none ∧ s.ju.fixed = none)
    ∧ s.pending = []
    ∧ (memoryCanonical s ∧ ringLaw s ∧ lineLaw s ∧ flightLaw s ∧ windowLaw s ∧ bufferLaw s ∧ tableLaw s ∧ solenoidLaw s)

/-- RESET_N going low gives every block its reset values, those of the Till Unit as R151 lists them, and releases the line and the
solenoid, while memory, the straps and the raw inputs stay (that the readings and the drawer are OFF, SHUT while it is low is the
model's choice, log 12); held low, it lets no other step do anything (R19, R39, R53, R140). A release that no assertion precedes
changes nothing (the model's choice, log 2). The release samples the straps, takes the inputs' raw levels as readings with stamps
of 0 and the drawer from the sensor, and leaves the rest of the Till Unit as R151 gives it; and the words R2 names read 0: the
five control words, the page table, and the Status Page fields of the BI (but for the straps), the RE, the NU and the LU; the rest
of memory stays. -/
def Obligations.ResetNHoldsThenReleasesTheBlocks : Prop :=
  ((∀ s : State, s.bi.inReset = false → ∃ t, exec .resetNAssert s = .next t
      ∧ t.bi = { Bi.reset with laSel := s.bi.laSel, bagFit := s.bi.bagFit, inReset := true }
      ∧ t.re = Re.reset ∧ t.nu = Nu.reset ∧ t.lu = Lu.reset ∧ t.pwu = Pwu.reset ∧ t.bwu = Bwu.reset ∧ t.su = Su.reset
      ∧ t.ctu = Ctu.reset ∧ t.pu = Pu.reset ∧ t.ju = Ju.reset ∧ t.nu.attn = false
      ∧ t.tu = tillReset { raw := s.tu.senseFilter.raw, level := false, count := none }
          { raw := s.tu.keyFilter.raw, level := false, count := none } false false .shut
      ∧ sameMemory s t ∧ t.pending = s.pending)
    ∧ ∀ (c : Instr) (s : State), s.bi.inReset = true → (∀ la bag, c ≠ .resetNRelease la bag) →
        (∀ i b, c ≠ .rawLevelChange i b) → exec c s = .next s)
  ∧ (∀ (s : State) (laSel : BitVec 4) (bagFit : Bool), s.bi.inReset = false →
      exec (.resetNRelease laSel bagFit) s = .next s)
  ∧ (∀ (s : State) (laSel : BitVec 4) (bagFit : Bool), s.bi.inReset = true → memoryCanonical s → s.re = Re.reset →
    s.lu = Lu.reset → s.nu = Nu.reset →
    ∃ t, exec (.resetNRelease laSel bagFit) s = .next t
      ∧ t.bi = { Bi.reset with laSel := laSel, bagFit := bagFit } ∧ laneBase t = laSel.toNat * 16777216
      ∧ t.tu = tillReset { raw := s.tu.senseFilter.raw, level := s.tu.senseFilter.raw, count := none }
          { raw := s.tu.keyFilter.raw, level := s.tu.keyFilter.raw, count := none } s.tu.senseFilter.raw s.tu.keyFilter.raw
          (if s.tu.senseFilter.raw then .opened else .shut)
      ∧ (∀ o ∈ releaseOffsets, o ≠ 0x2000 → Memory.readWord t.mem (laneBase t + o) = 0)
      ∧ Memory.readWord t.mem (laneBase t + 0x2000) = BitVec.ofNat 32 (laSel.toNat + if bagFit then 256 else 0)
      ∧ (∀ a, (∀ o ∈ releaseOffsets, a < laneBase t + o ∨ laneBase t + o + 4 ≤ a) →
          Memory.readByte t.mem a = Memory.readByte s.mem a)
      ∧ t.re = s.re ∧ t.nu = s.nu ∧ t.lu = s.lu ∧ t.pwu = s.pwu ∧ t.bwu = s.bwu ∧ t.su = s.su ∧ t.ctu = s.ctu ∧ t.pu = s.pu
      ∧ t.ju = s.ju ∧ t.pending = s.pending)

/-! ### The memory path -/

/-- A host write word that no section claims, or whose section passes it, is written with its byte enables and nothing else
changes; a word above the served memory or with no byte enabled changes nothing (R1, R3, R6, R30). The first word of a burst that
needs the port makes the burst's grant, which the arbiter counts while an engine access waits (R18; log 3). The
last word of a burst an earlier word of which was refused owes the BI's Status Page write (R4). -/
def Obligations.PlainWordsAreWrittenAndOthersDropped : Prop :=
  (∀ (s : State) (addr : Word) (be : BitVec 4) (data : Word) (last : Bool),
    memoryCanonical s → hostMayWrite s → addr.toNat % 4 = 0 → be ≠ 0 → addr.toNat < Config.servedBytes →
    plainPlace s addr.toNat →
    ∃ t, exec (.hostWriteWord addr be data last) s = .next t ∧ wordWritten s t addr.toNat be data ∧ burstOnly s t
      ∧ t.bi.waitCount = (if s.bi.burstGranted = true then s.bi.waitCount else waitCounted s)
      ∧ t.bi.burstGranted = !last ∧ t.bi.burstRefused = (s.bi.burstRefused && !last)
      ∧ (if last = true ∧ s.bi.burstRefused = true then askedFor t .bi .statusPage else t.bi.waiting = s.bi.waiting)
      ∧ blocksFrame [.bi] s t)
  ∧ ∀ (s : State) (addr : Word) (be : BitVec 4) (data : Word) (last : Bool),
    s.bi.inReset = false → s.bi.hostStall = none → addr.toNat % 4 = 0 → (be = 0 ∨ Config.servedBytes ≤ addr.toNat) →
    ∃ t, exec (.hostWriteWord addr be data last) s = .next t ∧ t.mem = s.mem ∧ burstOnly s t ∧ t.bi.waitCount = s.bi.waitCount
      ∧ t.bi.burstRefused = (s.bi.burstRefused && !last)
      ∧ (if last = true ∧ s.bi.burstRefused = true then askedFor t .bi .statusPage else t.bi.waiting = s.bi.waiting)
      ∧ eventFrame [.bi] s t

/-- A refused word leaves memory and every copy alone; it counts, its address becomes the last refused, its condition is
raised, and after the last word of the burst the Status Page is asked for (R4; R3, R6-R8, R10 say which words). A word of
RECEIPT_FILL is decided at once where the SU is free (R14, R108; log 42). -/
def Obligations.RefusedWordsAreCountedAndReported : Prop :=
  ∀ (s : State) (addr : Word) (be : BitVec 4) (data : Word) (last unmapped : Bool),
    s.bi.inReset = false → s.bi.hostStall = none → s.nu.latches.length = 24 → addr.toNat % 4 = 0 → be ≠ 0 →
    addr.toNat < Config.servedBytes → s.bi.refusedCount ≤ 65535 →
    (laneOffset s addr.toNat = some 0x1010 → saleReady s = true) →
    (if unmapped then unmappedPlace s addr.toNat else refusedPlace s addr.toNat be data) →
    ∃ t, exec (.hostWriteWord addr be data last) s = .next t ∧ t.mem = s.mem
      ∧ t.bi = { s.bi with
          refusedCount := min (s.bi.refusedCount + 1) 65535, lastRefused := addr, burstRefused := !last
          burstGranted := if last then false else s.bi.burstGranted
          waiting := t.bi.waiting, nextWindow := t.bi.nextWindow, nextGroup := t.bi.nextGroup }
      ∧ reported t (if unmapped then .apertureFault else .writeRefused) 0
      ∧ (last = true → askedFor t .bi .statusPage) ∧ eventFrame [.bi] s t

/-- Each row that names one word of the lane area is the host write or read of that word. A write of a Print Page Table entry that
is not in use changes memory and copy by its enabled bytes; a write through a mapped aperture page to a slot that is not
protected changes the word the page's frame holds (R3, R7, R8). The last word of a burst with a refused word owes the BI's
Status Page write (R4). -/
def Obligations.RowsOfTheLaneAreaAreHostAccesses : Prop :=
  ((∀ (s : State) (k : Watched) (be : BitVec 4) (data : Word) (last : Bool),
    exec (watchedRow k be data last) s
      = exec (.hostWriteWord (BitVec.ofNat 32 (laneBase s + k.offset)) be data last) s)
  ∧ (∀ (s : State) (word : Nat) (be : BitVec 4) (data : Word) (last : Bool), word < 128 →
    exec (.printPageTableWrite word be data last) s
      = exec (.hostWriteWord (BitVec.ofNat 32 (laneBase s + 0xD000 + 4 * word)) be data last) s)
  ∧ (∀ (s : State) (word : Nat) (be : BitVec 4) (data : Word) (last : Bool), word < 65536 →
    exec (.apertureWrite word be data last) s
      = exec (.hostWriteWord (BitVec.ofNat 32 (laneBase s + 0x40000 + 4 * word)) be data last) s)
  ∧ ∀ (s : State) (word : Nat), word < 65536 →
    exec (.apertureRead word) s = exec (.hostReadBurst (BitVec.ofNat 32 (laneBase s + 0x40000 + 4 * word)) 1) s)
  ∧ ((∀ (s : State) (word : Nat) (be : BitVec 4) (data : Word) (last : Bool),
    memoryCanonical s → hostMayWrite s → be ≠ 0 → word < 128 → entryInUse s (word / 2) = false →
    ∃ t, exec (.printPageTableWrite word be data last) s = .next t
      ∧ wordWritten s t (laneBase s + 0xD000 + 4 * word) be data
      ∧ t.bi.pageTable = s.bi.pageTable.set (word / 2)
          (if word % 2 = 1 then { pageEntry s (word / 2) with valid := mergeWord be (pageEntry s (word / 2)).valid data }
           else { pageEntry s (word / 2) with frame := mergeWord be (pageEntry s (word / 2)).frame data })
      ∧ (∀ k, watchedCopy t k = watchedCopy s k)
      ∧ (last = true → s.bi.burstRefused = true → askedFor t .bi .statusPage) ∧ blocksFrame [.bi] s t)
  ∧ ∀ (s : State) (word : Nat) (be : BitVec 4) (data : Word) (last : Bool) (frame : Nat),
    memoryCanonical s → hostMayWrite s → be ≠ 0 → word < 65536 →
    (pageEntry s (word / 1024)).valid.getLsbD 0 = true → frame = (pageEntry s (word / 1024)).frame.toNat / 4096 * 4096 →
    frame < Config.servedBytes → (frame < laneBase s ∨ laneBase s + 524288 ≤ frame) →
    addrProtected s (frame + 4 * word % 4096) = false →
    ∃ t, exec (.apertureWrite word be data last) s = .next t
      ∧ wordWritten s t (frame + 4 * word % 4096) be data ∧ burstOnly s t
      ∧ (last = true → s.bi.burstRefused = true → askedFor t .bi .statusPage) ∧ blocksFrame [.bi] s t)

/-- A write of a watched word whose candidate passes its check becomes memory word and copy in one step; the candidate takes
each enabled byte from the write and each other from the copy (R10-R14). JOURNAL_EXPORT and RECEIPT_FILL that move ask for the
Status Page fields of the JU (R167) and the PU (R165). A mask that changes lets the Notice Unit look: the first pending latch
the new mask leaves open is taken, and a masked one stays (R46, R49). A word of RECEIPT_FILL asks the SU, and waits while the SU
is in the middle of an event or has others before the ask (R14, R108; that it waits at the bus is the model's choice, log 42).
The last word of a burst with a refused word owes the BI's Status Page write (R4). -/
def Obligations.WatchedWritesThatPassAreTaken : Prop :=
  (∀ (s : State) (k : Watched) (w : Word), watchedPasses s k w = true ↔ watchedRule s w k)
  ∧ (∀ (be : BitVec 4) (old new : Word) (k : Nat), k < 4 →
      byteOfWord (mergeWord be old new) k = if be.getLsbD k then byteOfWord new k else byteOfWord old k)
  ∧ (∀ (s : State) (be : BitVec 4) (data : Word) (last : Bool), s.bi.inReset = false → s.bi.hostStall = none → be ≠ 0 →
    saleReady s = false →
    exec (.receiptFillWrite be data last) s = .next
      ((s.setBi { s.bi with
          hostStall := some (.fillAsk { addr := laneBase s + 0x1010, be := be, data := data, last := last }) }).setSu
        { s.su with inbox := s.su.inbox ++ [.fillAsk] }))
  ∧ ∀ (s : State) (k : Watched) (be : BitVec 4) (data : Word) (last : Bool),
    memoryCanonical s → hostMayWrite s → be ≠ 0 → watchedRule s (mergeWord be (watchedCopy s k) data) k →
    (k = .receiptFill → saleReady s = true) →
    ∃ t, exec (watchedRow k be data last) s = .next t
      ∧ watchedCopy t k = mergeWord be (watchedCopy s k) data
      ∧ wordWritten s t (laneBase s + k.offset) allBytes (mergeWord be (watchedCopy s k) data)
      ∧ (∀ k', k' ≠ k → watchedCopy t k' = watchedCopy s k')
      ∧ t.bi.pageTable = s.bi.pageTable ∧ t.bi.refusedCount = s.bi.refusedCount ∧ t.bi.opened = s.bi.opened
      ∧ (k = .journalExport → mergeWord be s.bi.journalExport data ≠ s.bi.journalExport → askedFor t .ju .statusPage)
      ∧ (k = .receiptFill → lowHalf (mergeWord be s.bi.receiptFill data) ≠ fillCopy s → askedFor t .pu .statusPage)
      ∧ (last = true → s.bi.burstRefused = true → askedFor t .bi .statusPage)
      ∧ (k = .noticeMask → t.bi.noticeMask = s.bi.noticeMask ∨ s.nu.writer ≠ .free → t.nu = s.nu)
      ∧ (k = .noticeMask → t.bi.noticeMask ≠ s.bi.noticeMask → s.nu.writer = .free → s.nu.owed = none →
          looked s t t.bi.noticeMask s.nu.reserved (freeSlots s))
      ∧ blocksFrame (if k = .reqProducer ∨ k = .evtConsumer then [.bi, .re, .nu] else [.bi]) s t

/-- The Request Engine at a REQ_PRODUCER write that passes (R21, R43): between requests, with a request submitted, it reserves a
slot and fetches, or stalls while the ring is full; a request in hand goes on, and so does a LANE_RESET that is not yet applied on
every unit (R52). The Notice Unit at an EVT_CONSUMER write that passes (R42, R46, R50): a write that does not move the copy
changes nothing in it; one that moves it grants a reservation that is outstanding, sets the line from the new indices, and lets a
free writer take the first pending unmasked latch where more slots are free than reserved. The model's choices: that a condition
record begun counts as reserved where the engine's grant is judged (log 17), and that the two accesses of the fetch are asked for
together (log 48). -/
def Obligations.HostIndicesDriveEngineAndRing : Prop :=
  (∀ (s : State) (be : BitVec 4) (data : Word) (last : Bool),
    hostMayWrite s → be ≠ 0 → watchedRule s (mergeWord be s.bi.reqProducer data) .reqProducer →
    ∃ t, exec (.reqProducerWrite be data last) s = .next t
      ∧ producerCopy t = lowHalf (mergeWord be s.bi.reqProducer data)
      ∧ (s.re.phase ≠ .idle ∨ s.resetOwed = true ∨ producerCopy t = s.re.consumer → t.re = s.re ∧ t.nu = s.nu ∧ t.bi.engine = s.bi.engine)
      ∧ (s.re.phase = .idle → s.resetOwed = false → producerCopy t ≠ s.re.consumer →
          (unconsumed s + s.nu.reserved + conditionBegun s.nu.writer < 256 →
            t.re = { s.re with phase := .fetching, fetched := [] } ∧ t.nu = { s.nu with reserved := 1 }
              ∧ t.bi.engine = s.bi.engine ++ [.fetch 0, .fetch 1])
          ∧ (256 ≤ unconsumed s + s.nu.reserved + conditionBegun s.nu.writer →
            t.re = { s.re with phase := .stalled } ∧ t.nu = s.nu ∧ t.bi.engine = s.bi.engine))
      ∧ blocksFrame [.bi, .re, .nu] s t)
  ∧ (∀ (s : State) (be : BitVec 4) (data : Word) (last : Bool),
    hostMayWrite s → be ≠ 0 → watchedRule s (mergeWord be s.bi.evtConsumer data) .evtConsumer →
    ∃ t, exec (.evtConsumerWrite be data last) s = .next t
      ∧ consumerCopy t = lowHalf (mergeWord be s.bi.evtConsumer data)
      ∧ (consumerCopy t = consumerCopy s → t.nu = s.nu ∧ t.re = s.re)
      ∧ (consumerCopy t ≠ consumerCopy s →
          t.nu.attn = (s.nu.producer != consumerCopy t) ∧ t.nu.producer = s.nu.producer
          ∧ (s.re.phase = .stalled → t.re = { s.re with phase := .fetching, fetched := [] } ∧ t.nu.reserved = 1
              ∧ t.bi.engine = s.bi.engine ++ [.fetch 0, .fetch 1])
          ∧ (s.re.phase ≠ .stalled → t.re = s.re ∧ t.nu.reserved = s.nu.reserved ∧ t.bi.engine = s.bi.engine)
          ∧ (s.nu.writer ≠ .free → t.nu.writer = s.nu.writer ∧ t.nu.latches = s.nu.latches ∧ t.nu.owed = s.nu.owed)
          ∧ (s.nu.writer = .free → s.nu.owed = none →
              looked s t s.bi.noticeMask t.nu.reserved (256 - (s.nu.producer - consumerCopy t).toNat))
          ∧ (∀ c, s.nu.owed = some c → s.nu.writer = .free → t.nu.writer = .completion ∧ t.nu.owed = none
              ∧ t.nu.latches = s.nu.latches ∧ ∃ w ∈ t.bi.waiting, w.owner = .nu ∧ w.live = [.completion c]))
      ∧ blocksFrame [.bi, .re, .nu] s t)

/-- A read burst that nothing holds returns a word for each of its addresses: 0 above the served memory and in an
aperture page without a mapping, the word of the page's frame in a mapped one, and else memory's word; it changes nothing
else (R1, R3, R9). It makes a host grant where one of its words is read through the port, which the arbiter counts while an
engine access waits; while the port is owed to the engine such a burst waits (R18). One that touches an open window waits
(R17), and so does one that touches the Status Page while the Bus Interposer's own write after a refused burst waits for its
window (R4). -/
def Obligations.ReadsReturnMemoryOrWait : Prop :=
  (∀ (s : State) (a n : Nat), burstHeld s a n = true ↔
    ∃ i < n, ∃ x : LaneSection, sectionOf s (a + 4 * i) = some x
      ∧ ((∃ o ∈ s.bi.opened, x ∈ o.sections) ∨ (x = .statusPage ∧ ∃ w ∈ s.bi.waiting, w.owner = .bi)))
  ∧
  (∀ (s : State) (addr : Word) (len : Nat),
    s.bi.inReset = false → readFree s = true → (Instr.hostReadBurst addr len).wellFormed = true → engineOwed s = false →
    burstHeld s addr.toNat len = false →
    ∃ t, exec (.hostReadBurst addr len) s = .next t ∧ t.mem = s.mem
      ∧ t.bi = { s.bi with readData := t.bi.readData, waitCount := t.bi.waitCount } ∧ t.bi.readData.length = len
      ∧ ((∃ i < len, portWord s (addr.toNat + 4 * i)) → t.bi.waitCount = waitCounted s)
      ∧ ((∀ i < len, ¬ portWord s (addr.toNat + 4 * i)) → t.bi.waitCount = s.bi.waitCount)
      ∧ (∀ i < len,
          (Config.servedBytes ≤ addr.toNat + 4 * i → t.bi.readData[i]? = some 0)
          ∧ (addr.toNat + 4 * i < Config.servedBytes →
              (sectionOf s (addr.toNat + 4 * i) ≠ some .aperture →
                t.bi.readData[i]? = some (Memory.readWord s.mem (addr.toNat + 4 * i)))
              ∧ (sectionOf s (addr.toNat + 4 * i) = some .aperture →
                  (translate s (addr.toNat + 4 * i - laneBase s) = none → t.bi.readData[i]? = some 0)
                  ∧ ∀ m, translate s (addr.toNat + 4 * i - laneBase s) = some m →
                      t.bi.readData[i]? = some (Memory.readWord s.mem m))))
      ∧ eventFrame [.bi] s t)
  ∧ (∀ (s : State) (word : Nat),
    s.bi.inReset = false → readFree s = true → word < 65536 → engineOwed s = false →
    burstHeld s (laneBase s + 0x40000 + 4 * word) 1 = false →
    ∃ t, exec (.apertureRead word) s = .next t ∧ t.mem = s.mem
      ∧ t.bi.readData = [match translate s (0x40000 + 4 * word) with | some m => Memory.readWord s.mem m | none => 0]
      ∧ eventFrame [.bi] s t)
  ∧ (∀ (s : State) (addr : Word) (len : Nat),
    s.bi.inReset = false → readFree s = true → (Instr.hostReadBurst addr len).wellFormed = true → engineOwed s = true →
    burstHeld s addr.toNat len = false →
    ((∃ i < len, portWord s (addr.toNat + 4 * i)) →
      exec (.hostReadBurst addr len) s = .next (s.setBi { s.bi with hostStall := some (.readServing addr.toNat len) }))
    ∧ ((∀ i < len, ¬ portWord s (addr.toNat + 4 * i)) →
      exec (.hostReadBurst addr len) s = .next (s.setBi { s.bi with readData := List.replicate len 0 })))
  ∧ ∀ (s : State) (addr : Word) (len : Nat),
    s.bi.inReset = false → readFree s = true → (Instr.hostReadBurst addr len).wellFormed = true →
    burstHeld s addr.toNat len = true →
    exec (.hostReadBurst addr len) s = .next (s.setBi { s.bi with hostStall := some (.readHeld addr.toNat len) })

/-- The memory port (R18): the oldest engine access is granted where no host burst waits for the port or the port is owed to the
engine, which it is when an engine access has waited through 8 host grants, and does its work, the waiting count back at 0; else
the waiting host access is. The accesses of a slot fetch read the page table entry, then the slot's words where its page is
mapped, and else attribute 0 and length 0 (R8, R152); those of a fetch the PU has given up run on, and their words are dropped
(log 28). The BI's own write of a commit's journal export sets memory word, copy and head together (R15, R35). A word that is to be
written and is presented while the port is owed waits, whichever section it lies in (R18). That the two accesses of a slot are
asked for together is the model's choice (log 48). A word of RECEIPT_FILL that waits for the
SU keeps no engine access from the port, and is decided when the SU takes its ask: it is taken, or waits for the port while the
port is owed to the engine, or is refused and reported as any refused word (R4, R14, R108; log 42). -/
def Obligations.MemoryPortGrantsInOrder : Prop :=
  (∀ s : State, engineOwed s = true ↔ s.bi.engine ≠ [] ∧ 8 ≤ s.bi.waitCount)
  ∧ (∀ (s : State) (a : EngineAccess) (rest : List EngineAccess), s.bi.inReset = false → s.bi.engine = a :: rest →
    ((s.bi.burstGranted = false
        ∧ (s.bi.hostStall = none ∨ (∃ b n, s.bi.hostStall = some (.readHeld b n))
          ∨ (engineOwed s = true ∧ ∀ w, s.bi.hostStall ≠ some (.fillAsk w))))
      ∨ ((∃ w, s.bi.hostStall = some (.fillAsk w)) ∧ suFront s ≠ some .fillAsk)) →
    ∃ t, exec .memoryPortGrant s = .next t
      ∧ (∀ half, a = .fetch half →
          t = (s.setBi { s.bi with engine := rest, waitCount := 0 }).setRe { s.re with
            fetched := s.re.fetched
              ++ Memory.readWords s.mem (laneBase s + 0x4000 + s.re.consumer.toNat % 128 * 64 + 32 * half) 8 })
      ∧ (∀ k, a = .setup k →
          t = (s.setBi { s.bi with engine := rest, waitCount := 0 }).setRe { s.re with
            setupRead := s.re.setupRead ++ Memory.readWords s.mem (laneBase s + 32 * k) 8 })
      ∧ (∀ id words, a = .write id words →
          t = (s.setBi { s.bi with engine := rest, waitCount := 0 }).setMem (Memory.writeWords s.mem words))
      ∧ (∀ (p : Nat) (f : SlotFetch) (e : PageEntry) (frame : Nat), a = .pageEntry p → s.pu.fetch = some f →
          e = { frame := Memory.readWord s.mem (laneBase s + 0xD000 + 8 * p)
                valid := Memory.readWord s.mem (laneBase s + 0xD000 + 8 * p + 4) } →
          frame = e.frame.toNat / 4096 * 4096 →
          if f.wanted = false then
            t = (s.setBi { s.bi with engine := rest, waitCount := 0 }).setPu { s.pu with fetch := none }
          else if e.valid.getLsbD 0 = true ∧ frame < Config.servedBytes
              ∧ (frame < laneBase s ∨ laneBase s + 524288 ≤ frame) then
            t = (s.setBi { s.bi with
                engine := rest ++ [.slot (frame + f.slot % 64 * 64) 8, .slot (frame + f.slot % 64 * 64 + 32) 5]
                waitCount := 0 }).setPu { s.pu with fetch := some { f with left := 2 } }
          else
            t = (s.setBi { s.bi with engine := rest, waitCount := 0 }).setPu
              { s.pu with fetch := some { f with left := 0, words := [0] } })
      ∧ (∀ (x n : Nat) (f : SlotFetch), a = .slot x n → s.pu.fetch = some f →
          t = (s.setBi { s.bi with engine := rest, waitCount := 0 }).setPu { s.pu with
            fetch := if f.wanted = false ∧ f.left ≤ 1 then none
              else some { f with left := f.left - 1, words := f.words ++ Memory.readWords s.mem x n } })
      ∧ (s.pu.fetch = none → (∃ p, a = .pageEntry p) ∨ (∃ x n, a = .slot x n) →
          t = s.setBi { s.bi with engine := rest, waitCount := 0 })
      ∧ (∀ head exported, a = .journalWrite head exported → memoryCanonical s →
          t.ju = { s.ju with head := head } ∧ wordWritten s t (laneBase s + 0x1008) allBytes exported
          ∧ t.bi = { s.bi with
              engine := rest, waitCount := 0, journalExport := exported
              waiting := t.bi.waiting, nextWindow := t.bi.nextWindow, nextGroup := t.bi.nextGroup }
          ∧ (headOwed s = false → oneAsked s t .ju [.statusPage] [(0x2024, head), (0x2028, exported)] [] true)
          ∧ blocksFrame [.bi, .ju] s t))
  ∧ (∀ (s : State) (w : HostWord),
    s.bi.inReset = false → s.bi.burstGranted = false → s.bi.hostStall = some (.write w) → engineOwed s = false →
    w.addr < 4294967296 → w.addr % 4 = 0 →
    exec .memoryPortGrant s
      = exec (.hostWriteWord (BitVec.ofNat 32 w.addr) w.be w.data w.last) (s.setBi { s.bi with hostStall := none }))
  ∧ (∀ (s : State) (a n : Nat),
    s.bi.inReset = false → s.bi.burstGranted = false → s.bi.hostStall = some (.readServing a n) → engineOwed s = false →
    ∃ t, exec .memoryPortGrant s = .next t ∧ t.mem = s.mem ∧ t.bi.hostStall = none
      ∧ t.bi.readData = (burstAddrs a n).map (hostReadWord s)
      ∧ ((∃ i < n, portWord s (a + 4 * i)) → t.bi.waitCount = waitCounted s) ∧ eventFrame [.bi] s t)
  ∧ (∀ (s : State) (be : BitVec 4) (data : Word) (last : Bool), s.bi.inReset = false → memoryCanonical s → be ≠ 0 →
    s.bi.hostStall = some (.fillAsk { addr := laneBase s + 0x1010, be := be, data := data, last := last }) →
    suFront s = some .fillAsk → (s.bi.burstGranted = true ∨ engineOwed s = false) →
    watchedRule s (mergeWord be s.bi.receiptFill data) .receiptFill →
    ∃ t, exec .memoryPortGrant s = .next t ∧ t.bi.receiptFill = mergeWord be s.bi.receiptFill data
      ∧ wordWritten s t (laneBase s + 0x1010) allBytes (mergeWord be s.bi.receiptFill data)
      ∧ t.bi.hostStall = none ∧ t.su = { s.su with inbox := s.su.inbox.tail } ∧ blocksFrame [.bi, .su] s t)
  ∧ (∀ (s : State) (w : HostWord), s.bi.inReset = false → w.addr = laneBase s + 0x1010 → w.be ≠ 0 →
    s.bi.hostStall = some (.fillAsk w) → suFront s = some .fillAsk → s.bi.burstGranted = false → engineOwed s = true →
    watchedRule s (mergeWord w.be s.bi.receiptFill w.data) .receiptFill →
    exec .memoryPortGrant s = .next ((s.setBi { s.bi with hostStall := some (.write w) }).setSu
      { s.su with inbox := s.su.inbox.tail }))
  ∧ (∀ (s : State) (be : BitVec 4) (data : Word) (last : Bool), s.bi.inReset = false → s.nu.latches.length = 24 →
    s.bi.refusedCount ≤ 65535 → be ≠ 0 →
    s.bi.hostStall = some (.fillAsk { addr := laneBase s + 0x1010, be := be, data := data, last := last }) →
    suFront s = some .fillAsk → ¬ watchedRule s (mergeWord be s.bi.receiptFill data) .receiptFill →
    ∃ t, exec .memoryPortGrant s = .next t ∧ t.mem = s.mem
      ∧ t.bi = { s.bi with
          hostStall := none, refusedCount := min (s.bi.refusedCount + 1) 65535
          lastRefused := BitVec.ofNat 32 (laneBase s + 0x1010), burstRefused := !last
          burstGranted := if last then false else s.bi.burstGranted
          waiting := t.bi.waiting, nextWindow := t.bi.nextWindow, nextGroup := t.bi.nextGroup }
      ∧ (∃ asks, t.su = { s.su with inbox := s.su.inbox.tail ++ asks } ∧ ∀ x ∈ asks, x = .payloadAsk)
      ∧ reported t .writeRefused 0 ∧ (last = true → askedFor t .bi .statusPage) ∧ eventFrame [.bi] s t)
  ∧ ∀ (s : State) (addr : Word) (be : BitVec 4) (data : Word) (last : Bool),
    s.bi.inReset = false → s.bi.hostStall = none → s.bi.burstGranted = false → engineOwed s = true →
    addr.toNat % 4 = 0 → be ≠ 0 → addr.toNat < Config.servedBytes → portPlace s addr.toNat be data →
    exec (.hostWriteWord addr be data last) s
      = .next (s.setBi { s.bi with
          hostStall := some (.write { addr := addr.toNat, be := be, data := data, last := last }) })

/-- A window opens when no open window and no read being served touches its sections and no request asked earlier waits on them;
its writes go to the port in accesses of 1 to 8 words (R16-R18), with the words R179 and R180 give each unit's fields. Its close
takes it from the open windows and lets its owner go on; a read it held alone is then served (R17, R167), and one that another
open window holds, or the Bus Interposer's own write of R4 still to come, waits on (R4, R17). The SU's window follows
the PWU's or the JU's (R104, R172), and the tells of a sale that opens or closes are delivered when the SU's has closed (R99,
R170, R171). A request's completion is passed on when its last window closes: a free writer takes it at once, and its record is
the one its window writes (R24, R25, R44). Where the Request Engine's own Status Page fields are due (after a commit that is
DONE), it writes them in a window of its own first, and passes the completion when that has closed (R32 steps 4 and 5). The
model's choices: that a window's accesses are asked for all at its opening (log 48), that words not fixed at the ask are taken at
the opening (log 4), that asks of one group count as asked together
(log 5), that a request is over when its windows have closed (log 15), that the PU's and the CTU's windows keep the values of
their event (log 4), and that the notices of frames sent which the ended request held are taken in the same step (R24; log 44). -/
def Obligations.WindowsOpenAndClose : Prop :=
  (∀ (s : State) (i : Nat) (w : WindowAsk),
    s.bi.inReset = false → s.bi.waiting[i]? = some w →
    (∀ o ∈ s.bi.opened, sectionsMeet o.sections w.sections = false) → servingTouches s w.sections = false →
    (∀ x ∈ s.bi.waiting, x.group < w.group → sectionsMeet x.sections w.sections = false) →
    ∃ (t : State) (accesses : List (List (Nat × Word))), exec (.updateWindowOpen i) s = .next t
      ∧ t.bi = { s.bi with
          waiting := s.bi.waiting.filter fun x => x.id != w.id
          opened := s.bi.opened ++ [{ id := w.id, owner := w.owner, sections := w.sections, after := w.after,
                                      ofRequest := w.ofRequest }]
          engine := s.bi.engine ++ accesses.map (EngineAccess.write w.id) }
      ∧ accesses.flatten
          = (w.fixed ++ (w.live.map (liveWords s)).flatten).map (fun x => (laneBase s + x.1, x.2))
      ∧ (∀ a ∈ accesses, 1 ≤ a.length ∧ a.length ≤ 8) ∧ t.free = s.free + 1 ∧ eventFrame [.bi] s t)
  ∧ (∀ (s : State) (i : Nat) (o : OpenWindow),
    s.bi.inReset = false → s.bi.opened[i]? = some o → o.owner ≠ .nu → windowWritten s o.id = true → s.re.outcome = none →
    s.re.resetting = [] →
    ((∀ a n, s.bi.hostStall ≠ some (.readHeld a n)) → o.after = [] →
      exec (.updateWindowClose i) s = .next (s.setBi { s.bi with opened := s.bi.opened.filter fun x => x.id != o.id }))
    ∧ ((∀ a n, s.bi.hostStall ≠ some (.readHeld a n)) → o.after = [.headAdvance] →
      exec (.updateWindowClose i) s
        = .next ((s.setBi { s.bi with opened := s.bi.opened.filter fun x => x.id != o.id }).setJu
            { s.ju with head := s.ju.head + 1 }))
    ∧ (∀ a n, s.bi.hostStall = some (.readHeld a n) → o.after = [] →
        ((∃ x ∈ s.bi.opened, x.id ≠ o.id ∧ burstTouches s a n x.sections = true)
          ∨ ((∃ w ∈ s.bi.waiting, w.owner = .bi) ∧ burstTouches s a n [.statusPage] = true)) →
        exec (.updateWindowClose i) s = .next (s.setBi { s.bi with opened := s.bi.opened.filter fun x => x.id != o.id }))
    ∧ ∀ a n, s.bi.hostStall = some (.readHeld a n) → o.after = [] → engineOwed s = false →
        (∀ x ∈ s.bi.opened, x.id ≠ o.id → burstTouches s a n x.sections = false) →
        ((∃ w ∈ s.bi.waiting, w.owner = .bi) → burstTouches s a n [.statusPage] = false) →
        ∃ t, exec (.updateWindowClose i) s = .next t ∧ t.bi.hostStall = none
          ∧ t.bi.readData = (burstAddrs a n).map (hostReadWord s) ∧ t.mem = s.mem ∧ eventFrame [.bi] s t)
  ∧ ((∀ (s : State) (i : Nat) (o : OpenWindow) (e : SaleEvent) (j : Ju),
    s.bi.inReset = false → s.bi.opened[i]? = some o → o.owner ≠ .nu → windowWritten s o.id = true → s.re.resetting = [] →
    (∀ a n, s.bi.hostStall ≠ some (.readHeld a n)) → s.su.event = some e → (s.re.outcome = none ∨ e.ofRequest = true) →
    (o.after = [.suWrite] ∧ j = s.ju ∨ o.after = [.headAdvance, .suWrite] ∧ j = { s.ju with head := s.ju.head + 1 }) →
    ∃ t, exec (.updateWindowClose i) s = .next t ∧ t.ju = j ∧ t.su = s.su
      ∧ t.bi.opened = s.bi.opened.filter (fun x => x.id != o.id)
      ∧ oneAsked s t .su [.saleRecord] e.words (e.after ++ [.suDone]) e.ofRequest ∧ eventFrame [.bi, .ju] s t)
  ∧ ∀ (s : State) (i : Nat) (o : OpenWindow) (bag : BagTell) (print : PrintTell),
    s.bi.inReset = false → s.bi.opened[i]? = some o → o.owner ≠ .nu → windowWritten s o.id = true → s.re.resetting = [] →
    (∀ a n, s.bi.hostStall ≠ some (.readHeld a n)) →
    (o.after = [.tellBag bag, .tellPrint print, .suDone] ∨ o.after = [.tellPrint print, .tellBag bag, .suDone]) →
    ∃ t v, exec (.updateWindowClose i) s = .next v ∧ noticesFreed s t v
      ∧ t.bwu = { s.bwu with tells := s.bwu.tells ++ [bag] }
      ∧ t.pu = { s.pu with tells := s.pu.tells ++ [print] } ∧ t.su = { s.su with event := none, inbox := t.su.inbox }
      ∧ t.bi.opened = s.bi.opened.filter (fun x => x.id != o.id) ∧ courseOnly s t
      ∧ eventFrame [.bi, .re, .su, .bwu, .pu] s t)
  ∧ ((∀ s : State, bytesFrom 0x2000 (liveWords s .bi)
      ([BitVec.ofNat 8 s.bi.laSel.toNat, if s.bi.bagFit then 1 else 0] ++ le2 (BitVec.ofNat 16 s.bi.refusedCount)
        ++ le4 s.bi.lastRefused))
    ∧ (∀ s : State, bytesFrom 0x2040 (liveWords s .pwu)
      (le4 (BitVec.ofInt 32 s.pwu.gross) ++ le4 (BitVec.ofInt 32 s.pwu.weight)
        ++ [if 0 < (cfg s).platWindow ∧ s.pwu.window.length = (cfg s).platWindow then 1 else 0
            , BitVec.ofNat 8 s.pwu.zone.code, BitVec.ofNat 8 s.pwu.limit.code, BitVec.ofNat 8 s.pwu.machine.code]
        ++ le4 (BitVec.ofInt 32 s.pwu.zero) ++ le4 (BitVec.ofInt 32 s.pwu.tare)
        ++ le2 (match s.pwu.table.find? fun c => decide (c.state = .fresh) with | some c => c.id | none => 0)
        ++ le2 s.pwu.nextId))
    ∧ (∀ s : State, ∃ expiry : Word, (∀ x, s.bwu.waitTimer = some x → expiry = x.start + BitVec.ofNat 32 x.limit)
      ∧ bytesFrom 0x2060 (liveWords s .bwu)
        (le4 (BitVec.ofInt 32 s.bwu.gross) ++ le4 (BitVec.ofInt 32 s.bwu.weight)
          ++ [if 0 < (cfg s).bagWindow ∧ s.bwu.window.length = (cfg s).bagWindow then 1 else 0
              , BitVec.ofNat 8 s.bwu.limit.code, BitVec.ofNat 8 s.bwu.verif.code, if s.bwu.hold then 1 else 0
              , BitVec.ofNat 8 s.bwu.holdReason.code, if s.bwu.waitTimer = none then 0 else 1]
          ++ le2 (BitVec.ofNat 16 s.bwu.pend.length) ++ le4 (BitVec.ofInt 32 s.bwu.settled)
          ++ le4 (BitVec.ofInt 32 s.bwu.baseline) ++ le4 expiry))
    ∧ (∀ s : State, bytesFrom 0x2080 (liveWords s .tu)
      ([BitVec.ofNat 8 s.tu.drawer.code, if s.tu.forced then 1 else 0, BitVec.ofNat 8 s.tu.attempts
        , BitVec.ofNat 8 s.tu.cause.code, if s.tu.sensor then 1 else 0, if s.tu.key then 1 else 0]
        ++ le2 (BitVec.ofNat 16 s.tu.forcedCount) ++ le2 (BitVec.ofNat 16 s.tu.nosaleCount) ++ [0, 0]
        ++ le4 s.tu.sensorStamp ++ le4 s.tu.keyStamp ++ le4 s.tu.openStamp ++ le4 s.tu.closeStamp))
    ∧ (∀ (s : State) (l : LinkId) (e : ErrorCounters), e = (s.link l).errors →
      bytesFrom (0x2100 + 32 * linkNo l) (liveWords s (.link l))
        (([e.framing, e.length, e.gap, e.check, e.brk, e.overrun, e.kind, (s.link l).seqGaps].map
            fun n => le2 (BitVec.ofNat 16 n)).flatten
          ++ [BitVec.ofNat 8 (s.link l).lastError.kind.code, BitVec.ofNat 8 (s.link l).lastError.field.code
              , BitVec.ofNat 8 (s.link l).lastError.offset, BitVec.ofNat 8 (s.link l).state.code, (s.link l).identKind, 0, 0, 0]
          ++ le4 (s.link l).lastError.stamp)))
  ∧ ((∀ (s : State) (k : Nat) (c : Capture), s.pwu.table[k]? = some c →
      bytesFrom (0xC000 + 64 * k) (liveWords s (.captureEntry k))
        (le2 c.id ++ [BitVec.ofNat 8 c.state.code, 0] ++ le4 (BitVec.ofInt 32 c.net) ++ le4 (BitVec.ofInt 32 c.tare)
          ++ le4 (BitVec.ofInt 32 c.gross) ++ le4 c.stamp ++ le2 (BitVec.ofNat 16 c.line) ++ List.replicate 42 0)
      ∧ bytesFrom (0xC000 + 64 * k) (liveWords s (.captureFree k)) (le2 c.id ++ [BitVec.ofNat 8 c.state.code, 0]))
    ∧ (∀ (s : State) (q : Bool), ∃ (ws : List (Nat × Word)) (view : Byte),
      oneAsked s (askCardSession s q) .ctu [.cardSession] ws [] q
      ∧ (∀ x, s.ctu.out = some x → view = BitVec.ofNat 8 x.state.code)
      ∧ (s.ctu.lastFour.length = 4 → bytesFrom 0xC400 ws
        ([if s.ctu.present then 1 else 0, s.ctu.entryMethod] ++ le2 s.ctu.scheme ++ s.ctu.lastFour
          ++ [BitVec.ofNat 8 s.ctu.module.code, match s.ctu.out with | some x => BitVec.ofNat 8 x.index | none => 0xFF, view
              , if s.ctu.queryAsked then 1 else 0]
          ++ le2 (match s.ctu.out with | some x => x.reference | none => 0)
          ++ le2 (BitVec.ofNat 16 s.ctu.stray) ++ le2 (BitVec.ofNat 16 s.ctu.late) ++ le2 (BitVec.ofNat 16 s.ctu.conflicts))))
    ∧ (∀ (s : State) (q : Bool), ∃ ws : List (Nat × Word), oneAsked s (askReStatus s q) .re [.statusPage] ws [] q
      ∧ bytesFrom 0x2010 ws
        ([BitVec.ofNat 8 s.re.device.code, BitVec.ofNat 8 s.re.lastCommit.code] ++ le2 (s.re.laneNumber.getD 0)
          ++ le2 s.re.consumer ++ [BitVec.ofNat 8 s.re.failField, 0])))
  ∧ (∀ (s : State) (old : Pu) (q : Bool) (changed : List Nat), s.pu.jobs.length = 8 → old.jobs.length = 8 →
      changed = (List.range 8).filter (fun k => decide ((old.jobs.getD k Job.free).state ≠ (jobAt s k).state)
        || decide ((old.jobs.getD k Job.free).acked ≠ (jobAt s k).acked)) →
      ∃ (page : List (Nat × Word)) (entry : Nat → List (Nat × Word)),
        oneAsked s (askPu old s q) .pu (if changed = [] then [.statusPage] else [.statusPage, .jobTable])
          (page ++ (changed.map entry).flatten) [] q
        ∧ bytesFrom 0x20A0 page
          ([BitVec.ofNat 8 s.pu.cond.code, BitVec.ofNat 8 s.pu.cause.code, BitVec.ofNat 8 s.pu.paper.code
            , if s.pu.coverOpen then 1 else 0, BitVec.ofNat 8 s.pu.credits, BitVec.ofNat 8 s.pu.flight.length
            , BitVec.ofNat 8 s.pu.owner.code, BitVec.ofNat 8 s.pu.receipt.code]
            ++ le2 s.pu.printIndex ++ le2 s.pu.nextUnsent ++ le2 (fillCopy s) ++ le2 s.pu.closeMark ++ le2 s.pu.lineSeq
            ++ le2 (BitVec.ofNat 16 s.pu.stray))
        ∧ ∀ k ∈ changed, bytesFrom (0xD200 + 64 * k) (entry k)
          ([BitVec.ofNat 8 (jobAt s k).state.code, 0, 0, 0] ++ le2 (BitVec.ofNat 16 (jobAt s k).first)
            ++ le2 (BitVec.ofNat 16 (jobAt s k).count) ++ le2 (BitVec.ofNat 16 (jobAt s k).next)
            ++ le2 (BitVec.ofNat 16 (jobAt s k).acked) ++ le2 (jobAt s k).submission ++ [0, 0]
            ++ le4 (jobAt s k).submitted ++ le4 (jobAt s k).started ++ le4 (jobAt s k).finished ++ List.replicate 36 0))
  ∧ (∀ (s : State) (i : Nat) (o : OpenWindow) (r : ReqOutcome),
    s.bi.inReset = false → s.bi.opened[i]? = some o → o.owner ≠ .nu → windowWritten s o.id = true → o.after = [] →
    s.re.phase = .executing → s.re.outcome = some r → s.re.statusDue = true → s.re.resetting = [] →
    requestPending (s.setBi { s.bi with opened := s.bi.opened.filter fun x => x.id != o.id }) = false →
    ∃ (t : State) (ws : List (Nat × Word)), exec (.updateWindowClose i) s = .next t
      ∧ t.re = { s.re with statusDue := false } ∧ t.nu = s.nu
      ∧ t.bi.opened = s.bi.opened.filter (fun x => x.id != o.id) ∧ oneAsked s t .re [.statusPage] ws [] true
      ∧ bytesFrom 0x2010 ws
        ([BitVec.ofNat 8 s.re.device.code, BitVec.ofNat 8 s.re.lastCommit.code] ++ le2 (s.re.laneNumber.getD 0)
          ++ le2 s.re.consumer ++ [BitVec.ofNat 8 s.re.failField, 0])
      ∧ requestPending t = true ∧ eventFrame [.bi, .re] s t)
  ∧ ∀ (s : State) (i : Nat) (o : OpenWindow) (r : ReqOutcome) (c : Completion),
    s.bi.inReset = false → s.bi.opened[i]? = some o → o.owner ≠ .nu → windowWritten s o.id = true → o.after = [] →
    s.re.phase = .executing → s.re.outcome = some r → s.re.statusDue = false → s.nu.owed = none → s.re.resetting = [] →
    requestPending (s.setBi { s.bi with opened := s.bi.opened.filter fun x => x.id != o.id }) = false →
    c = { tag := recTag s.re.record, kind := recKindByte s.re.record, outcome := r } →
    ∃ t v, exec (.updateWindowClose i) s = .next v ∧ noticesFreed s t v ∧ t.re = { s.re with phase := .completing }
      ∧ (s.nu.writer ≠ .free → t.nu = { s.nu with owed := some c } ∧ t.bi.waiting = s.bi.waiting)
      ∧ (s.nu.writer = .free → t.nu = { s.nu with writer := .completion }
          ∧ ∃ w, t.bi.waiting = s.bi.waiting ++ [w] ∧ w.owner = .nu ∧ w.sections = [.eventRing, .statusPage]
              ∧ w.fixed = [] ∧ w.live = [.completion c] ∧ w.after = [])
      ∧ eventFrame [.bi, .re] s t

/-! ### Requests -/

/-- The record has been fetched: the consumer index moves past its slot, its field of the Status Page is asked for in a window of
the Request Engine (R20, R22), and the request is judged (R22, R23): a kind without a name is BAD_KIND; while UNCONFIGURED
everything but SETUP_COMMIT and LANE_RESET is NOT_READY, and either is passed to completion at once (R23, R25); any other is in
execution: a request of the SU joins its list, and any other waits for its owner's turn. The parameters of a request lie where
R178 puts them, low byte first (R175), and a number names the value R176 gives it. A unit in the middle of a request takes no
event of its own; the events that waited through it are taken after it in the order they arrived, and before its next request
(R24). The record of that order, and that events which no request held may be taken in either order, are the model's reading (log
44); so is that the PU offers no frame before the events a request held. -/
def Obligations.FetchedRequestIsDecoded : Prop :=
  (∀ s : State, s.bi.inReset = false → s.re.phase = .fetching → s.re.fetched.length = 16 →
    ∃ t, exec .requestFetched s = .next t
      ∧ t.re.consumer = s.re.consumer + 1 ∧ t.re.record = s.re.fetched ∧ t.re.fetched = []
      ∧ (∃ w ∈ t.bi.waiting, w.owner = .re ∧ w.sections = [.statusPage] ∧ w.live = [] ∧ w.after = [] ∧ w.ofRequest = false
          ∧ bytesFrom 0x2014 w.fixed (le2 (s.re.consumer + 1) ++ [BitVec.ofNat 8 s.re.failField, 0]))
      ∧ (∀ k, recKind s.re.fetched = some k → (s.re.device = .ready ∨ k = .setupCommit ∨ k = .laneReset) →
          t.re.phase = .executing ∧ t.re.outcome = none)
      ∧ (recKind s.re.fetched = none
          ∨ (∃ k, recKind s.re.fetched = some k ∧ s.re.device = .unconfigured ∧ k ≠ .setupCommit ∧ k ≠ .laneReset) →
          requestPending s = false → t.re.phase = .completing)
      ∧ (recKind s.re.fetched = none → answeredWith t .badKind 0 0)
      ∧ (∀ k, recKind s.re.fetched = some k → s.re.device = .unconfigured → k ≠ .setupCommit → k ≠ .laneReset →
          answeredWith t .notReady 0 0)
      ∧ (∀ k, recKind s.re.fetched = some k → (s.re.device = .ready ∨ k = .setupCommit ∨ k = .laneReset) →
          (unitHolds s k.owner = false → awaits t k = true)
          ∧ t.su = { s.su with inbox := if k.owner = .su then s.su.inbox ++ [.request] else s.su.inbox })
      ∧ t.re = { s.re with
          consumer := t.re.consumer, record := t.re.record, fetched := t.re.fetched, phase := t.re.phase
          outcome := t.re.outcome, statusDue := t.re.statusDue }
      ∧ eventFrame [.re] s t)
  ∧ (∀ (s : State) (b : BlockId) (e : UnitEvent), unitBusy s b = true → unitTakes s b e = false)
  ∧ (∀ (s : State) (b : BlockId) (e : UnitEvent) (first : Arrival) (later : List Arrival), unitBusy s b = false →
    (liveArrivals s s.arrivals).filter (fun a => decide (a.unit = b)) = first :: later →
    unitTakes s b first.event = true
      ∧ (first.held = true → (e ≠ first.event → unitTakes s b e = false)
          ∧ (hearsMany b = true → ∀ k : RequestKind, k.owner = b → awaits s k = false)))
  ∧ (∀ (s : State) (b : BlockId) (e : UnitEvent), hearsMany b = true →
    (arrive s b e).arrivals
      = (liveArrivals s s.arrivals ++ [({ unit := b, event := e, held := false } : Arrival)]).map fun a =>
          if unitBusy s a.unit = true then { a with held := true } else a)
  ∧ (∀ s : State,
    (unitTakes s .pwu .link = false → exec .platterSample s = .next s ∧ exec .platterLinkChange s = .next s)
    ∧ (unitTakes s .pwu (.timer .zeroTrack) = false → exec .zeroTrackExpiry s = .next s)
    ∧ (unitTakes s .bwu .link = false → exec .bagSample s = .next s ∧ exec .bagLinkChange s = .next s)
    ∧ (unitTakes s .bwu (.timer .bagWait) = false → exec .bagWaitExpiry s = .next s)
    ∧ (unitTakes s .bwu .tell = false → exec .bagSaleOpened s = .next s ∧ exec .bagSaleClosing s = .next s
        ∧ exec .bagSaleEnded s = .next s)
    ∧ (unitTakes s .ctu .link = false → exec .cardIn s = .next s ∧ exec .cardOut s = .next s ∧ exec .moduleStatus s = .next s
        ∧ exec .authResult s = .next s ∧ exec .noRecord s = .next s ∧ exec .cardLinkChange s = .next s)
    ∧ (unitTakes s .ctu (.timer .cardWait) = false → exec .cardWaitExpiry s = .next s)
    ∧ (unitTakes s .ctu (.timer .cancelWait) = false → exec .cancelWaitExpiry s = .next s)
    ∧ (unitTakes s .tu .edge = false → exec .sensorEdge s = .next s ∧ exec .keyEdge s = .next s)
    ∧ (unitTakes s .tu (.timer .kickWidth) = false → exec .kickWidthExpiry s = .next s)
    ∧ (unitTakes s .tu (.timer .kickConfirm) = false → exec .kickConfirmExpiry s = .next s)
    ∧ (unitTakes s .tu (.timer .drawerLimit) = false → exec .drawerLimitExpiry s = .next s)
    ∧ (unitTakes s .pu .link = false → exec .printerStatus s = .next s ∧ exec .lineDone s = .next s
        ∧ exec .printerLinkChange s = .next s)
    ∧ (unitTakes s .pu .tell = false → exec .receiptBegin s = .next s ∧ exec .receiptCloseMark s = .next s
        ∧ exec .saleIdleTell s = .next s)
    ∧ (unitBusy s .pu = true ∨ unitHolds s .pu = true → exec .printFrameOffer s = .next s)
    ∧ ∀ b, unitTakes s b .ask = false → exec (.payloadAnswer b) s = .next s)
  ∧ ∀ r : List Word, recordFields r

/-- A setup copy is accepted exactly when every field passes its check (R31; "14 ÷ 15" judged exactly is the model's reading, log
23), and the field named is the first that fails, every field before it passing; at a recommit field 5 does not count (R35). The
fields are the words of the Setup Block that R178 names, the labels its bytes from 0x084 on, and the snapshot takes each where its
name stands (R31). SETUP_COMMIT begins by protecting and reading the Setup Block (R30, R33; that the command is taken twice is the
model's choice, log 7, and so is that the reading's accesses are asked for all at once, log 48). A recommit with the sale not IDLE
or a job active is WRONG_STATE. A copy whose field n is the first to fail changes nothing but the commit result and the failing
field, and is answered SETUP_BAD with n (R31, R36). -/
def Obligations.SetupIsReadAndJudged : Prop :=
  (∀ (c : List Word) (lane : Option Half),
    setupFailure c lane false = none ↔ ∀ n ≤ 33, setupRule c lane n)
  ∧ (∀ (c : List Word) (lane : Option Half), setupFailure c lane true = none ↔ ∀ n ≤ 33, n ≠ 5 → setupRule c lane n)
  ∧ (∀ (c : List Word) (lane : Option Half) (recommit : Bool) (n : Nat), setupFailure c lane recommit = some n ↔
      n ≤ 33 ∧ ¬ setupRule c lane n ∧ (recommit = true → n ≠ 5)
        ∧ ∀ m < n, (recommit = true ∧ m = 5) ∨ setupRule c lane m)
  ∧ (∀ c : List Word, setupFields c)
  ∧ ((∀ s : State, s.bi.inReset = false → awaits s .setupCommit = true → s.bi.setupSpan = false →
    (s.re.device = .unconfigured ∨ (saleReady s = true ∧ s.su.header.state = .idle ∧ ∀ j ∈ s.pu.jobs, j.active = false)) →
    exec .setupCommit s = .next
      ((s.setBi { s.bi with setupSpan := true, engine := s.bi.engine ++ (List.range 32).map EngineAccess.setup }).setRe
        { s.re with setupRead := [] }))
  ∧ (∀ s : State, s.bi.inReset = false → awaits s .setupCommit = true → s.bi.setupSpan = false →
    s.re.device = .ready → saleReady s = true → (s.su.header.state ≠ .idle ∨ ∃ j ∈ s.pu.jobs, j.active = true) →
    ∃ t, exec .setupCommit s = .next t ∧ answeredWith t .wrongState 0 0 ∧ requestFrame [] s t)
  ∧ ∀ (s : State) (n : Nat), s.bi.inReset = false → awaits s .setupCommit = true → s.bi.setupSpan = true →
    s.re.setupRead.length = 256 → headOwed s = false →
    setupFailure s.re.setupRead s.re.laneNumber (decide (s.re.device = .ready)) = some n →
    ∃ t, exec .setupCommit s = .next t ∧ answeredWith t .setupBad (BitVec.ofNat 32 n) 0
      ∧ t.re = { s.re with
          setupRead := [], lastCommit := .setupBad, failField := n, phase := t.re.phase, outcome := t.re.outcome
          statusDue := t.re.statusDue }
      ∧ t.bi = { s.bi with
          setupSpan := false, waiting := t.bi.waiting, nextWindow := t.bi.nextWindow, nextGroup := t.bi.nextGroup }
      ∧ askedFor t .re .statusPage ∧ eventFrame [.bi, .re] s t)

/-- The first commit (R15, R32, R65, R89, R109, R110, R138, R151, R166, R174): READY with the copy's values, the lane clock at 0,
every unit initialised, the links UNSEEN with the reason LANE_UP, each with its HELLO, its silence timer and its SEQ count at 0,
and reported; and the BI's own write of the journal indices, fields 4 and 5, waits for the port, which takes them (R18). The
Request Engine's own Status Page write is due when the units' windows have closed (R32 step 4). That the command comes once to
begin the reading and once when the block has been read is the model's choice (log 7). -/
def Obligations.FirstCommitStartsTheLane : Prop :=
  ∀ s : State, s.bi.inReset = false → awaits s .setupCommit = true → s.bi.setupSpan = true →
    s.re.setupRead.length = 256 → headOwed s = false → s.re.device = .unconfigured → s.nu.latches.length = 24 →
    setupFailure s.re.setupRead s.re.laneNumber false = none →
    ∃ t, exec .setupCommit s = .next t
      ∧ answeredWith t .done (BitVec.ofNat 32 (setupField s.re.setupRead 2)) 1
      ∧ t.re.phase = .executing ∧ t.re.statusDue = true
      ∧ t.re = { s.re with
          device := .ready, setup := some (setupOf s.re.setupRead), setupRead := [], clock := 0, lastCommit := .done
          laneNumber := some (s.re.laneNumber.getD (BitVec.ofNat 16 (setupField s.re.setupRead 2))), failField := 0
          phase := t.re.phase, outcome := t.re.outcome, statusDue := t.re.statusDue }
      ∧ t.su.header = Header.cleared ∧ t.su.lines = [] ∧ t.su.tenders = [] ∧ t.su.nextNumber = s.re.setupRead.getD 3 0
      ∧ t.pwu = Pwu.reset ∧ t.bwu = Bwu.reset ∧ t.ctu = { Ctu.reset with refCounter := s.ctu.refCounter }
      ∧ t.tu = { s.tu with drawer := if s.tu.sensor then .opened else .shut }
      ∧ t.pu = { s.pu with
          cond := .offline, cause := .linkDown, credits := 0, reported := false, owner := .none, flight := [], receipt := .none
          closeMark := 0, jobs := List.replicate 8 Job.free, jobsDone := 0 }
      ∧ t.ju = { s.ju with forcedCarry := 0, nosaleCarry := 0, fixed := none } ∧ t.mem = s.mem
      ∧ t.bi = { s.bi with
          setupSpan := false, waiting := t.bi.waiting, nextWindow := t.bi.nextWindow, nextGroup := t.bi.nextGroup
          engine := s.bi.engine ++ [.journalWrite (s.re.setupRead.getD 4 0) (s.re.setupRead.getD 5 0)] }
      ∧ (∀ l, linkUnseen s t l .laneUp (setupField s.re.setupRead (6 + linkNo l)) (setupField s.re.setupRead (10 + linkNo l))
            (s.re.laneNumber.getD (BitVec.ofNat 16 (setupField s.re.setupRead 2)))
          ∧ reported t .linkChange (linkNo l))
      ∧ askedFor t .su .saleRecord ∧ askedFor t .pwu .captureTable ∧ askedFor t .ctu .cardSession
      ∧ askedFor t .pu .jobTable ∧ askedFor t .tu .statusPage ∧ askedFor t .bwu .statusPage

/-- A recommit (R34, R35): the new parameters, the next sale number, the tare cleared and both windows emptied, a FRESH capture
STALE and reported; only links whose rate code changed go UNSEEN, with the reason RATE_CHANGED, a HELLO, the silence timer and the
SEQ count at 0 (R65); the BI's own write of the journal indices waits for the port exactly when the head lies at most 2,048 beyond
the export (R15, R18). The sale, the card, the till and the printer stay; the tracking timer stops with the emptied window (R85).
The Request Engine's own Status Page write is due when the units' windows have closed (R32, R34). The model's choices: that the
command comes twice (log 7); and, where the tare was not 0, the weight and the load zone, which R90's table keeps and the model
computes anew with the new division and minimum, but while OFFLINE, where the weight is kept and the zone is EMPTY (log 33). -/
def Obligations.RecommitKeepsTheSale : Prop :=
  ∀ s : State, s.bi.inReset = false → awaits s .setupCommit = true → s.bi.setupSpan = true →
    s.re.setupRead.length = 256 → headOwed s = false → s.re.device = .ready → s.nu.latches.length = 24 →
    setupFailure s.re.setupRead s.re.laneNumber true = none →
    ∃ t, exec .setupCommit s = .next t
      ∧ (if (s.re.setupRead.getD 4 0 - s.re.setupRead.getD 5 0).toNat ≤ 2048 then
          answeredWith t .done (BitVec.ofNat 32 (setupField s.re.setupRead 2)) 1
          ∧ t.bi.engine = s.bi.engine ++ [.journalWrite (s.re.setupRead.getD 4 0) (s.re.setupRead.getD 5 0)]
        else
          answeredWith t .done (BitVec.ofNat 32 (setupField s.re.setupRead 2)) 0 ∧ t.bi.engine = s.bi.engine)
      ∧ t.ju = s.ju ∧ t.mem = s.mem ∧ t.re.phase = .executing ∧ t.re.statusDue = true
      ∧ t.re = { s.re with
          setup := some (setupOf s.re.setupRead), setupRead := [], lastCommit := .done, failField := 0
          laneNumber := some (s.re.laneNumber.getD (BitVec.ofNat 16 (setupField s.re.setupRead 2)))
          phase := t.re.phase, outcome := t.re.outcome, statusDue := t.re.statusDue }
      ∧ t.bi = { s.bi with
          setupSpan := false, waiting := t.bi.waiting, nextWindow := t.bi.nextWindow, nextGroup := t.bi.nextGroup
          engine := t.bi.engine }
      ∧ t.su.header = s.su.header ∧ t.su.lines = s.su.lines ∧ t.su.tenders = s.su.tenders
      ∧ t.su.nextNumber = s.re.setupRead.getD 3 0
      ∧ t.pwu = { s.pwu with
          tare := 0, window := [], zeroTimer := none, weight := t.pwu.weight, zone := t.pwu.zone, machine := t.pwu.machine
          table := t.pwu.table, lastStale := t.pwu.lastStale }
      ∧ (s.pwu.tare = 0 → t.pwu.weight = s.pwu.weight ∧ t.pwu.zone = s.pwu.zone)
      ∧ (s.pwu.tare ≠ 0 → s.pwu.limit = .offline → t.pwu.weight = s.pwu.weight ∧ t.pwu.zone = .empty)
      ∧ (s.pwu.tare ≠ 0 → s.pwu.limit ≠ .offline →
          roundedTo (s.pwu.gross - s.pwu.zero) (setupField s.re.setupRead 15) t.pwu.weight
          ∧ t.pwu.zone = (if t.pwu.weight.natAbs < setupField s.re.setupRead 16 * setupField s.re.setupRead 15 then LoadZone.empty
              else .loaded))
      ∧ (s.pwu.machine = .captured → t.pwu.machine = .armed ∧ reported t .captureStale 0
          ∧ t.pwu.lastStale = (s.pwu.entry s.pwu.curSlot).id ∧ askedFor t .pwu .captureTable
          ∧ t.pwu.table = s.pwu.table.set s.pwu.curSlot { s.pwu.entry s.pwu.curSlot with state := .stale })
      ∧ (s.pwu.machine ≠ .captured →
          t.pwu.machine = s.pwu.machine ∧ t.pwu.table = s.pwu.table ∧ t.pwu.lastStale = s.pwu.lastStale)
      ∧ t.bwu = { s.bwu with window := [] } ∧ t.ctu = s.ctu ∧ t.tu = s.tu ∧ t.pu = s.pu
      ∧ (∀ l, (if (cfg s).rates.getD (linkNo l) 0 = setupField s.re.setupRead (6 + linkNo l) then t.link l = s.link l
          else
            linkUnseen s t l .rateChanged (setupField s.re.setupRead (6 + linkNo l)) (setupField s.re.setupRead (10 + linkNo l))
              (s.re.laneNumber.getD (BitVec.ofNat 16 (setupField s.re.setupRead 2)))
            ∧ reported t .linkChange (linkNo l)))

/-- LANE_RESET is answered first, with the number of the sale in hand or 0, and changes nothing until its completion has been
written (R38). Then the latches are cleared (R52) and the units reset; the RE asks for the next reservation after that. Where the
Notice Unit looks first, a latch it takes is still recorded, and the reset is applied by a further LANE_RESET. A unit with an
open window, or with an event of the SU or the JU in hand, resets when that has ended (R16, R174); the solenoid is cut at once.
An entry whose ask the JU has taken is written, its head advances and the sale leaves CLOSING before the JU and the SU reset
(R174). While UNCONFIGURED only the latches are cleared. A link going QUIET discards frames, and its changes stay for the owner
(R63, R70, R71). The model's choices: log 16 (which command applies the reset, the order of the units, which of them wait), log 37
(paper and cover stay; the latest suspension and the job most recently DONE go, and so do the ids of the capture last issued and
last STALE, the tender last claimed, and the BWU's clear reason and its D), log 12 (the next capture id is 1) and log 28 (a slot
fetch is given up, and its accesses run on), and log 17 (a condition record begun counts at the next reservation's grant). -/
def Obligations.LaneResetAnswersThenResets : Prop :=
  (∀ s : State, s.bi.inReset = false → awaits s .laneReset = true → saleReady s = true → s.re.resetDue = false →
    ∃ t, exec .laneReset s = .next t
      ∧ answeredWith t .done (if s.su.header.state = .idle then 0 else s.su.header.number) 0 ∧ requestFrame [] s t)
  ∧ (∀ (s : State) (o : OpenWindow), s.bi.inReset = false → writtenRecord s = some o → s.nu.writer = .completion →
    recKind s.re.record = some .laneReset → s.nu.latches.length = 24 → s.re.device = .ready →
    (∀ w ∈ s.bi.opened, w.owner = .nu) → s.su.event = none → headOwed s = false →
    ∃ t, exec (.completionWritten true) s = .next t ∧ laneWasReset s t ∧ latchesReset s t
      ∧ t.nu.producer = s.nu.producer + 1 ∧ t.nu.attn = (s.nu.producer + 1 != consumerCopy s) ∧ t.re.outcome = none
      ∧ (producerCopy s = s.re.consumer → t.re.phase = .idle ∧ t.nu.reserved = 0)
      ∧ (producerCopy s ≠ s.re.consumer →
          if unconsumed t + conditionBegun t.nu.writer < 256 then t.re.phase = .fetching ∧ t.nu.reserved = 1
          else t.re.phase = .stalled ∧ t.nu.reserved = 0))
  ∧ (∀ (s : State) (o : OpenWindow), s.bi.inReset = false → writtenRecord s = some o → s.nu.writer = .completion →
    s.nu.owed = none → recKind s.re.record = some .laneReset →
    ∃ t, exec (.completionWritten false) s = .next t
      ∧ t.re = { s.re with resetDue := true, phase := .idle, outcome := none } ∧ t.nu.producer = s.nu.producer + 1
      ∧ t.nu.reserved = 0 ∧ looked s t s.bi.noticeMask 0 (256 - (s.nu.producer + 1 - consumerCopy s).toNat)
      ∧ eventFrame [.bi, .re, .nu] s t)
  ∧ (∀ s : State, s.bi.inReset = false → s.re.resetDue = true → s.nu.latches.length = 24 → s.re.device = .ready →
    s.bi.opened = [] → s.su.event = none → headOwed s = false →
    ∃ t, exec .laneReset s = .next t ∧ laneWasReset s t ∧ latchesReset s t
      ∧ t.nu.producer = s.nu.producer ∧ t.nu.attn = s.nu.attn)
  ∧ (∀ (s : State) (b : BlockId), s.bi.inReset = false → s.re.resetDue = true → s.re.device = .ready →
    b ∈ [BlockId.su, .pwu, .bwu, .ctu, .tu, .pu, .ju] → unitReady s b = false →
    ∃ t, exec .laneReset s = .next t ∧ b ∈ t.re.resetting ∧ .re ∈ t.re.resetting ∧ t.re.device = .ready
      ∧ t.re.clock = s.re.clock ∧ t.re.phase = s.re.phase ∧ t.lu = s.lu ∧ t.tu.solenoid = false ∧ t.tu.width = none
      ∧ (∀ i < 24, s.nu.latches.length = 24 → latchAt t i = Latch.clear)
      ∧ (b = .su → t.su = s.su) ∧ (b = .pwu → t.pwu = s.pwu) ∧ (b = .bwu → t.bwu = s.bwu) ∧ (b = .ctu → t.ctu = s.ctu)
      ∧ (b = .pu → t.pu = s.pu) ∧ (b = .ju → t.ju = s.ju) ∧ sameMemory s t ∧ t.pending = s.pending)
  ∧ (∀ (s : State) (i : Nat) (o : OpenWindow) (b : BlockId), s.bi.inReset = false → s.nu.latches.length = 24 →
    s.bi.opened = [o] → i = 0 → o.owner = b → b ∈ [BlockId.pwu, .bwu, .ctu, .tu, .pu] → o.after = [] →
    windowWritten s o.id = true → s.re.resetting = [b, .re] → s.re.phase = .idle → s.re.outcome = none →
    s.re.device = .ready → (∀ a n, s.bi.hostStall ≠ some (.readHeld a n)) →
    ∃ t, exec (.updateWindowClose i) s = .next t ∧ t.re.resetting = [] ∧ t.re.device = .unconfigured ∧ t.re.clock = 0
      ∧ t.re.setup = none ∧ (b = .pwu → t.pwu = Pwu.reset) ∧ (b = .bwu → t.bwu = Bwu.reset)
      ∧ (b = .ctu → t.ctu = { Ctu.reset with refCounter := s.ctu.refCounter })
      ∧ (b = .tu → t.tu = { s.tu with
          drawer := if s.tu.sensor then .opened else .shut, forced := false, attempts := 0, cause := .none
          solenoid := false, width := none, confirm := none, limitTimer := none, forcedCount := 0, nosaleCount := 0 })
      ∧ (b = .pu → t.pu = { Pu.reset with
            printIndex := fillCopy s, nextUnsent := fillCopy s, lineSeq := s.pu.lineSeq, submissions := s.pu.submissions
            stray := s.pu.stray, paper := s.pu.paper, coverOpen := s.pu.coverOpen, fetch := t.pu.fetch }
          ∧ (∀ f, t.pu.fetch = some f → f.wanted = false))
      ∧ (∀ l, (t.link l).state = .quiet) ∧ listOnly s t ∧ t.ju = s.ju)
  ∧ (∀ (s : State) (i : Nat) (o : OpenWindow), s.bi.inReset = false → s.bi.opened = [o] → i = 0 → o.owner = .su →
    o.after = [.suDone] ∨ o.after = [.saleFinished, .tellBag .saleEnded, .tellPrint .saleIdle, .suDone] →
    windowWritten s o.id = true → s.re.resetting = [.su, .re] → s.re.phase = .idle → s.re.outcome = none →
    s.re.device = .ready → (∀ a n, s.bi.hostStall ≠ some (.readHeld a n)) →
    ∃ (t : State) (asks : List SaleItem), exec (.updateWindowClose i) s = .next t
      ∧ t.re.resetting = [] ∧ t.re.device = .unconfigured ∧ t.re.clock = 0 ∧ t.re.setup = none
      ∧ t.su = { s.su with
          header := Header.cleared, lines := [], tenders := [], event := none
          inbox := (s.su.inbox.filter fun x => decide (x = .payloadAsk) || decide (x = .fillAsk)) ++ asks }
      ∧ (∀ x ∈ asks, x = .payloadAsk) ∧ askedFor t .su .saleRecord ∧ (∀ l, (t.link l).state = .quiet) ∧ t.ju = s.ju)
  ∧ (∀ (s : State) (i : Nat) (o : OpenWindow), s.bi.inReset = false → s.bi.opened = [o] → i = 0 → o.owner = .ju →
    windowWritten s o.id = true → (∀ w ∈ s.bi.waiting, .headAdvance ∉ w.after) → s.re.phase = .idle →
    s.re.outcome = none → s.re.device = .ready → (∀ a n, s.bi.hostStall ≠ some (.readHeld a n)) →
    (o.after = [.headAdvance] → s.re.resetting = [.ju, .re] →
      ∃ t, exec (.updateWindowClose i) s = .next t
        ∧ t.ju = { s.ju with head := s.ju.head + 1, forcedCarry := 0, nosaleCarry := 0, fixed := none, tells := 0 }
        ∧ t.re.resetting = [] ∧ t.re.device = .unconfigured ∧ t.re.clock = 0 ∧ t.re.setup = none
        ∧ (∀ l, (t.link l).state = .quiet) ∧ listOnly s t)
    ∧ (∀ e, o.after = [.headAdvance, .suWrite] → s.su.event = some e → .headAdvance ∉ e.after →
      s.re.resetting = [.su, .ju, .re] →
      ∃ t, exec (.updateWindowClose i) s = .next t
        ∧ t.ju = { s.ju with head := s.ju.head + 1, forcedCarry := 0, nosaleCarry := 0, fixed := none, tells := 0 }
        ∧ t.re = { s.re with resetting := [.su, .re] } ∧ t.su = s.su ∧ saleEventAsked t ∧ eventFrame [.bi, .re, .ju] s t))
  ∧ ∀ (s : State) (o : OpenWindow), s.bi.inReset = false → writtenRecord s = some o → s.nu.writer = .completion →
    s.nu.owed = none → recKind s.re.record = some .laneReset → s.re.device = .unconfigured →
    ∃ t, exec (.completionWritten true) s = .next t ∧ (∀ i < 24, s.nu.latches.length = 24 → latchAt t i = Latch.clear)
      ∧ t.nu.producer = s.nu.producer + 1 ∧ t.nu.writer = .free ∧ t.re.device = .unconfigured ∧ t.re.outcome = none
      ∧ t.re.resetDue = false ∧ eventFrame [.bi, .re, .nu] s t

/-- A written completion advances the producer index, gives the reservation back, sets the line, and lets the Request Engine go
on: IDLE when nothing is submitted, else it asks for the next slot; a free writer takes the first pending unmasked latch (R21,
R25, R43, R44, R46, R50; which of the ask and the look comes first is the command's operand, log 18). The words of a completion
record, with the clock at its writing, are those of R45, at the slot of the producer index, with the new index (R41, R44). That a
condition record begun counts where the next reservation is granted is the model's reading of R43 (log 17). -/
def Obligations.WrittenCompletionFreesTheEngine : Prop :=
  (∀ (s : State) (tag : Half) (kind : Byte) (r : ReqOutcome),
    liveWords s (.completion { tag := tag, kind := kind, outcome := r })
      = wordsAt (0x6000 + s.nu.producer.toNat % 256 * 32)
          [s.nu.producer.setWidth 32, 0x00000001, s.re.clock
           , BitVec.setWidth 32 tag + BitVec.setWidth 32 kind <<< 16 + BitVec.ofNat 32 r.result.code <<< 24
           , r.detail1, r.detail2, 0, 0]
        ++ [(0x2020, (s.nu.producer + 1).setWidth 32)])
  ∧ ∀ (s : State) (o : OpenWindow) (askFirst : Bool), s.bi.inReset = false → writtenRecord s = some o →
    s.nu.writer = .completion → s.nu.owed = none → recKind s.re.record ≠ some .laneReset → s.re.resetting = [] →
    ∃ t, exec (.completionWritten askFirst) s = .next t ∧ t.mem = s.mem
      ∧ t.nu.producer = s.nu.producer + 1 ∧ t.nu.attn = (s.nu.producer + 1 != consumerCopy s)
      ∧ (∀ w ∈ t.bi.opened, w.id ≠ o.id)
      ∧ t.re.outcome = none ∧ t.re.consumer = s.re.consumer
      ∧ (producerCopy s = s.re.consumer → t.re.phase = .idle ∧ t.nu.reserved = 0)
      ∧ (producerCopy s ≠ s.re.consumer → askFirst = true →
          if unconsumed t < 256 then t.re.phase = .fetching ∧ t.nu.reserved = 1
          else t.re.phase = .stalled ∧ t.nu.reserved = 0)
      ∧ (producerCopy s ≠ s.re.consumer → askFirst = false →
          if unconsumed t + conditionBegun t.nu.writer < 256 then t.re.phase = .fetching ∧ t.nu.reserved = 1
          else t.re.phase = .stalled ∧ t.nu.reserved = 0)
      ∧ looked s t s.bi.noticeMask (if askFirst = true ∧ t.re.phase = .fetching then 1 else 0) (freeSlots t)
      ∧ eventFrame [.bi, .re, .nu] s t

/-! ### Notices -/

/-- The latches stand in the priority order of R46, LINK_CHANGE with one for each link. A raise makes a latch pending with count
1, its stamp and source; while it is pending it adds 1 to the count, up to 255, and keeps the stamp (R46). A unit that is asked
and can take the ask answers from its state now, with the fields R48 gives the kind, packed by R175, each named value by its
number of R176; the index of PRINT_STOPPED and PRINT_RESUMED is the receipt's print index, or a job's next slot not yet
acknowledged (R165; with no owner, the print index, by log 20); the last answer asks for the window in which the record with all
the answers and the new producer index are written (R41, R45, R47). A written condition record advances the producer index,
asserts the line unless the consumer copy has caught up, and frees the writer: an owed completion goes first, and else the first
pending unmasked latch is taken where more slots are free than reserved; a masked one stays pending (R44, R46, R47, R49, R50).
After an answer of the CTU or the PU its link's notices whose turn has come are taken (R24; log 44). -/
def Obligations.ConditionRecordsAreFilledAndWritten : Prop :=
  namedValues
  ∧ (∀ u : Pu, shownIndex u .receipt = u.printIndex ∧ shownIndex u .none = u.printIndex
      ∧ ∀ j, (shownIndex u (.job j)).toNat = ((u.jobs.getD j Job.free).first + (u.jobs.getD j Job.free).acked) % 65536)
  ∧ ((List.range 24).map latchKind
      = [.drawerForced, .drawerFault, .linkChange, .linkChange, .linkChange, .linkChange, .bagHoldSet, .bagHoldClear
         , .tenderOutcome, .tenderConflict, .saleFinished, .printStopped, .printResumed, .documentDone, .captureReady
         , .captureStale, .drawerOpened, .drawerShut, .drawerLong, .cardChange, .paperLow, .scaleLimit, .writeRefused
         , .apertureFault])
  ∧ (∀ (k : CondKind) (l : LinkId), latchKind (latchIndex k (linkNo l)) = k ∧ latchIndex k (linkNo l) < 24
      ∧ latchIndex .linkChange (linkNo l) = 2 + linkNo l)
  ∧ (∀ (s : State) (k : CondKind) (source : Nat), s.nu.writer ≠ .free → s.nu.latches.length = 24 →
    (k = .linkChange → source < 4) →
    latchAt (raise s k source) (latchIndex k source)
      = (if (latchAt s (latchIndex k source)).pending = true then
          { pending := true, count := min ((latchAt s (latchIndex k source)).count + 1) 255
            stamp := (latchAt s (latchIndex k source)).stamp, source := source }
        else { pending := true, count := 1, stamp := s.re.clock, source := source })
    ∧ (∀ i, i ≠ latchIndex k source → latchAt (raise s k source) i = latchAt s i) ∧ (raise s k source).nu.writer = s.nu.writer)
  ∧ (∀ s : State, s.bi.inReset = false → s.nu.latches.length = 24 → s.tu.drawer = .opened →
    timerDue s s.tu.limitTimer = true → unitTakes s .tu (.timer .drawerLimit) = true → s.nu.writer ≠ .free →
    ∃ t, exec .drawerLimitExpiry s = .next t
      ∧ t = raise (s.setTu { s.tu with limitTimer := none }) .drawerLong 0)
  ∧ ((∀ s : State, let p := fun (k : CondKind) (source : Nat) (b : BlockId) => packPayload (payloadFields s k source b)
    let n1 := fun (n : Nat) => BitVec.ofNat 8 n
    let flag := fun (b : Bool) => if b then (1 : Byte) else 0
    let n2 := fun (n : Nat) => le2 (BitVec.ofNat 16 n)
    let i4 := fun (i : Int) => le4 (BitVec.ofInt 32 i)
    p .drawerForced 0 .tu = [n1 s.tu.drawer.code, flag s.tu.forced] ++ n2 s.tu.forcedCount ++ le4 s.tu.sensorStamp ++ zeros 8
    ∧ p .drawerFault 0 .tu = [n1 s.tu.drawer.code, 0] ++ n2 s.tu.attempts ++ [flag s.tu.sensor] ++ zeros 11
    ∧ p .drawerOpened 0 .tu = [n1 s.tu.drawer.code, flag s.tu.forced, 0, 0] ++ le4 s.tu.openStamp ++ zeros 8
    ∧ p .drawerShut 0 .tu = [n1 s.tu.drawer.code, 0, 0, 0] ++ le4 s.tu.closeStamp ++ zeros 8
    ∧ p .drawerLong 0 .tu = [n1 s.tu.drawer.code, 0, 0, 0] ++ le4 s.tu.openStamp ++ zeros 8
    ∧ (∀ l, p .linkChange (linkNo l) .lu = [n1 (s.link l).state.code, n1 (s.link l).prevState.code, n1 (s.link l).reason.code, 0]
        ++ le4 (BitVec.ofNat 32 (s.link l).errorSum) ++ zeros 8)
    ∧ p .bagHoldSet 0 .bwu = [n1 s.bwu.holdReason.code, 0, 0, 0] ++ i4 s.bwu.lastDelta ++ i4 s.bwu.baseline
        ++ n2 s.bwu.pend.length ++ zeros 2
    ∧ p .bagHoldClear 0 .bwu = [flag s.bwu.hold, n1 s.bwu.clearReason.code, 0, 0] ++ i4 s.bwu.baseline
        ++ n2 s.bwu.pend.length ++ zeros 6
    ∧ (∀ i, p .tenderOutcome i .ctu = [n1 s.ctu.lastOutcome.state.code, 0, 0, 0]
        ++ le4 (BitVec.ofNat 32 s.ctu.lastOutcome.applied) ++ le4 (BitVec.ofNat 32 (s.su.subtotal - s.su.applied))
        ++ le2 s.ctu.lastOutcome.reference ++ zeros 2)
    ∧ (∀ i c, s.ctu.conflict = some c → p .tenderConflict i .ctu =
        [n1 (if c.verdict = .approved then TenderState.approved else .declined).code, n1 c.outcome, 0, 0] ++ le4 c.amount
          ++ le2 c.reference ++ zeros 6)
    ∧ p .saleFinished 0 .su = le4 s.su.finished.number ++ [n1 s.su.finished.outcome.code, 0, 0, 0] ++ le4 s.su.finished.entry
        ++ [(if s.su.finished.incomplete then 1 else 0) + (if s.su.finished.byKey then 2 else 0)] ++ zeros 3
    ∧ p .printStopped 0 .pu = [n1 s.pu.cause.code, n1 s.pu.suspOwner.code] ++ le2 (shownIndex s.pu s.pu.suspOwner)
        ++ n2 s.pu.suspCount ++ zeros 10
    ∧ p .printResumed 0 .pu = [n1 s.pu.owner.code, 0] ++ le2 (shownIndex s.pu s.pu.owner) ++ n2 s.pu.credits ++ zeros 10
    ∧ p .documentDone 0 .pu = n2 s.pu.lastDone ++ n2 s.pu.lastDoneFirst ++ le2 s.pu.jobsDone ++ zeros 10
    ∧ (∀ c, c = (match s.pwu.table.find? fun x => decide (x.id = s.pwu.lastIssued) && decide (x.state ≠ .free) with
          | some x => x | none => Capture.free) →
        p .captureReady 0 .pwu = le2 s.pwu.lastIssued ++ [n1 c.state.code, 0] ++ i4 c.net ++ zeros 8)
    ∧ (∀ c, c = (match s.pwu.table.find? fun x => decide (x.id = s.pwu.lastStale) && decide (x.state ≠ .free) with
          | some x => x | none => Capture.free) →
        p .captureStale 0 .pwu = le2 s.pwu.lastStale ++ [n1 c.state.code, n1 s.pwu.machine.code] ++ zeros 12)
    ∧ (s.ctu.lastFour.length = 4 → p .cardChange 0 .ctu = [flag s.ctu.present, 0] ++ le2 s.ctu.scheme
        ++ [s.ctu.entryMethod, 0, 0, 0] ++ s.ctu.lastFour ++ zeros 4)
    ∧ p .paperLow 0 .pu = [n1 s.pu.paper.code, flag s.pu.coverOpen] ++ n2 s.pu.credits ++ zeros 12
    ∧ (∀ k < 2, p .scaleLimit k .pwu = [n1 s.pwu.limit.code, 0, 0, 0] ++ (if k = 0 then i4 s.pwu.gross else zeros 4) ++ zeros 8
        ∧ p .scaleLimit k .bwu = [0, n1 s.bwu.limit.code, 0, 0] ++ (if k = 1 then i4 s.bwu.gross else zeros 4) ++ zeros 8)
    ∧ p .writeRefused 0 .bi = n2 s.bi.refusedCount ++ zeros 2 ++ le4 s.bi.lastRefused ++ zeros 8
    ∧ p .apertureFault 0 .bi = p .writeRefused 0 .bi)
    ∧ (∀ k : CondKind, askedUnits k = match k with
      | .scaleLimit => [.pwu, .bwu] | .linkChange => [.lu] | .bagHoldSet | .bagHoldClear => [.bwu]
      | .tenderOutcome | .tenderConflict | .cardChange => [.ctu] | .saleFinished => [.su]
      | .printStopped | .printResumed | .documentDone | .paperLow => [.pu] | .captureReady | .captureStale => [.pwu]
      | .drawerForced | .drawerFault | .drawerOpened | .drawerShut | .drawerLong => [.tu]
      | .writeRefused | .apertureFault => [.bi]))
  ∧ (∀ (seq : Half) (kind : CondKind) (source count : Nat) (stamp : Word) (payload : List Byte), payload.length = 16 →
    bytesOfWords (conditionWords seq kind source count stamp payload)
      = le2 seq ++ [BitVec.ofNat 8 kind.code, BitVec.ofNat 8 source, BitVec.ofNat 8 count, 0, 0, 0] ++ le4 stamp ++ payload
        ++ [0, 0, 0, 0])
  ∧ (∀ (s : State) (b : BlockId) (kind : CondKind) (count : Nat) (stamp : Word) (source : Nat) (waiting : List BlockId)
    (payload : List Byte), s.bi.inReset = false → s.nu.writer = .asking kind count stamp source waiting payload → b ∈ waiting →
    answerReady s kind b = true →
    ∃ t v, exec (.payloadAnswer b) s = .next v
      ∧ (if b = .ctu then cardNoticesTaken t v else if b = .pu then printNoticesTaken t v else v = t)
      ∧ ((waiting.filter fun y => y != b) ≠ [] →
          t.nu = { s.nu with
            writer := .asking kind count stamp source (waiting.filter fun y => y != b)
              (List.zipWith (· ||| ·) payload (packPayload (payloadFields s kind source b))) }
          ∧ t.bi = s.bi)
      ∧ ((waiting.filter fun y => y != b) = [] →
          t.nu = { s.nu with writer := .condition }
          ∧ ∃ w ∈ t.bi.waiting, w.owner = .nu ∧ w.sections = [.eventRing, .statusPage]
              ∧ w.fixed = wordsAt (0x6000 + s.nu.producer.toNat % 256 * 32)
                  (conditionWords s.nu.producer kind source count stamp
                    (List.zipWith (· ||| ·) payload (packPayload (payloadFields s kind source b))))
                ++ [(0x2020, (s.nu.producer + 1).setWidth 32)])
      ∧ (b ≠ .su → t.su = s.su) ∧ eventFrame [.nu] s t)
  ∧ (∀ (s : State) (o : OpenWindow), s.bi.inReset = false → writtenRecord s = some o → s.nu.writer = .condition →
    ∃ t, exec .conditionRecordWritten s = .next t ∧ t.nu.producer = s.nu.producer + 1
      ∧ t.nu.attn = (s.nu.producer + 1 != consumerCopy s) ∧ t.nu.reserved = s.nu.reserved
      ∧ (∀ w ∈ t.bi.opened, w.id ≠ o.id)
      ∧ (s.nu.owed ≠ none → t.nu.writer = .completion ∧ t.nu.owed = none ∧ askedFor t .nu .eventRing)
      ∧ (s.nu.owed = none → t.nu.owed = none ∧ looked s t s.bi.noticeMask s.nu.reserved (freeSlots t))
      ∧ eventFrame [.bi, .nu] s t)

/-! ### Time and pins -/

/-- One millisecond: the lane clock advances while READY, and each filter that counts reaches its twentieth or counts on; at the
twentieth the reading takes the pin's level and the edge goes to the Till Unit (R29, R139; that one tick is the millisecond of the
clock and of the filters is the model's reading, log 9, and that the sensor's edge of a millisecond comes first its choice, log
40). The timers it makes due reach their units before the edges it makes (R24; the model's choice, log 44). A pin that leaves the
reading starts the count, one that returns to it drops the count; under RESET_N only the pin's level is seen. -/
def Obligations.TicksAndPins : Prop :=
  (∀ s : State, s.bi.inReset = false → ∃ t, exec .laneClockTick s = .next t
      ∧ t.re = { s.re with clock := if s.re.device = .ready then s.re.clock + 1 else s.re.clock }
      ∧ (∀ (f g : Filter), (f = s.tu.senseFilter ∧ g = t.tu.senseFilter) ∨ (f = s.tu.keyFilter ∧ g = t.tu.keyFilter) →
          (f.count = none → g = f) ∧ (∀ n, f.count = some n → n < 19 → g = { f with count := some (n + 1) })
            ∧ (∀ n, f.count = some n → 19 ≤ n → g = { f with level := f.raw, count := none }))
      ∧ t.tu = { s.tu with senseFilter := t.tu.senseFilter, keyFilter := t.tu.keyFilter, edges := t.tu.edges }
      ∧ t.tu.edges = s.tu.edges
          ++ (if t.tu.senseFilter.level = s.tu.senseFilter.level then []
              else [{ input := .sense, level := t.tu.senseFilter.level }])
          ++ (if t.tu.keyFilter.level = s.tu.keyFilter.level then []
              else [{ input := .key, level := t.tu.keyFilter.level }])
      ∧ t.arrivals = (arriveAll s
          ((UnitTimer.all.filter fun x => !timerDue s (x.of s) && timerDue t (x.of s)).map (fun x => (x.owner, .timer x))
            ++ (t.tu.edges.drop s.tu.edges.length).map fun _ => (BlockId.tu, UnitEvent.edge))).arrivals
      ∧ eventFrame [.re, .tu] s t)
  ∧ ∀ (s : State) (i : InputId) (level : Bool), ∃ t, exec (.rawLevelChange i level) s = .next t
      ∧ (∀ (f g h k : Filter),
          (i = .sense ∧ f = s.tu.senseFilter ∧ g = t.tu.senseFilter ∧ h = s.tu.keyFilter ∧ k = t.tu.keyFilter)
            ∨ (i = .key ∧ f = s.tu.keyFilter ∧ g = t.tu.keyFilter ∧ h = s.tu.senseFilter ∧ k = t.tu.senseFilter) →
          k = h ∧ (s.bi.inReset = true → g = { f with raw := level })
          ∧ (s.bi.inReset = false → (level = f.raw → g = f)
              ∧ (level ≠ f.raw → g = { f with raw := level, count := if level = f.level then none else some 0 })))
      ∧ t.tu = { s.tu with senseFilter := t.tu.senseFilter, keyFilter := t.tu.keyFilter } ∧ eventFrame [.tu] s t

/-! ### The links -/

/-- A received character (R58, R60, R61, R63, R66). One whose stop bit read low waits to be judged. Outside an attempt a byte that
is not SYNC is dropped and SYNC opens an attempt; in an attempt a byte that leaves the frame incomplete is kept. The byte that
completes a valid frame on a link that is UP delivers it in order, with the gap flag when the sequence jumped; with two frames
held it replaces the newer, and OVERRUN is counted. A link that is DOWN and has seen its device comes UP with the frame, which
carries the gap flag (R69). An IDENT of the expected device takes a link that is UNSEEN, DOWN or in MISMATCH UP, and one of
another device takes it to MISMATCH. Any other frame on a link that is UNSEEN or in MISMATCH is discarded, with its SEQ tracked; a
QUIET link receives nothing (R65, R69). A wrong check code, a length or a kind that the link does not allow is counted, and the
eighth bad frame takes the link DOWN (R68; that the run stays at 8 is the model's choice, log 33). The bytes after the failed SYNC
are then taken as if they arrived anew (R59). The fields of a received frame lie where R177 puts them in its payload (R175, R176).
The check code is computed as R56 gives it, and a change of link state keeps the sum of the error counters that LINK_CHANGE shows
(R48, R70). At a sequence gap the Status Page is asked for also where the gap counter stays at 65,535 and so does not increase
(R62): the model's choice (log 43). -/
def Obligations.CharactersMakeFrames : Prop :=
  (∀ (s : State) (l : LinkId) (c : Byte), s.bi.inReset = false → (s.link l).line = .running →
    exec (.rxCharacter l c false) s = .next (s.setLink l { s.link l with freshStart := false, line := .lowStop }))
  ∧ (∀ (s : State) (l : LinkId) (c : Byte), s.bi.inReset = false → (s.link l).line = .running → (s.link l).attempt = none →
    exec (.rxCharacter l c true) s = .next
      (s.setLink l { s.link l with freshStart := false, attempt := if c = syncByte then some [c] else none }))
  ∧ (∀ (s : State) (l : LinkId) (c : Byte) (body : List Byte), s.bi.inReset = false → (s.link l).line = .running →
    (s.link l).attempt = some (syncByte :: body) → tryFrame l (body ++ [c]) = .incomplete →
    exec (.rxCharacter l c true) s = .next
      (s.setLink l { s.link l with freshStart := false, attempt := some (syncByte :: body ++ [c]) }))
  ∧ (∀ (l : LinkId) (kind seq lo hi : Byte) (payload : List Byte) (least : Nat), payload.length ≤ 120 →
    allowedMinLen l kind = some least → least ≤ payload.length →
    tryFrame l (BitVec.ofNat 8 payload.length :: kind :: seq :: payload ++ [lo, hi])
      = if crc16 (BitVec.ofNat 8 payload.length :: kind :: seq :: payload) = hi ++ lo then .valid kind seq payload
        else .error .check .check)
  ∧ (∀ (l : LinkId) (len kind : Byte), (120 < len.toNat → tryFrame l [len] = .error .length .length)
      ∧ (len.toNat ≤ 120 → tryFrame l [len] = .incomplete
          ∧ (allowedMinLen l kind = none → tryFrame l [len, kind] = .error .kind .header)
          ∧ ∀ least, allowedMinLen l kind = some least →
              tryFrame l [len, kind] = if len.toNat < least then .error .length .header else .incomplete))
  ∧ (∀ (s : State) (l : LinkId) (c kind seq : Byte) (body payload : List Byte) (gap : Bool), s.bi.inReset = false →
    gap = (match (s.link l).tracked with | some p => seq != p + 1 | none => false) → (s.link l).line = .running →
    (s.link l).attempt = some (syncByte :: body) →
    tryFrame l (body ++ [c]) = .valid kind seq payload → body.length = payload.length + 4 → kind ≠ kIdent →
    (s.link l).state = .up → ((s.link l).path.filter PathItem.isFrame).length < 2 →
    ∃ t, exec (.rxCharacter l c true) s = .next t
      ∧ t.link l = { s.link l with
          freshStart := false, attempt := none, badRun := 0, silence := startTimer s (cfgSilence s l), tracked := some seq
          seqGaps := if gap then sat (s.link l).seqGaps else (s.link l).seqGaps
          path := (s.link l).path ++ [.frame kind payload (gap || (s.link l).firstAfterUp)]
          firstAfterUp := false }
      ∧ t.arrivals = (arrive s (linkOwner l) .link).arrivals ∧ (∀ k, k ≠ l → t.link k = s.link k) ∧ eventFrame [.lu] s t)
  ∧ (∀ (s : State) (l : LinkId) (c kind seq k0 : Byte) (body payload p0 : List Byte) (g0 : Bool) (pre post : List PathItem),
    s.bi.inReset = false → (s.link l).line = .running → (s.link l).attempt = some (syncByte :: body) →
    tryFrame l (body ++ [c]) = .valid kind seq payload → body.length = payload.length + 4 → kind ≠ kIdent →
    (s.link l).state = .up → (s.link l).path = pre ++ .frame k0 p0 g0 :: post → (pre.filter PathItem.isFrame).length = 1 →
    (∀ x ∈ post, x.isFrame = false) →
    ∃ t, exec (.rxCharacter l c true) s = .next t
      ∧ (t.link l).path = pre ++ post ++ [.frame kind payload true]
      ∧ (t.link l).errors = { (s.link l).errors with overrun := sat (s.link l).errors.overrun }
      ∧ (t.link l).lastError = { kind := .overrun, field := .check, offset := 0, stamp := s.re.clock }
      ∧ (t.link l).attempt = none ∧ (t.link l).tracked = some seq ∧ (t.link l).badRun = 0 ∧ (t.link l).state = .up
      ∧ askedFor t .lu .statusPage ∧ (∀ k, k ≠ l → t.link k = s.link k) ∧ eventFrame [.lu] s t)
  ∧ (∀ (s : State) (l : LinkId) (c kind seq : Byte) (body payload : List Byte), s.bi.inReset = false →
    s.nu.latches.length = 24 → (s.link l).line = .running → (s.link l).attempt = some (syncByte :: body) →
    tryFrame l (body ++ [c]) = .valid kind seq payload → body.length = payload.length + 4 → kind ≠ kIdent →
    (s.link l).state = .down → ((s.link l).path.filter PathItem.isFrame).length < 2 →
    ∃ t, exec (.rxCharacter l c true) s = .next t ∧ (t.link l).tracked = some seq ∧ (t.link l).attempt = none
      ∧ (t.link l).silence = startTimer s (cfgSilence s l)
      ∧ ((s.link l).identSeen = true →
          (t.link l).state = .up ∧ (t.link l).reason = .frameResumed ∧ (t.link l).prevState = .down
          ∧ (t.link l).path = (s.link l).path ++ [.change .down .up, .frame kind payload true]
          ∧ (t.link l).errors = (s.link l).errors ∧ (t.link l).errorSum = (s.link l).errors.sum
          ∧ reported t .linkChange (linkNo l) ∧ askedFor t .lu .statusPage)
      ∧ ((s.link l).identSeen = false → (t.link l).state = .down ∧ (t.link l).path = (s.link l).path ∧ t.nu = s.nu)
      ∧ (∀ k, k ≠ l → t.link k = s.link k) ∧ eventFrame [.lu] s t)
  ∧ (∀ (s : State) (l : LinkId) (c kind seq k0 : Byte) (body payload p0 : List Byte) (g0 : Bool) (pre post : List PathItem),
    s.bi.inReset = false → s.nu.latches.length = 24 → (s.link l).line = .running →
    (s.link l).attempt = some (syncByte :: body) → tryFrame l (body ++ [c]) = .valid kind seq payload →
    body.length = payload.length + 4 → kind ≠ kIdent → (s.link l).state = .down → (s.link l).identSeen = true →
    (s.link l).path = pre ++ .frame k0 p0 g0 :: post → (pre.filter PathItem.isFrame).length = 1 →
    (∀ x ∈ post, x.isFrame = false) →
    ∃ t, exec (.rxCharacter l c true) s = .next t
      ∧ (t.link l).state = .up ∧ (t.link l).reason = .frameResumed ∧ (t.link l).prevState = .down
      ∧ (t.link l).path = pre ++ post ++ [.change .down .up, .frame kind payload true]
      ∧ (t.link l).errorSum = (s.link l).errors.sum
      ∧ (t.link l).errors = { (s.link l).errors with overrun := sat (s.link l).errors.overrun }
      ∧ (t.link l).lastError = { kind := .overrun, field := .check, offset := 0, stamp := s.re.clock }
      ∧ (t.link l).attempt = none ∧ (t.link l).tracked = some seq ∧ (t.link l).badRun = 0
      ∧ (t.link l).silence = startTimer s (cfgSilence s l) ∧ reported t .linkChange (linkNo l)
      ∧ askedFor t .lu .statusPage ∧ (∀ k, k ≠ l → t.link k = s.link k) ∧ eventFrame [.lu] s t)
  ∧ (∀ (s : State) (l : LinkId) (c seq : Byte) (body payload : List Byte), s.bi.inReset = false →
    s.nu.latches.length = 24 → (s.link l).line = .running → (s.link l).attempt = some (syncByte :: body) →
    tryFrame l (body ++ [c]) = .valid kIdent seq payload → body.length = payload.length + 4 →
    (s.link l).state = .unseen ∨ (s.link l).state = .mismatch ∨ (s.link l).state = .down ∨ (s.link l).state = .up →
    ∃ t, exec (.rxCharacter l c true) s = .next t
      ∧ (t.link l).tracked = some seq ∧ (t.link l).identKind = payByte payload 0 ∧ (t.link l).attempt = none
      ∧ (t.link l).badRun = 0 ∧ (t.link l).errors = (s.link l).errors
      ∧ (payByte payload 0 = expectedDevice l →
          (t.link l).state = .up ∧ (t.link l).identSeen = true ∧ (t.link l).silence = startTimer s (cfgSilence s l)
          ∧ ((s.link l).state ≠ .up → (t.link l).reason = .identMatched ∧ (t.link l).prevState = (s.link l).state
              ∧ (t.link l).errorSum = (s.link l).errors.sum
              ∧ (t.link l).path = (s.link l).path ++ [.change (s.link l).state .up] ∧ reported t .linkChange (linkNo l))
          ∧ ((s.link l).state = .up → (t.link l).path = (s.link l).path ∧ (t.link l).reason = (s.link l).reason
              ∧ t.nu = s.nu))
      ∧ (payByte payload 0 ≠ expectedDevice l →
          (t.link l).state = .mismatch ∧ (t.link l).identSeen = (s.link l).identSeen
          ∧ ((s.link l).state ≠ .mismatch → (t.link l).reason = .identWrong ∧ (t.link l).prevState = (s.link l).state
              ∧ (t.link l).errorSum = (s.link l).errors.sum
              ∧ (t.link l).path = (s.link l).path ++ [.change (s.link l).state .mismatch] ∧ (t.link l).silence = none
              ∧ (t.link l).tx = (s.link l).tx.filter (fun f => f.seq.isSome) ∧ reported t .linkChange (linkNo l))
          ∧ ((s.link l).state = .mismatch → (t.link l).path = (s.link l).path ∧ t.nu = s.nu))
      ∧ askedFor t .lu .statusPage ∧ (∀ k, k ≠ l → t.link k = s.link k) ∧ eventFrame [.lu] s t)
  ∧ (∀ (s : State) (l : LinkId) (c kind seq : Byte) (body payload : List Byte) (gap : Bool), s.bi.inReset = false →
    gap = (match (s.link l).tracked with | some p => seq != p + 1 | none => false) → (s.link l).line = .running →
    (s.link l).attempt = some (syncByte :: body) →
    tryFrame l (body ++ [c]) = .valid kind seq payload → body.length = payload.length + 4 → kind ≠ kIdent →
    ((s.link l).state = .unseen ∨ (s.link l).state = .mismatch) →
    ∃ t, exec (.rxCharacter l c true) s = .next t
      ∧ t.link l = { s.link l with
          freshStart := false, attempt := none, badRun := 0, tracked := some seq
          silence := if (s.link l).state = .unseen then startTimer s (cfgSilence s l) else (s.link l).silence
          seqGaps := if gap then sat (s.link l).seqGaps else (s.link l).seqGaps }
      ∧ t.nu = s.nu ∧ (gap = true → askedFor t .lu .statusPage) ∧ (∀ k, k ≠ l → t.link k = s.link k) ∧ eventFrame [.lu] s t)
  ∧ (∀ (s : State) (l : LinkId) (c : Byte) (high : Bool), (s.link l).line = .stopped →
    exec (.rxCharacter l c high) s = .next s ∧ exec (.lineRiseFraming l) s = .next s ∧ exec (.gapTimeout l) s = .next s
      ∧ exec (.breakDetected l) s = .next s ∧ exec (.breakLineHigh l) s = .next s)
  ∧ (∀ (s : State) (l : LinkId) (c : Byte) (body : List Byte) (err : ErrorKind) (field : RxField), s.bi.inReset = false →
    s.nu.latches.length = 24 → (s.link l).line = .running → (s.link l).attempt = some (syncByte :: body) →
    tryFrame l (body ++ [c]) = .error err field →
    ∃ u t, exec (.rxCharacter l c true) s = .next t
      ∧ badFrameCounted s u l { s.link l with
          freshStart := false, attempt := none
          errors := (match err with
            | .length => { (s.link l).errors with length := sat (s.link l).errors.length }
            | .kind => { (s.link l).errors with kind := sat (s.link l).errors.kind }
            | _ => { (s.link l).errors with check := sat (s.link l).errors.check })
          lastError := { kind := err, field := field, offset := 0, stamp := s.re.clock } }
      ∧ askedFor u .lu .statusPage ∧ (∀ k, k ≠ l → u.link k = s.link k) ∧ eventFrame [.lu] s u
      ∧ arrived l u (body ++ [c]) t)
  ∧ (∀ (s : State) (l : LinkId) (c : Byte) (body : List Byte) (err : ErrorKind) (field : RxField), s.bi.inReset = false →
    s.nu.latches.length = 24 → (s.link l).line = .running → (s.link l).attempt = some (syncByte :: body) →
    tryFrame l (body ++ [c]) = .error err field → (∀ b ∈ body ++ [c], b ≠ syncByte) →
    ∃ t, exec (.rxCharacter l c true) s = .next t
      ∧ badFrameCounted s t l { s.link l with
          freshStart := false, attempt := none
          errors := (match err with
            | .length => { (s.link l).errors with length := sat (s.link l).errors.length }
            | .kind => { (s.link l).errors with kind := sat (s.link l).errors.kind }
            | _ => { (s.link l).errors with check := sat (s.link l).errors.check })
          lastError := { kind := err, field := field, offset := 0, stamp := s.re.clock } }
      ∧ (err = .length ∨ err = .kind ∨ err = .check)
      ∧ askedFor t .lu .statusPage ∧ (∀ k, k ≠ l → t.link k = s.link k) ∧ eventFrame [.lu] s t)
  ∧ (∀ p : List Byte, frameFields p)
  ∧ (∀ bs : List Byte, crc16 bs = checkRule bs)
  ∧ ∀ e : ErrorCounters, e.sum = e.framing + e.length + e.gap + e.check + e.brk + e.overrun + e.kind

/-- What the line itself tells (R58-R60, R62, R68): a gap or a low stop bit ends the attempt, is counted by its kind and becomes
the last error, and the bytes after its SYNC are taken as if they arrived anew, also in a receiver that has just started at a new
rate, which then still counts as fresh (a receiver that keeps an attempt across the change: log 39); the eighth attempt ended so
takes the link DOWN (that the run stays at 8 is the model's choice, log 33); a BREAK is counted, discards the attempt and takes a
link that is UNSEEN or UP DOWN; on entry to DOWN the frame being sent is finished, the frames that wait are discarded, and a HELLO
is queued (R68), and the sum of the error counters that LINK_CHANGE shows is that of the change, this error counted (R48, R70); when
the line has been high for a character the receiver hunts again. -/
def Obligations.LineErrorsAreCounted : Prop :=
  (∀ (s : State) (l : LinkId) (body : List Byte), s.bi.inReset = false → s.nu.latches.length = 24 →
    (s.link l).line = .running → (s.link l).attempt = some (syncByte :: body) →
    ∃ u t, exec (.gapTimeout l) s = .next t
      ∧ badFrameCounted s u l { s.link l with
          attempt := none, errors := { (s.link l).errors with gap := sat (s.link l).errors.gap }
          lastError := { kind := .gap, field := (s.link l).place.1, offset := (s.link l).place.2, stamp := s.re.clock } }
      ∧ askedFor u .lu .statusPage ∧ (∀ k, k ≠ l → u.link k = s.link k) ∧ eventFrame [.lu] s u
      ∧ (body ≠ [] → (s.link l).freshStart = false → arrived l u body t) ∧ (body = [] → t = u)
      ∧ ((s.link l).freshStart = true → ∃ v, arrived l u body v
          ∧ t = v.setLink l { v.link l with freshStart := true }))
  ∧ (∀ (s : State) (l : LinkId) (body : List Byte), s.bi.inReset = false → s.nu.latches.length = 24 →
    (s.link l).line = .lowStop → (s.link l).attempt = some (syncByte :: body) →
    ∃ u t, exec (.lineRiseFraming l) s = .next t
      ∧ badFrameCounted s u l { s.link l with
          line := .running, attempt := none, errors := { (s.link l).errors with framing := sat (s.link l).errors.framing }
          lastError := { kind := .framing, field := (s.link l).place.1, offset := (s.link l).place.2, stamp := s.re.clock } }
      ∧ askedFor u .lu .statusPage ∧ (∀ k, k ≠ l → u.link k = s.link k) ∧ eventFrame [.lu] s u
      ∧ (body ≠ [] → (s.link l).freshStart = false → arrived l u body t) ∧ (body = [] → t = u)
      ∧ ((s.link l).freshStart = true → ∃ v, arrived l u body v
          ∧ t = v.setLink l { v.link l with freshStart := true }))
  ∧
  (∀ (s : State) (l : LinkId) (body : List Byte), s.bi.inReset = false → s.nu.latches.length = 24 →
    (s.link l).line = .running → (s.link l).attempt = some (syncByte :: body) → (∀ b ∈ body, b ≠ syncByte) →
    ∃ t, exec (.gapTimeout l) s = .next t
      ∧ badFrameCounted s t l { s.link l with
          attempt := none, errors := { (s.link l).errors with gap := sat (s.link l).errors.gap }
          lastError := { kind := .gap, field := (s.link l).place.1, offset := (s.link l).place.2, stamp := s.re.clock } }
      ∧ askedFor t .lu .statusPage ∧ (∀ k, k ≠ l → t.link k = s.link k) ∧ eventFrame [.lu] s t)
  ∧ (∀ (s : State) (l : LinkId) (body : List Byte), s.bi.inReset = false → s.nu.latches.length = 24 →
    (s.link l).line = .lowStop → (s.link l).attempt = some (syncByte :: body) → (∀ b ∈ body, b ≠ syncByte) →
    ∃ t, exec (.lineRiseFraming l) s = .next t
      ∧ badFrameCounted s t l { s.link l with
          line := .running, attempt := none, errors := { (s.link l).errors with framing := sat (s.link l).errors.framing }
          lastError := { kind := .framing, field := (s.link l).place.1, offset := (s.link l).place.2, stamp := s.re.clock } }
      ∧ askedFor t .lu .statusPage ∧ (∀ k, k ≠ l → t.link k = s.link k) ∧ eventFrame [.lu] s t)
  ∧ (∀ (s : State) (l : LinkId), s.bi.inReset = false → (s.link l).line = .lowStop → (s.link l).attempt = none →
    ∃ t, exec (.lineRiseFraming l) s = .next t
      ∧ t.link l = { s.link l with
          line := .running, errors := { (s.link l).errors with framing := sat (s.link l).errors.framing }
          lastError := { kind := .framing, field := .hunt, offset := 0, stamp := s.re.clock } }
      ∧ t.nu = s.nu ∧ askedFor t .lu .statusPage ∧ (∀ k, k ≠ l → t.link k = s.link k) ∧ eventFrame [.lu] s t)
  ∧ (∀ (s : State) (l : LinkId), s.bi.inReset = false → s.nu.latches.length = 24 →
    ((s.link l).line = .lowStop ∨ ((s.link l).line = .running ∧ (s.link l).freshStart = true)) →
    ∃ t, exec (.breakDetected l) s = .next t
      ∧ (t.link l).errors = { (s.link l).errors with brk := sat (s.link l).errors.brk }
      ∧ (t.link l).lastError
          = { kind := .brk, field := (s.link l).place.1, offset := (s.link l).place.2, stamp := s.re.clock }
      ∧ (t.link l).attempt = none ∧ (t.link l).line = .breakWait ∧ askedFor t .lu .statusPage
      ∧ (if (s.link l).state = .unseen ∨ (s.link l).state = .up then
          (t.link l).state = .down ∧ (t.link l).reason = .brk ∧ (t.link l).prevState = (s.link l).state
            ∧ (t.link l).errorSum = (t.link l).errors.sum
            ∧ (t.link l).path = (s.link l).path ++ [.change (s.link l).state .down] ∧ reported t .linkChange (linkNo l)
            ∧ (t.link l).tx = downQueue s l (s.link l)
        else (t.link l).state = (s.link l).state ∧ (t.link l).path = (s.link l).path ∧ t.nu = s.nu)
      ∧ (∀ k, k ≠ l → t.link k = s.link k) ∧ eventFrame [.lu] s t)
  ∧ ∀ (s : State) (l : LinkId), s.bi.inReset = false → (s.link l).line = .breakWait →
    exec (.breakLineHigh l) s = .next (s.setLink l { s.link l with attempt := none, line := .running })

/-- Silence takes a link that is UNSEEN or UP DOWN and reports it; a link that is DOWN stays so; both queue a HELLO and start the
silence timer anew. On entry to DOWN the frame being sent stays, and the frames that wait are discarded; while DOWN no second HELLO
is queued beside one that waits unsent, and one queued alone is sent at once (R57, R64, R67, R68, R70). -/
def Obligations.SilenceTakesTheLinkDown : Prop :=
  (∀ (s : State) (l : LinkId), s.bi.inReset = false → s.nu.latches.length = 24 → timerDue s (s.link l).silence = true →
    ((s.link l).state = .unseen ∨ (s.link l).state = .up) →
    ∃ t, exec (.silenceExpiry l) s = .next t
      ∧ (t.link l).state = .down ∧ (t.link l).reason = .silence ∧ (t.link l).prevState = (s.link l).state
      ∧ (t.link l).errorSum = (s.link l).errors.sum ∧ (t.link l).badRun = 0
      ∧ (t.link l).path = (s.link l).path ++ [.change (s.link l).state .down]
      ∧ (t.link l).silence = startTimer s (cfgSilence s l)
      ∧ (t.link l).tx = downQueue s l (s.link l)
      ∧ reported t .linkChange (linkNo l) ∧ askedFor t .lu .statusPage
      ∧ (∀ k, k ≠ l → t.link k = s.link k) ∧ eventFrame [.lu] s t)
  ∧ ∀ (s : State) (l : LinkId), s.bi.inReset = false → timerDue s (s.link l).silence = true → (s.link l).state = .down →
    ∃ t, exec (.silenceExpiry l) s = .next t
      ∧ t.link l = { s.link l with silence := startTimer s (cfgSilence s l), tx := (t.link l).tx, txSeq := (t.link l).txSeq }
      ∧ ((∃ f ∈ (s.link l).tx, f.kind = kHello ∧ f.seq = none) → t.link l = { s.link l with silence := (t.link l).silence })
      ∧ ((∀ f ∈ (s.link l).tx, f.kind = kHello → f.seq ≠ none) →
          ((s.link l).tx = [] →
            (t.link l).tx = [{ kind := kHello, payload := helloPayload s l, seq := some (s.link l).txSeq }]
            ∧ (t.link l).txSeq = (s.link l).txSeq + 1)
          ∧ ∀ f rest, (s.link l).tx = f :: rest →
            (t.link l).tx = (if f.seq = none then { f with seq := some (s.link l).txSeq } else f)
                :: (rest ++ [{ kind := kHello, payload := helloPayload s l, seq := none }])
            ∧ (t.link l).txSeq = if f.seq = none then (s.link l).txSeq + 1 else (s.link l).txSeq)
      ∧ (∀ k, k ≠ l → t.link k = s.link k) ∧ t.bi = s.bi ∧ t.nu = s.nu ∧ t.su = s.su ∧ eventFrame [.lu] s t

/-- The frame being sent leaves the queue, a rate that waited applies, and the next frame starts with the link's next SEQ (R64,
R65). The owner then offers again: the CTU's frames enter the queue, oldest first, while it holds fewer than four, but not those
made for a link that has left UP without the CTU having been told (R128); the PU's frame enters it while the printer has credit
(R153). A unit in the middle of a request, or with an event of its own that a request has held, is told in its turn (R24; log 44).
The model's choices: that the bytes of the
frame sent stand in a field of State (log 29), and that a receive attempt in hand, or a wait after a BREAK, goes on across the
change of rate (log 39). -/
def Obligations.SentFramesMakeRoom : Prop :=
  (∀ (s : State) (l : LinkId) (f : TxFrame) (rest : List TxFrame), s.bi.inReset = false → (s.link l).tx = f :: rest →
    f.seq.isSome = true → (l = .card → s.ctu.sendList = []) → (l = .printer → s.pu.ready = none) →
    ∃ t, exec (.frameSent l) s = .next t
      ∧ t.link l = { s.link l with
          tx := match rest with
            | [] => []
            | g :: more => (if g.seq = none then { g with seq := some (s.link l).txSeq } else g) :: more
          txSeq := match rest with
            | [] => (s.link l).txSeq
            | g :: _ => if g.seq = none then (s.link l).txSeq + 1 else (s.link l).txSeq
          lastSent := frameBytes f.kind (f.seq.getD 0) f.payload
          rate := (s.link l).rateNext.getD (s.link l).rate, rateNext := none
          freshStart := (s.link l).freshStart || (s.link l).rateNext.isSome }
      ∧ (∀ k, k ≠ l → t.link k = s.link k) ∧ t.bi = s.bi ∧ t.nu = s.nu
      ∧ t.ctu = { s.ctu with
          notices := if l = .card ∧ (unitBusy s .ctu = true ∨ unitHolds s .ctu = true) then s.ctu.notices + 1 else s.ctu.notices }
      ∧ t.pu = (if l ≠ .printer then s.pu
                else if unitBusy s .pu = true ∨ unitHolds s .pu = true then { s.pu with notices := s.pu.notices + 1 }
                else { s.pu with notice := false })
      ∧ (l = .card → unitBusy s .ctu = true ∨ unitHolds s .ctu = true → t.arrivals = (arrive s .ctu .sent).arrivals)
      ∧ (l = .printer → unitBusy s .pu = true ∨ unitHolds s .pu = true → t.arrivals = (arrive s .pu .sent).arrivals)
      ∧ eventFrame [.lu, .ctu, .pu] s t)
  ∧ (∀ (s : State) (f : TxFrame) (rest : List TxFrame), s.bi.inReset = false → (s.link .card).tx = f :: rest →
    f.seq.isSome = true → unitBusy s .ctu = false → unitHolds s .ctu = false → (s.link .card).state = .up →
    cardLeft s = false →
    ∃ t, exec (.frameSent .card) s = .next t
      ∧ t.ctu = { s.ctu with sendList := s.ctu.sendList.drop (4 - rest.length) }
      ∧ (t.link .card).tx.map (fun g => (g.kind, g.payload))
          = rest.map (fun g => (g.kind, g.payload)) ++ s.ctu.sendList.take (4 - rest.length)
      ∧ (∀ k, k ≠ .card → t.link k = s.link k) ∧ t.bi = s.bi ∧ t.nu = s.nu ∧ eventFrame [.lu, .ctu] s t)
  ∧ (∀ (s : State) (f : TxFrame) (rest : List TxFrame), s.bi.inReset = false → (s.link .card).tx = f :: rest →
    f.seq.isSome = true → (unitBusy s .ctu = true ∨ unitHolds s .ctu = true ∨ cardLeft s = true) →
    ∃ t, exec (.frameSent .card) s = .next t
      ∧ (unitBusy s .ctu = true ∨ unitHolds s .ctu = true →
          t.ctu = { s.ctu with notices := s.ctu.notices + 1 } ∧ t.arrivals = (arrive s .ctu .sent).arrivals)
      ∧ (unitBusy s .ctu = false → unitHolds s .ctu = false → t.ctu = s.ctu)
      ∧ (t.link .card).tx.map (fun g => (g.kind, g.payload)) = rest.map (fun g => (g.kind, g.payload))
      ∧ (∀ k, k ≠ .card → t.link k = s.link k)
      ∧ t.bi = s.bi ∧ eventFrame [.lu, .ctu] s t)
  ∧ ∀ (s : State) (f : TxFrame) (rest : List TxFrame) (r : ReadyFrame), s.bi.inReset = false →
    (s.link .printer).tx = f :: rest → f.seq.isSome = true → s.pu.ready = some r → (s.link .printer).state = .up →
    ∃ t, exec (.frameSent .printer) s = .next t
      ∧ (unitBusy s .pu = true ∨ unitHolds s .pu = true →
          t.pu = { s.pu with notices := s.pu.notices + 1 } ∧ t.arrivals = (arrive s .pu .sent).arrivals ∧ t.bi = s.bi)
      ∧ (unitBusy s .pu = false → unitHolds s .pu = false → s.pu.cond ≠ .ready ∨ s.pu.credits = 0 ∨ s.pu.lost = true →
          t.pu = { s.pu with notice := true } ∧ t.bi = s.bi)
      ∧ (unitBusy s .pu = false → unitHolds s .pu = false → s.pu.cond = .ready → 0 < s.pu.credits → s.pu.lost = false →
          rest.length < 4 →
          t.pu.ready = none ∧ t.pu.notice = false
          ∧ t.pu.flight = s.pu.flight ++ [{ seq := s.pu.lineSeq, kind := r.flight }]
          ∧ t.pu.credits = s.pu.credits - 1 ∧ t.pu.lineSeq = s.pu.lineSeq + 1
          ∧ (t.link .printer).tx.map (fun g => (g.kind, g.payload))
              = rest.map (fun g => (g.kind, g.payload)) ++ [(r.kind, r.payload)] ∧ askedFor t .pu .statusPage)
      ∧ (∀ k, k ≠ .printer → t.link k = s.link k) ∧ t.nu = s.nu ∧ eventFrame [.lu, .pu] s t

/-! ### The platter scale -/

/-- One SAMPLE of the platter (R72-R76, R78-R81, R85): the gross, the limit state, the rounded weight, the load zone, the stability
window, the capture machine's step, the raises and the Status Page write. The ids of the capture issued last and of the one made
STALE last are those CAPTURE_READY and CAPTURE_STALE show (R88). The window of a capture that stays CAPTURED goes on as
any other; the zero-tracking timer starts where R85's conditions hold after the sample, and stops where they do not; when a
sample makes it STALE the window begins anew with that sample, or is empty for a faulty one (the empty window
is the model's reading of R76 beside R80, log 24). That the Status Page write is asked for also at a SAMPLE that changes no
published value (R78) is the model's choice (log 43). -/
def Obligations.PlatterSampleIsWeighed : Prop :=
  ∀ (s : State) (payload : List Byte) (gap : Bool) (c : Setup) (g : Int) (fault overrange : Bool), s.bi.inReset = false →
    s.nu.latches.length = 24 → frontFrame s .platter = some (kSample, payload, gap) → unitTakes s .pwu .link = true → c = cfg s →
    0 < c.platDivision → 4 ≤ c.platWindow → g = sampleGross payload → fault = sampleFault payload →
    overrange = sampleOverrange payload →
    ∃ (t : State) (w : Int), exec .platterSample s = .next t
      ∧ (t.link .platter).path = (s.link .platter).path.tail ∧ (∀ l, l ≠ .platter → t.link l = s.link l)
      ∧ t.pwu.gross = g ∧ t.pwu.zero = s.pwu.zero ∧ t.pwu.tare = s.pwu.tare
      ∧ t.pwu.limit = limitRule fault overrange g c.platCapacity c.platDivision
      ∧ t.pwu.weight = w ∧ roundedTo (g - s.pwu.zero - 10 * s.pwu.tare) c.platDivision w
      ∧ t.pwu.zone = (if w.natAbs < c.platMinNet * c.platDivision then LoadZone.empty else .loaded)
      ∧ (s.pwu.machine ≠ .captured ∨ (t.pwu.limit = .normal ∧ (g - s.pwu.refGross).natAbs ≤ c.platBand) →
          (fault = true → t.pwu.window = []) ∧ (fault = false → gap = true → t.pwu.window = [g])
            ∧ (fault = false → gap = false → windowRule s.pwu.window t.pwu.window g c.platWindow c.platBand))
      ∧ (s.pwu.machine = .armed → t.pwu.limit = .normal → t.pwu.window.length = c.platWindow → t.pwu.zone = .loaded → 0 < w →
          t.pwu.machine = .captured ∧ t.pwu.refGross = g ∧ t.pwu.curSlot = s.pwu.writeSlot
          ∧ t.pwu.table = s.pwu.table.set s.pwu.writeSlot
              { id := s.pwu.nextId, state := .fresh, net := w, tare := s.pwu.tare, gross := w + s.pwu.tare
                stamp := s.re.clock, line := 0 }
          ∧ t.pwu.nextId = (if s.pwu.nextId = 0xFFFF then 1 else s.pwu.nextId + 1)
          ∧ t.pwu.lastIssued = s.pwu.nextId ∧ t.pwu.writeSlot = (s.pwu.writeSlot + 1) % 16 ∧ reported t .captureReady 0 ∧ askedFor t .pwu .captureTable)
      ∧ (s.pwu.machine = .armed →
          t.pwu.limit ≠ .normal ∨ t.pwu.window.length ≠ c.platWindow ∨ t.pwu.zone = .empty ∨ w ≤ 0 →
          t.pwu.machine = .armed ∧ t.pwu.table = s.pwu.table ∧ t.pwu.lastIssued = s.pwu.lastIssued)
      ∧ (s.pwu.machine ≠ .armed → t.pwu.lastIssued = s.pwu.lastIssued)
      ∧ (s.pwu.machine ≠ .captured → t.pwu.lastStale = s.pwu.lastStale)
      ∧ (s.pwu.machine = .captured → t.pwu.limit ≠ .normal ∨ c.platBand < (g - s.pwu.refGross).natAbs →
          t.pwu.machine = .armed ∧ t.pwu.window = (if fault then [] else [g])
          ∧ t.pwu.table = s.pwu.table.set s.pwu.curSlot { s.pwu.entry s.pwu.curSlot with state := .stale }
          ∧ t.pwu.lastStale = (s.pwu.entry s.pwu.curSlot).id ∧ reported t .captureStale 0 ∧ askedFor t .pwu .captureTable)
      ∧ (s.pwu.machine = .captured → t.pwu.limit = .normal → (g - s.pwu.refGross).natAbs ≤ c.platBand →
          t.pwu.machine = .captured ∧ t.pwu.table = s.pwu.table ∧ t.pwu.lastStale = s.pwu.lastStale)
      ∧ (s.pwu.machine = .spent → t.pwu.table = s.pwu.table
          ∧ t.pwu.machine = if t.pwu.window.length = c.platWindow ∧ t.pwu.zone = .empty then .armed else .spent)
      ∧ (c.platTracking = true ∧ t.pwu.machine = .armed ∧ t.pwu.limit = .normal ∧ t.pwu.window.length = c.platWindow
          ∧ s.pwu.tare = 0 ∧ (g - s.pwu.zero).natAbs ≤ 5 * c.platDivision →
          t.pwu.zeroTimer = if s.pwu.zeroTimer = none then startTimer s 1000 else s.pwu.zeroTimer)
      ∧ (c.platTracking = false ∨ t.pwu.machine ≠ .armed ∨ t.pwu.limit ≠ .normal ∨ t.pwu.window.length ≠ c.platWindow
          ∨ s.pwu.tare ≠ 0 ∨ 5 * c.platDivision < (g - s.pwu.zero).natAbs → t.pwu.zeroTimer = none)
      ∧ (t.pwu.limit ≠ s.pwu.limit → t.pwu.limit = .over ∨ t.pwu.limit = .under ∨ t.pwu.limit = .fault →
          reported t .scaleLimit 0)
      ∧ askedFor t .pwu .statusPage ∧ eventFrame [.lu, .pwu] s t

/-- The platter link coming UP or leaving UP, and the zero-tracking timer (R77, R80, R85): OFFLINE empties window and zone and
makes a FRESH capture STALE; coming back the state is NORMAL with an empty window; at the expiry the zero offset moves to the
gross, or to the nearer end of the zero range, which is the whole part of capacity ÷ 5 (the model's choice, log 33). A change
taken while the link's going QUIET still waits in its path comes from before a LANE_RESET, and changes nothing more (R63, R77,
R89). -/
def Obligations.PlatterLinkAndTracking : Prop :=
  (∀ (s : State) (old new : LinkState), s.bi.inReset = false → s.nu.latches.length = 24 →
    frontChange s .platter = some (old, new) → unitTakes s .pwu .link = true →
    ∃ t, exec .platterLinkChange s = .next t
      ∧ (t.link .platter).path = (s.link .platter).path.tail
      ∧ (wentQuiet s .platter = true → t.pwu = s.pwu ∧ t.bi = s.bi ∧ t.nu = s.nu)
      ∧ (wentQuiet s .platter = false → new = .up →
          t.pwu = { s.pwu with limit := .normal, window := [] } ∧ askedFor t .pwu .statusPage)
      ∧ (wentQuiet s .platter = false → new ≠ .up → old = .up → s.pwu.machine ≠ .captured →
          t.pwu = { s.pwu with limit := .offline, window := [], zone := .empty, zeroTimer := none }
            ∧ askedFor t .pwu .statusPage)
      ∧ (wentQuiet s .platter = false → new ≠ .up → old = .up → s.pwu.machine = .captured →
          t.pwu = { s.pwu with
            limit := .offline, window := [], zone := .empty, zeroTimer := none, machine := .armed
            table := s.pwu.table.set s.pwu.curSlot { s.pwu.entry s.pwu.curSlot with state := .stale }
            lastStale := (s.pwu.entry s.pwu.curSlot).id }
          ∧ reported t .captureStale 0 ∧ askedFor t .pwu .captureTable)
      ∧ (new ≠ .up → old ≠ .up → t.pwu = s.pwu ∧ t.bi = s.bi ∧ t.nu = s.nu)
      ∧ (∀ l, l ≠ .platter → t.link l = s.link l) ∧ eventFrame [.lu, .pwu] s t)
  ∧ ∀ (s : State) (c : Setup) (limit : Int), s.bi.inReset = false → timerDue s s.pwu.zeroTimer = true →
    unitTakes s .pwu (.timer .zeroTrack) = true → s.pwu.limit ≠ .offline → c = cfg s → 0 < c.platDivision →
    limit = ((c.platCapacity / 5 : Nat) : Int) →
    ∃ t, exec .zeroTrackExpiry s = .next t
      ∧ t.pwu.zero = (if s.pwu.gross < -limit then -limit else if limit < s.pwu.gross then limit else s.pwu.gross)
      ∧ roundedTo (s.pwu.gross - t.pwu.zero - 10 * s.pwu.tare) c.platDivision t.pwu.weight
      ∧ t.pwu = { s.pwu with
          zero := t.pwu.zero, weight := t.pwu.weight, zone := t.pwu.zone, zeroTimer := t.pwu.zeroTimer }
      ∧ t.pwu.zone = (if t.pwu.weight.natAbs < c.platMinNet * c.platDivision then LoadZone.empty else .loaded)
      ∧ t.pwu.zeroTimer = (if t.pwu.tracks c = true then startTimer s 1000 else none)
      ∧ askedFor t .pwu .statusPage ∧ eventFrame [.pwu] s t

/-- SCALE_ZERO, SCALE_TARE and TARE_CLEAR: the checks in their order, each refusal changing nothing, and the effect of a request
that passes (R84, R86, R87). Where zero or tare changes, weight and load zone follow the current gross, a capture standing on the
platter becomes STALE, and the tracking timer stops, to start again where R85's conditions hold after the change (R73, R74, R80,
R85); a tare equal to the one before changes nothing. The model's choices: that the link is UP is read from the limit state (log
19), and that a SCALE_ZERO which finds the offset at the current gross already counts as a change of offset (log 45). -/
def Obligations.ScaleRequests : Prop :=
  (∀ s : State, s.bi.inReset = false → s.nu.latches.length = 24 → awaits s .scaleZero = true → 0 < (cfg s).platDivision →
    ∃ t, exec .scaleZero s = .next t ∧ requestFrame [.pwu] s t
      ∧ if s.pwu.limit = .offline then answeredWith t .linkDown 0 0 ∧ t.pwu = s.pwu
        else if s.pwu.limit ≠ .normal ∨ s.pwu.tare ≠ 0 ∨ isStable s.pwu.window (cfg s).platWindow = false then
          answeredWith t .wrongState 0 0 ∧ t.pwu = s.pwu
        else if ((cfg s).platCapacity / 5 : Nat) < s.pwu.gross.natAbs then answeredWith t .limit 0 0 ∧ t.pwu = s.pwu
        else answeredWith t .done (BitVec.ofInt 32 s.pwu.gross) 0 ∧ reweighed s t s.pwu.gross 0)
  ∧ (∀ s : State, s.bi.inReset = false → s.nu.latches.length = 24 → awaits s .scaleTare = true → 0 < (cfg s).platDivision →
    recTare s.re.record = none →
    ∃ (t : State) (w : Int), exec .scaleTare s = .next t ∧ requestFrame [.pwu] s t
      ∧ roundedTo (s.pwu.gross - s.pwu.zero) (cfg s).platDivision w
      ∧ if s.pwu.limit = .offline then answeredWith t .linkDown 0 0 ∧ t.pwu = s.pwu
        else if s.pwu.limit ≠ .normal ∨ isStable s.pwu.window (cfg s).platWindow = false then
          answeredWith t .wrongState 0 0 ∧ t.pwu = s.pwu
        else if w ≤ 0 ∨ ((cfg s).platTareLimit : Int) < w then answeredWith t .limit 0 0 ∧ t.pwu = s.pwu
        else answeredWith t .done (BitVec.ofInt 32 w) 0 ∧ askedFor t .pwu .statusPage
          ∧ (w = s.pwu.tare → t.pwu = s.pwu ∧ t.nu = s.nu) ∧ (w ≠ s.pwu.tare → reweighed s t s.pwu.zero w))
  ∧ (∀ (s : State) (v : Nat), s.bi.inReset = false → s.nu.latches.length = 24 → awaits s .scaleTare = true →
    0 < (cfg s).platDivision → recTare s.re.record = some v →
    ∃ t, exec .scaleTare s = .next t ∧ requestFrame [.pwu] s t
      ∧ if v = 0 ∨ (cfg s).platTareLimit < v ∨ v % (cfg s).platDivision ≠ 0 then answeredWith t .badParam 0 0 ∧ t.pwu = s.pwu
        else if s.pwu.limit = .offline then answeredWith t .linkDown 0 0 ∧ t.pwu = s.pwu
        else if s.pwu.limit = .fault ∨ isStable s.pwu.window (cfg s).platWindow = false then
          answeredWith t .wrongState 0 0 ∧ t.pwu = s.pwu
        else answeredWith t .done (BitVec.ofNat 32 v) 0 ∧ askedFor t .pwu .statusPage
          ∧ ((v : Int) = s.pwu.tare → t.pwu = s.pwu ∧ t.nu = s.nu) ∧ ((v : Int) ≠ s.pwu.tare → reweighed s t s.pwu.zero (v : Int)))
  ∧ ∀ s : State, s.bi.inReset = false → s.nu.latches.length = 24 → awaits s .tareClear = true → 0 < (cfg s).platDivision →
    ∃ t, exec .tareClear s = .next t ∧ requestFrame [.pwu] s t
      ∧ if s.pwu.limit = .offline then answeredWith t .linkDown 0 0 ∧ t.pwu = s.pwu
        else answeredWith t .done 0 0 ∧ (s.pwu.tare = 0 → t.pwu = s.pwu) ∧ (s.pwu.tare ≠ 0 → reweighed s t s.pwu.zero 0)

/-! ### The sale -/

/-- R98: the checks of SALE_OPEN in their order, the first that fails deciding the result, and a refusal changing nothing; a
request that passes them all opens the sale. (That the SU takes the request once the BWU and the PU have taken its earlier
tells, and that the units it asks answer in the same step, are the model's choices, log 8.) -/
def Obligations.SaleOpenChecksInOrder : Prop :=
  ∀ s : State, s.bi.inReset = false → suTakes s .saleOpen = true → s.bwu.tells = [] → s.pu.tells = [] →
    ∃ t, exec .saleOpen s = .next t
      ∧ if recMode s.re.record = none then answeredWith t .badParam 0 0 ∧ requestFrame [] s t
        else if s.su.header.state ≠ .idle then answeredWith t .wrongState 0 0 ∧ requestFrame [] s t
        else if ¬ (s.ju.head - s.bi.journalExport).toNat < 2048 then answeredWith t .journalFull 0 0 ∧ requestFrame [] s t
        else if s.tu.drawer ≠ .shut then answeredWith t .drawerOpen 0 0 ∧ requestFrame [] s t
        else if recMode s.re.record = some .self ∧ ¬ (s.bi.bagFit = true ∧ s.bwu.limit ≠ .offline) then
          answeredWith t .linkDown 0 0 ∧ requestFrame [] s t
        else if ∃ j ∈ s.pu.jobs, j.state = .printing then answeredWith t .busy 0 0 ∧ requestFrame [] s t
        else t.su.header.state = .opened ∧ ∃ d1 d2, answeredWith t .done d1 d2

/-- A SALE_OPEN that passes writes the header R99 gives, empties the tables, sets the next sale number, and owes the BWU and the
PU their tells once its window has closed; it answers with the sale number and the receipt start. The bytes of a header are those
of R94 and R179, the absent lines' statuses 0. (That the SU takes the request once the BWU and the PU have taken its earlier tells,
and reads the BWU's settled weight in the same step, are the model's choices, log 8.) -/
def Obligations.SaleOpenWritesTheHeader : Prop :=
  (∀ u : Su, u.lines.length ≤ 96 → bytesFrom 0x8000 (wordsAt 0x8000 (saleHeaderWords u)) (headerBytes u))
  ∧ ∀ (s : State) (mode : SaleMode) (n : Word), s.bi.inReset = false → suTakes s .saleOpen = true → s.bwu.tells = [] →
    s.pu.tells = [] → recMode s.re.record = some mode → s.su.header.state = .idle →
    (s.ju.head - s.bi.journalExport).toNat < 2048 → s.tu.drawer = .shut →
    (mode = .self → s.bi.bagFit = true ∧ s.bwu.limit ≠ .offline) → (∀ j ∈ s.pu.jobs, j.state ≠ .printing) →
    n = (if s.su.nextNumber = 0 then 1 else s.su.nextNumber) →
    ∃ t, exec .saleOpen s = .next t ∧ answeredWith t .done n ((fillCopy s).setWidth 32)
      ∧ t.su.header
          = { number := n, state := .opened, mode := mode, operator := recOperator s.re.record, outcome := .none
              bagHold := false, holdReason := .none, clearReason := .none
              baseline := if mode = .self then s.bwu.settled else 0, overrides := 0, receiptStart := fillCopy s
              closeMark := 0, openStamp := s.re.clock, endStamp := 0 }
      ∧ t.su.lines = [] ∧ t.su.tenders = [] ∧ t.su.subtotal = 0 ∧ t.su.balance = 0
      ∧ t.su.nextNumber = (if n + 1 = 0 then 1 else n + 1) ∧ t.su.finished = s.su.finished
      ∧ (∃ e, t.su.event = some e ∧ e.words = wordsAt 0x8000 (saleHeaderWords t.su)
          ∧ bytesFrom 0x8000 e.words (headerBytes t.su)
          ∧ e.after = [.tellBag (.saleOpened mode t.su.header.baseline), .tellPrint .receiptBegins])
      ∧ saleEventAsked t ∧ requestFrame [.su] s t

/-- ITEM_ADD: the checks of R100 and R101 in order, and the line, the sale state and the expectation a request that passes leaves
(R92, R96, R101, R102): the line's 64 bytes with the header words that change (R94, R179), and the entry at its place in the BWU's
list with its tolerance, the wait timer starting where R115 and R117 say. (That the BWU has taken the SU's earlier tells, and takes
the expectation in the same step, are the model's choices, log 8; that a line without an expected delta shows 0 there is log 38.) -/
def Obligations.ItemAddAddsALine : Prop :=
  ∀ (s : State) (q p w n : Nat) (admitted : Bool), s.bi.inReset = false → suTakes s .itemAdd = true → bagReady s = true →
    q = recQuantity s.re.record → p = recUnitPrice s.re.record → w = (recUnitWeight s.re.record).getD 0 →
    n = s.su.lines.length + 1 →
    admitted = (decide (s.su.header.state = .opened) || (decide (s.su.header.state = .tendering)
      && s.su.tenders.all fun x => decide (x.state = .declined) || decide (x.state = .cancelled))) →
    ∃ t, exec .itemAdd s = .next t
      ∧ if admitted = false then answeredWith t .wrongState 0 0 ∧ requestFrame [] s t
        else if s.su.header.bagHold = true then answeredWith t .held 0 0 ∧ requestFrame [] s t
        else if ¬ (1 ≤ q ∧ q ≤ 999 ∧ p ≤ 999999) ∨ (recUnitWeight s.re.record ≠ none ∧ ¬ (1 ≤ w ∧ w ≤ 30000)) then
          answeredWith t .badParam 0 0 ∧ requestFrame [] s t
        else if s.su.header.mode = .self ∧ recUnitWeight s.re.record ≠ none ∧ (cfg s).bagCapacity < w * q then
          answeredWith t .badParam 0 0 ∧ requestFrame [] s t
        else if 96 ≤ s.su.lines.length then answeredWith t .tableFull 0 0 ∧ requestFrame [] s t
        else if ¬ (q * p ≤ 9999999 ∧ s.su.subtotal + q * p ≤ 99999999) then answeredWith t .limit 0 0 ∧ requestFrame [] s t
        else answeredWith t .done (BitVec.ofNat 32 n) (BitVec.ofNat 32 (q * p))
          ∧ t.su.header = { s.su.header with state := .opened } ∧ t.su.tenders = s.su.tenders
          ∧ t.su.lines = s.su.lines ++
              [{ live := true, kind := .item, code := recItemCode s.re.record, quantity := q, weight := 0, price := p
                 amount := q * p
                 delta := if s.su.header.mode = .self ∧ recUnitWeight s.re.record ≠ none then some ((w * q : Nat) : Int) else none
                 captureId := 0, stamp := s.re.clock
                 bag := if s.su.header.mode = .self then (if recUnitWeight s.re.record ≠ none then .pending else .exempt)
                        else .none }]
          ∧ (s.su.header.mode = .self → recUnitWeight s.re.record ≠ none →
              expectationJoined s t n ((w * q : Nat) : Int) ∧ askedFor t .bwu .statusPage)
          ∧ (s.su.header.mode ≠ .self ∨ recUnitWeight s.re.record = none → t.bwu = s.bwu)
          ∧ (∀ l, t.su.lines[n - 1]? = some l → saleEventWrites s t (0x8200 + (n - 1) * 64) (lineBytes n l)) ∧ saleEventAsked t ∧ requestFrame [.su, .bwu] s t

/-- ITEM_WEIGH: the checks of R100 and R103 in order, and the consume claim they lead to, with the largest net the SU can charge
and the lane clock at which it took the request, which becomes the line's stamp (R29, R104). When the PWU takes the claim it
answers from its state then: no capture, a STALE one, one too heavy, or the line from the capture, which becomes USED (R83, R103,
R104; that the PWU's window comes first is R104). The SU's event writes the line's 64 bytes and the header words that change (R94,
R179), and the expectation joins the BWU's list (R102, R115, R117). That the command comes once for the checks and once for the
claim is the model's choice, log 7; that the BWU has taken the SU's earlier tells, and takes the expectation in the same step, log
8; that a line without an expected delta shows 0 there, log 38. -/
def Obligations.ItemWeighChargesACapture : Prop :=
  (∀ (s : State) (p a largest n : Nat) (admitted : Bool), s.bi.inReset = false → suTakes s .itemWeigh = true →
    bagReady s = true → s.su.claim = none → p = recKiloPrice s.re.record → n = s.su.lines.length + 1 →
    a = min 9999999 (99999999 - s.su.subtotal) →
    largest = (if s.su.header.mode = .self then min ((1000 * a + 499) / p) (cfg s).bagCapacity else (1000 * a + 499) / p) →
    admitted = (decide (s.su.header.state = .opened) || (decide (s.su.header.state = .tendering)
      && s.su.tenders.all fun x => decide (x.state = .declined) || decide (x.state = .cancelled))) →
    ∃ t, exec .itemWeigh s = .next t
      ∧ if admitted = false then answeredWith t .wrongState 0 0 ∧ requestFrame [] s t
        else if s.su.header.bagHold = true then answeredWith t .held 0 0 ∧ requestFrame [] s t
        else if ¬ (1 ≤ p ∧ p ≤ 999999) then answeredWith t .badParam 0 0 ∧ requestFrame [] s t
        else if s.pwu.limit = .offline then answeredWith t .linkDown 0 0 ∧ requestFrame [] s t
        else if 96 ≤ s.su.lines.length then answeredWith t .tableFull 0 0 ∧ requestFrame [] s t
        else t = s.setSu { s.su with
          claim := some { capture := recCaptureId s.re.record, largest := largest, line := n, stamp := s.re.clock } })
  ∧ ∀ (s : State) (c : ConsumeClaim) (slot : Option Nat) (named : Word), s.bi.inReset = false →
    suTakes s .itemWeigh = true → bagReady s = true → s.su.claim = some c → named = (c.capture.getD 0).setWidth 32 →
    slot = (match c.capture with
      | some id => s.pwu.table.findIdx? fun x => decide (x.id = id) && decide (x.state ≠ .free)
      | none => s.pwu.table.findIdx? fun x => decide (x.state = .fresh)) →
    ∃ t, exec .itemWeigh s = .next t ∧ t.su.claim = none ∧ t.su.inbox = s.su.inbox.tail
      ∧ match slot with
          | none => consumeRefused s t .noCapture named
          | some k =>
              let x := s.pwu.entry k
              if x.state = .stale then consumeRefused s t .staleCapture named
              else if x.state ≠ .fresh then consumeRefused s t .noCapture named
              else if (c.largest : Int) < x.net then consumeRefused s t .limit named
              else answeredWith t .done (BitVec.ofNat 32 c.line) (x.id.setWidth 32)
                ∧ t.su.header = { s.su.header with state := .opened } ∧ t.su.tenders = s.su.tenders
                ∧ t.su.lines = s.su.lines ++
                    [{ live := true, kind := .weighed, code := recItemCode s.re.record, quantity := 1, weight := x.net.toNat
                       price := recKiloPrice s.re.record, amount := (x.net.toNat * recKiloPrice s.re.record + 500) / 1000
                       delta := if s.su.header.mode = .self then some x.net else none, captureId := x.id
                       stamp := c.stamp, bag := if s.su.header.mode = .self then .pending else .none }]
                ∧ t.pwu.table = s.pwu.table.set k { x with state := .used, line := c.line } ∧ t.pwu.machine = .spent
                ∧ (s.su.header.mode = .self → expectationJoined s t c.line x.net ∧ askedFor t .bwu .statusPage)
                ∧ (∀ l, t.su.lines[c.line - 1]? = some l → c.line = s.su.lines.length + 1 →
                    saleEventWrites s t (0x8200 + (c.line - 1) * 64) (lineBytes c.line l))
                ∧ (s.su.header.mode ≠ .self → t.bwu = s.bwu)
                ∧ (∃ w ∈ t.bi.waiting, w.owner = .pwu ∧ .captureTable ∈ w.sections ∧ .suWrite ∈ w.after ∧ w.ofRequest = true)
                ∧ (∃ e, t.su.event = some e ∧ e.ofRequest = true) ∧ requestFrame [.su, .bwu, .pwu] s t

/-- LINE_VOID: the checks of R100 and R105, the line VOID with its bag status by R105's table, and the expectation withdrawn or
reversed (R96, R102, R105): a withdrawal that empties the list stops the wait timer, and a removal joins at its place with its
tolerance (R115, R117). The event writes the line's 64 bytes and the header words that change (R94, R179). (That the BWU has taken
the SU's earlier tells, and takes these asks in the same step, are the model's choices, log 8; that a line without an expected
delta shows 0 there is log 38.) -/
def Obligations.LineVoidVoidsALine : Prop :=
  ∀ (s : State) (n : Nat) (admitted : Bool), s.bi.inReset = false → suTakes s .lineVoid = true → bagReady s = true →
    n = recLineNumber s.re.record →
    admitted = (decide (s.su.header.state = .opened) || (decide (s.su.header.state = .tendering)
      && s.su.tenders.all fun x => decide (x.state = .declined) || decide (x.state = .cancelled))) →
    ∃ t, exec .lineVoid s = .next t
      ∧ (admitted = false → answeredWith t .wrongState 0 0 ∧ requestFrame [] s t)
      ∧ (admitted = true → (n = 0 ∨ s.su.lines.length < n ∨ ∃ l, s.su.lines[n - 1]? = some l ∧ l.live = false) →
          answeredWith t .badParam 0 0 ∧ requestFrame [] s t)
      ∧ ∀ l, admitted = true → 1 ≤ n → s.su.lines[n - 1]? = some l → l.live = true →
          (∃ b, t.su.lines = s.su.lines.set (n - 1) { l with live := false, bag := b }
            ∧ b = (if l.bag = .pending ∧ (s.bwu.pend.any fun e => decide (e.line = n)) = true then BagStatus.exempt
                else if l.bag = .pending ∧ s.bwu.matched.contains n = false then .exempt
                else if l.bag = .pending ∨ l.bag = .bagged then .removalPending else l.bag))
          ∧ t.su.header = { s.su.header with state := .opened } ∧ t.su.tenders = s.su.tenders
          ∧ answeredWith t .done (BitVec.ofNat 32 n) (BitVec.ofNat 32 t.su.subtotal)
          ∧ t.su.subtotal + l.amount = s.su.subtotal
          ∧ (l.bag = .pending → (s.bwu.pend.any fun e => decide (e.line = n)) = true →
              t.bwu = { s.bwu with
                pend := s.bwu.pend.filter fun e => e.line != n
                waitTimer := if (∀ e ∈ s.bwu.pend, e.line = n) then none else s.bwu.waitTimer }
              ∧ askedFor t .bwu .statusPage)
          ∧ (l.bag = .pending → (s.bwu.pend.any fun e => decide (e.line = n)) = false → s.bwu.matched.contains n = false →
              t.bwu = s.bwu)
          ∧ (l.bag = .bagged ∨ (l.bag = .pending ∧ (s.bwu.pend.any fun e => decide (e.line = n)) = false
                ∧ s.bwu.matched.contains n = true) →
              expectationJoined s t n (-(l.delta.getD 0)) ∧ askedFor t .bwu .statusPage)
          ∧ (l.bag ≠ .pending → l.bag ≠ .bagged → t.bwu = s.bwu)
          ∧ (∀ x, t.su.lines[n - 1]? = some x → saleEventWrites s t (0x8200 + (n - 1) * 64) (lineBytes n x)) ∧ saleEventAsked t ∧ requestFrame [.su, .bwu] s t

/-- The claims of the BWU and the CTU that the SU takes from its list (R91, R93, R96, R106, R107, R121): bag claims write in an
active sale and are discarded in any other; a tender claim moves its entry, an approved amount being applied up to the balance,
and settles a sale whose balance it brings to 0. Every line a bag claim names moves once, from the status the claim moves it from,
and every other line stays (R96). The windows carry the header words that change, and a moved tender's 64 bytes (R94, R97, R179).
-/
def Obligations.ClaimsMoveTheSale : Prop :=
  (∀ (s : State) (named : List NamedLine) (baseline : Int), s.bi.inReset = false →
    suFront s = some (.settlement named baseline) →
    ∃ t, exec .bagSettlementClaim s = .next t ∧ t.su.inbox = s.su.inbox.tail ∧ t.su.tenders = s.su.tenders
      ∧ (if s.su.header.state.active then t.su.header = { s.su.header with baseline := baseline }
            ∧ t.su.lines = moveNamed s.su.lines named .bagged ∧ saleEventWrites s t 0 [] ∧ saleEventAsked t
          else t.su = { s.su with inbox := s.su.inbox.tail } ∧ t.bi = s.bi)
      ∧ eventFrame [.su] s t)
  ∧ (∀ (s : State) (reason : HoldReason), s.bi.inReset = false → suFront s = some (.holdSet reason) →
    ∃ t, exec .bagHoldClaim s = .next t ∧ t.su.inbox = s.su.inbox.tail ∧ t.su.lines = s.su.lines ∧ t.su.tenders = s.su.tenders
      ∧ (if s.su.header.state.active then
            t.su.header = { s.su.header with bagHold := true, holdReason := reason, clearReason := .none }
            ∧ saleEventWrites s t 0 [] ∧ saleEventAsked t
          else t.su = { s.su with inbox := s.su.inbox.tail } ∧ t.bi = s.bi)
      ∧ eventFrame [.su] s t)
  ∧ (∀ (s : State) (reason : ClearReason) (baseline : Int) (named : List NamedLine), s.bi.inReset = false →
    suFront s = some (.holdClear reason baseline named) →
    ∃ t, exec .bagClearClaim s = .next t ∧ t.su.inbox = s.su.inbox.tail ∧ t.su.tenders = s.su.tenders
      ∧ (if s.su.header.state.active then
            t.su.header = { s.su.header with bagHold := false, clearReason := reason, baseline := baseline }
            ∧ t.su.lines = moveNamed s.su.lines named .bagged ∧ saleEventWrites s t 0 [] ∧ saleEventAsked t
          else t.su = { s.su with inbox := s.su.inbox.tail } ∧ t.bi = s.bi)
      ∧ eventFrame [.su] s t)
  ∧ (∀ (s : State) (m : TenderMove) (q : Bool) (x : Tender), s.bi.inReset = false → suFront s = some (.tender m q) →
    s.su.tenders[m.index]? = some x →
    ∃ t, exec .tenderClaim s = .next t ∧ t.su.inbox = s.su.inbox.tail ∧ t.su.lines = s.su.lines
      ∧ t.su.tenders = s.su.tenders.set m.index
          { x with
            state := m.state, received := if m.state = .approved then m.amount else x.received
            applied := if m.state = .approved then min m.amount s.su.balance else 0
            entryMethod := m.entryMethod, lastFour := m.lastFour, code := m.code, byKey := x.byKey || m.byKey
            final := s.re.clock }
      ∧ t.su.header = { s.su.header with
          state := if s.su.header.state = .tendering ∧ t.su.balance = 0 then .settled else s.su.header.state }
      ∧ (∀ y, t.su.tenders[m.index]? = some y → y.lastFour.length = 4 → y.code.length = 6 →
          saleEventWrites s t (0x9A00 + m.index * 64) (tenderBytes m.index y))
      ∧ saleEventAsked t ∧ eventFrame [.su] s t)
  ∧ (∀ (lines : List SaleLine) (n : NamedLine) (l : SaleLine) (item : BagStatus), 1 ≤ n.line → lines[n.line - 1]? = some l →
    moveNamed lines [n] item = lines.set (n.line - 1)
      { l with bag := if n.removal = true ∧ l.bag = .removalPending then .removed
                      else if n.removal = false ∧ l.bag = .pending then item else l.bag })
  ∧ ∀ (lines : List SaleLine) (named : List NamedLine) (item : BagStatus), item = .bagged ∨ item = .overridden →
    (moveNamed lines named item).length = lines.length
    ∧ ∀ (k : Nat) (l : SaleLine), lines[k]? = some l →
      (moveNamed lines named item)[k]? = some { l with
        bag := if l.bag = .removalPending ∧ ∃ n ∈ named, n.line = k + 1 ∧ n.removal = true then .removed
               else if l.bag = .pending ∧ ∃ n ∈ named, n.line = k + 1 ∧ n.removal = false then item else l.bag }

/-! ### The bagging area -/

/-- One SAMPLE of the bagging scale and the settlement it may make (R111, R112, R115-R119): coming to rest settles the weight, and
in a SELF sale the difference D from the baseline is judged: it matches the first entries whose sum lies within their tolerances,
or sets the hold with its reason, or, under the hold, clears it or renews it. The model's choices: that the Status Page write is
asked for also at a SAMPLE that changes no published value (R123; log 43), and what the ask of the SU comes to (R108; log 47): a
BWU whose verification is ACTIVE SELF asks at a settlement; the SAMPLE waits while the SU is in an event, one that waits for the
PWU's answer among them (R24, R103), or has anything but a request waiting; and the settlement is judged where the SU has a SELF
sale that is OPEN, TENDERING or SETTLED, and else only settles. -/
def Obligations.BagSampleIsJudged : Prop :=
  (∀ s : State, saleAnswers s = true ↔
    unitBusy s .su = false ∧ s.su.event = none ∧ s.su.claim = none ∧ ∀ x ∈ s.su.inbox, x = .request)
  ∧ (∀ (s : State) (payload : List Byte) (gap : Bool) (c : Setup) (rested : Bool),
    frontFrame s .bag = some (kSample, payload, gap) → c = cfg s →
    rested = (isStable s.bwu.window c.bagWindow && decide (s.bwu.limit = .normal) && !gap) →
    s.bwu.verif = .self → (sampledBag s payload gap).atRest c = true → rested = false → saleAnswers s = false →
    exec .bagSample s = .next s)
  ∧ ∀ (s : State) (payload : List Byte) (gap : Bool) (c : Setup) (g : Int) (rested sale : Bool), s.bi.inReset = false →
    s.nu.latches.length = 24 → frontFrame s .bag = some (kSample, payload, gap) → unitTakes s .bwu .link = true → c = cfg s →
    0 < c.bagDivision → 4 ≤ c.bagWindow → g = sampleGross payload →
    rested = (isStable s.bwu.window c.bagWindow && decide (s.bwu.limit = .normal) && !gap) →
    (sale = true ↔ s.bwu.verif = .self ∧ s.su.header.mode = .self
      ∧ (s.su.header.state = .opened ∨ s.su.header.state = .tendering ∨ s.su.header.state = .settled)) →
    (s.bwu.verif = .self → (sampledBag s payload gap).atRest c = true → rested = false → saleAnswers s = true) →
    ∃ t, exec .bagSample s = .next t
      ∧ (t.link .bag).path = (s.link .bag).path.tail ∧ (∀ l, l ≠ .bag → t.link l = s.link l)
      ∧ t.bwu.gross = g ∧ t.bwu.limit = limitRule (sampleFault payload) (sampleOverrange payload) g c.bagCapacity c.bagDivision
      ∧ roundedTo g c.bagDivision t.bwu.weight ∧ t.bwu.verif = s.bwu.verif ∧ t.bwu.tells = s.bwu.tells
      ∧ (sampleFault payload = true → t.bwu.window = [])
      ∧ (sampleFault payload = false → gap = true → t.bwu.window = [g])
      ∧ (sampleFault payload = false → gap = false → windowRule s.bwu.window t.bwu.window g c.bagWindow c.bagBand)
      ∧ (t.bwu.limit ≠ s.bwu.limit → t.bwu.limit = .over ∨ t.bwu.limit = .under ∨ t.bwu.limit = .fault →
          reported t .scaleLimit 1)
      ∧ askedFor t .bwu .statusPage ∧ eventFrame [.lu, .bwu] s t
      ∧ (t.bwu.window.length ≠ c.bagWindow ∨ t.bwu.limit ≠ .normal ∨ rested = true ∨ sale = false →
          t.bwu.pend = s.bwu.pend ∧ t.bwu.matched = s.bwu.matched ∧ t.bwu.lastDelta = s.bwu.lastDelta
          ∧ t.bwu.clearReason = s.bwu.clearReason ∧ t.bwu.hold = s.bwu.hold ∧ t.bwu.baseline = s.bwu.baseline
          ∧ t.bwu.holdReason = s.bwu.holdReason ∧ t.bwu.waitTimer = s.bwu.waitTimer)
      ∧ (t.bwu.window.length ≠ c.bagWindow ∨ t.bwu.limit ≠ .normal ∨ rested = true → t.bwu.settled = s.bwu.settled)
      ∧ (t.bwu.window.length = c.bagWindow → t.bwu.limit = .normal → rested = false → t.bwu.settled = t.bwu.weight)
      ∧ ∀ d : Int, t.bwu.window.length = c.bagWindow → t.bwu.limit = .normal → rested = false → sale = true →
          d = t.bwu.weight - s.bwu.baseline → t.bwu.lastDelta = d
          ∧ (s.bwu.hold = false → ∀ k, 1 ≤ k → k ≤ s.bwu.pend.length →
              ((d - sumDelta (s.bwu.pend.take k)).natAbs : Int) ≤ sumTolerance (s.bwu.pend.take k) →
              (∀ j, 1 ≤ j → j < k →
                sumTolerance (s.bwu.pend.take j) < ((d - sumDelta (s.bwu.pend.take j)).natAbs : Int)) →
              t.bwu.pend = s.bwu.pend.drop k ∧ t.bwu.hold = false
              ∧ t.bwu.baseline = s.bwu.baseline + sumDelta (s.bwu.pend.take k)
              ∧ t.bwu.matched = s.bwu.matched ++ (s.bwu.pend.take k).map (fun e => e.line)
              ∧ t.bwu.waitTimer = (if k = s.bwu.pend.length then none else startTimer s (c.bagWait * 1000))
              ∧ .settlement (namedOf (s.bwu.pend.take k)) t.bwu.baseline ∈ t.su.inbox)
          ∧ (s.bwu.hold = false → (∀ k, 1 ≤ k → k ≤ s.bwu.pend.length →
                sumTolerance (s.bwu.pend.take k) < ((d - sumDelta (s.bwu.pend.take k)).natAbs : Int)) →
              t.bwu.pend = s.bwu.pend ∧ t.bwu.baseline = s.bwu.baseline
              ∧ (d.natAbs ≤ c.bagAbsTol → t.bwu.hold = false ∧ t.bwu.waitTimer = s.bwu.waitTimer)
              ∧ (c.bagAbsTol < d.natAbs → t.bwu.hold = true ∧ t.bwu.waitTimer = none ∧ reported t .bagHoldSet 0
                  ∧ t.bwu.holdReason = (if s.bwu.pend ≠ [] then .mismatch else if 0 < d then .unexpectedAdd
                      else .unexpectedRemoval)
                  ∧ .holdSet t.bwu.holdReason ∈ t.su.inbox))
          ∧ (s.bwu.hold = true → d.natAbs ≤ c.bagAbsTol →
              t.bwu.hold = false ∧ t.bwu.clearReason = .restored ∧ t.bwu.pend = s.bwu.pend
              ∧ t.bwu.baseline = s.bwu.baseline ∧ reported t .bagHoldClear 0
              ∧ t.bwu.waitTimer = (if s.bwu.pend = [] then none else startTimer s (c.bagWait * 1000))
              ∧ .holdClear .restored s.bwu.baseline [] ∈ t.su.inbox)
          ∧ (s.bwu.hold = true → s.bwu.holdReason ≠ .timeout → c.bagAbsTol < d.natAbs →
              t.bwu.hold = true ∧ t.bwu.pend = s.bwu.pend ∧ t.bwu.baseline = s.bwu.baseline ∧ reported t .bagHoldSet 0
              ∧ t.bwu.holdReason = (if s.bwu.pend ≠ [] then .mismatch else if 0 < d then .unexpectedAdd
                  else .unexpectedRemoval)
              ∧ .holdSet t.bwu.holdReason ∈ t.su.inbox)
          ∧ (s.bwu.hold = true → s.bwu.holdReason = .timeout → c.bagAbsTol < d.natAbs → ∀ k, 1 ≤ k → k ≤ s.bwu.pend.length →
              ((d - sumDelta (s.bwu.pend.take k)).natAbs : Int) ≤ sumTolerance (s.bwu.pend.take k) →
              (∀ j, 1 ≤ j → j < k →
                sumTolerance (s.bwu.pend.take j) < ((d - sumDelta (s.bwu.pend.take j)).natAbs : Int)) →
              t.bwu.hold = false ∧ t.bwu.clearReason = .matched ∧ t.bwu.pend = s.bwu.pend.drop k
              ∧ t.bwu.baseline = s.bwu.baseline + sumDelta (s.bwu.pend.take k) ∧ reported t .bagHoldClear 0
              ∧ t.bwu.matched = s.bwu.matched ++ (s.bwu.pend.take k).map (fun e => e.line)
              ∧ t.bwu.waitTimer = (if k = s.bwu.pend.length then none else startTimer s (c.bagWait * 1000))
              ∧ .holdClear .matched t.bwu.baseline (namedOf (s.bwu.pend.take k)) ∈ t.su.inbox)
          ∧ (s.bwu.hold = true → s.bwu.holdReason = .timeout → c.bagAbsTol < d.natAbs →
              (∀ k, 1 ≤ k → k ≤ s.bwu.pend.length →
                sumTolerance (s.bwu.pend.take k) < ((d - sumDelta (s.bwu.pend.take k)).natAbs : Int)) →
              t.bwu.hold = true ∧ t.bwu.pend = s.bwu.pend ∧ t.bwu.baseline = s.bwu.baseline ∧ reported t .bagHoldSet 0
              ∧ t.bwu.holdReason = (if s.bwu.pend ≠ [] then .mismatch else if 0 < d then .unexpectedAdd
                  else .unexpectedRemoval)
              ∧ .holdSet t.bwu.holdReason ∈ t.su.inbox)

/-- The BWU's timer, its link, and what the SU tells it (R113, R114, R117, R118). A link change taken while the link's going QUIET
still waits in its path comes from before a LANE_RESET, and changes nothing more (R63, R110, R113). That a sale's opening and end
leave the latest clearing as it was is the model's choice (log 34), and so are that the Status Page write is asked for at a sale's
end which changes no field (log 43), and what the ask of the SU comes to (R108; log 47): a BWU whose verification is ACTIVE SELF
asks at the loss of its link; the change waits while the SU is in an event, one that waits for the PWU's answer among them (R24,
R103), or has anything but a request waiting; and the hold is set where the SU has a SELF sale that is OPEN, TENDERING or SETTLED.
-/
def Obligations.BagTimerLinkAndTells : Prop :=
  (∀ s : State, s.bi.inReset = false → s.nu.latches.length = 24 → timerDue s s.bwu.waitTimer = true → unitTakes s .bwu (.timer .bagWait) = true →
    ∃ t, exec .bagWaitExpiry s = .next t
      ∧ (s.bwu.verif = .self → s.bwu.pend ≠ [] →
          t.bwu = { s.bwu with waitTimer := none, hold := true, holdReason := .timeout } ∧ reported t .bagHoldSet 0
          ∧ .holdSet .timeout ∈ t.su.inbox)
      ∧ (s.bwu.verif ≠ .self ∨ s.bwu.pend = [] → t.bwu = { s.bwu with waitTimer := none } ∧ t.nu = s.nu ∧ t.su = s.su)
      ∧ askedFor t .bwu .statusPage ∧ eventFrame [.bwu] s t)
  ∧ (∀ (s : State) (new : LinkState), frontChange s .bag = some (.up, new) → new ≠ .up → wentQuiet s .bag = false →
    s.bwu.verif = .self → saleAnswers s = false → exec .bagLinkChange s = .next s)
  ∧ (∀ (s : State) (old new : LinkState) (sale : Bool), s.bi.inReset = false → s.nu.latches.length = 24 →
    frontChange s .bag = some (old, new) → unitTakes s .bwu .link = true →
    (sale = true ↔ s.bwu.verif = .self ∧ s.su.header.mode = .self
      ∧ (s.su.header.state = .opened ∨ s.su.header.state = .tendering ∨ s.su.header.state = .settled)) →
    (wentQuiet s .bag = false → new ≠ .up → old = .up → s.bwu.verif = .self → saleAnswers s = true) →
    ∃ t, exec .bagLinkChange s = .next t
      ∧ (t.link .bag).path = (s.link .bag).path.tail ∧ (∀ l, l ≠ .bag → t.link l = s.link l)
      ∧ (wentQuiet s .bag = true → t.bwu = s.bwu ∧ t.bi = s.bi ∧ t.nu = s.nu ∧ t.su = s.su)
      ∧ (wentQuiet s .bag = false → new = .up → t.bwu = { s.bwu with limit := .normal, window := [] } ∧ askedFor t .bwu .statusPage)
      ∧ (wentQuiet s .bag = false → new ≠ .up → old = .up → sale = true →
          t.bwu = { s.bwu with limit := .offline, window := [], hold := true, holdReason := .mismatch, waitTimer := none }
          ∧ reported t .bagHoldSet 0 ∧ .holdSet .mismatch ∈ t.su.inbox ∧ askedFor t .bwu .statusPage)
      ∧ (wentQuiet s .bag = false → new ≠ .up → old = .up → sale = false →
          t.bwu = { s.bwu with limit := .offline, window := [] } ∧ t.su = s.su ∧ askedFor t .bwu .statusPage)
      ∧ (new ≠ .up → old ≠ .up → t.bwu = s.bwu ∧ t.bi = s.bi ∧ t.nu = s.nu)
      ∧ eventFrame [.lu, .bwu] s t)
  ∧ (∀ (s : State) (mode : SaleMode) (baseline : Int) (rest : List BagTell), s.bi.inReset = false → unitTakes s .bwu .tell = true →
    s.bwu.tells = .saleOpened mode baseline :: rest →
    ∃ t, exec .bagSaleOpened s = .next t
      ∧ t.bwu = { s.bwu with
          tells := rest, pend := [], matched := [], hold := false, holdReason := .none, waitTimer := none
          baseline := baseline, lastDelta := 0, verif := if mode = .self then .self else .staffed }
      ∧ askedFor t .bwu .statusPage ∧ eventFrame [.bwu] s t)
  ∧ (∀ (s : State) (rest : List BagTell), s.bi.inReset = false → unitTakes s .bwu .tell = true → s.bwu.tells = .saleClosing :: rest →
    ∃ t, exec .bagSaleClosing s = .next t
      ∧ t.bwu = { s.bwu with tells := rest, verif := .inactive, waitTimer := none }
      ∧ askedFor t .bwu .statusPage ∧ eventFrame [.bwu] s t)
  ∧ ∀ (s : State) (rest : List BagTell), s.bi.inReset = false → unitTakes s .bwu .tell = true → s.bwu.tells = .saleEnded :: rest →
    ∃ t, exec .bagSaleEnded s = .next t
      ∧ t.bwu = { s.bwu with
          tells := rest, pend := [], matched := [], hold := false, holdReason := .none, waitTimer := none }
      ∧ askedFor t .bwu .statusPage ∧ eventFrame [.bwu] s t

/-- HOLD_RELEASE: the key, then the hold of a SELF sale; a release makes the settled weight the baseline, empties the pending
list, clears the hold, and in the sale moves the named lines to OVERRIDDEN and counts the override (R120, R121). The model's
choices: that the command comes when the SU is free and the BWU has taken its earlier tells, and that the SU takes the claim in
the same step (log 8); that the BWU's hold reason stays at the release (log 34). -/
def Obligations.HoldReleaseClearsTheHold : Prop :=
  ∀ s : State, s.bi.inReset = false → s.nu.latches.length = 24 → awaits s .holdRelease = true → saleReady s = true →
    s.bwu.tells = [] →
    ∃ t, exec .holdRelease s = .next t
      ∧ if s.tu.key = false then answeredWith t .needKey 0 0 ∧ requestFrame [] s t
        else if s.bwu.verif ≠ .self ∨ s.bwu.hold = false then answeredWith t .wrongState 0 0 ∧ requestFrame [] s t
        else answeredWith t .done (BitVec.ofNat 32 s.bwu.pend.length) (BitVec.ofInt 32 s.bwu.settled)
          ∧ t.bwu = { s.bwu with
              baseline := s.bwu.settled, pend := [], waitTimer := none, hold := false, clearReason := .released }
          ∧ reported t .bagHoldClear 0 ∧ askedFor t .bwu .statusPage
          ∧ (s.su.header.state.active →
              t.su.header = { s.su.header with
                bagHold := false, clearReason := .released, baseline := s.bwu.settled, overrides := s.su.header.overrides + 1 }
              ∧ t.su.lines = moveNamed s.su.lines (namedOf s.bwu.pend) .overridden ∧ t.su.tenders = s.su.tenders
              ∧ saleEventWrites s t 0 [] ∧ saleEventAsked t)
          ∧ requestFrame [.su, .bwu] s t

/-! ### Cards -/

/-- The checks of CARD_TENDER in their order, the tender amount, and a request that fails any check changing nothing; one that
passes is DONE with a new REQUESTED tender (R97, R107, R126, R127). The model's choices: that the command comes when the SU is
free (log 8), that the final stamp of the new tender is its created stamp (log 22), that its method and digits are 0 (log 38),
and that the CTU goes on when the claim's window has closed (log 37). -/
def Obligations.CardTenderChecksInOrder : Prop :=
  ∀ (s : State) (amount : Nat), s.bi.inReset = false → awaits s .cardTender = true → saleReady s = true →
    amount = (match recCardAmount s.re.record with | some a => a | none => s.su.balance) →
    ∃ t, exec .cardTender s = .next t
      ∧ if s.su.header.state ≠ .opened ∧ s.su.header.state ≠ .tendering then answeredWith t .wrongState 0 0 ∧ requestFrame [] s t
        else if s.su.header.bagHold = true ∨ s.su.tenderHold = true then answeredWith t .held 0 0 ∧ requestFrame [] s t
        else if s.ctu.linkUp = false then answeredWith t .linkDown 0 0 ∧ requestFrame [] s t
        else if s.ctu.out ≠ none then answeredWith t .busy 0 0 ∧ requestFrame [] s t
        else if 8 ≤ s.su.tenders.length then answeredWith t .tableFull 0 0 ∧ requestFrame [] s t
        else if s.su.balance = 0 then answeredWith t .wrongState 0 0 ∧ requestFrame [] s t
        else if amount < 1 ∨ s.su.balance < amount then answeredWith t .badParam 0 0 ∧ requestFrame [] s t
        else answeredWith t .done (BitVec.ofNat 32 s.su.tenders.length) (BitVec.ofNat 32 amount)
          ∧ t.su.tenders = s.su.tenders ++
              [{ kind := .card, state := .requested, requested := amount, received := 0, applied := 0
                 reference := s.ctu.refCounter, entryMethod := 0, lastFour := [0, 0, 0, 0], code := [0, 0, 0, 0, 0, 0]
                 byKey := false, created := s.re.clock, final := s.re.clock }]
          ∧ t.su.header = { s.su.header with state := .tendering } ∧ t.su.lines = s.su.lines
          ∧ t.ctu = s.ctu
          ∧ (∀ x, t.su.tenders[s.su.tenders.length]? = some x →
              saleEventWrites s t (0x9A00 + s.su.tenders.length * 64) (tenderBytes s.su.tenders.length x))
          ∧ saleEventAsked t ∧ requestFrame [.su] s t

/-- When the window of a creating claim closes the CTU advances its counter, holds the tender outstanding, hands AMOUNT_REQ to the
link behind the frames that wait, with its reference, the lane number, the amount and the sale number (R177), and starts the card
wait timer (R127, R128; that this follows the window is the model's reading, log 37). CARD_CANCEL takes a REQUESTED tender to
CANCELLING with a CANCEL_REQ, the cancel wait timer and a claim, and is WRONG_STATE else (R130); it asks the SU (R108), and
that it waits until the SU can take the ask is the model's choice (log 8). -/
def Obligations.CardAskAndCancel : Prop :=
  (∀ (s : State) (i : Nat) (o : OpenWindow) (index amount : Nat), s.bi.inReset = false → s.bi.opened[i]? = some o →
    o.owner ≠ .nu → windowWritten s o.id = true → o.after = [.cardAsk index amount, .suDone] → s.re.resetting = [] →
    (∀ a n, s.bi.hostStall ≠ some (.readHeld a n)) →
    ∃ t, exec (.updateWindowClose i) s = .next t
      ∧ t.ctu = { s.ctu with
          refCounter := if s.ctu.refCounter = 0xFFFF then 1 else s.ctu.refCounter + 1
          out := some { index := index, reference := s.ctu.refCounter, amount := amount, state := .requested }
          queryAsked := false, cardWait := startTimer s ((cfg s).cardWait * 1000), sendList := t.ctu.sendList }
      ∧ cardHanded s t (kAmountReq, le2 s.ctu.refCounter ++ le2 (s.re.laneNumber.getD 0) ++ le4 (BitVec.ofNat 32 amount)
          ++ le4 s.su.header.number)
      ∧ (∀ l, l ≠ .card → t.link l = s.link l)
      ∧ t.su.event = none ∧ askedFor t .ctu .cardSession ∧ eventFrame [.bi, .re, .su, .ctu, .lu] s t)
  ∧ (∀ s : State, saleReady s = false → exec .cardCancel s = .next s)
  ∧ ∀ (s : State) (o : OutTender), s.bi.inReset = false → awaits s .cardCancel = true → saleReady s = true →
    (s.ctu.out = none ∨ s.ctu.out = some o) →
    ∃ t, exec .cardCancel s = .next t
      ∧ (s.ctu.out = none ∨ o.state ≠ .requested → answeredWith t .wrongState 0 0 ∧ requestFrame [] s t)
      ∧ (s.ctu.out = some o → o.state = .requested →
          answeredWith t .done (BitVec.ofNat 32 o.index) 0
          ∧ t.ctu = { s.ctu with
              cardWait := none, cancelWait := startTimer s ((cfg s).cancelWait * 1000)
              out := some { o with state := .cancelling }, sendList := t.ctu.sendList }
          ∧ .tender (stateMove o .cancelling) true ∈ t.su.inbox ∧ cardHanded s t (kCancelReq, le2 o.reference)
          ∧ (∀ l, l ≠ .card → t.link l = s.link l)
          ∧ askedFor t .ctu .cardSession ∧ requestFrame [.ctu, .lu] s t)

/-- R131: the card wait timer's expiry on a REQUESTED tender hands a CANCEL_REQ to the link, starts the cancel wait timer, claims
CANCELLING and writes the session record, and completes no request. It is said here of a state in which no notice of a frame sent
waits at the CTU; CardTimersAndLink says it of every other. -/
def Obligations.CardWaitExpiryCancels : Prop :=
  ∀ (s : State) (o : OutTender), s.bi.inReset = false → timerDue s s.ctu.cardWait = true → unitTakes s .ctu (.timer .cardWait) = true →
    s.ctu.out = some o → o.state = .requested → s.ctu.notices = 0 →
    ∃ t, exec .cardWaitExpiry s = .next t
      ∧ t.ctu = { s.ctu with
          cardWait := none, cancelWait := startTimer s ((cfg s).cancelWait * 1000)
          out := some { o with state := .cancelling }, sendList := t.ctu.sendList }
      ∧ t.su = { s.su with inbox := s.su.inbox ++ [.tender (stateMove o .cancelling) false] }
      ∧ cardHanded s t (kCancelReq, le2 o.reference) ∧ (∀ l, l ≠ .card → t.link l = s.link l)
      ∧ askedFor t .ctu .cardSession ∧ t.re = s.re ∧ t.nu = s.nu ∧ eventFrame [.ctu, .lu] s t

/-- The card timers' expiries and the card link (R131-R133): an unanswered request is cancelled; an unanswered cancel leaves the
tender UNRESOLVED and asks STATUS_QUERY; a link that leaves UP drops the frames waiting to be sent, and makes a tender in progress
UNRESOLVED; one that comes back asks for an UNRESOLVED tender once. A change taken while the link's going QUIET still waits in its
path comes from before a LANE_RESET, and changes nothing more (R63, R138). After an event the link's notices whose turn has come
are taken in the same step, which is the model's reading (R24, R128; log 44). -/
def Obligations.CardTimersAndLink : Prop :=
  (∀ (s : State) (o : OutTender), s.bi.inReset = false → timerDue s s.ctu.cardWait = true →
    unitTakes s .ctu (.timer .cardWait) = true → s.ctu.out = some o → o.state = .requested →
    ∃ t u, exec .cardWaitExpiry s = .next u ∧ cardNoticesTaken t u
      ∧ t.ctu = { s.ctu with
          cardWait := none, cancelWait := startTimer s ((cfg s).cancelWait * 1000)
          out := some { o with state := .cancelling }, sendList := t.ctu.sendList }
      ∧ t.su = { s.su with inbox := s.su.inbox ++ [.tender (stateMove o .cancelling) false] }
      ∧ cardHanded s t (kCancelReq, le2 o.reference) ∧ (∀ l, l ≠ .card → t.link l = s.link l)
      ∧ askedFor t .ctu .cardSession ∧ t.re = s.re ∧ t.nu = s.nu ∧ eventFrame [.ctu, .lu] s t)
  ∧ (∀ (s : State) (o : OutTender), s.bi.inReset = false → s.nu.latches.length = 24 → timerDue s s.ctu.cancelWait = true →
    unitTakes s .ctu (.timer .cancelWait) = true → s.ctu.out = some o → o.state = .cancelling →
    ∃ t u, exec .cancelWaitExpiry s = .next u ∧ cardNoticesTaken t u
      ∧ t.ctu = { s.ctu with
          cardWait := none, cancelWait := none, out := some { o with state := .unresolved }, queryAsked := true
          lastOutcome := { state := .unresolved, applied := 0, reference := o.reference }, sendList := t.ctu.sendList }
      ∧ cardHanded s t (kStatusQuery, le2 o.reference) ∧ (∀ l, l ≠ .card → t.link l = s.link l)
      ∧ .tender (stateMove o .unresolved) false ∈ t.su.inbox ∧ reported t .tenderOutcome o.index
      ∧ askedFor t .ctu .cardSession ∧ eventFrame [.ctu, .lu] s t)
  ∧ ∀ (s : State) (old new : LinkState), s.bi.inReset = false → s.nu.latches.length = 24 →
    frontChange s .card = some (old, new) → unitTakes s .ctu .link = true →
    ∃ t u, exec .cardLinkChange s = .next u ∧ cardNoticesTaken t u
      ∧ (t.link .card).path = (s.link .card).path.tail ∧ (∀ l, l ≠ .card → t.link l = s.link l)
      ∧ (wentQuiet s .card = true → t.ctu = s.ctu ∧ t.bi = s.bi ∧ t.nu = s.nu ∧ t.su = s.su)
      ∧ (wentQuiet s .card = false → new ≠ .up → old = .up → s.ctu.out = none →
          t.ctu = { s.ctu with linkUp := false, sendList := [], module := .none } ∧ askedFor t .ctu .cardSession)
      ∧ (∀ o, wentQuiet s .card = false → new ≠ .up → old = .up → s.ctu.out = some o → o.state = .unresolved →
          t.ctu = { s.ctu with linkUp := false, sendList := [], module := .none, queryAsked := false }
          ∧ askedFor t .ctu .cardSession)
      ∧ (∀ o, wentQuiet s .card = false → new ≠ .up → old = .up → s.ctu.out = some o → o.state ≠ .unresolved →
          t.ctu = { s.ctu with
            linkUp := false, sendList := [], module := .none, cardWait := none, cancelWait := none
            out := some { o with state := .unresolved }
            lastOutcome := { state := .unresolved, applied := 0, reference := o.reference } }
          ∧ .tender (stateMove o .unresolved) false ∈ t.su.inbox ∧ reported t .tenderOutcome o.index
          ∧ askedFor t .ctu .cardSession)
      ∧ (wentQuiet s .card = false → new = .up → (∀ o, s.ctu.out = some o → o.state ≠ .unresolved) ∨ s.ctu.queryAsked = true →
          t.ctu = { s.ctu with linkUp := true } ∧ t.bi = s.bi)
      ∧ (∀ o, wentQuiet s .card = false → new = .up → s.ctu.out = some o → o.state = .unresolved → s.ctu.queryAsked = false →
          t.ctu = { s.ctu with linkUp := true, queryAsked := true, sendList := t.ctu.sendList }
          ∧ (∃ sent, (t.link .card).tx.map (fun f => (f.kind, f.payload))
                = (s.link .card).tx.map (fun f => (f.kind, f.payload)) ++ sent
              ∧ sent ++ t.ctu.sendList = s.ctu.sendList ++ [(kStatusQuery, le2 o.reference)])
          ∧ askedFor t .ctu .cardSession)
      ∧ (new ≠ .up → old ≠ .up → t.ctu = s.ctu ∧ t.bi = s.bi)
      ∧ eventFrame [.ctu, .lu] s t

/-- The card session (R125): CARD_IN puts its fields in the session and raises CARD_CHANGE; CARD_OUT clears a session that
stands; MODULE_STATUS records the module's status; the session record is written when a field changed. After an event the link's
notices whose turn has come are taken (R24, R128; log 44). -/
def Obligations.CardSessionFollowsTheModule : Prop :=
  (∀ (s : State) (p : List Byte), s.bi.inReset = false → s.nu.latches.length = 24 → cardFrame s = some (kCardIn, p) →
    ∃ t u, exec .cardIn s = .next u ∧ cardNoticesTaken t u
      ∧ t.ctu = { s.ctu with
          present := true, scheme := payHalf p 0, entryMethod := payByte p 2, lastFour := payBytes p 3 4 }
      ∧ reported t .cardChange 0 ∧ (t.ctu ≠ s.ctu → askedFor t .ctu .cardSession)
      ∧ (t.link .card).path = (s.link .card).path.tail ∧ (∀ l, l ≠ .card → t.link l = s.link l) ∧ eventFrame [.ctu, .lu] s t)
  ∧ (∀ (s : State) (p : List Byte), s.bi.inReset = false → s.nu.latches.length = 24 → cardFrame s = some (kCardOut, p) →
    ∃ t u, exec .cardOut s = .next u ∧ cardNoticesTaken t u
      ∧ (s.ctu.present = true →
          t.ctu = { s.ctu with present := false, scheme := 0, entryMethod := 0, lastFour := [0, 0, 0, 0] }
          ∧ reported t .cardChange 0 ∧ askedFor t .ctu .cardSession)
      ∧ (s.ctu.present = false → t.ctu = s.ctu ∧ t.nu = s.nu ∧ t.bi = s.bi)
      ∧ (t.link .card).path = (s.link .card).path.tail ∧ (∀ l, l ≠ .card → t.link l = s.link l) ∧ eventFrame [.ctu, .lu] s t)
  ∧ ∀ (s : State) (p : List Byte), s.bi.inReset = false → cardFrame s = some (kModuleStatus, p) →
    ∃ t u, exec .moduleStatus s = .next u ∧ cardNoticesTaken t u
      ∧ t.ctu = { s.ctu with
          module := if payByte p 0 = 0 then .none else if payByte p 0 = 1 then .ready else if payByte p 0 = 2 then .busy
                    else .fault }
      ∧ (t.ctu ≠ s.ctu → askedFor t .ctu .cardSession) ∧ t.nu = s.nu
      ∧ (t.link .card).path = (s.link .card).path.tail ∧ (∀ l, l ≠ .card → t.link l = s.link l) ∧ eventFrame [.ctu, .lu] s t

/-- What the module answers (R129, R134, R136), each frame leaving the card link's ordered path (R63): an AUTH_RESULT of the
outstanding tender ends the conversation, with an approved amount outside 1 to the requested amount counted as stray and
declining; one whose outcome byte names no outcome is stray and leaves the tender as it was. A NO_RECORD declines an UNRESOLVED
tender and is stray for one in progress. A result for a tender settled by verdict is late, and a conflict where it disagrees; one
that names no outcome is late and not compared. A result with any other reference is stray. The model's choices: of two entries
with one reference the older answers, and the amount compared is the requested amount kept with it (log 21); the claim of a
NO_RECORD carries the session's entry method and digits (log 33); the amount a NO_RECORD's conflict shows is a free value (log 14,
log 21); the session record is asked for also where a counter stays at 65,535 (log 43); and that the link's notices whose turn has
come are taken in the same step (R24; log 44). -/
def Obligations.CardResultsEndTheTender : Prop :=
  (∀ (s : State) (p : List Byte) (o : OutTender) (st : TenderState) (a : Nat), s.bi.inReset = false →
    s.nu.latches.length = 24 → cardFrame s = some (kAuthResult, p) → s.ctu.out = some o → payHalf p 0 = o.reference →
    a = (payWord p 3).toNat → (payByte p 2 = 1 ∨ payByte p 2 = 2 ∨ payByte p 2 = 3) →
    st = (if payByte p 2 = 1 ∧ 1 ≤ a ∧ a ≤ o.amount then .approved else if payByte p 2 = 3 then .cancelled else .declined) →
    ∃ t u, exec .authResult s = .next u ∧ cardNoticesTaken t u
      ∧ t.ctu = { s.ctu with
          cardWait := none, cancelWait := none, out := none, queryAsked := false
          late := if o.state = .unresolved then sat s.ctu.late else s.ctu.late
          stray := if payByte p 2 = 1 ∧ st = .declined then sat s.ctu.stray else s.ctu.stray
          lastOutcome := { state := st, applied := if st = .approved then a else 0, reference := o.reference } }
      ∧ .tender { index := o.index, state := st, amount := if st = .approved then a else 0, entryMethod := s.ctu.entryMethod
                  lastFour := s.ctu.lastFour, code := if st = .approved then payBytes p 7 6 else [0, 0, 0, 0, 0, 0]
                  byKey := false } false ∈ t.su.inbox
      ∧ reported t .tenderOutcome o.index ∧ askedFor t .ctu .cardSession ∧ pathTaken s t .card ∧ eventFrame [.ctu, .lu] s t)
  ∧ (∀ (s : State) (p : List Byte), s.bi.inReset = false → cardFrame s = some (kAuthResult, p) →
    (∀ o, s.ctu.out = some o → o.reference ≠ payHalf p 0) → (∀ v ∈ s.ctu.verdicts, v.reference ≠ payHalf p 0) →
    ∃ t u, exec .authResult s = .next u ∧ cardNoticesTaken t u ∧ t.ctu = { s.ctu with stray := sat s.ctu.stray } ∧ t.su = s.su ∧ t.nu = s.nu
      ∧ askedFor t .ctu .cardSession ∧ pathTaken s t .card ∧ eventFrame [.ctu, .lu] s t)
  ∧ (∀ (s : State) (p : List Byte) (v : VerdictEntry) (a x : Nat), s.bi.inReset = false → s.nu.latches.length = 24 →
    cardFrame s = some (kAuthResult, p) → (∀ o, s.ctu.out = some o → o.reference ≠ payHalf p 0) →
    (s.ctu.verdicts.find? fun x => decide (x.reference = payHalf p 0)) = some v → a = (payWord p 3).toNat →
    (payByte p 2 = 1 ∨ payByte p 2 = 2 ∨ payByte p 2 = 3) →
    x = (if payByte p 2 = 1 ∧ 1 ≤ a ∧ a ≤ v.amount then 1 else if payByte p 2 = 3 then 3 else 2) →
    ∃ t u, exec .authResult s = .next u ∧ cardNoticesTaken t u
      ∧ (if (v.verdict = .approved ∧ (x ≠ 1 ∨ a ≠ v.amount)) ∨ (v.verdict = .declined ∧ x = 1) then
          t.ctu = { s.ctu with
            late := sat s.ctu.late, conflicts := sat s.ctu.conflicts
            conflict := some { verdict := v.verdict, outcome := x, amount := payWord p 3, reference := payHalf p 0 } }
          ∧ reported t .tenderConflict v.index
        else t.ctu = { s.ctu with late := sat s.ctu.late } ∧ t.nu = s.nu)
      ∧ t.su = s.su ∧ askedFor t .ctu .cardSession ∧ pathTaken s t .card ∧ eventFrame [.ctu, .lu] s t)
  ∧ (∀ (s : State) (p : List Byte) (o : OutTender), s.bi.inReset = false → s.nu.latches.length = 24 →
    cardFrame s = some (kNoRecord, p) → s.ctu.out = some o → payHalf p 0 = o.reference →
    ∃ t u, exec .noRecord s = .next u ∧ cardNoticesTaken t u
      ∧ (o.state ≠ .unresolved → t.ctu = { s.ctu with stray := sat s.ctu.stray } ∧ t.su = s.su ∧ t.nu = s.nu)
      ∧ (o.state = .unresolved →
          t.ctu = { s.ctu with
            cardWait := none, cancelWait := none, out := none, queryAsked := false, late := sat s.ctu.late
            lastOutcome := { state := .declined, applied := 0, reference := o.reference } }
          ∧ .tender { index := o.index, state := .declined, amount := 0, entryMethod := s.ctu.entryMethod
                      lastFour := s.ctu.lastFour, code := [0, 0, 0, 0, 0, 0], byKey := false } false ∈ t.su.inbox
          ∧ reported t .tenderOutcome o.index)
      ∧ askedFor t .ctu .cardSession ∧ pathTaken s t .card ∧ eventFrame [.ctu, .lu] s t)
  ∧ (∀ (s : State) (p : List Byte) (o : OutTender), s.bi.inReset = false → cardFrame s = some (kAuthResult, p) →
    s.ctu.out = some o → payHalf p 0 = o.reference → payByte p 2 ≠ 1 → payByte p 2 ≠ 2 → payByte p 2 ≠ 3 →
    ∃ t u, exec .authResult s = .next u ∧ cardNoticesTaken t u ∧ t.ctu = { s.ctu with stray := sat s.ctu.stray } ∧ t.su = s.su ∧ t.nu = s.nu
      ∧ askedFor t .ctu .cardSession ∧ pathTaken s t .card ∧ eventFrame [.ctu, .lu] s t)
  ∧ (∀ (s : State) (p : List Byte), s.bi.inReset = false → cardFrame s = some (kAuthResult, p) →
    (∀ o, s.ctu.out = some o → o.reference ≠ payHalf p 0) → (∃ v ∈ s.ctu.verdicts, v.reference = payHalf p 0) →
    payByte p 2 ≠ 1 → payByte p 2 ≠ 2 → payByte p 2 ≠ 3 →
    ∃ t u, exec .authResult s = .next u ∧ cardNoticesTaken t u ∧ t.ctu = { s.ctu with late := sat s.ctu.late } ∧ t.su = s.su ∧ t.nu = s.nu
      ∧ askedFor t .ctu .cardSession ∧ pathTaken s t .card ∧ eventFrame [.ctu, .lu] s t)
  ∧ (∀ (s : State) (p : List Byte) (v : VerdictEntry), s.bi.inReset = false → s.nu.latches.length = 24 →
    cardFrame s = some (kNoRecord, p) → (∀ o, s.ctu.out = some o → o.reference ≠ payHalf p 0) →
    (s.ctu.verdicts.find? fun x => decide (x.reference = payHalf p 0)) = some v →
    ∃ t u, exec .noRecord s = .next u ∧ cardNoticesTaken t u
      ∧ (v.verdict = .declined → t.ctu = { s.ctu with late := sat s.ctu.late } ∧ t.nu = s.nu)
      ∧ (v.verdict = .approved → reported t .tenderConflict v.index ∧ ∃ c, t.ctu.conflict = some c
          ∧ c.verdict = .approved ∧ c.outcome = 2 ∧ c.reference = payHalf p 0
          ∧ t.ctu = { s.ctu with late := sat s.ctu.late, conflicts := sat s.ctu.conflicts, conflict := some c })
      ∧ t.su = s.su ∧ askedFor t .ctu .cardSession ∧ pathTaken s t .card ∧ eventFrame [.ctu, .lu] s t)
  ∧ ∀ (s : State) (p : List Byte), s.bi.inReset = false → cardFrame s = some (kNoRecord, p) →
    (∀ o, s.ctu.out = some o → o.reference ≠ payHalf p 0) → (∀ v ∈ s.ctu.verdicts, v.reference ≠ payHalf p 0) →
    ∃ t u, exec .noRecord s = .next u ∧ cardNoticesTaken t u ∧ t.ctu = { s.ctu with stray := sat s.ctu.stray } ∧ t.su = s.su ∧ t.nu = s.nu
      ∧ askedFor t .ctu .cardSession ∧ pathTaken s t .card ∧ eventFrame [.ctu, .lu] s t

/-- TENDER_VERDICT: the checks in order, and the attendant's verdict on an UNRESOLVED tender: final at the CTU and in the sale, by
key, remembered for a late result (R135); an approved amount that brings the balance to 0 settles a sale that is TENDERING, and
nothing else of the header changes but what follows from the tender table (R106, R107). Of the tender's entry the state, the
amounts an APPROVED verdict gives (a DECLINED one applies 0), the flag and the final stamp change, and its approval code is 0; its
kind, requested amount, reference and created stamp stay (R97, R135). The model's choices: that the command comes when the SU is
free and that the SU takes the verdict's claim in the same step (log 8), that the requested amount is kept with the verdict (log
21), and that entry method and digits, which no result gave, are 0 and a tender not APPROVED keeps the approved amount it had (log
38). -/
def Obligations.TenderVerdictSettles : Prop :=
  ∀ (s : State) (i : Nat), s.bi.inReset = false → s.nu.latches.length = 24 → awaits s .tenderVerdict = true →
    saleReady s = true → i = recTenderIndex s.re.record →
    ∃ t, exec .tenderVerdict s = .next t
      ∧ if 7 < i ∨ recVerdict s.re.record = none then answeredWith t .badParam 0 0 ∧ requestFrame [] s t
        else if s.tu.key = false then answeredWith t .needKey 0 0 ∧ requestFrame [] s t
        else match s.ctu.out with
          | none => answeredWith t .wrongState 0 0 ∧ requestFrame [] s t
          | some o =>
              if o.state ≠ .unresolved ∨ o.index ≠ i then answeredWith t .wrongState 0 0 ∧ requestFrame [] s t
              else ∀ (v : Verdict) (x : Tender) (amount : Nat), recVerdict s.re.record = some v → s.su.tenders[i]? = some x →
                amount = (if v = .approved then o.amount else 0) →
                answeredWith t .done (BitVec.ofNat 32 i) (BitVec.ofNat 32 (min amount s.su.balance))
                ∧ t.ctu = { s.ctu with
                    out := none, queryAsked := false
                    verdicts := (if 8 ≤ s.ctu.verdicts.length then s.ctu.verdicts.tail else s.ctu.verdicts)
                      ++ [{ reference := o.reference, index := i, verdict := v, amount := o.amount }]
                    lastOutcome := { state := if v = .approved then .approved else .declined, applied := amount
                                     reference := o.reference } }
                ∧ t.su.tenders = s.su.tenders.set i { x with
                    state := if v = .approved then .approved else .declined
                    received := if v = .approved then o.amount else x.received
                    applied := if v = .approved then min o.amount s.su.balance else 0
                    entryMethod := 0, lastFour := zeros 4, code := zeros 6, byKey := true, final := s.re.clock }
                ∧ t.su = { s.su with
                    header := { s.su.header with
                      state := if s.su.header.state = .tendering ∧ t.su.balance = 0 then .settled else s.su.header.state }
                    tenders := t.su.tenders, event := t.su.event, inbox := t.su.inbox }
                ∧ (∀ y, t.su.tenders[i]? = some y → saleEventWrites s t (0x9A00 + i * 64) (tenderBytes i y)) ∧ saleEventAsked t
                ∧ reported t .tenderOutcome i ∧ askedFor t .ctu .cardSession
                ∧ requestFrame [.su, .ctu] s t

/-! ### The till -/

/-- Debounced edges (R139, R143-R145, R151): the sensor's opening ends a kick or is a forced opening, its closing shuts the drawer;
while UNCONFIGURED the drawer only follows it, and its stamps stay (the model's choice, log 40); an edge is stamped when the Till
Unit takes it (R29); the key's turn to ON acknowledges a FAULT. A forced opening is counted, reported and told to the Journal
Unit, which takes the tell as one step (R168). -/
def Obligations.DrawerFollowsTheSensor : Prop :=
  (∀ (s : State) (level : Bool) (rest : List Edge), s.bi.inReset = false → s.nu.latches.length = 24 →
    unitTakes s .tu .edge = true → s.tu.edges = { input := .sense, level := level } :: rest →
    ∃ t, exec .sensorEdge s = .next t ∧ t.tu.sensor = level ∧ t.tu.sensorStamp = s.re.clock ∧ t.tu.edges = rest
      ∧ (s.re.device = .unconfigured →
          t.tu = { s.tu with
            edges := rest, sensor := level, sensorStamp := s.re.clock, drawer := if level then .opened else .shut }
          ∧ t.ju = s.ju ∧ t.nu = s.nu)
      ∧ (s.re.device = .ready → level = true → s.tu.drawer = .kicking →
          t.tu = { s.tu with
            edges := rest, sensor := true, sensorStamp := s.re.clock, drawer := .opened, forced := false, width := none
            confirm := none, solenoid := false, openStamp := s.re.clock
            limitTimer := startTimer s ((cfg s).drawerLimit * 1000) }
          ∧ t.ju = s.ju ∧ reported t .drawerOpened 0)
      ∧ (s.re.device = .ready → level = true → s.tu.drawer = .shut ∨ s.tu.drawer = .fault →
          t.tu = { s.tu with
            edges := rest, sensor := true, sensorStamp := s.re.clock, drawer := .opened, forced := true, width := none
            confirm := none, solenoid := false, openStamp := s.re.clock
            limitTimer := startTimer s ((cfg s).drawerLimit * 1000), forcedCount := sat s.tu.forcedCount }
          ∧ t.ju = { s.ju with tells := s.ju.tells + 1 } ∧ reported t .drawerForced 0 ∧ reported t .drawerOpened 0)
      ∧ (s.re.device = .ready → level = false → s.tu.drawer = .opened →
          t.tu = { s.tu with
            edges := rest, sensor := false, sensorStamp := s.re.clock, drawer := .shut, forced := false, limitTimer := none
            closeStamp := s.re.clock }
          ∧ t.ju = s.ju ∧ reported t .drawerShut 0)
      ∧ (s.re.device = .ready → (level = true ∧ s.tu.drawer = .opened) ∨ (level = false ∧ s.tu.drawer ≠ .opened) →
          t.tu = { s.tu with edges := rest, sensor := level, sensorStamp := s.re.clock } ∧ t.nu = s.nu ∧ t.ju = s.ju)
      ∧ (s.re.device = .ready → askedFor t .tu .statusPage) ∧ eventFrame [.tu, .ju] s t)
  ∧ (∀ (s : State) (level : Bool) (rest : List Edge), s.bi.inReset = false → unitTakes s .tu .edge = true →
    s.tu.edges = { input := .key, level := level } :: rest →
    ∃ t, exec .keyEdge s = .next t
      ∧ t.tu = { s.tu with
          edges := rest, key := level, keyStamp := s.re.clock
          drawer := if level = true ∧ s.tu.drawer = .fault then .shut else s.tu.drawer }
      ∧ t.nu = s.nu ∧ (s.re.device = .ready → askedFor t .tu .statusPage) ∧ eventFrame [.tu] s t)
  ∧ ∀ s : State, s.bi.inReset = false → 0 < s.ju.tells →
    exec .forcedOpeningTell s = .next (s.setJu { s.ju with tells := s.ju.tells - 1, forcedCarry := sat s.ju.forcedCarry })

/-- The TU's timers (R140, R141, R144): the pulse ends at its width; without an opening the kick is tried a second time and then
the drawer is in FAULT; a drawer that stays open past its limit is reported once. -/
def Obligations.TillTimers : Prop :=
  (∀ s : State, s.bi.inReset = false → timerDue s s.tu.width = true → unitTakes s .tu (.timer .kickWidth) = true →
    exec .kickWidthExpiry s = .next (s.setTu { s.tu with solenoid := false, width := none }))
  ∧ (∀ s : State, s.bi.inReset = false → s.nu.latches.length = 24 → s.tu.drawer = .kicking → timerDue s s.tu.confirm = true →
    s.tu.width = none → unitTakes s .tu (.timer .kickConfirm) = true →
    ∃ t, exec .kickConfirmExpiry s = .next t
      ∧ (s.tu.attempts = 1 →
          t.tu = { s.tu with
            attempts := 2, solenoid := true, width := startTimer s (cfg s).kickWidth, confirm := startTimer s (cfg s).kickConfirm }
          ∧ t.nu = s.nu)
      ∧ (s.tu.attempts ≠ 1 →
          t.tu = { s.tu with drawer := .fault, confirm := none, solenoid := false } ∧ reported t .drawerFault 0)
      ∧ askedFor t .tu .statusPage ∧ eventFrame [.tu] s t)
  ∧ ∀ s : State, s.bi.inReset = false → s.nu.latches.length = 24 → s.tu.drawer = .opened →
    timerDue s s.tu.limitTimer = true → unitTakes s .tu (.timer .drawerLimit) = true →
    ∃ t, exec .drawerLimitExpiry s = .next t ∧ t.tu = { s.tu with limitTimer := none } ∧ reported t .drawerLong 0
      ∧ eventFrame [.tu] s t

/-- The checks of CASH_TENDER in their order (R146); one that passes adds a TAKEN cash tender, applied up to the balance, settles
the sale when the balance is met, and owes the drawer's kick until its window has closed (R97, R106, R147): at the close a drawer
that is SHUT begins a kick with cause CASH, and in any other state none begins. The model's choices:
that the command comes when the SU is free (log 8), that the final stamp of the new tender is its created stamp (log 22), that
the kick follows the window (log 25), and that notices which an ended request held are taken in the same step (log 44). -/
def Obligations.CashTenderChecksInOrder : Prop :=
  (∀ (s : State) (i : Nat) (o : OpenWindow), s.bi.inReset = false → s.bi.opened[i]? = some o → o.owner ≠ .nu →
    windowWritten s o.id = true → o.after = [.kick .cash, .suDone] → s.re.resetting = [] →
    (∀ a n, s.bi.hostStall ≠ some (.readHeld a n)) →
    ∃ t v, exec (.updateWindowClose i) s = .next v ∧ noticesFreed s t v
      ∧ t.su = { s.su with event := none, inbox := t.su.inbox }
      ∧ (s.tu.drawer = .shut →
          t.tu = { s.tu with
            drawer := .kicking, cause := .cash, attempts := 1, solenoid := true, width := startTimer s (cfg s).kickWidth
            confirm := startTimer s (cfg s).kickConfirm }
          ∧ askedFor t .tu .statusPage ∧ t.re = s.re)
      ∧ (s.tu.drawer ≠ .shut → t.tu = s.tu)
      ∧ t.bi.opened = s.bi.opened.filter (fun x => x.id != o.id) ∧ courseOnly s t ∧ eventFrame [.bi, .re, .su, .tu] s t)
  ∧ ∀ (s : State) (a : Nat), s.bi.inReset = false → awaits s .cashTender = true → saleReady s = true →
    a = recCashAmount s.re.record →
    ∃ t, exec .cashTender s = .next t
      ∧ if ¬ (1 ≤ a ∧ a ≤ 99999999) then answeredWith t .badParam 0 0 ∧ requestFrame [] s t
        else if s.su.header.state ≠ .opened ∧ s.su.header.state ≠ .tendering then
          answeredWith t .wrongState 0 0 ∧ requestFrame [] s t
        else if s.su.header.bagHold = true ∨ s.su.tenderHold = true then answeredWith t .held 0 0 ∧ requestFrame [] s t
        else if (∃ x ∈ s.su.tenders, x.state = .requested ∨ x.state = .cancelling ∨ x.state = .unresolved) then
          answeredWith t .busy 0 0 ∧ requestFrame [] s t
        else if 8 ≤ s.su.tenders.length then answeredWith t .tableFull 0 0 ∧ requestFrame [] s t
        else if s.su.balance = 0 then answeredWith t .wrongState 0 0 ∧ requestFrame [] s t
        else if s.tu.drawer = .fault then answeredWith t .drawerFault 0 0 ∧ requestFrame [] s t
        else if s.su.header.mode = .self ∧ s.tu.key = false then answeredWith t .needKey 0 0 ∧ requestFrame [] s t
        else answeredWith t .done (BitVec.ofNat 32 s.su.tenders.length) (BitVec.ofNat 32 (min a s.su.balance))
          ∧ t.su.tenders = s.su.tenders ++
              [{ kind := .cash, state := .taken, requested := a, received := a, applied := min a s.su.balance
                 reference := 0, entryMethod := 0, lastFour := [0, 0, 0, 0], code := [0, 0, 0, 0, 0, 0]
                 byKey := false, created := s.re.clock, final := s.re.clock }]
          ∧ t.su.header = { s.su.header with state := if s.su.balance ≤ a then .settled else .tendering }
          ∧ t.su.lines = s.su.lines ∧ t.tu = s.tu
          ∧ (∀ x, t.su.tenders[s.su.tenders.length]? = some x →
              saleEventWrites s t (0x9A00 + s.su.tenders.length * 64) (tenderBytes s.su.tenders.length x))
          ∧ (∃ e, t.su.event = some e ∧ e.after = [.kick .cash]) ∧ saleEventAsked t ∧ requestFrame [.su] s t

/-- DRAWER_NOSALE: the checks of R148 in order; one that passes counts, kicks the shut drawer with cause NOSALE, writes the NOSALE
entry at the head, and answers with its number (R141, R148, R168, R169, R173). The entry's bytes are those of R169 and R179, with
the CRC-16 of bytes 0 to 61 as its check code. The model's choices: that the command comes when the SU is free and the JU has
taken its tells (log 8), and that the no-sale carry counts on without a bound (log 35). -/
def Obligations.DrawerNosaleOpensAndRecords : Prop :=
  ∀ s : State, s.bi.inReset = false → awaits s .drawerNosale = true → saleReady s = true → s.ju.tells = 0 →
    ∃ t, exec .drawerNosale s = .next t
      ∧ if s.su.header.state ≠ .idle then answeredWith t .wrongState 0 0 ∧ requestFrame [] s t
        else if s.tu.key = false then answeredWith t .needKey 0 0 ∧ requestFrame [] s t
        else if s.tu.drawer = .fault then answeredWith t .drawerFault 0 0 ∧ requestFrame [] s t
        else if s.tu.drawer ≠ .shut then answeredWith t .drawerOpen 0 0 ∧ requestFrame [] s t
        else if ¬ (s.ju.head - s.bi.journalExport).toNat < 2048 then answeredWith t .journalFull 0 0 ∧ requestFrame [] s t
        else answeredWith t .done s.ju.head 0
          ∧ t.tu = { s.tu with
              nosaleCount := sat s.tu.nosaleCount, drawer := .kicking, cause := .nosale, attempts := 1, solenoid := true
              width := startTimer s (cfg s).kickWidth, confirm := startTimer s (cfg s).kickConfirm }
          ∧ t.ju = { s.ju with nosaleCarry := s.ju.nosaleCarry + 1, forcedCarry := 0 }
          ∧ (∃ w ∈ t.bi.waiting, w.owner = .ju ∧ w.sections = [.journal, .statusPage] ∧ w.after = [.headAdvance] ∧ w.ofRequest = true
              ∧ ∃ entry, w.fixed = entry ++ [(0x2024, s.ju.head + 1), (0x2028, s.bi.journalExport)]
                ∧ ∃ body, body = le4 s.ju.head ++ [2, 0] ++ le2 (s.re.laneNumber.getD 0) ++ [0, 0, 0, 0] ++ le4 s.re.clock
                    ++ le4 s.re.clock ++ List.replicate 22 0 ++ le2 (BitVec.ofNat 16 s.ju.forcedCarry)
                    ++ le2 (BitVec.ofNat 16 (s.ju.nosaleCarry + 1)) ++ List.replicate 16 0
                  ∧ bytesFrom (0x10000 + s.ju.head.toNat % 2048 * 64) entry (body ++ le2 (crc16 body)))
          ∧ askedFor t .tu .statusPage ∧ requestFrame [.tu, .ju] s t

/-! ### The printer -/

/-- PRINTER_STATUS and the printer's link (R155, R156): credits less the frames in flight, paper, cover and the condition they
give; PAPER_LOW when low is new, and not at a second LOW; leaving READY goes back to the oldest frame not acknowledged and is
reported, coming back to it is reported too; the link's fall takes the printer OFFLINE. The model's choices: the notice is raised
whatever the owner (log 20), a frame being fetched or waiting for the link is forgotten at a suspension (log 28), READY has no
cause (log 36), and PAPER_LOW is raised before the change of condition (log 41). A printer that becomes READY again has its
SUSPENDED job print on, and the arbiter looks where the owner is NONE (R156, R162). A job that is SUSPENDED or PRINTING anew has
its entry written (R163). A link change taken while the link's going
QUIET still waits in its path comes from before a LANE_RESET, and changes nothing more (R63, R155, R166). That the Status Page
write is asked for also where a status repeats the last is the model's choice (log 43), and that the link's notices whose turn has
come are taken in the event's step (R24, R153; log 44). -/
def Obligations.PrinterConditionFollows : Prop :=
  (∀ (s : State) (p : List Byte) (paper : Paper) (shut : Bool), s.bi.inReset = false → s.nu.latches.length = 24 →
    printerFrame s = some (kPrinterStatus, p) →
    paper = (if payByte p 0 = 0 then .ok else if payByte p 0 = 1 then .low else .out) → shut = decide (payByte p 1 = 0) →
    ∃ t v, exec .printerStatus s = .next v ∧ printNoticesTaken t v
      ∧ t.pu.paper = paper ∧ t.pu.coverOpen = !shut ∧ t.pu.prevPaper = some paper
      ∧ t.pu.cond = (if paper = .out ∨ shut = false then PrinterCond.stopped else .ready)
      ∧ t.pu.cause = (if paper = .out then StopCause.paperOut else if shut = false then .coverOpen else .none)
      ∧ t.pu.credits = min (payByte p 2).toNat 16 - s.pu.flight.length
      ∧ (paper = .low → s.pu.prevPaper ≠ some .low → reported t .paperLow 0)
      ∧ (paper ≠ .low ∨ s.pu.prevPaper = some .low → (s.pu.cond = .ready ↔ t.pu.cond = .ready) → t.nu = s.nu ∧ t.su = s.su)
      ∧ (paper ≠ .low ∨ s.pu.prevPaper = some .low → s.nu.writer ≠ .free →
          latchAt t (latchIndex .paperLow 0) = latchAt s (latchIndex .paperLow 0))
      ∧ ((s.pu.cond = .ready ↔ t.pu.cond = .ready) →
          t.pu = { s.pu with
            paper := paper, coverOpen := !shut, prevPaper := some paper, cond := t.pu.cond, cause := t.pu.cause
            credits := t.pu.credits })
      ∧ (s.pu.cond = .ready → t.pu.cond ≠ .ready →
          t.pu = { s.pu with
            paper := paper, coverOpen := !shut, prevPaper := some paper, cond := t.pu.cond, cause := t.pu.cause
            credits := t.pu.credits, flight := [], ready := none, fetch := t.pu.fetch, reported := true
            nextUnsent := s.pu.printIndex, blockNext := s.pu.blockAcked, suspOwner := s.pu.owner
            suspCount := s.pu.flight.length, jobs := t.pu.jobs }
          ∧ (∀ j, s.pu.owner = .job j → j < s.pu.jobs.length →
              t.pu.jobs = s.pu.jobs.set j { jobAt s j with
                state := .suspended, next := (jobAt s j).first + (jobAt s j).acked, cutSent := false })
          ∧ ((∀ j, s.pu.owner ≠ .job j) → t.pu.jobs = s.pu.jobs))
      ∧ (s.pu.cond ≠ .ready → t.pu.cond = .ready →
          t.pu = { s.pu with
            paper := paper, coverOpen := !shut, prevPaper := some paper, cond := .ready, cause := .none
            credits := t.pu.credits, reported := false, owner := t.pu.owner, jobs := t.pu.jobs })
      ∧ (s.pu.cond = .ready → t.pu.cond ≠ .ready → reported t .printStopped 0 ∧ t.pu.flight = [] ∧ t.pu.ready = none
          ∧ (∀ f, t.pu.fetch = some f → f.wanted = false)
          ∧ t.pu.nextUnsent = s.pu.printIndex ∧ t.pu.blockNext = s.pu.blockAcked ∧ t.pu.suspOwner = s.pu.owner
          ∧ t.pu.suspCount = s.pu.flight.length ∧ t.pu.reported = true
          ∧ (∀ j, s.pu.owner = .job j → j < s.pu.jobs.length →
              jobAt t j = { jobAt s j with
                state := .suspended, next := (jobAt s j).first + (jobAt s j).acked, cutSent := false }))
      ∧ (s.pu.cond ≠ .ready → t.pu.cond = .ready → s.pu.reported = true → reported t .printResumed 0 ∧ t.pu.reported = false)
      ∧ (s.pu.cond ≠ .ready → t.pu.cond = .ready →
          (s.pu.owner = .none → arbiterChose s.re.clock { s.pu with cond := .ready } t.pu)
          ∧ (s.pu.owner = .receipt → t.pu.owner = .receipt ∧ t.pu.jobs = s.pu.jobs)
          ∧ ∀ j, s.pu.owner = .job j → t.pu.owner = .job j
              ∧ t.pu.jobs = (if (jobAt s j).state = .suspended then s.pu.jobs.set j { jobAt s j with state := .printing }
                  else s.pu.jobs))
      ∧ (s.pu.cond = .ready → t.pu.cond ≠ .ready → ∀ j, s.pu.owner = .job j → j < 8 → j < s.pu.jobs.length →
          (jobAt s j).state ≠ .suspended → askedFor t .pu .jobTable)
      ∧ (s.pu.cond ≠ .ready → t.pu.cond = .ready →
          (∀ j, s.pu.owner = .job j → j < 8 → j < s.pu.jobs.length → (jobAt s j).state = .suspended →
            askedFor t .pu .jobTable)
          ∧ (s.pu.owner = .none → s.pu.bound = false → (∃ k < 8, (jobAt s k).state = .queued) → askedFor t .pu .jobTable))
      ∧ (s.pu.cond = .ready → t.pu.cond = .ready → t.pu.flight = s.pu.flight ∧ t.pu.owner = s.pu.owner ∧ t.pu.jobs = s.pu.jobs
          ∧ t.pu.ready = s.pu.ready ∧ t.pu.fetch = s.pu.fetch)
      ∧ (t.link .printer).path = (s.link .printer).path.tail ∧ (∀ l, l ≠ .printer → t.link l = s.link l)
      ∧ askedFor t .pu .statusPage ∧ eventFrame [.pu, .lu] s t)
  ∧ ∀ (s : State) (old new : LinkState), s.bi.inReset = false → s.nu.latches.length = 24 →
    frontChange s .printer = some (old, new) → unitTakes s .pu .link = true →
    ∃ t v, exec .printerLinkChange s = .next v ∧ printNoticesTaken t v
      ∧ (wentQuiet s .printer = true → t.pu = s.pu ∧ t.bi = s.bi ∧ t.nu = s.nu)
      ∧ (wentQuiet s .printer = false → new = .up → t.pu = { s.pu with cond := .stopped, cause := .linkDown, prevPaper := none }
          ∧ askedFor t .pu .statusPage)
      ∧ (wentQuiet s .printer = false → new ≠ .up → old = .up → t.pu.cond = .offline ∧ t.pu.cause = .linkDown ∧ t.pu.credits = 0
          ∧ askedFor t .pu .statusPage
          ∧ (s.pu.cond = .ready → reported t .printStopped 0 ∧ t.pu.flight = [] ∧ t.pu.ready = none
              ∧ t.pu.nextUnsent = s.pu.printIndex ∧ t.pu.blockNext = s.pu.blockAcked ∧ t.pu.suspOwner = s.pu.owner
              ∧ t.pu.suspCount = s.pu.flight.length ∧ t.pu.reported = true
              ∧ (∀ f, t.pu.fetch = some f → f.wanted = false)
              ∧ t.pu.owner = s.pu.owner ∧ t.pu.receipt = s.pu.receipt ∧ t.pu.printIndex = s.pu.printIndex
              ∧ (∀ j, s.pu.owner = .job j → j < s.pu.jobs.length →
                  t.pu.jobs = s.pu.jobs.set j { jobAt s j with
                    state := .suspended, next := (jobAt s j).first + (jobAt s j).acked, cutSent := false }
                  ∧ (j < 8 → (jobAt s j).state ≠ .suspended → askedFor t .pu .jobTable))
              ∧ ((∀ j, s.pu.owner ≠ .job j) → t.pu.jobs = s.pu.jobs))
          ∧ t.pu.lost = false
          ∧ (s.pu.cond ≠ .ready → t.pu = { s.pu with cond := .offline, cause := .linkDown, credits := 0, lost := false }))
      ∧ (new ≠ .up → old ≠ .up → t.pu = s.pu ∧ t.bi = s.bi ∧ t.nu = s.nu)
      ∧ (t.link .printer).path = (s.link .printer).path.tail ∧ (∀ l, l ≠ .printer → t.link l = s.link l)
      ∧ eventFrame [.pu, .lu] s t

/-- LINE_DONE (R154, R158, R160, R163): the sequence of the oldest frame in flight acknowledges it and gives a credit back; a line
of the stream moves the print index and may begin the block, a CUT ends the receipt or the job, which DOCUMENT_DONE then shows with
its first slot (R48, R163, R165); nothing else of the Print Unit moves; any other sequence is stray. At the
end of a job, and of a receipt, the owner is NONE and the arbiter looks (R160, R162, R163). The frames of a block are those of R159,
with numbers in decimal digits; that its VOID, SALE/LANE and CHECK lines are not padded to 48 characters is the model's choice (log
46). That a stray LINE_DONE asks for the Status Page also with the counter at 65,535 is the model's
choice (log 43), and that the link's notices whose turn has come are taken in the event's step (R24, R153; log 44). -/
def Obligations.LineDoneAcknowledges : Prop :=
  (∀ (s : State) (p : List Byte), s.bi.inReset = false → printerFrame s = some (kLineDone, p) →
    (∀ f rest, s.pu.flight = f :: rest → f.seq ≠ payHalf p 0) →
    ∃ t v, exec .lineDone s = .next v ∧ printNoticesTaken t v ∧ t.pu = { s.pu with stray := sat s.pu.stray } ∧ askedFor t .pu .statusPage
      ∧ t.nu = s.nu ∧ pathTaken s t .printer ∧ eventFrame [.pu, .lu] s t)
  ∧ (∀ (s : State) (p : List Byte) (f : Flight) (rest : List Flight), s.bi.inReset = false → s.nu.latches.length = 24 →
    printerFrame s = some (kLineDone, p) → s.pu.flight = f :: rest → f.seq = payHalf p 0 →
    ∃ t v, exec .lineDone s = .next v ∧ printNoticesTaken t v ∧ t.pu.flight = rest ∧ t.pu.credits = min (s.pu.credits + 1) 16
      ∧ (t.link .printer).path = (s.link .printer).path.tail ∧ (∀ l, l ≠ .printer → t.link l = s.link l)
      ∧ t.pu = { s.pu with
          flight := rest, credits := t.pu.credits, printIndex := t.pu.printIndex, receipt := t.pu.receipt, block := t.pu.block
          blockNext := t.pu.blockNext, blockAcked := t.pu.blockAcked, owner := t.pu.owner, jobs := t.pu.jobs
          jobsDone := t.pu.jobsDone, lastDone := t.pu.lastDone, lastDoneFirst := t.pu.lastDoneFirst }
      ∧ (f.kind ≠ .cut → t.pu.owner = s.pu.owner ∧ t.nu = s.nu ∧ t.su = s.su)
      ∧ (f.kind ≠ .stream → t.pu.printIndex = s.pu.printIndex ∧ t.pu.block = s.pu.block ∧ t.pu.blockNext = s.pu.blockNext)
      ∧ (f.kind ≠ .stream → f.kind ≠ .blockFrame → t.pu.blockAcked = s.pu.blockAcked)
      ∧ (f.kind = .stream ∨ f.kind = .blockFrame ∨ (∀ j, f.kind = .jobLine → s.pu.owner ≠ .job j) → f.kind ≠ .cut →
          t.pu.jobs = s.pu.jobs)
      ∧ (f.kind ≠ .cut ∨ (∀ j, s.pu.owner ≠ .job j) →
          t.pu.jobsDone = s.pu.jobsDone ∧ t.pu.lastDone = s.pu.lastDone ∧ t.pu.lastDoneFirst = s.pu.lastDoneFirst)
      ∧ (f.kind ≠ .stream → ¬ (f.kind = .cut ∧ s.pu.owner = .receipt) → t.pu.receipt = s.pu.receipt)
      ∧ (f.kind = .cut → s.pu.owner = .none →
          t.pu.owner = .none ∧ t.pu.jobs = s.pu.jobs ∧ t.nu = s.nu ∧ t.su = s.su)
      ∧ (f.kind = .stream → t.pu.printIndex = s.pu.printIndex + 1
          ∧ (s.pu.receipt = .closing → s.pu.printIndex + 1 = s.pu.closeMark →
              t.pu.receipt = .block ∧ t.pu.block = blockFrames s s.pu.blockKind ∧ t.pu.blockNext = 0 ∧ t.pu.blockAcked = 0)
          ∧ (s.pu.receipt ≠ .closing ∨ s.pu.printIndex + 1 ≠ s.pu.closeMark → t.pu.receipt = s.pu.receipt
              ∧ t.pu.block = s.pu.block ∧ t.pu.blockNext = s.pu.blockNext ∧ t.pu.blockAcked = s.pu.blockAcked))
      ∧ (f.kind = .blockFrame → t.pu.blockAcked = s.pu.blockAcked + 1 ∧ t.pu.printIndex = s.pu.printIndex)
      ∧ (∀ j, f.kind = .jobLine → s.pu.owner = .job j → j < s.pu.jobs.length →
          jobAt t j = { jobAt s j with acked := (jobAt s j).acked + 1 } ∧ (∀ k, k ≠ j → jobAt t k = jobAt s k)
          ∧ (j < 8 → askedFor t .pu .jobTable))
      ∧ (∀ j, f.kind = .cut → s.pu.owner = .job j → j < s.pu.jobs.length →
          (jobAt t j).state = .done ∧ (jobAt t j).finished = s.re.clock ∧ t.pu.jobsDone = s.pu.jobsDone + 1
          ∧ t.pu.lastDone = j ∧ t.pu.lastDoneFirst = (jobAt s j).first
          ∧ reported t .documentDone j ∧ (j < 8 → (jobAt s j).state ≠ .done → askedFor t .pu .jobTable)
          ∧ arbiterChose s.re.clock
              { s.pu with jobs := s.pu.jobs.set j { jobAt s j with state := .done, finished := s.re.clock } } t.pu)
      ∧ (f.kind = .cut → s.pu.owner = .receipt → t.pu.receipt = .ended ∧ .receiptEnded false false ∈ t.su.inbox
          ∧ arbiterChose s.re.clock { s.pu with receipt := .ended } t.pu)
      ∧ askedFor t .pu .statusPage ∧ eventFrame [.pu, .lu] s t)
  ∧ (∀ n : Nat, n < 10 ^ 24 → decimalDigits n (decimal n))
  ∧ ∀ (s : State) (kind : BlockKind), blockFrames s kind = blockRule s decimal kind

/-- The owner's next frame is made while the printer is READY with a credit (R152, R153, R157, R158, R163). The text of a slot is
fetched first, through the memory port; attribute and text are the slot's bytes, at most 48 of text. The link that takes the frame
gives it the line sequence and a place in flight and takes a credit; a full queue keeps it; a link that is not UP loses it, and
the PU waits to be told. The SU's tells begin a receipt, set its close mark and release the printer; a close mark that is reached
begins the block at its first frame, with none acknowledged; the arbiter looks where the owner is NONE (R157, R158, R160, R162). A
frame of the block carries its text, its feed count or nothing (R57, R158, R159). The owner's place moves on with the frame: the
next unsent slot, the next frame of the block, a job's next slot or its CUT. That the command comes once to begin a fetch and once
when the words are there is the model's choice, log 6; that a fetch which no longer serves the next frame is given up, its
accesses running on, is the model's reading, log 28; that the PU makes and offers no frame while events that a request held wait
there, and takes the link's notices whose turn has come in the step of a tell, log 44. -/
def Obligations.PrintFramesAndReceiptTells : Prop :=
  (∀ (s : State) (f : ReadyFrame) (fetch : Option SlotFetch), s.bi.inReset = false → s.pu.cond = .ready →
    0 < s.pu.credits → s.pu.lost = false → s.pu.ready = none → unitBusy s .pu = false → unitHolds s .pu = false →
    ((nextFrame s = some (.made f) ∧ fetch = s.pu.fetch)
      ∨ ∃ g, s.pu.fetch = some g ∧ nextFrame s = some (.slot g.slot g.flight) ∧ g.wanted = true ∧ g.left = 0 ∧ fetch = none
          ∧ f = { kind := kPrintLine, payload := le2 s.pu.lineSeq ++ slotText g.words, flight := g.flight }) →
    ∃ t, exec .printFrameOffer s = .next t ∧ t.pu.fetch = fetch
      ∧ ((s.link .printer).state = .up → (s.link .printer).tx.length < 4 →
          t.pu.flight = s.pu.flight ++ [{ seq := s.pu.lineSeq, kind := f.flight }] ∧ t.pu.credits = s.pu.credits - 1
          ∧ t.pu.lineSeq = s.pu.lineSeq + 1 ∧ t.pu.ready = none ∧ t.pu.owner = s.pu.owner ∧ t.pu.receipt = s.pu.receipt
          ∧ (t.link .printer).tx.map (fun g => (g.kind, g.payload))
              = (s.link .printer).tx.map (fun g => (g.kind, g.payload)) ++ [(f.kind, f.payload)]
          ∧ (s.pu.owner = .receipt → s.pu.receipt ≠ .block → t.pu.nextUnsent = s.pu.nextUnsent + 1)
          ∧ (s.pu.owner = .receipt → s.pu.receipt = .block → t.pu.blockNext = s.pu.blockNext + 1)
          ∧ (∀ j, s.pu.owner = .job j → j < s.pu.jobs.length →
              t.pu.jobs = s.pu.jobs.set j (if f.flight = .cut then { jobAt s j with cutSent := true }
                else { jobAt s j with next := (jobAt s j).next + 1 }))
          ∧ ((∀ j, s.pu.owner ≠ .job j) → t.pu.jobs = s.pu.jobs)
          ∧ askedFor t .pu .statusPage)
      ∧ ((s.link .printer).state = .up → 4 ≤ (s.link .printer).tx.length →
          t = s.setPu { s.pu with ready := some f, notice := false, fetch := fetch })
      ∧ ((s.link .printer).state ≠ .up → t = s.setPu { s.pu with lost := true, fetch := fetch })
      ∧ (∀ l, l ≠ .printer → t.link l = s.link l) ∧ eventFrame [.pu, .lu] s t)
  ∧ (∀ (s : State) (slot : Nat) (flight : FlightKind), s.bi.inReset = false → s.pu.cond = .ready → 0 < s.pu.credits →
    s.pu.lost = false → s.pu.ready = none → unitBusy s .pu = false → unitHolds s .pu = false →
    nextFrame s = some (.slot slot flight) →
    ∃ t, exec .printFrameOffer s = .next t
      ∧ (s.pu.fetch = none →
          t = (s.setPu { s.pu with
              fetch := some { slot := slot, flight := flight, wanted := true, left := 1, words := [] } }).setBi
            { s.bi with engine := s.bi.engine ++ [.pageEntry (slot / 64)] })
      ∧ (∀ g, s.pu.fetch = some g → g.wanted = true → g.slot = slot → g.flight = flight → g.left ≠ 0 → t = s)
      ∧ (∀ g, s.pu.fetch = some g → g.wanted = false ∨ g.slot ≠ slot ∨ g.flight ≠ flight →
          t = s.setPu { s.pu with fetch := if g.left = 0 then none else some { g with wanted := false } }))
  ∧ (∀ (s : State), s.pu.owner = .receipt →
      (s.pu.receipt = .block → nextFrame s = (s.pu.block[s.pu.blockNext]?).map fun b => .made (blockFrame s b))
      ∧ (s.pu.receipt ≠ .block → nextFrame s
          = if s.pu.nextUnsent = fillCopy s then none else some (.slot (s.pu.nextUnsent.toNat % 2048) .stream)))
  ∧ (∀ s : State,
      (∀ text, blockFrame s (.line text) = { kind := 0x30, payload := le2 s.pu.lineSeq ++ [0] ++ text, flight := .blockFrame })
      ∧ (∀ n, blockFrame s (.feed n)
          = { kind := 0x31, payload := le2 s.pu.lineSeq ++ [BitVec.ofNat 8 n], flight := .blockFrame })
      ∧ blockFrame s .cut = { kind := 0x32, payload := le2 s.pu.lineSeq, flight := .cut } ∧ cutFrame s = blockFrame s .cut)
  ∧ (∀ (s : State) (j : Nat), s.pu.owner = .job j →
      nextFrame s = if (jobAt s j).next < (jobAt s j).first + (jobAt s j).count then some (.slot (jobAt s j).next .jobLine)
        else if (jobAt s j).cutSent = true then none else some (.made (cutFrame s)))
  ∧ (∀ (mem : List Host.Cell) (fr n : Nat), n = min (Memory.readByte mem (fr + 1)).toNat 48 →
    (slotText (Memory.readWords mem fr 8 ++ Memory.readWords mem (fr + 32) 5)).length = n + 1
      ∧ (slotText (Memory.readWords mem fr 8 ++ Memory.readWords mem (fr + 32) 5))[0]? = some (Memory.readByte mem fr)
      ∧ (∀ i < n, (slotText (Memory.readWords mem fr 8 ++ Memory.readWords mem (fr + 32) 5))[i + 1]?
          = some (Memory.readByte mem (fr + 2 + i)))
      ∧ slotText [0] = [0])
  ∧ (∀ (s : State) (rest : List PrintTell), s.bi.inReset = false → unitTakes s .pu .tell = true → s.pu.tells = .receiptBegins :: rest →
    ∃ t v, exec .receiptBegin s = .next v ∧ printNoticesTaken t v ∧ t.pu.tells = rest ∧ t.pu.bound = true ∧ t.pu.receipt = .printing
      ∧ t.pu = { s.pu with tells := rest, bound := true, receipt := .printing, owner := t.pu.owner }
      ∧ t.pu.nextUnsent = s.pu.nextUnsent
      ∧ (s.pu.owner = .none → arbiterChose s.re.clock { s.pu with bound := true, receipt := .printing } t.pu)
      ∧ (s.pu.owner ≠ .none → t.pu.owner = s.pu.owner) ∧ t.pu.printIndex = s.pu.printIndex ∧ t.pu.jobs = s.pu.jobs
      ∧ askedFor t .pu .statusPage ∧ eventFrame [.pu] s t)
  ∧ (∀ (s : State) (mark : Half) (kind : BlockKind) (rest : List PrintTell), s.bi.inReset = false → unitTakes s .pu .tell = true →
    s.pu.tells = .closeMark mark kind :: rest →
    ∃ t v, exec .receiptCloseMark s = .next v ∧ printNoticesTaken t v ∧ t.pu.tells = rest ∧ t.pu.closeMark = mark ∧ t.pu.blockKind = kind
      ∧ (s.pu.printIndex = mark → t.pu.receipt = .block ∧ t.pu.block = blockFrames s kind ∧ t.pu.blockNext = 0
          ∧ t.pu.blockAcked = 0)
      ∧ (s.pu.printIndex ≠ mark → t.pu.receipt = .closing ∧ t.pu.block = s.pu.block ∧ t.pu.blockNext = s.pu.blockNext
          ∧ t.pu.blockAcked = s.pu.blockAcked)
      ∧ t.pu = { s.pu with
          tells := rest, closeMark := mark, blockKind := kind, receipt := t.pu.receipt, block := t.pu.block
          blockNext := t.pu.blockNext, blockAcked := t.pu.blockAcked }
      ∧ t.pu.owner = s.pu.owner ∧ askedFor t .pu .statusPage ∧ eventFrame [.pu] s t)
  ∧ ∀ (s : State) (rest : List PrintTell), s.bi.inReset = false → unitTakes s .pu .tell = true → s.pu.tells = .saleIdle :: rest →
    ∃ t v, exec .saleIdleTell s = .next v ∧ printNoticesTaken t v ∧ t.pu.tells = rest ∧ t.pu.bound = false ∧ t.pu.receipt = .none
      ∧ t.pu = { s.pu with tells := rest, bound := false, receipt := .none, owner := t.pu.owner, jobs := t.pu.jobs }
      ∧ (s.pu.owner = .none → arbiterChose s.re.clock { s.pu with bound := false, receipt := .none } t.pu)
      ∧ (s.pu.owner ≠ .none → t.pu.owner = s.pu.owner ∧ t.pu.jobs = s.pu.jobs)
      ∧ (s.pu.owner = .none → s.pu.cond = .ready → (∃ k < 8, (jobAt s k).state = .queued) → askedFor t .pu .jobTable)
      ∧ askedFor t .pu .statusPage ∧ eventFrame [.pu] s t

/-- PRINT_SUBMIT: the checks of R161 in order, and the QUEUED job at the lowest entry that is FREE or DONE; a printer that is
READY with no owner and no receipt takes the job submitted earliest at once, which is this one where none was QUEUED (R161, R162).
An owner stays, and of the Print Unit only the submission counter, the owner that is chosen and the job table move.
(That the PU has taken its earlier tells is the model's choice, log 8.) -/
def Obligations.PrintSubmitQueuesAJob : Prop :=
  ∀ (s : State) (first count : Nat), s.bi.inReset = false → awaits s .printSubmit = true → s.pu.tells = [] →
    s.pu.jobs.length = 8 → first = recFirstSlot s.re.record → count = recLineCount s.re.record →
    ∃ t, exec .printSubmit s = .next t
      ∧ if ¬ (2048 ≤ first ∧ first ≤ 4095 ∧ 1 ≤ count ∧ count ≤ 2048 ∧ first + count ≤ 4096) then
          answeredWith t .badParam 0 0 ∧ requestFrame [] s t
        else if ∃ p < 64, (first / 64 ≤ p ∧ p ≤ (first + count - 1) / 64) ∧ entryMaps s (pageEntry s p) = false then
          answeredWith t .badParam 0 0 ∧ requestFrame [] s t
        else match s.pu.jobs.findIdx? fun b => decide (b.state = .free) || decide (b.state = .done) with
          | none => answeredWith t .tableFull 0 0 ∧ requestFrame [] s t
          | some j => answeredWith t .done (BitVec.ofNat 32 j) (BitVec.ofNat 32 first)
              ∧ t.pu.submissions = s.pu.submissions + 1
              ∧ (jobAt t j).first = first ∧ (jobAt t j).count = count ∧ (jobAt t j).next = first ∧ (jobAt t j).acked = 0
              ∧ (jobAt t j).cutSent = false
              ∧ (jobAt t j).submission = s.pu.submissions ∧ (jobAt t j).submitted = s.re.clock ∧ (jobAt t j).finished = 0
              ∧ (∀ i < count, slotProtected t (first + i) = true)
              ∧ (s.pu.owner ≠ .none ∨ s.pu.bound = true ∨ s.pu.cond ≠ .ready →
                  (jobAt t j).state = .queued ∧ (jobAt t j).started = 0 ∧ ∀ k, k ≠ j → jobAt t k = jobAt s k)
              ∧ (s.pu.owner = .none → arbiterChose s.re.clock
                  { s.pu with
                    submissions := s.pu.submissions + 1
                    jobs := s.pu.jobs.set j { jobAt t j with state := .queued, started := 0 } } t.pu)
              ∧ (s.pu.owner = .none → s.pu.bound = false → s.pu.cond = .ready → (∀ b ∈ s.pu.jobs, b.state ≠ .queued) →
                  (jobAt t j).state = .printing ∧ (jobAt t j).started = s.re.clock ∧ t.pu.owner = .job j)
              ∧ (s.pu.owner ≠ .none ∨ (s.pu.bound = false ∧ s.pu.cond ≠ .ready) → t.pu.owner = s.pu.owner)
              ∧ t.pu = { s.pu with submissions := s.pu.submissions + 1, owner := t.pu.owner, jobs := t.pu.jobs }
              ∧ askedFor t .pu .jobTable ∧ askedFor t .pu .statusPage ∧ requestFrame [.pu] s t

/-- RECEIPT_ABANDON's checks in their order, and what a request that passes drops, ends, keeps and claims; its completion
waits for the SU's window (R164). (That the PU has taken its earlier tells is the model's choice, log 8.) -/
def Obligations.ReceiptAbandonEndsTheReceipt : Prop :=
  ∀ s : State, s.bi.inReset = false → awaits s .receiptAbandon = true → s.pu.tells = [] →
    ∃ t, exec .receiptAbandon s = .next t
      ∧ if s.pu.receipt ≠ .closing ∧ s.pu.receipt ≠ .block then answeredWith t .wrongState 0 0 ∧ requestFrame [] s t
        else if s.pu.cond = .ready then answeredWith t .wrongState 0 0 ∧ requestFrame [] s t
        else if s.tu.key = false then answeredWith t .needKey 0 0 ∧ requestFrame [] s t
        else answeredWith t .done s.su.header.number 0
          ∧ t.pu.printIndex = s.pu.closeMark ∧ t.pu.nextUnsent = s.pu.closeMark ∧ t.pu.block = []
          ∧ t.pu.receipt = .ended ∧ (s.pu.owner = .receipt → t.pu.owner = .none)
          ∧ (∀ j, s.pu.owner = .job j → t.pu.owner = .job j) ∧ t.pu.jobs = s.pu.jobs ∧ t.pu.flight = s.pu.flight
          ∧ (fillCopy s = s.pu.closeMark → ∀ slot < 2048, slotProtected t slot = false)
          ∧ t.su = { s.su with inbox := s.su.inbox ++ [.receiptEnded true true] }
          ∧ t.re.phase = .executing ∧ askedFor t .pu .statusPage ∧ requestFrame [.pu] s t

/-! ### Closing -/

/-- SALE_CLOSE and SALE_ABORT: the checks of R170 and R171 in their order, with the till's answer to a refund (R149), and the sale
CLOSING with its entry fixed, every field as R169 gives it, and the carries taken; an abort that holds cash kicks a shut drawer
with cause REFUND. (That the JU has taken its tells is the model's choice, log 8.) -/
def Obligations.CloseAndAbortEnterClosing : Prop :=
  (∀ s : State, s.bi.inReset = false → suTakes s .saleClose = true → s.ju.tells = 0 →
    ∃ t, exec .saleClose s = .next t
      ∧ if s.su.header.state ≠ .opened ∧ s.su.header.state ≠ .tendering ∧ s.su.header.state ≠ .settled then
          answeredWith t .wrongState 0 0 ∧ requestFrame [] s t
        else if s.su.header.bagHold = true ∨ s.su.tenderHold = true then answeredWith t .held 0 0 ∧ requestFrame [] s t
        else if s.su.header.state ≠ .settled then answeredWith t .wrongState 0 0 ∧ requestFrame [] s t
        else ∃ e : JournalEntry, t.ju = { s.ju with fixed := some e, forcedCarry := 0, nosaleCarry := 0 }
          ∧ closingEntry s .sale e
          ∧ answeredWith t .done s.su.header.number (e.check.setWidth 32)
          ∧ t.su.header = { s.su.header with
              state := .closing, outcome := .sold, closeMark := fillCopy s, endStamp := s.re.clock }
          ∧ t.su.lines = s.su.lines ∧ t.su.tenders = s.su.tenders
          ∧ (∃ v, t.su.event = some v ∧ v.after = [.tellPrint (.closeMark (fillCopy s) .closing), .tellBag .saleClosing])
          ∧ saleEventWrites s t 0 [] ∧ saleEventAsked t ∧ requestFrame [.su, .ju] s t)
  ∧ ∀ (s : State) (cash : Bool), s.bi.inReset = false → suTakes s .saleAbort = true → s.ju.tells = 0 →
    cash = (s.su.tenders.any fun x => decide (x.state = .taken)) →
    ∃ t, exec .saleAbort s = .next t
      ∧ if s.su.header.state ≠ .opened ∧ s.su.header.state ≠ .tendering then answeredWith t .wrongState 0 0 ∧ requestFrame [] s t
        else if (∃ x ∈ s.su.tenders, x.state = .requested ∨ x.state = .cancelling ∨ x.state = .unresolved ∨ x.state = .approved) then
          answeredWith t .wrongState 0 0 ∧ requestFrame [] s t
        else if cash = true ∧ s.tu.key = false then answeredWith t .needKey 0 0 ∧ requestFrame [] s t
        else if cash = true ∧ s.tu.drawer = .fault then answeredWith t .drawerFault 0 0 ∧ requestFrame [] s t
        else ∃ e : JournalEntry, t.ju = { s.ju with fixed := some e, forcedCarry := 0, nosaleCarry := 0 }
          ∧ closingEntry s .void e
          ∧ answeredWith t .done s.su.header.number (e.check.setWidth 32)
          ∧ t.su.header = { s.su.header with
              state := .closing, outcome := .voided, closeMark := fillCopy s, endStamp := s.re.clock }
          ∧ t.su.lines = s.su.lines ∧ t.su.tenders = s.su.tenders
          ∧ (∃ v, t.su.event = some v ∧ v.after = [.tellPrint (.closeMark (fillCopy s) .void), .tellBag .saleClosing])
          ∧ (cash = true → s.tu.drawer = .shut →
              t.tu = { s.tu with
                drawer := .kicking, cause := .refund, attempts := 1, solenoid := true
                width := startTimer s (cfg s).kickWidth, confirm := startTimer s (cfg s).kickConfirm }
              ∧ askedFor t .tu .statusPage)
          ∧ (cash = false ∨ s.tu.drawer ≠ .shut → t.tu = s.tu)
          ∧ saleEventWrites s t 0 [] ∧ saleEventAsked t ∧ requestFrame [.su, .ju, .tu] s t

/-- The end of CLOSING (R169, R172): the fixed entry's 64 bytes (R179), RECEIPT_INCOMPLETE among its flags, go to its slot with
the head that follows it, in the JU's window, and the SU's window, SALE_FINISHED and the tells follow it; the sale is IDLE. That
notices of frames sent which an ended request held are taken in the same step is the model's reading (R24; log 44). -/
def Obligations.EndedReceiptFinishesTheSale : Prop :=
  (∀ (s : State) (incomplete q : Bool) (e : JournalEntry), s.bi.inReset = false →
    suFront s = some (.receiptEnded incomplete q) → s.ju.fixed = some e →
    ∃ t, exec .receiptEndedClaim s = .next t ∧ t.ju = { s.ju with fixed := none }
      ∧ t.su.header = { s.su.header with state := .idle } ∧ t.su.lines = s.su.lines ∧ t.su.tenders = s.su.tenders
      ∧ t.su.inbox = s.su.inbox.tail
      ∧ t.su.finished = { number := s.su.header.number, outcome := s.su.header.outcome, entry := e.number
                          incomplete := incomplete, byKey := e.byKey }
      ∧ (∃ w ∈ t.bi.waiting, w.owner = .ju ∧ w.sections = [.journal, .statusPage] ∧ w.after = [.headAdvance, .suWrite]
          ∧ ∃ entry, w.fixed = entry ++ [(0x2024, e.number + 1), (0x2028, s.bi.journalExport)]
            ∧ bytesFrom (0x10000 + e.number.toNat % 2048 * 64) entry
                (entryBytes e ((if incomplete then 1 else 0) + (if e.byKey then 2 else 0)) ++ le2 e.check))
      ∧ saleEventWrites s t 0 []
      ∧ (∃ v, t.su.event = some v ∧ v.after = [.saleFinished, .tellBag .saleEnded, .tellPrint .saleIdle] ∧ v.ofRequest = q)
      ∧ eventFrame [.su, .ju] s t)
  ∧ ∀ (s : State) (i : Nat) (o : OpenWindow), s.bi.inReset = false → s.nu.latches.length = 24 →
    s.bi.opened[i]? = some o → o.owner ≠ .nu → windowWritten s o.id = true →
    o.after = [.saleFinished, .tellBag .saleEnded, .tellPrint .saleIdle, .suDone] → s.re.resetting = [] →
    (∀ a n, s.bi.hostStall ≠ some (.readHeld a n)) →
    ∃ t v, exec (.updateWindowClose i) s = .next v ∧ noticesFreed s t v ∧ reported t .saleFinished 0
      ∧ t.bwu = { s.bwu with tells := s.bwu.tells ++ [.saleEnded] } ∧ t.pu = { s.pu with tells := s.pu.tells ++ [.saleIdle] }
      ∧ t.su.event = none ∧ t.su.header = s.su.header ∧ eventFrame [.bi, .re, .su, .bwu, .pu] s t

/-! ### Laws every step keeps -/

/-- Memory keeps its canonical form (the model's own law, log 11). -/
def Obligations.MemoryStaysCanonical : Prop :=
  ∀ s t : State, memoryCanonical s → step s = .next t → memoryCanonical t

/-- The event ring never overflows: unconsumed records, the reservation and a condition record begun keep within its 256 slots,
and the reservation stands exactly while a request is in hand (R41-R44). -/
def Obligations.RingNeverOverflows : Prop :=
  ∀ s t : State, ringLaw s → step s = .next t → ringLaw t

/-- LANE_ATTN is asserted exactly while the producer index differs from the consumer copy, after every step (R50). -/
def Obligations.AttentionLineFollowsTheIndices : Prop :=
  ∀ s t : State, ringLaw s → lineLaw s → step s = .next t → lineLaw t

/-- No two open windows share a section, and none touches a read burst being served (R16, R17). -/
def Obligations.OpenWindowsNeverMeet : Prop :=
  ∀ s t : State, windowLaw s → step s = .next t → windowLaw t

/-- Credits and frames in flight never exceed 16 together; the receive buffers hold at most two frames each; and the job table has
8 entries, and the line table, the tender table and the verdict list keep within their sizes (R63, R95, R97, R124, R153-R155). The
consume claim of an ITEM_WEIGH stands only while that request is in execution, which needs the law of the ring. -/
def Obligations.BuffersAndTablesKeepTheirSizes : Prop :=
  (∀ s t : State, flightLaw s → step s = .next t → flightLaw t)
  ∧ ∀ s t : State, ringLaw s → bufferLaw s → tableLaw s → step s = .next t → bufferLaw t ∧ tableLaw t

/-- The solenoid is energised only while its width timer runs and the drawer is KICKING, and no kick begins while UNCONFIGURED
(R28, R140, R141). That no request is in hand while a LANE_RESET is being applied comes from the law of the ring. -/
def Obligations.SolenoidOnlyInAKick : Prop :=
  ∀ s t : State, ringLaw s → solenoidLaw s → step s = .next t → solenoidLaw t

end
end

