-- ==== Sys2Proof/Laws/State.lean ====
section
/-! SUPPORT. One lemma for each field of the state and each block setter, all true by definition, so that no proof unfolds a
record update; and the links by number. -/

namespace Sys2Proof.Machine

section Bi
variable (s : State) (x : Bi)
@[simp] theorem State.setBi_bi : (s.setBi x).bi = x := rfl
@[simp] theorem State.setBi_re : (s.setBi x).re = s.re := rfl
@[simp] theorem State.setBi_nu : (s.setBi x).nu = s.nu := rfl
@[simp] theorem State.setBi_lu : (s.setBi x).lu = s.lu := rfl
@[simp] theorem State.setBi_pwu : (s.setBi x).pwu = s.pwu := rfl
@[simp] theorem State.setBi_bwu : (s.setBi x).bwu = s.bwu := rfl
@[simp] theorem State.setBi_su : (s.setBi x).su = s.su := rfl
@[simp] theorem State.setBi_ctu : (s.setBi x).ctu = s.ctu := rfl
@[simp] theorem State.setBi_tu : (s.setBi x).tu = s.tu := rfl
@[simp] theorem State.setBi_pu : (s.setBi x).pu = s.pu := rfl
@[simp] theorem State.setBi_ju : (s.setBi x).ju = s.ju := rfl
@[simp] theorem State.setBi_mem : (s.setBi x).mem = s.mem := rfl
@[simp] theorem State.setBi_free : (s.setBi x).free = s.free := rfl
@[simp] theorem State.setBi_arrivals : (s.setBi x).arrivals = s.arrivals := rfl
@[simp] theorem State.setBi_pending : (s.setBi x).pending = s.pending := rfl
end Bi

section Re
variable (s : State) (x : Re)
@[simp] theorem State.setRe_bi : (s.setRe x).bi = s.bi := rfl
@[simp] theorem State.setRe_re : (s.setRe x).re = x := rfl
@[simp] theorem State.setRe_nu : (s.setRe x).nu = s.nu := rfl
@[simp] theorem State.setRe_lu : (s.setRe x).lu = s.lu := rfl
@[simp] theorem State.setRe_pwu : (s.setRe x).pwu = s.pwu := rfl
@[simp] theorem State.setRe_bwu : (s.setRe x).bwu = s.bwu := rfl
@[simp] theorem State.setRe_su : (s.setRe x).su = s.su := rfl
@[simp] theorem State.setRe_ctu : (s.setRe x).ctu = s.ctu := rfl
@[simp] theorem State.setRe_tu : (s.setRe x).tu = s.tu := rfl
@[simp] theorem State.setRe_pu : (s.setRe x).pu = s.pu := rfl
@[simp] theorem State.setRe_ju : (s.setRe x).ju = s.ju := rfl
@[simp] theorem State.setRe_mem : (s.setRe x).mem = s.mem := rfl
@[simp] theorem State.setRe_free : (s.setRe x).free = s.free := rfl
@[simp] theorem State.setRe_arrivals : (s.setRe x).arrivals = s.arrivals := rfl
@[simp] theorem State.setRe_pending : (s.setRe x).pending = s.pending := rfl
end Re

section Nu
variable (s : State) (x : Nu)
@[simp] theorem State.setNu_bi : (s.setNu x).bi = s.bi := rfl
@[simp] theorem State.setNu_re : (s.setNu x).re = s.re := rfl
@[simp] theorem State.setNu_nu : (s.setNu x).nu = x := rfl
@[simp] theorem State.setNu_lu : (s.setNu x).lu = s.lu := rfl
@[simp] theorem State.setNu_pwu : (s.setNu x).pwu = s.pwu := rfl
@[simp] theorem State.setNu_bwu : (s.setNu x).bwu = s.bwu := rfl
@[simp] theorem State.setNu_su : (s.setNu x).su = s.su := rfl
@[simp] theorem State.setNu_ctu : (s.setNu x).ctu = s.ctu := rfl
@[simp] theorem State.setNu_tu : (s.setNu x).tu = s.tu := rfl
@[simp] theorem State.setNu_pu : (s.setNu x).pu = s.pu := rfl
@[simp] theorem State.setNu_ju : (s.setNu x).ju = s.ju := rfl
@[simp] theorem State.setNu_mem : (s.setNu x).mem = s.mem := rfl
@[simp] theorem State.setNu_free : (s.setNu x).free = s.free := rfl
@[simp] theorem State.setNu_arrivals : (s.setNu x).arrivals = s.arrivals := rfl
@[simp] theorem State.setNu_pending : (s.setNu x).pending = s.pending := rfl
end Nu

section Lu
variable (s : State) (x : Lu)
@[simp] theorem State.setLu_bi : (s.setLu x).bi = s.bi := rfl
@[simp] theorem State.setLu_re : (s.setLu x).re = s.re := rfl
@[simp] theorem State.setLu_nu : (s.setLu x).nu = s.nu := rfl
@[simp] theorem State.setLu_lu : (s.setLu x).lu = x := rfl
@[simp] theorem State.setLu_pwu : (s.setLu x).pwu = s.pwu := rfl
@[simp] theorem State.setLu_bwu : (s.setLu x).bwu = s.bwu := rfl
@[simp] theorem State.setLu_su : (s.setLu x).su = s.su := rfl
@[simp] theorem State.setLu_ctu : (s.setLu x).ctu = s.ctu := rfl
@[simp] theorem State.setLu_tu : (s.setLu x).tu = s.tu := rfl
@[simp] theorem State.setLu_pu : (s.setLu x).pu = s.pu := rfl
@[simp] theorem State.setLu_ju : (s.setLu x).ju = s.ju := rfl
@[simp] theorem State.setLu_mem : (s.setLu x).mem = s.mem := rfl
@[simp] theorem State.setLu_free : (s.setLu x).free = s.free := rfl
@[simp] theorem State.setLu_arrivals : (s.setLu x).arrivals = s.arrivals := rfl
@[simp] theorem State.setLu_pending : (s.setLu x).pending = s.pending := rfl
end Lu

section Pwu
variable (s : State) (x : Pwu)
@[simp] theorem State.setPwu_bi : (s.setPwu x).bi = s.bi := rfl
@[simp] theorem State.setPwu_re : (s.setPwu x).re = s.re := rfl
@[simp] theorem State.setPwu_nu : (s.setPwu x).nu = s.nu := rfl
@[simp] theorem State.setPwu_lu : (s.setPwu x).lu = s.lu := rfl
@[simp] theorem State.setPwu_pwu : (s.setPwu x).pwu = x := rfl
@[simp] theorem State.setPwu_bwu : (s.setPwu x).bwu = s.bwu := rfl
@[simp] theorem State.setPwu_su : (s.setPwu x).su = s.su := rfl
@[simp] theorem State.setPwu_ctu : (s.setPwu x).ctu = s.ctu := rfl
@[simp] theorem State.setPwu_tu : (s.setPwu x).tu = s.tu := rfl
@[simp] theorem State.setPwu_pu : (s.setPwu x).pu = s.pu := rfl
@[simp] theorem State.setPwu_ju : (s.setPwu x).ju = s.ju := rfl
@[simp] theorem State.setPwu_mem : (s.setPwu x).mem = s.mem := rfl
@[simp] theorem State.setPwu_free : (s.setPwu x).free = s.free := rfl
@[simp] theorem State.setPwu_arrivals : (s.setPwu x).arrivals = s.arrivals := rfl
@[simp] theorem State.setPwu_pending : (s.setPwu x).pending = s.pending := rfl
end Pwu

section Bwu
variable (s : State) (x : Bwu)
@[simp] theorem State.setBwu_bi : (s.setBwu x).bi = s.bi := rfl
@[simp] theorem State.setBwu_re : (s.setBwu x).re = s.re := rfl
@[simp] theorem State.setBwu_nu : (s.setBwu x).nu = s.nu := rfl
@[simp] theorem State.setBwu_lu : (s.setBwu x).lu = s.lu := rfl
@[simp] theorem State.setBwu_pwu : (s.setBwu x).pwu = s.pwu := rfl
@[simp] theorem State.setBwu_bwu : (s.setBwu x).bwu = x := rfl
@[simp] theorem State.setBwu_su : (s.setBwu x).su = s.su := rfl
@[simp] theorem State.setBwu_ctu : (s.setBwu x).ctu = s.ctu := rfl
@[simp] theorem State.setBwu_tu : (s.setBwu x).tu = s.tu := rfl
@[simp] theorem State.setBwu_pu : (s.setBwu x).pu = s.pu := rfl
@[simp] theorem State.setBwu_ju : (s.setBwu x).ju = s.ju := rfl
@[simp] theorem State.setBwu_mem : (s.setBwu x).mem = s.mem := rfl
@[simp] theorem State.setBwu_free : (s.setBwu x).free = s.free := rfl
@[simp] theorem State.setBwu_arrivals : (s.setBwu x).arrivals = s.arrivals := rfl
@[simp] theorem State.setBwu_pending : (s.setBwu x).pending = s.pending := rfl
end Bwu

section Su
variable (s : State) (x : Su)
@[simp] theorem State.setSu_bi : (s.setSu x).bi = s.bi := rfl
@[simp] theorem State.setSu_re : (s.setSu x).re = s.re := rfl
@[simp] theorem State.setSu_nu : (s.setSu x).nu = s.nu := rfl
@[simp] theorem State.setSu_lu : (s.setSu x).lu = s.lu := rfl
@[simp] theorem State.setSu_pwu : (s.setSu x).pwu = s.pwu := rfl
@[simp] theorem State.setSu_bwu : (s.setSu x).bwu = s.bwu := rfl
@[simp] theorem State.setSu_su : (s.setSu x).su = x := rfl
@[simp] theorem State.setSu_ctu : (s.setSu x).ctu = s.ctu := rfl
@[simp] theorem State.setSu_tu : (s.setSu x).tu = s.tu := rfl
@[simp] theorem State.setSu_pu : (s.setSu x).pu = s.pu := rfl
@[simp] theorem State.setSu_ju : (s.setSu x).ju = s.ju := rfl
@[simp] theorem State.setSu_mem : (s.setSu x).mem = s.mem := rfl
@[simp] theorem State.setSu_free : (s.setSu x).free = s.free := rfl
@[simp] theorem State.setSu_arrivals : (s.setSu x).arrivals = s.arrivals := rfl
@[simp] theorem State.setSu_pending : (s.setSu x).pending = s.pending := rfl
end Su

section Ctu
variable (s : State) (x : Ctu)
@[simp] theorem State.setCtu_bi : (s.setCtu x).bi = s.bi := rfl
@[simp] theorem State.setCtu_re : (s.setCtu x).re = s.re := rfl
@[simp] theorem State.setCtu_nu : (s.setCtu x).nu = s.nu := rfl
@[simp] theorem State.setCtu_lu : (s.setCtu x).lu = s.lu := rfl
@[simp] theorem State.setCtu_pwu : (s.setCtu x).pwu = s.pwu := rfl
@[simp] theorem State.setCtu_bwu : (s.setCtu x).bwu = s.bwu := rfl
@[simp] theorem State.setCtu_su : (s.setCtu x).su = s.su := rfl
@[simp] theorem State.setCtu_ctu : (s.setCtu x).ctu = x := rfl
@[simp] theorem State.setCtu_tu : (s.setCtu x).tu = s.tu := rfl
@[simp] theorem State.setCtu_pu : (s.setCtu x).pu = s.pu := rfl
@[simp] theorem State.setCtu_ju : (s.setCtu x).ju = s.ju := rfl
@[simp] theorem State.setCtu_mem : (s.setCtu x).mem = s.mem := rfl
@[simp] theorem State.setCtu_free : (s.setCtu x).free = s.free := rfl
@[simp] theorem State.setCtu_arrivals : (s.setCtu x).arrivals = s.arrivals := rfl
@[simp] theorem State.setCtu_pending : (s.setCtu x).pending = s.pending := rfl
end Ctu

section Tu
variable (s : State) (x : Tu)
@[simp] theorem State.setTu_bi : (s.setTu x).bi = s.bi := rfl
@[simp] theorem State.setTu_re : (s.setTu x).re = s.re := rfl
@[simp] theorem State.setTu_nu : (s.setTu x).nu = s.nu := rfl
@[simp] theorem State.setTu_lu : (s.setTu x).lu = s.lu := rfl
@[simp] theorem State.setTu_pwu : (s.setTu x).pwu = s.pwu := rfl
@[simp] theorem State.setTu_bwu : (s.setTu x).bwu = s.bwu := rfl
@[simp] theorem State.setTu_su : (s.setTu x).su = s.su := rfl
@[simp] theorem State.setTu_ctu : (s.setTu x).ctu = s.ctu := rfl
@[simp] theorem State.setTu_tu : (s.setTu x).tu = x := rfl
@[simp] theorem State.setTu_pu : (s.setTu x).pu = s.pu := rfl
@[simp] theorem State.setTu_ju : (s.setTu x).ju = s.ju := rfl
@[simp] theorem State.setTu_mem : (s.setTu x).mem = s.mem := rfl
@[simp] theorem State.setTu_free : (s.setTu x).free = s.free := rfl
@[simp] theorem State.setTu_arrivals : (s.setTu x).arrivals = s.arrivals := rfl
@[simp] theorem State.setTu_pending : (s.setTu x).pending = s.pending := rfl
end Tu

section Pu
variable (s : State) (x : Pu)
@[simp] theorem State.setPu_bi : (s.setPu x).bi = s.bi := rfl
@[simp] theorem State.setPu_re : (s.setPu x).re = s.re := rfl
@[simp] theorem State.setPu_nu : (s.setPu x).nu = s.nu := rfl
@[simp] theorem State.setPu_lu : (s.setPu x).lu = s.lu := rfl
@[simp] theorem State.setPu_pwu : (s.setPu x).pwu = s.pwu := rfl
@[simp] theorem State.setPu_bwu : (s.setPu x).bwu = s.bwu := rfl
@[simp] theorem State.setPu_su : (s.setPu x).su = s.su := rfl
@[simp] theorem State.setPu_ctu : (s.setPu x).ctu = s.ctu := rfl
@[simp] theorem State.setPu_tu : (s.setPu x).tu = s.tu := rfl
@[simp] theorem State.setPu_pu : (s.setPu x).pu = x := rfl
@[simp] theorem State.setPu_ju : (s.setPu x).ju = s.ju := rfl
@[simp] theorem State.setPu_mem : (s.setPu x).mem = s.mem := rfl
@[simp] theorem State.setPu_free : (s.setPu x).free = s.free := rfl
@[simp] theorem State.setPu_arrivals : (s.setPu x).arrivals = s.arrivals := rfl
@[simp] theorem State.setPu_pending : (s.setPu x).pending = s.pending := rfl
end Pu

section Ju
variable (s : State) (x : Ju)
@[simp] theorem State.setJu_bi : (s.setJu x).bi = s.bi := rfl
@[simp] theorem State.setJu_re : (s.setJu x).re = s.re := rfl
@[simp] theorem State.setJu_nu : (s.setJu x).nu = s.nu := rfl
@[simp] theorem State.setJu_lu : (s.setJu x).lu = s.lu := rfl
@[simp] theorem State.setJu_pwu : (s.setJu x).pwu = s.pwu := rfl
@[simp] theorem State.setJu_bwu : (s.setJu x).bwu = s.bwu := rfl
@[simp] theorem State.setJu_su : (s.setJu x).su = s.su := rfl
@[simp] theorem State.setJu_ctu : (s.setJu x).ctu = s.ctu := rfl
@[simp] theorem State.setJu_tu : (s.setJu x).tu = s.tu := rfl
@[simp] theorem State.setJu_pu : (s.setJu x).pu = s.pu := rfl
@[simp] theorem State.setJu_ju : (s.setJu x).ju = x := rfl
@[simp] theorem State.setJu_mem : (s.setJu x).mem = s.mem := rfl
@[simp] theorem State.setJu_free : (s.setJu x).free = s.free := rfl
@[simp] theorem State.setJu_arrivals : (s.setJu x).arrivals = s.arrivals := rfl
@[simp] theorem State.setJu_pending : (s.setJu x).pending = s.pending := rfl
end Ju

section Mem
variable (s : State) (x : List Host.Cell)
@[simp] theorem State.setMem_bi : (s.setMem x).bi = s.bi := rfl
@[simp] theorem State.setMem_re : (s.setMem x).re = s.re := rfl
@[simp] theorem State.setMem_nu : (s.setMem x).nu = s.nu := rfl
@[simp] theorem State.setMem_lu : (s.setMem x).lu = s.lu := rfl
@[simp] theorem State.setMem_pwu : (s.setMem x).pwu = s.pwu := rfl
@[simp] theorem State.setMem_bwu : (s.setMem x).bwu = s.bwu := rfl
@[simp] theorem State.setMem_su : (s.setMem x).su = s.su := rfl
@[simp] theorem State.setMem_ctu : (s.setMem x).ctu = s.ctu := rfl
@[simp] theorem State.setMem_tu : (s.setMem x).tu = s.tu := rfl
@[simp] theorem State.setMem_pu : (s.setMem x).pu = s.pu := rfl
@[simp] theorem State.setMem_ju : (s.setMem x).ju = s.ju := rfl
@[simp] theorem State.setMem_mem : (s.setMem x).mem = x := rfl
@[simp] theorem State.setMem_free : (s.setMem x).free = s.free := rfl
@[simp] theorem State.setMem_arrivals : (s.setMem x).arrivals = s.arrivals := rfl
@[simp] theorem State.setMem_pending : (s.setMem x).pending = s.pending := rfl
end Mem

section Free
variable (s : State) (x : Nat)
@[simp] theorem State.setFree_bi : (s.setFree x).bi = s.bi := rfl
@[simp] theorem State.setFree_re : (s.setFree x).re = s.re := rfl
@[simp] theorem State.setFree_nu : (s.setFree x).nu = s.nu := rfl
@[simp] theorem State.setFree_lu : (s.setFree x).lu = s.lu := rfl
@[simp] theorem State.setFree_pwu : (s.setFree x).pwu = s.pwu := rfl
@[simp] theorem State.setFree_bwu : (s.setFree x).bwu = s.bwu := rfl
@[simp] theorem State.setFree_su : (s.setFree x).su = s.su := rfl
@[simp] theorem State.setFree_ctu : (s.setFree x).ctu = s.ctu := rfl
@[simp] theorem State.setFree_tu : (s.setFree x).tu = s.tu := rfl
@[simp] theorem State.setFree_pu : (s.setFree x).pu = s.pu := rfl
@[simp] theorem State.setFree_ju : (s.setFree x).ju = s.ju := rfl
@[simp] theorem State.setFree_mem : (s.setFree x).mem = s.mem := rfl
@[simp] theorem State.setFree_free : (s.setFree x).free = x := rfl
@[simp] theorem State.setFree_arrivals : (s.setFree x).arrivals = s.arrivals := rfl
@[simp] theorem State.setFree_pending : (s.setFree x).pending = s.pending := rfl
end Free

section Arrivals
variable (s : State) (x : List Arrival)
@[simp] theorem State.setArrivals_bi : (s.setArrivals x).bi = s.bi := rfl
@[simp] theorem State.setArrivals_re : (s.setArrivals x).re = s.re := rfl
@[simp] theorem State.setArrivals_nu : (s.setArrivals x).nu = s.nu := rfl
@[simp] theorem State.setArrivals_lu : (s.setArrivals x).lu = s.lu := rfl
@[simp] theorem State.setArrivals_pwu : (s.setArrivals x).pwu = s.pwu := rfl
@[simp] theorem State.setArrivals_bwu : (s.setArrivals x).bwu = s.bwu := rfl
@[simp] theorem State.setArrivals_su : (s.setArrivals x).su = s.su := rfl
@[simp] theorem State.setArrivals_ctu : (s.setArrivals x).ctu = s.ctu := rfl
@[simp] theorem State.setArrivals_tu : (s.setArrivals x).tu = s.tu := rfl
@[simp] theorem State.setArrivals_pu : (s.setArrivals x).pu = s.pu := rfl
@[simp] theorem State.setArrivals_ju : (s.setArrivals x).ju = s.ju := rfl
@[simp] theorem State.setArrivals_mem : (s.setArrivals x).mem = s.mem := rfl
@[simp] theorem State.setArrivals_free : (s.setArrivals x).free = s.free := rfl
@[simp] theorem State.setArrivals_pending : (s.setArrivals x).pending = s.pending := rfl
@[simp] theorem State.setArrivals_arrivals : (s.setArrivals x).arrivals = x := rfl
end Arrivals

section Links
variable (s : State) (l : LinkId) (x : Link)
@[simp] theorem State.setLink_bi : (s.setLink l x).bi = s.bi := rfl
@[simp] theorem State.setLink_re : (s.setLink l x).re = s.re := rfl
@[simp] theorem State.setLink_nu : (s.setLink l x).nu = s.nu := rfl
@[simp] theorem State.setLink_pwu : (s.setLink l x).pwu = s.pwu := rfl
@[simp] theorem State.setLink_bwu : (s.setLink l x).bwu = s.bwu := rfl
@[simp] theorem State.setLink_su : (s.setLink l x).su = s.su := rfl
@[simp] theorem State.setLink_ctu : (s.setLink l x).ctu = s.ctu := rfl
@[simp] theorem State.setLink_tu : (s.setLink l x).tu = s.tu := rfl
@[simp] theorem State.setLink_pu : (s.setLink l x).pu = s.pu := rfl
@[simp] theorem State.setLink_ju : (s.setLink l x).ju = s.ju := rfl
@[simp] theorem State.setLink_mem : (s.setLink l x).mem = s.mem := rfl
@[simp] theorem State.setLink_free : (s.setLink l x).free = s.free := rfl
@[simp] theorem State.setLink_arrivals : (s.setLink l x).arrivals = s.arrivals := rfl
@[simp] theorem State.setLink_pending : (s.setLink l x).pending = s.pending := rfl
@[simp] theorem State.setLink_lu : (s.setLink l x).lu = s.lu.set l x := rfl
@[simp] theorem Lu.get_set_same (u : Lu) : (u.set l x).get l = x := by cases l <;> rfl
@[simp] theorem State.link_setLink_same : (s.setLink l x).link l = x := Lu.get_set_same l x s.lu
theorem Lu.get_set_other (u : Lu) (k : LinkId) (h : k ≠ l) : (u.set l x).get k = u.get k := by
  cases l <;> cases k <;> first | rfl | exact absurd rfl h
theorem State.link_setLink_other (k : LinkId) (h : k ≠ l) : (s.setLink l x).link k = s.link k :=
  Lu.get_set_other l x s.lu k h
end Links

section Arriving
@[simp] theorem arriveAfter_keeps (s : State) (old : List Arrival) (es : List (BlockId × UnitEvent)) :
    (arriveAfter s old es).bi = s.bi ∧ (arriveAfter s old es).re = s.re ∧ (arriveAfter s old es).nu = s.nu ∧
    (arriveAfter s old es).lu = s.lu ∧ (arriveAfter s old es).pwu = s.pwu ∧ (arriveAfter s old es).bwu = s.bwu ∧
    (arriveAfter s old es).su = s.su ∧ (arriveAfter s old es).ctu = s.ctu ∧ (arriveAfter s old es).tu = s.tu ∧
    (arriveAfter s old es).pu = s.pu ∧ (arriveAfter s old es).ju = s.ju ∧ (arriveAfter s old es).mem = s.mem ∧
    (arriveAfter s old es).free = s.free ∧ (arriveAfter s old es).pending = s.pending :=
  ⟨rfl, rfl, rfl, rfl, rfl, rfl, rfl, rfl, rfl, rfl, rfl, rfl, rfl, rfl⟩
@[simp] theorem arriveAfter_link (s : State) (old : List Arrival) (es : List (BlockId × UnitEvent)) (k : LinkId) : (arriveAfter s old es).link k = s.link k := rfl
@[simp] theorem arriveAll_keeps (s : State) (es : List (BlockId × UnitEvent)) :
    (arriveAll s es).bi = s.bi ∧ (arriveAll s es).re = s.re ∧ (arriveAll s es).nu = s.nu ∧
    (arriveAll s es).lu = s.lu ∧ (arriveAll s es).pwu = s.pwu ∧ (arriveAll s es).bwu = s.bwu ∧
    (arriveAll s es).su = s.su ∧ (arriveAll s es).ctu = s.ctu ∧ (arriveAll s es).tu = s.tu ∧
    (arriveAll s es).pu = s.pu ∧ (arriveAll s es).ju = s.ju ∧ (arriveAll s es).mem = s.mem ∧
    (arriveAll s es).free = s.free ∧ (arriveAll s es).pending = s.pending :=
  ⟨rfl, rfl, rfl, rfl, rfl, rfl, rfl, rfl, rfl, rfl, rfl, rfl, rfl, rfl⟩
@[simp] theorem arriveAll_link (s : State) (es : List (BlockId × UnitEvent)) (k : LinkId) : (arriveAll s es).link k = s.link k := rfl
@[simp] theorem arrive_keeps (s : State) (b : BlockId) (e : UnitEvent) :
    (arrive s b e).bi = s.bi ∧ (arrive s b e).re = s.re ∧ (arrive s b e).nu = s.nu ∧
    (arrive s b e).lu = s.lu ∧ (arrive s b e).pwu = s.pwu ∧ (arrive s b e).bwu = s.bwu ∧
    (arrive s b e).su = s.su ∧ (arrive s b e).ctu = s.ctu ∧ (arrive s b e).tu = s.tu ∧
    (arrive s b e).pu = s.pu ∧ (arrive s b e).ju = s.ju ∧ (arrive s b e).mem = s.mem ∧
    (arrive s b e).free = s.free ∧ (arrive s b e).pending = s.pending :=
  ⟨rfl, rfl, rfl, rfl, rfl, rfl, rfl, rfl, rfl, rfl, rfl, rfl, rfl, rfl⟩
@[simp] theorem arrive_link (s : State) (b : BlockId) (e : UnitEvent) (k : LinkId) : (arrive s b e).link k = s.link k := rfl
@[simp] theorem arriveAgain_keeps (s : State) (l : LinkId) (kept : List Bool) :
    (arriveAgain s l kept).bi = s.bi ∧ (arriveAgain s l kept).re = s.re ∧ (arriveAgain s l kept).nu = s.nu ∧
    (arriveAgain s l kept).lu = s.lu ∧ (arriveAgain s l kept).pwu = s.pwu ∧ (arriveAgain s l kept).bwu = s.bwu ∧
    (arriveAgain s l kept).su = s.su ∧ (arriveAgain s l kept).ctu = s.ctu ∧ (arriveAgain s l kept).tu = s.tu ∧
    (arriveAgain s l kept).pu = s.pu ∧ (arriveAgain s l kept).ju = s.ju ∧ (arriveAgain s l kept).mem = s.mem ∧
    (arriveAgain s l kept).free = s.free ∧ (arriveAgain s l kept).pending = s.pending :=
  ⟨rfl, rfl, rfl, rfl, rfl, rfl, rfl, rfl, rfl, rfl, rfl, rfl, rfl, rfl⟩
@[simp] theorem arriveAgain_link (s : State) (l : LinkId) (kept : List Bool) (k : LinkId) : (arriveAgain s l kept).link k = s.link k := rfl
@[simp] theorem forgetPath_keeps (s : State) (l : LinkId) (kept : List Bool) :
    (forgetPath s l kept).bi = s.bi ∧ (forgetPath s l kept).re = s.re ∧ (forgetPath s l kept).nu = s.nu ∧
    (forgetPath s l kept).lu = s.lu ∧ (forgetPath s l kept).pwu = s.pwu ∧ (forgetPath s l kept).bwu = s.bwu ∧
    (forgetPath s l kept).su = s.su ∧ (forgetPath s l kept).ctu = s.ctu ∧ (forgetPath s l kept).tu = s.tu ∧
    (forgetPath s l kept).pu = s.pu ∧ (forgetPath s l kept).ju = s.ju ∧ (forgetPath s l kept).mem = s.mem ∧
    (forgetPath s l kept).free = s.free ∧ (forgetPath s l kept).pending = s.pending :=
  ⟨rfl, rfl, rfl, rfl, rfl, rfl, rfl, rfl, rfl, rfl, rfl, rfl, rfl, rfl⟩
@[simp] theorem forgetPath_link (s : State) (l : LinkId) (kept : List Bool) (k : LinkId) : (forgetPath s l kept).link k = s.link k := rfl
/-- Only arrivals that were recorded stay. -/
theorem liveArrivals_sublist (s : State) (as : List Arrival) : (liveArrivals s as).Sublist as := by
  induction as with
  | nil => exact .slnil
  | cons a rest ih =>
      unfold liveArrivals
      split
      · exact ih.cons₂ a
      · exact ih.cons a

/-- A unit at which nothing was held takes every event, unless it is in the middle of a request. -/
theorem unitTakes_of_none_held (s : State) (b : BlockId) (e : UnitEvent) (h : ∀ a ∈ s.arrivals, a.unit = b → a.held = false) :
    unitTakes s b e = !unitBusy s b := by
  unfold unitTakes
  have all : (((liveArrivals s s.arrivals).filter fun a => decide (a.unit = b)).takeWhile fun a => decide (a.event ≠ e)).all
      (fun a => !a.held) = true := by
    rw [List.all_eq_true]
    intro a ha
    have hf := (List.takeWhile_sublist _).subset ha
    rw [List.mem_filter] at hf
    have hb : a.unit = b := by simpa using hf.2
    simp [h a ((liveArrivals_sublist s s.arrivals).subset hf.1) hb]
  rw [all, Bool.and_true]

/-- A unit takes no event while it is in the middle of a request. -/
theorem unitTakes_busy (s : State) (b : BlockId) (e : UnitEvent) (h : unitBusy s b = true) : unitTakes s b e = false := by
  simp [unitTakes, h]
end Arriving

end Sys2Proof.Machine
end

