-- ==== Sys2Proof/Laws/Shared.lean ====
section
/-! SUPPORT. One lemma for each shared operation: the blocks, the memory and the queue it leaves unchanged (`_keeps`), and
the fields it leaves unchanged in the blocks it does change (`_fields`). -/

namespace Sys2Proof.Machine

@[simp] theorem askWindow_keeps (s : State) (owner : BlockId) (sections : List LaneSection) (fixed : List (Nat × Word)) (live : List LiveBlock) (after : List After) (ofRequest : Bool) :
    (askWindow s owner sections fixed live after ofRequest).re = s.re ∧
    (askWindow s owner sections fixed live after ofRequest).nu = s.nu ∧
    (askWindow s owner sections fixed live after ofRequest).lu = s.lu ∧
    (askWindow s owner sections fixed live after ofRequest).pwu = s.pwu ∧
    (askWindow s owner sections fixed live after ofRequest).bwu = s.bwu ∧
    (askWindow s owner sections fixed live after ofRequest).su = s.su ∧
    (askWindow s owner sections fixed live after ofRequest).ctu = s.ctu ∧
    (askWindow s owner sections fixed live after ofRequest).tu = s.tu ∧
    (askWindow s owner sections fixed live after ofRequest).pu = s.pu ∧
    (askWindow s owner sections fixed live after ofRequest).ju = s.ju ∧
    (askWindow s owner sections fixed live after ofRequest).mem = s.mem ∧
    (askWindow s owner sections fixed live after ofRequest).free = s.free ∧
    (askWindow s owner sections fixed live after ofRequest).pending = s.pending := by
  unfold askWindow
  simp

@[simp] theorem askWindow_fields (s : State) (owner : BlockId) (sections : List LaneSection) (fixed : List (Nat × Word)) (live : List LiveBlock) (after : List After) (ofRequest : Bool) :
    (askWindow s owner sections fixed live after ofRequest).bi.laSel = s.bi.laSel ∧
    (askWindow s owner sections fixed live after ofRequest).bi.bagFit = s.bi.bagFit ∧
    (askWindow s owner sections fixed live after ofRequest).bi.inReset = s.bi.inReset ∧
    (askWindow s owner sections fixed live after ofRequest).bi.reqProducer = s.bi.reqProducer ∧
    (askWindow s owner sections fixed live after ofRequest).bi.evtConsumer = s.bi.evtConsumer ∧
    (askWindow s owner sections fixed live after ofRequest).bi.journalExport = s.bi.journalExport ∧
    (askWindow s owner sections fixed live after ofRequest).bi.noticeMask = s.bi.noticeMask ∧
    (askWindow s owner sections fixed live after ofRequest).bi.receiptFill = s.bi.receiptFill ∧
    (askWindow s owner sections fixed live after ofRequest).bi.pageTable = s.bi.pageTable ∧
    (askWindow s owner sections fixed live after ofRequest).bi.refusedCount = s.bi.refusedCount ∧
    (askWindow s owner sections fixed live after ofRequest).bi.lastRefused = s.bi.lastRefused ∧
    (askWindow s owner sections fixed live after ofRequest).bi.setupSpan = s.bi.setupSpan ∧
    (askWindow s owner sections fixed live after ofRequest).bi.opened = s.bi.opened ∧
    (askWindow s owner sections fixed live after ofRequest).bi.hostStall = s.bi.hostStall ∧
    (askWindow s owner sections fixed live after ofRequest).bi.burstGranted = s.bi.burstGranted ∧
    (askWindow s owner sections fixed live after ofRequest).bi.burstRefused = s.bi.burstRefused ∧
    (askWindow s owner sections fixed live after ofRequest).bi.waitCount = s.bi.waitCount ∧
    (askWindow s owner sections fixed live after ofRequest).bi.engine = s.bi.engine ∧
    (askWindow s owner sections fixed live after ofRequest).bi.readData = s.bi.readData := by
  unfold askWindow
  simp

@[simp] theorem askFixed_eq (s : State) (owner : BlockId) (sections : List LaneSection) (fixed : List (Nat × Word)) (after : List After) (ofRequest : Bool) :
    askFixed s owner sections fixed after ofRequest
      = askWindow s owner sections fixed [] after ofRequest := rfl

@[simp] theorem askLiveAfter_keeps (s : State) (owner : BlockId) (sections : List LaneSection) (live : List LiveBlock) (after : List After) (ofRequest : Bool) :
    (askLiveAfter s owner sections live after ofRequest).re = s.re ∧
    (askLiveAfter s owner sections live after ofRequest).nu = s.nu ∧
    (askLiveAfter s owner sections live after ofRequest).lu = s.lu ∧
    (askLiveAfter s owner sections live after ofRequest).pwu = s.pwu ∧
    (askLiveAfter s owner sections live after ofRequest).bwu = s.bwu ∧
    (askLiveAfter s owner sections live after ofRequest).su = s.su ∧
    (askLiveAfter s owner sections live after ofRequest).ctu = s.ctu ∧
    (askLiveAfter s owner sections live after ofRequest).tu = s.tu ∧
    (askLiveAfter s owner sections live after ofRequest).pu = s.pu ∧
    (askLiveAfter s owner sections live after ofRequest).ju = s.ju ∧
    (askLiveAfter s owner sections live after ofRequest).mem = s.mem ∧
    (askLiveAfter s owner sections live after ofRequest).free = s.free ∧
    (askLiveAfter s owner sections live after ofRequest).pending = s.pending := by
  unfold askLiveAfter
  (repeat' split) <;> simp

@[simp] theorem askLiveAfter_fields (s : State) (owner : BlockId) (sections : List LaneSection) (live : List LiveBlock) (after : List After) (ofRequest : Bool) :
    (askLiveAfter s owner sections live after ofRequest).bi.laSel = s.bi.laSel ∧
    (askLiveAfter s owner sections live after ofRequest).bi.bagFit = s.bi.bagFit ∧
    (askLiveAfter s owner sections live after ofRequest).bi.inReset = s.bi.inReset ∧
    (askLiveAfter s owner sections live after ofRequest).bi.reqProducer = s.bi.reqProducer ∧
    (askLiveAfter s owner sections live after ofRequest).bi.evtConsumer = s.bi.evtConsumer ∧
    (askLiveAfter s owner sections live after ofRequest).bi.journalExport = s.bi.journalExport ∧
    (askLiveAfter s owner sections live after ofRequest).bi.noticeMask = s.bi.noticeMask ∧
    (askLiveAfter s owner sections live after ofRequest).bi.receiptFill = s.bi.receiptFill ∧
    (askLiveAfter s owner sections live after ofRequest).bi.pageTable = s.bi.pageTable ∧
    (askLiveAfter s owner sections live after ofRequest).bi.refusedCount = s.bi.refusedCount ∧
    (askLiveAfter s owner sections live after ofRequest).bi.lastRefused = s.bi.lastRefused ∧
    (askLiveAfter s owner sections live after ofRequest).bi.setupSpan = s.bi.setupSpan ∧
    (askLiveAfter s owner sections live after ofRequest).bi.opened = s.bi.opened ∧
    (askLiveAfter s owner sections live after ofRequest).bi.hostStall = s.bi.hostStall ∧
    (askLiveAfter s owner sections live after ofRequest).bi.burstGranted = s.bi.burstGranted ∧
    (askLiveAfter s owner sections live after ofRequest).bi.burstRefused = s.bi.burstRefused ∧
    (askLiveAfter s owner sections live after ofRequest).bi.waitCount = s.bi.waitCount ∧
    (askLiveAfter s owner sections live after ofRequest).bi.engine = s.bi.engine ∧
    (askLiveAfter s owner sections live after ofRequest).bi.readData = s.bi.readData := by
  unfold askLiveAfter
  (repeat' split) <;> simp

@[simp] theorem askLive_eq (s : State) (owner : BlockId) (sections : List LaneSection) (live : List LiveBlock) (ofRequest : Bool) :
    askLive s owner sections live ofRequest
      = askLiveAfter s owner sections live [] ofRequest := rfl

@[simp] theorem freezeWaiting_keeps (old s : State) (owner : BlockId) :
    (freezeWaiting old s owner).re = s.re ∧ (freezeWaiting old s owner).nu = s.nu ∧
    (freezeWaiting old s owner).lu = s.lu ∧ (freezeWaiting old s owner).pwu = s.pwu ∧
    (freezeWaiting old s owner).bwu = s.bwu ∧ (freezeWaiting old s owner).su = s.su ∧
    (freezeWaiting old s owner).ctu = s.ctu ∧ (freezeWaiting old s owner).tu = s.tu ∧
    (freezeWaiting old s owner).pu = s.pu ∧ (freezeWaiting old s owner).ju = s.ju ∧
    (freezeWaiting old s owner).mem = s.mem ∧ (freezeWaiting old s owner).free = s.free ∧
    (freezeWaiting old s owner).pending = s.pending := by
  unfold freezeWaiting
  (repeat' split) <;> simp

@[simp] theorem freezeWaiting_fields (old s : State) (owner : BlockId) :
    (freezeWaiting old s owner).bi.laSel = s.bi.laSel ∧ (freezeWaiting old s owner).bi.bagFit = s.bi.bagFit ∧
    (freezeWaiting old s owner).bi.inReset = s.bi.inReset ∧
    (freezeWaiting old s owner).bi.reqProducer = s.bi.reqProducer ∧
    (freezeWaiting old s owner).bi.evtConsumer = s.bi.evtConsumer ∧
    (freezeWaiting old s owner).bi.journalExport = s.bi.journalExport ∧
    (freezeWaiting old s owner).bi.noticeMask = s.bi.noticeMask ∧
    (freezeWaiting old s owner).bi.receiptFill = s.bi.receiptFill ∧
    (freezeWaiting old s owner).bi.pageTable = s.bi.pageTable ∧
    (freezeWaiting old s owner).bi.refusedCount = s.bi.refusedCount ∧
    (freezeWaiting old s owner).bi.lastRefused = s.bi.lastRefused ∧
    (freezeWaiting old s owner).bi.setupSpan = s.bi.setupSpan ∧ (freezeWaiting old s owner).bi.opened = s.bi.opened ∧
    (freezeWaiting old s owner).bi.nextWindow = s.bi.nextWindow ∧
    (freezeWaiting old s owner).bi.nextGroup = s.bi.nextGroup ∧
    (freezeWaiting old s owner).bi.hostStall = s.bi.hostStall ∧
    (freezeWaiting old s owner).bi.burstGranted = s.bi.burstGranted ∧
    (freezeWaiting old s owner).bi.burstRefused = s.bi.burstRefused ∧
    (freezeWaiting old s owner).bi.waitCount = s.bi.waitCount ∧ (freezeWaiting old s owner).bi.engine = s.bi.engine ∧
    (freezeWaiting old s owner).bi.readData = s.bi.readData := by
  unfold freezeWaiting
  (repeat' split) <;> simp

@[simp] theorem askPwuLive_keeps (old s : State) (sections : List LaneSection) (live : List LiveBlock) (after : List After) (ofRequest : Bool) :
    (askPwuLive old s sections live after ofRequest).re = s.re ∧
    (askPwuLive old s sections live after ofRequest).nu = s.nu ∧
    (askPwuLive old s sections live after ofRequest).lu = s.lu ∧
    (askPwuLive old s sections live after ofRequest).pwu = s.pwu ∧
    (askPwuLive old s sections live after ofRequest).bwu = s.bwu ∧
    (askPwuLive old s sections live after ofRequest).su = s.su ∧
    (askPwuLive old s sections live after ofRequest).ctu = s.ctu ∧
    (askPwuLive old s sections live after ofRequest).tu = s.tu ∧
    (askPwuLive old s sections live after ofRequest).pu = s.pu ∧
    (askPwuLive old s sections live after ofRequest).ju = s.ju ∧
    (askPwuLive old s sections live after ofRequest).mem = s.mem ∧
    (askPwuLive old s sections live after ofRequest).free = s.free ∧
    (askPwuLive old s sections live after ofRequest).pending = s.pending := by
  unfold askPwuLive
  (repeat' split) <;> simp

@[simp] theorem askPwuLive_fields (old s : State) (sections : List LaneSection) (live : List LiveBlock) (after : List After) (ofRequest : Bool) :
    (askPwuLive old s sections live after ofRequest).bi.laSel = s.bi.laSel ∧
    (askPwuLive old s sections live after ofRequest).bi.bagFit = s.bi.bagFit ∧
    (askPwuLive old s sections live after ofRequest).bi.inReset = s.bi.inReset ∧
    (askPwuLive old s sections live after ofRequest).bi.reqProducer = s.bi.reqProducer ∧
    (askPwuLive old s sections live after ofRequest).bi.evtConsumer = s.bi.evtConsumer ∧
    (askPwuLive old s sections live after ofRequest).bi.journalExport = s.bi.journalExport ∧
    (askPwuLive old s sections live after ofRequest).bi.noticeMask = s.bi.noticeMask ∧
    (askPwuLive old s sections live after ofRequest).bi.receiptFill = s.bi.receiptFill ∧
    (askPwuLive old s sections live after ofRequest).bi.pageTable = s.bi.pageTable ∧
    (askPwuLive old s sections live after ofRequest).bi.refusedCount = s.bi.refusedCount ∧
    (askPwuLive old s sections live after ofRequest).bi.lastRefused = s.bi.lastRefused ∧
    (askPwuLive old s sections live after ofRequest).bi.setupSpan = s.bi.setupSpan ∧
    (askPwuLive old s sections live after ofRequest).bi.opened = s.bi.opened ∧
    (askPwuLive old s sections live after ofRequest).bi.hostStall = s.bi.hostStall ∧
    (askPwuLive old s sections live after ofRequest).bi.burstGranted = s.bi.burstGranted ∧
    (askPwuLive old s sections live after ofRequest).bi.burstRefused = s.bi.burstRefused ∧
    (askPwuLive old s sections live after ofRequest).bi.waitCount = s.bi.waitCount ∧
    (askPwuLive old s sections live after ofRequest).bi.engine = s.bi.engine ∧
    (askPwuLive old s sections live after ofRequest).bi.readData = s.bi.readData := by
  unfold askPwuLive
  (repeat' split) <;> simp

@[simp] theorem tieAsks_keeps (s : State) (start : Nat) :
    (tieAsks s start).re = s.re ∧ (tieAsks s start).nu = s.nu ∧ (tieAsks s start).lu = s.lu ∧
    (tieAsks s start).pwu = s.pwu ∧ (tieAsks s start).bwu = s.bwu ∧ (tieAsks s start).su = s.su ∧
    (tieAsks s start).ctu = s.ctu ∧ (tieAsks s start).tu = s.tu ∧ (tieAsks s start).pu = s.pu ∧
    (tieAsks s start).ju = s.ju ∧ (tieAsks s start).mem = s.mem ∧ (tieAsks s start).free = s.free ∧
    (tieAsks s start).pending = s.pending := by
  unfold tieAsks
  (repeat' split) <;> simp

@[simp] theorem tieAsks_fields (s : State) (start : Nat) :
    (tieAsks s start).bi.laSel = s.bi.laSel ∧ (tieAsks s start).bi.bagFit = s.bi.bagFit ∧
    (tieAsks s start).bi.inReset = s.bi.inReset ∧ (tieAsks s start).bi.reqProducer = s.bi.reqProducer ∧
    (tieAsks s start).bi.evtConsumer = s.bi.evtConsumer ∧ (tieAsks s start).bi.journalExport = s.bi.journalExport ∧
    (tieAsks s start).bi.noticeMask = s.bi.noticeMask ∧ (tieAsks s start).bi.receiptFill = s.bi.receiptFill ∧
    (tieAsks s start).bi.pageTable = s.bi.pageTable ∧ (tieAsks s start).bi.refusedCount = s.bi.refusedCount ∧
    (tieAsks s start).bi.lastRefused = s.bi.lastRefused ∧ (tieAsks s start).bi.setupSpan = s.bi.setupSpan ∧
    (tieAsks s start).bi.opened = s.bi.opened ∧ (tieAsks s start).bi.nextWindow = s.bi.nextWindow ∧
    (tieAsks s start).bi.hostStall = s.bi.hostStall ∧ (tieAsks s start).bi.burstGranted = s.bi.burstGranted ∧
    (tieAsks s start).bi.burstRefused = s.bi.burstRefused ∧ (tieAsks s start).bi.waitCount = s.bi.waitCount ∧
    (tieAsks s start).bi.engine = s.bi.engine ∧ (tieAsks s start).bi.readData = s.bi.readData := by
  unfold tieAsks
  (repeat' split) <;> simp

@[simp] theorem askBiStatus_eq (s : State) : askBiStatus s = askLive s .bi [.statusPage] [.bi] false := rfl

@[simp] theorem askBwuStatus_eq (s : State) (ofRequest : Bool) :
    askBwuStatus s ofRequest
      = askLive s .bwu [.statusPage] [.bwu] ofRequest := rfl

@[simp] theorem askTuStatus_eq (s : State) (ofRequest : Bool) :
    askTuStatus s ofRequest
      = askLive s .tu [.statusPage] [.tu] ofRequest := rfl

@[simp] theorem askLinkStatus_eq (s : State) (l : LinkId) (ofRequest : Bool) :
    askLinkStatus s l ofRequest
      = askLive s .lu [.statusPage] [.link l] ofRequest := rfl

@[simp] theorem askJuStatus_keeps (s : State) (ofRequest : Bool) :
    (askJuStatus s ofRequest).re = s.re ∧ (askJuStatus s ofRequest).nu = s.nu ∧ (askJuStatus s ofRequest).lu = s.lu ∧
    (askJuStatus s ofRequest).pwu = s.pwu ∧ (askJuStatus s ofRequest).bwu = s.bwu ∧
    (askJuStatus s ofRequest).su = s.su ∧ (askJuStatus s ofRequest).ctu = s.ctu ∧
    (askJuStatus s ofRequest).tu = s.tu ∧ (askJuStatus s ofRequest).pu = s.pu ∧ (askJuStatus s ofRequest).ju = s.ju ∧
    (askJuStatus s ofRequest).mem = s.mem ∧ (askJuStatus s ofRequest).free = s.free ∧
    (askJuStatus s ofRequest).pending = s.pending := by
  unfold askJuStatus
  simp

@[simp] theorem askJuStatus_fields (s : State) (ofRequest : Bool) :
    (askJuStatus s ofRequest).bi.laSel = s.bi.laSel ∧ (askJuStatus s ofRequest).bi.bagFit = s.bi.bagFit ∧
    (askJuStatus s ofRequest).bi.inReset = s.bi.inReset ∧
    (askJuStatus s ofRequest).bi.reqProducer = s.bi.reqProducer ∧
    (askJuStatus s ofRequest).bi.evtConsumer = s.bi.evtConsumer ∧
    (askJuStatus s ofRequest).bi.journalExport = s.bi.journalExport ∧
    (askJuStatus s ofRequest).bi.noticeMask = s.bi.noticeMask ∧
    (askJuStatus s ofRequest).bi.receiptFill = s.bi.receiptFill ∧
    (askJuStatus s ofRequest).bi.pageTable = s.bi.pageTable ∧
    (askJuStatus s ofRequest).bi.refusedCount = s.bi.refusedCount ∧
    (askJuStatus s ofRequest).bi.lastRefused = s.bi.lastRefused ∧
    (askJuStatus s ofRequest).bi.setupSpan = s.bi.setupSpan ∧ (askJuStatus s ofRequest).bi.opened = s.bi.opened ∧
    (askJuStatus s ofRequest).bi.hostStall = s.bi.hostStall ∧
    (askJuStatus s ofRequest).bi.burstGranted = s.bi.burstGranted ∧
    (askJuStatus s ofRequest).bi.burstRefused = s.bi.burstRefused ∧
    (askJuStatus s ofRequest).bi.waitCount = s.bi.waitCount ∧ (askJuStatus s ofRequest).bi.engine = s.bi.engine ∧
    (askJuStatus s ofRequest).bi.readData = s.bi.readData := by
  unfold askJuStatus
  simp

@[simp] theorem askPu_keeps (old : Pu) (s : State) (ofRequest : Bool) :
    (askPu old s ofRequest).re = s.re ∧ (askPu old s ofRequest).nu = s.nu ∧ (askPu old s ofRequest).lu = s.lu ∧
    (askPu old s ofRequest).pwu = s.pwu ∧ (askPu old s ofRequest).bwu = s.bwu ∧ (askPu old s ofRequest).su = s.su ∧
    (askPu old s ofRequest).ctu = s.ctu ∧ (askPu old s ofRequest).tu = s.tu ∧ (askPu old s ofRequest).pu = s.pu ∧
    (askPu old s ofRequest).ju = s.ju ∧ (askPu old s ofRequest).mem = s.mem ∧ (askPu old s ofRequest).free = s.free ∧
    (askPu old s ofRequest).pending = s.pending := by
  unfold askPu
  (repeat' split) <;> simp

@[simp] theorem askPu_fields (old : Pu) (s : State) (ofRequest : Bool) :
    (askPu old s ofRequest).bi.laSel = s.bi.laSel ∧ (askPu old s ofRequest).bi.bagFit = s.bi.bagFit ∧
    (askPu old s ofRequest).bi.inReset = s.bi.inReset ∧ (askPu old s ofRequest).bi.reqProducer = s.bi.reqProducer ∧
    (askPu old s ofRequest).bi.evtConsumer = s.bi.evtConsumer ∧
    (askPu old s ofRequest).bi.journalExport = s.bi.journalExport ∧
    (askPu old s ofRequest).bi.noticeMask = s.bi.noticeMask ∧
    (askPu old s ofRequest).bi.receiptFill = s.bi.receiptFill ∧
    (askPu old s ofRequest).bi.pageTable = s.bi.pageTable ∧
    (askPu old s ofRequest).bi.refusedCount = s.bi.refusedCount ∧
    (askPu old s ofRequest).bi.lastRefused = s.bi.lastRefused ∧
    (askPu old s ofRequest).bi.setupSpan = s.bi.setupSpan ∧ (askPu old s ofRequest).bi.opened = s.bi.opened ∧
    (askPu old s ofRequest).bi.hostStall = s.bi.hostStall ∧
    (askPu old s ofRequest).bi.burstGranted = s.bi.burstGranted ∧
    (askPu old s ofRequest).bi.burstRefused = s.bi.burstRefused ∧
    (askPu old s ofRequest).bi.waitCount = s.bi.waitCount ∧ (askPu old s ofRequest).bi.engine = s.bi.engine ∧
    (askPu old s ofRequest).bi.readData = s.bi.readData := by
  unfold askPu
  (repeat' split) <;> simp

@[simp] theorem askReStatus_eq (s : State) (ofRequest : Bool) :
    askReStatus s ofRequest
      = askFixed s .re [.statusPage] (wordsAt 0x2010 (reStatus s.re)) [] ofRequest := rfl

@[simp] theorem askReConsumer_eq (s : State) :
    askReConsumer s
      = askFixed s .re [.statusPage] (wordsAt 0x2014 ((reStatus s.re).drop 1)) [] false := rfl

@[simp] theorem askCardSession_keeps (s : State) (ofRequest : Bool) :
    (askCardSession s ofRequest).re = s.re ∧ (askCardSession s ofRequest).nu = s.nu ∧
    (askCardSession s ofRequest).lu = s.lu ∧ (askCardSession s ofRequest).pwu = s.pwu ∧
    (askCardSession s ofRequest).bwu = s.bwu ∧ (askCardSession s ofRequest).su = s.su ∧
    (askCardSession s ofRequest).ctu = s.ctu ∧ (askCardSession s ofRequest).tu = s.tu ∧
    (askCardSession s ofRequest).pu = s.pu ∧ (askCardSession s ofRequest).ju = s.ju ∧
    (askCardSession s ofRequest).mem = s.mem ∧ (askCardSession s ofRequest).pending = s.pending := by
  unfold askCardSession
  simp

@[simp] theorem askCardSession_fields (s : State) (ofRequest : Bool) :
    (askCardSession s ofRequest).bi.laSel = s.bi.laSel ∧ (askCardSession s ofRequest).bi.bagFit = s.bi.bagFit ∧
    (askCardSession s ofRequest).bi.inReset = s.bi.inReset ∧
    (askCardSession s ofRequest).bi.reqProducer = s.bi.reqProducer ∧
    (askCardSession s ofRequest).bi.evtConsumer = s.bi.evtConsumer ∧
    (askCardSession s ofRequest).bi.journalExport = s.bi.journalExport ∧
    (askCardSession s ofRequest).bi.noticeMask = s.bi.noticeMask ∧
    (askCardSession s ofRequest).bi.receiptFill = s.bi.receiptFill ∧
    (askCardSession s ofRequest).bi.pageTable = s.bi.pageTable ∧
    (askCardSession s ofRequest).bi.refusedCount = s.bi.refusedCount ∧
    (askCardSession s ofRequest).bi.lastRefused = s.bi.lastRefused ∧
    (askCardSession s ofRequest).bi.setupSpan = s.bi.setupSpan ∧
    (askCardSession s ofRequest).bi.opened = s.bi.opened ∧
    (askCardSession s ofRequest).bi.hostStall = s.bi.hostStall ∧
    (askCardSession s ofRequest).bi.burstGranted = s.bi.burstGranted ∧
    (askCardSession s ofRequest).bi.burstRefused = s.bi.burstRefused ∧
    (askCardSession s ofRequest).bi.waitCount = s.bi.waitCount ∧
    (askCardSession s ofRequest).bi.engine = s.bi.engine ∧ (askCardSession s ofRequest).bi.readData = s.bi.readData := by
  unfold askCardSession
  simp

@[simp] theorem openWindow_keeps (s : State) (w : WindowAsk) :
    (openWindow s w).re = s.re ∧ (openWindow s w).nu = s.nu ∧ (openWindow s w).lu = s.lu ∧
    (openWindow s w).pwu = s.pwu ∧ (openWindow s w).bwu = s.bwu ∧ (openWindow s w).su = s.su ∧
    (openWindow s w).ctu = s.ctu ∧ (openWindow s w).tu = s.tu ∧ (openWindow s w).pu = s.pu ∧
    (openWindow s w).ju = s.ju ∧ (openWindow s w).mem = s.mem ∧ (openWindow s w).pending = s.pending := by
  unfold openWindow
  simp

@[simp] theorem openWindow_fields (s : State) (w : WindowAsk) :
    (openWindow s w).bi.laSel = s.bi.laSel ∧ (openWindow s w).bi.bagFit = s.bi.bagFit ∧
    (openWindow s w).bi.inReset = s.bi.inReset ∧ (openWindow s w).bi.reqProducer = s.bi.reqProducer ∧
    (openWindow s w).bi.evtConsumer = s.bi.evtConsumer ∧ (openWindow s w).bi.journalExport = s.bi.journalExport ∧
    (openWindow s w).bi.noticeMask = s.bi.noticeMask ∧ (openWindow s w).bi.receiptFill = s.bi.receiptFill ∧
    (openWindow s w).bi.pageTable = s.bi.pageTable ∧ (openWindow s w).bi.refusedCount = s.bi.refusedCount ∧
    (openWindow s w).bi.lastRefused = s.bi.lastRefused ∧ (openWindow s w).bi.setupSpan = s.bi.setupSpan ∧
    (openWindow s w).bi.nextWindow = s.bi.nextWindow ∧ (openWindow s w).bi.nextGroup = s.bi.nextGroup ∧
    (openWindow s w).bi.hostStall = s.bi.hostStall ∧ (openWindow s w).bi.burstGranted = s.bi.burstGranted ∧
    (openWindow s w).bi.burstRefused = s.bi.burstRefused ∧ (openWindow s w).bi.waitCount = s.bi.waitCount ∧
    (openWindow s w).bi.readData = s.bi.readData := by
  unfold openWindow
  simp

@[simp] theorem hostGrant_keeps (s : State) :
    (hostGrant s).re = s.re ∧ (hostGrant s).nu = s.nu ∧ (hostGrant s).lu = s.lu ∧ (hostGrant s).pwu = s.pwu ∧
    (hostGrant s).bwu = s.bwu ∧ (hostGrant s).su = s.su ∧ (hostGrant s).ctu = s.ctu ∧ (hostGrant s).tu = s.tu ∧
    (hostGrant s).pu = s.pu ∧ (hostGrant s).ju = s.ju ∧ (hostGrant s).mem = s.mem ∧ (hostGrant s).free = s.free ∧
    (hostGrant s).pending = s.pending := by
  unfold hostGrant
  (repeat' split) <;> simp

@[simp] theorem hostGrant_fields (s : State) :
    (hostGrant s).bi.laSel = s.bi.laSel ∧ (hostGrant s).bi.bagFit = s.bi.bagFit ∧
    (hostGrant s).bi.inReset = s.bi.inReset ∧ (hostGrant s).bi.reqProducer = s.bi.reqProducer ∧
    (hostGrant s).bi.evtConsumer = s.bi.evtConsumer ∧ (hostGrant s).bi.journalExport = s.bi.journalExport ∧
    (hostGrant s).bi.noticeMask = s.bi.noticeMask ∧ (hostGrant s).bi.receiptFill = s.bi.receiptFill ∧
    (hostGrant s).bi.pageTable = s.bi.pageTable ∧ (hostGrant s).bi.refusedCount = s.bi.refusedCount ∧
    (hostGrant s).bi.lastRefused = s.bi.lastRefused ∧ (hostGrant s).bi.setupSpan = s.bi.setupSpan ∧
    (hostGrant s).bi.waiting = s.bi.waiting ∧ (hostGrant s).bi.opened = s.bi.opened ∧
    (hostGrant s).bi.nextWindow = s.bi.nextWindow ∧ (hostGrant s).bi.nextGroup = s.bi.nextGroup ∧
    (hostGrant s).bi.hostStall = s.bi.hostStall ∧ (hostGrant s).bi.burstGranted = s.bi.burstGranted ∧
    (hostGrant s).bi.burstRefused = s.bi.burstRefused ∧ (hostGrant s).bi.engine = s.bi.engine ∧
    (hostGrant s).bi.readData = s.bi.readData := by
  unfold hostGrant
  (repeat' split) <;> simp

@[simp] theorem serveRead_keeps (s : State) (addr len : Nat) :
    (serveRead s addr len).re = s.re ∧ (serveRead s addr len).nu = s.nu ∧ (serveRead s addr len).lu = s.lu ∧
    (serveRead s addr len).pwu = s.pwu ∧ (serveRead s addr len).bwu = s.bwu ∧ (serveRead s addr len).su = s.su ∧
    (serveRead s addr len).ctu = s.ctu ∧ (serveRead s addr len).tu = s.tu ∧ (serveRead s addr len).pu = s.pu ∧
    (serveRead s addr len).ju = s.ju ∧ (serveRead s addr len).mem = s.mem ∧ (serveRead s addr len).free = s.free ∧
    (serveRead s addr len).pending = s.pending := by
  unfold serveRead
  dsimp only
  (repeat' split) <;> simp

@[simp] theorem serveRead_fields (s : State) (addr len : Nat) :
    (serveRead s addr len).bi.laSel = s.bi.laSel ∧ (serveRead s addr len).bi.bagFit = s.bi.bagFit ∧
    (serveRead s addr len).bi.inReset = s.bi.inReset ∧ (serveRead s addr len).bi.reqProducer = s.bi.reqProducer ∧
    (serveRead s addr len).bi.evtConsumer = s.bi.evtConsumer ∧
    (serveRead s addr len).bi.journalExport = s.bi.journalExport ∧
    (serveRead s addr len).bi.noticeMask = s.bi.noticeMask ∧
    (serveRead s addr len).bi.receiptFill = s.bi.receiptFill ∧ (serveRead s addr len).bi.pageTable = s.bi.pageTable ∧
    (serveRead s addr len).bi.refusedCount = s.bi.refusedCount ∧
    (serveRead s addr len).bi.lastRefused = s.bi.lastRefused ∧ (serveRead s addr len).bi.setupSpan = s.bi.setupSpan ∧
    (serveRead s addr len).bi.waiting = s.bi.waiting ∧ (serveRead s addr len).bi.opened = s.bi.opened ∧
    (serveRead s addr len).bi.nextWindow = s.bi.nextWindow ∧ (serveRead s addr len).bi.nextGroup = s.bi.nextGroup ∧
    (serveRead s addr len).bi.burstGranted = s.bi.burstGranted ∧
    (serveRead s addr len).bi.burstRefused = s.bi.burstRefused ∧ (serveRead s addr len).bi.engine = s.bi.engine := by
  unfold serveRead
  dsimp only
  (repeat' split) <;> simp

@[simp] theorem releaseHeld_keeps (s : State) :
    (releaseHeld s).re = s.re ∧ (releaseHeld s).nu = s.nu ∧ (releaseHeld s).lu = s.lu ∧ (releaseHeld s).pwu = s.pwu ∧
    (releaseHeld s).bwu = s.bwu ∧ (releaseHeld s).su = s.su ∧ (releaseHeld s).ctu = s.ctu ∧
    (releaseHeld s).tu = s.tu ∧ (releaseHeld s).pu = s.pu ∧ (releaseHeld s).ju = s.ju ∧ (releaseHeld s).mem = s.mem ∧
    (releaseHeld s).free = s.free ∧ (releaseHeld s).pending = s.pending := by
  unfold releaseHeld
  (repeat' split) <;> simp

@[simp] theorem releaseHeld_fields (s : State) :
    (releaseHeld s).bi.laSel = s.bi.laSel ∧ (releaseHeld s).bi.bagFit = s.bi.bagFit ∧
    (releaseHeld s).bi.inReset = s.bi.inReset ∧ (releaseHeld s).bi.reqProducer = s.bi.reqProducer ∧
    (releaseHeld s).bi.evtConsumer = s.bi.evtConsumer ∧ (releaseHeld s).bi.journalExport = s.bi.journalExport ∧
    (releaseHeld s).bi.noticeMask = s.bi.noticeMask ∧ (releaseHeld s).bi.receiptFill = s.bi.receiptFill ∧
    (releaseHeld s).bi.pageTable = s.bi.pageTable ∧ (releaseHeld s).bi.refusedCount = s.bi.refusedCount ∧
    (releaseHeld s).bi.lastRefused = s.bi.lastRefused ∧ (releaseHeld s).bi.setupSpan = s.bi.setupSpan ∧
    (releaseHeld s).bi.waiting = s.bi.waiting ∧ (releaseHeld s).bi.opened = s.bi.opened ∧
    (releaseHeld s).bi.nextWindow = s.bi.nextWindow ∧ (releaseHeld s).bi.nextGroup = s.bi.nextGroup ∧
    (releaseHeld s).bi.burstGranted = s.bi.burstGranted ∧ (releaseHeld s).bi.burstRefused = s.bi.burstRefused ∧
    (releaseHeld s).bi.engine = s.bi.engine := by
  unfold releaseHeld
  (repeat' split) <;> simp

@[simp] theorem entryFetched_keeps (s : State) (f : SlotFetch) (e : PageEntry) :
    (entryFetched s f e).re = s.re ∧ (entryFetched s f e).nu = s.nu ∧ (entryFetched s f e).lu = s.lu ∧
    (entryFetched s f e).pwu = s.pwu ∧ (entryFetched s f e).bwu = s.bwu ∧ (entryFetched s f e).su = s.su ∧
    (entryFetched s f e).ctu = s.ctu ∧ (entryFetched s f e).tu = s.tu ∧ (entryFetched s f e).ju = s.ju ∧
    (entryFetched s f e).mem = s.mem ∧ (entryFetched s f e).free = s.free ∧ (entryFetched s f e).pending = s.pending := by
  unfold entryFetched
  (repeat' split) <;> simp

@[simp] theorem entryFetched_fields (s : State) (f : SlotFetch) (e : PageEntry) :
    (entryFetched s f e).bi.laSel = s.bi.laSel ∧ (entryFetched s f e).bi.bagFit = s.bi.bagFit ∧
    (entryFetched s f e).bi.inReset = s.bi.inReset ∧ (entryFetched s f e).bi.reqProducer = s.bi.reqProducer ∧
    (entryFetched s f e).bi.evtConsumer = s.bi.evtConsumer ∧
    (entryFetched s f e).bi.journalExport = s.bi.journalExport ∧
    (entryFetched s f e).bi.noticeMask = s.bi.noticeMask ∧ (entryFetched s f e).bi.receiptFill = s.bi.receiptFill ∧
    (entryFetched s f e).bi.pageTable = s.bi.pageTable ∧ (entryFetched s f e).bi.refusedCount = s.bi.refusedCount ∧
    (entryFetched s f e).bi.lastRefused = s.bi.lastRefused ∧ (entryFetched s f e).bi.setupSpan = s.bi.setupSpan ∧
    (entryFetched s f e).bi.waiting = s.bi.waiting ∧ (entryFetched s f e).bi.opened = s.bi.opened ∧
    (entryFetched s f e).bi.nextWindow = s.bi.nextWindow ∧ (entryFetched s f e).bi.nextGroup = s.bi.nextGroup ∧
    (entryFetched s f e).bi.hostStall = s.bi.hostStall ∧ (entryFetched s f e).bi.burstGranted = s.bi.burstGranted ∧
    (entryFetched s f e).bi.burstRefused = s.bi.burstRefused ∧ (entryFetched s f e).bi.waitCount = s.bi.waitCount ∧
    (entryFetched s f e).bi.readData = s.bi.readData := by
  unfold entryFetched
  (repeat' split) <;> simp

@[simp] theorem slotFetched_keeps (s : State) (f : SlotFetch) (ws : List Word) :
    (slotFetched s f ws).bi = s.bi ∧ (slotFetched s f ws).re = s.re ∧ (slotFetched s f ws).nu = s.nu ∧
    (slotFetched s f ws).lu = s.lu ∧ (slotFetched s f ws).pwu = s.pwu ∧ (slotFetched s f ws).bwu = s.bwu ∧
    (slotFetched s f ws).su = s.su ∧ (slotFetched s f ws).ctu = s.ctu ∧ (slotFetched s f ws).tu = s.tu ∧
    (slotFetched s f ws).ju = s.ju ∧ (slotFetched s f ws).mem = s.mem ∧ (slotFetched s f ws).free = s.free ∧
    (slotFetched s f ws).pending = s.pending := by
  unfold slotFetched
  (repeat' split) <;> simp

@[simp] theorem installJournal_keeps (s : State) (head exported : Word) :
    (installJournal s head exported).re = s.re ∧ (installJournal s head exported).nu = s.nu ∧
    (installJournal s head exported).lu = s.lu ∧ (installJournal s head exported).pwu = s.pwu ∧
    (installJournal s head exported).bwu = s.bwu ∧ (installJournal s head exported).su = s.su ∧
    (installJournal s head exported).ctu = s.ctu ∧ (installJournal s head exported).tu = s.tu ∧
    (installJournal s head exported).pu = s.pu ∧ (installJournal s head exported).free = s.free ∧
    (installJournal s head exported).pending = s.pending ∧
    (installJournal s head exported).ju.forcedCarry = s.ju.forcedCarry ∧
    (installJournal s head exported).ju.nosaleCarry = s.ju.nosaleCarry ∧
    (installJournal s head exported).ju.fixed = s.ju.fixed ∧
    (installJournal s head exported).ju.tells = s.ju.tells := by
  simp [installJournal]

@[simp] theorem installJournal_fields (s : State) (head exported : Word) :
    (installJournal s head exported).bi.laSel = s.bi.laSel ∧
    (installJournal s head exported).bi.bagFit = s.bi.bagFit ∧
    (installJournal s head exported).bi.inReset = s.bi.inReset ∧
    (installJournal s head exported).bi.reqProducer = s.bi.reqProducer ∧
    (installJournal s head exported).bi.evtConsumer = s.bi.evtConsumer ∧
    (installJournal s head exported).bi.noticeMask = s.bi.noticeMask ∧
    (installJournal s head exported).bi.receiptFill = s.bi.receiptFill ∧
    (installJournal s head exported).bi.pageTable = s.bi.pageTable ∧
    (installJournal s head exported).bi.refusedCount = s.bi.refusedCount ∧
    (installJournal s head exported).bi.lastRefused = s.bi.lastRefused ∧
    (installJournal s head exported).bi.setupSpan = s.bi.setupSpan ∧
    (installJournal s head exported).bi.opened = s.bi.opened ∧
    (installJournal s head exported).bi.hostStall = s.bi.hostStall ∧
    (installJournal s head exported).bi.burstGranted = s.bi.burstGranted ∧
    (installJournal s head exported).bi.burstRefused = s.bi.burstRefused ∧
    (installJournal s head exported).bi.readData = s.bi.readData ∧
    (installJournal s head exported).bi.waitCount = s.bi.waitCount ∧
    (installJournal s head exported).bi.engine = s.bi.engine := by
  simp [installJournal]

/-- What the BI's own write of JOURNAL_EXPORT leaves (R15). -/
theorem installJournal_values (s : State) (head exported : Word) :
    (installJournal s head exported).ju.head = head ∧ (installJournal s head exported).bi.journalExport = exported ∧
    (installJournal s head exported).mem = Memory.writeWord s.mem (laneBase s + 0x1008) allBytes exported := by
  simp [installJournal]

@[simp] theorem engineAccess_keeps (s : State) (a : EngineAccess) :
    (engineAccess s a).nu = s.nu ∧ (engineAccess s a).lu = s.lu ∧ (engineAccess s a).pwu = s.pwu ∧
    (engineAccess s a).bwu = s.bwu ∧ (engineAccess s a).su = s.su ∧ (engineAccess s a).ctu = s.ctu ∧
    (engineAccess s a).tu = s.tu ∧ (engineAccess s a).free = s.free ∧ (engineAccess s a).pending = s.pending ∧
    (engineAccess s a).ju.forcedCarry = s.ju.forcedCarry ∧
    (engineAccess s a).ju.nosaleCarry = s.ju.nosaleCarry ∧ (engineAccess s a).ju.fixed = s.ju.fixed ∧
    (engineAccess s a).ju.tells = s.ju.tells := by
  unfold engineAccess
  (repeat' split) <;> simp

@[simp] theorem engineAccess_fields (s : State) (a : EngineAccess) :
    (engineAccess s a).bi.laSel = s.bi.laSel ∧ (engineAccess s a).bi.bagFit = s.bi.bagFit ∧
    (engineAccess s a).bi.inReset = s.bi.inReset ∧ (engineAccess s a).bi.reqProducer = s.bi.reqProducer ∧
    (engineAccess s a).bi.evtConsumer = s.bi.evtConsumer ∧ (engineAccess s a).bi.noticeMask = s.bi.noticeMask ∧
    (engineAccess s a).bi.receiptFill = s.bi.receiptFill ∧ (engineAccess s a).bi.pageTable = s.bi.pageTable ∧
    (engineAccess s a).bi.refusedCount = s.bi.refusedCount ∧
    (engineAccess s a).bi.lastRefused = s.bi.lastRefused ∧ (engineAccess s a).bi.setupSpan = s.bi.setupSpan ∧
    (engineAccess s a).bi.opened = s.bi.opened ∧ (engineAccess s a).bi.hostStall = s.bi.hostStall ∧
    (engineAccess s a).bi.burstGranted = s.bi.burstGranted ∧
    (engineAccess s a).bi.burstRefused = s.bi.burstRefused ∧ (engineAccess s a).bi.readData = s.bi.readData ∧
    (engineAccess s a).bi.waitCount = s.bi.waitCount ∧ (engineAccess s a).re.device = s.re.device ∧
    (engineAccess s a).re.consumer = s.re.consumer ∧ (engineAccess s a).re.phase = s.re.phase ∧
    (engineAccess s a).re.record = s.re.record ∧ (engineAccess s a).re.outcome = s.re.outcome ∧
    (engineAccess s a).re.statusDue = s.re.statusDue ∧ (engineAccess s a).re.setup = s.re.setup ∧
    (engineAccess s a).re.laneNumber = s.re.laneNumber ∧ (engineAccess s a).re.clock = s.re.clock ∧
    (engineAccess s a).re.lastCommit = s.re.lastCommit ∧ (engineAccess s a).re.failField = s.re.failField ∧
    (engineAccess s a).re.resetDue = s.re.resetDue ∧ (engineAccess s a).re.resetting = s.re.resetting := by
  unfold engineAccess
  (repeat' split) <;> simp

@[simp] theorem engineGrant_keeps (s : State) :
    (engineGrant s).nu = s.nu ∧ (engineGrant s).lu = s.lu ∧ (engineGrant s).pwu = s.pwu ∧
    (engineGrant s).bwu = s.bwu ∧ (engineGrant s).su = s.su ∧ (engineGrant s).ctu = s.ctu ∧
    (engineGrant s).tu = s.tu ∧ (engineGrant s).free = s.free ∧ (engineGrant s).pending = s.pending ∧
    (engineGrant s).ju.forcedCarry = s.ju.forcedCarry ∧ (engineGrant s).ju.nosaleCarry = s.ju.nosaleCarry ∧
    (engineGrant s).ju.fixed = s.ju.fixed ∧ (engineGrant s).ju.tells = s.ju.tells := by
  unfold engineGrant
  (repeat' split) <;> simp

@[simp] theorem engineGrant_fields (s : State) :
    (engineGrant s).bi.laSel = s.bi.laSel ∧ (engineGrant s).bi.bagFit = s.bi.bagFit ∧
    (engineGrant s).bi.inReset = s.bi.inReset ∧ (engineGrant s).bi.reqProducer = s.bi.reqProducer ∧
    (engineGrant s).bi.evtConsumer = s.bi.evtConsumer ∧ (engineGrant s).bi.noticeMask = s.bi.noticeMask ∧
    (engineGrant s).bi.receiptFill = s.bi.receiptFill ∧ (engineGrant s).bi.pageTable = s.bi.pageTable ∧
    (engineGrant s).bi.refusedCount = s.bi.refusedCount ∧ (engineGrant s).bi.lastRefused = s.bi.lastRefused ∧
    (engineGrant s).bi.setupSpan = s.bi.setupSpan ∧ (engineGrant s).bi.opened = s.bi.opened ∧
    (engineGrant s).bi.hostStall = s.bi.hostStall ∧ (engineGrant s).bi.burstGranted = s.bi.burstGranted ∧
    (engineGrant s).bi.burstRefused = s.bi.burstRefused ∧ (engineGrant s).bi.readData = s.bi.readData ∧
    (engineGrant s).re.device = s.re.device ∧ (engineGrant s).re.consumer = s.re.consumer ∧
    (engineGrant s).re.phase = s.re.phase ∧ (engineGrant s).re.record = s.re.record ∧
    (engineGrant s).re.outcome = s.re.outcome ∧ (engineGrant s).re.statusDue = s.re.statusDue ∧
    (engineGrant s).re.setup = s.re.setup ∧ (engineGrant s).re.laneNumber = s.re.laneNumber ∧
    (engineGrant s).re.clock = s.re.clock ∧ (engineGrant s).re.lastCommit = s.re.lastCommit ∧
    (engineGrant s).re.failField = s.re.failField ∧ (engineGrant s).re.resetDue = s.re.resetDue ∧
    (engineGrant s).re.resetting = s.re.resetting := by
  unfold engineGrant
  (repeat' split) <;> simp

@[simp] theorem askSalePayload_keeps (s : State) (k : CondKind) :
    (askSalePayload s k).bi = s.bi ∧ (askSalePayload s k).re = s.re ∧ (askSalePayload s k).nu = s.nu ∧
    (askSalePayload s k).lu = s.lu ∧ (askSalePayload s k).pwu = s.pwu ∧ (askSalePayload s k).bwu = s.bwu ∧
    (askSalePayload s k).ctu = s.ctu ∧ (askSalePayload s k).tu = s.tu ∧ (askSalePayload s k).pu = s.pu ∧
    (askSalePayload s k).ju = s.ju ∧ (askSalePayload s k).mem = s.mem ∧ (askSalePayload s k).free = s.free ∧
    (askSalePayload s k).pending = s.pending := by
  unfold askSalePayload
  (repeat' split) <;> simp

@[simp] theorem askSalePayload_fields (s : State) (k : CondKind) :
    (askSalePayload s k).su.header = s.su.header ∧ (askSalePayload s k).su.lines = s.su.lines ∧
    (askSalePayload s k).su.tenders = s.su.tenders ∧ (askSalePayload s k).su.nextNumber = s.su.nextNumber ∧
    (askSalePayload s k).su.event = s.su.event ∧ (askSalePayload s k).su.claim = s.su.claim ∧
    (askSalePayload s k).su.finished = s.su.finished := by
  unfold askSalePayload
  (repeat' split) <;> simp

@[simp] theorem takeLatch_keeps (s : State) (i : Nat) :
    (takeLatch s i).bi = s.bi ∧ (takeLatch s i).re = s.re ∧ (takeLatch s i).lu = s.lu ∧ (takeLatch s i).pwu = s.pwu ∧
    (takeLatch s i).bwu = s.bwu ∧ (takeLatch s i).ctu = s.ctu ∧ (takeLatch s i).tu = s.tu ∧
    (takeLatch s i).pu = s.pu ∧ (takeLatch s i).ju = s.ju ∧ (takeLatch s i).mem = s.mem ∧
    (takeLatch s i).free = s.free ∧ (takeLatch s i).pending = s.pending := by
  unfold takeLatch
  dsimp only
  simp

@[simp] theorem takeLatch_fields (s : State) (i : Nat) :
    (takeLatch s i).nu.producer = s.nu.producer ∧ (takeLatch s i).nu.reserved = s.nu.reserved ∧
    (takeLatch s i).nu.attn = s.nu.attn ∧ (takeLatch s i).nu.owed = s.nu.owed ∧
    (takeLatch s i).su.header = s.su.header ∧ (takeLatch s i).su.lines = s.su.lines ∧
    (takeLatch s i).su.tenders = s.su.tenders ∧ (takeLatch s i).su.nextNumber = s.su.nextNumber ∧
    (takeLatch s i).su.event = s.su.event ∧ (takeLatch s i).su.claim = s.su.claim ∧
    (takeLatch s i).su.finished = s.su.finished := by
  unfold takeLatch
  dsimp only
  simp

@[simp] theorem askRecord_eq (s : State) (words : List Word) :
    askRecord s words
      = askFixed s .nu [.eventRing, .statusPage] (wordsAt (ringSlot s.nu.producer) words ++ [(0x2020, (s.nu.producer + 1).setWidth 32)]) [] false := rfl

@[simp] theorem beginCompletion_keeps (s : State) (c : Completion) :
    (beginCompletion s c).re = s.re ∧ (beginCompletion s c).lu = s.lu ∧ (beginCompletion s c).pwu = s.pwu ∧
    (beginCompletion s c).bwu = s.bwu ∧ (beginCompletion s c).su = s.su ∧ (beginCompletion s c).ctu = s.ctu ∧
    (beginCompletion s c).tu = s.tu ∧ (beginCompletion s c).pu = s.pu ∧ (beginCompletion s c).ju = s.ju ∧
    (beginCompletion s c).mem = s.mem ∧ (beginCompletion s c).free = s.free ∧
    (beginCompletion s c).pending = s.pending := by
  unfold beginCompletion
  simp

@[simp] theorem beginCompletion_fields (s : State) (c : Completion) :
    (beginCompletion s c).bi.laSel = s.bi.laSel ∧ (beginCompletion s c).bi.bagFit = s.bi.bagFit ∧
    (beginCompletion s c).bi.inReset = s.bi.inReset ∧ (beginCompletion s c).bi.reqProducer = s.bi.reqProducer ∧
    (beginCompletion s c).bi.evtConsumer = s.bi.evtConsumer ∧
    (beginCompletion s c).bi.journalExport = s.bi.journalExport ∧
    (beginCompletion s c).bi.noticeMask = s.bi.noticeMask ∧ (beginCompletion s c).bi.receiptFill = s.bi.receiptFill ∧
    (beginCompletion s c).bi.pageTable = s.bi.pageTable ∧ (beginCompletion s c).bi.refusedCount = s.bi.refusedCount ∧
    (beginCompletion s c).bi.lastRefused = s.bi.lastRefused ∧ (beginCompletion s c).bi.setupSpan = s.bi.setupSpan ∧
    (beginCompletion s c).bi.opened = s.bi.opened ∧ (beginCompletion s c).bi.hostStall = s.bi.hostStall ∧
    (beginCompletion s c).bi.burstGranted = s.bi.burstGranted ∧
    (beginCompletion s c).bi.burstRefused = s.bi.burstRefused ∧ (beginCompletion s c).bi.waitCount = s.bi.waitCount ∧
    (beginCompletion s c).bi.engine = s.bi.engine ∧ (beginCompletion s c).bi.readData = s.bi.readData ∧
    (beginCompletion s c).nu.producer = s.nu.producer ∧ (beginCompletion s c).nu.reserved = s.nu.reserved ∧
    (beginCompletion s c).nu.latches = s.nu.latches ∧ (beginCompletion s c).nu.attn = s.nu.attn := by
  unfold beginCompletion
  simp

@[simp] theorem look_keeps (s : State) :
    (look s).re = s.re ∧ (look s).lu = s.lu ∧ (look s).pwu = s.pwu ∧ (look s).bwu = s.bwu ∧ (look s).ctu = s.ctu ∧
    (look s).tu = s.tu ∧ (look s).pu = s.pu ∧ (look s).ju = s.ju ∧ (look s).mem = s.mem ∧ (look s).free = s.free ∧
    (look s).pending = s.pending := by
  unfold look
  (repeat' split) <;> simp

@[simp] theorem look_fields (s : State) :
    (look s).bi.laSel = s.bi.laSel ∧ (look s).bi.bagFit = s.bi.bagFit ∧ (look s).bi.inReset = s.bi.inReset ∧
    (look s).bi.reqProducer = s.bi.reqProducer ∧ (look s).bi.evtConsumer = s.bi.evtConsumer ∧
    (look s).bi.journalExport = s.bi.journalExport ∧ (look s).bi.noticeMask = s.bi.noticeMask ∧
    (look s).bi.receiptFill = s.bi.receiptFill ∧ (look s).bi.pageTable = s.bi.pageTable ∧
    (look s).bi.refusedCount = s.bi.refusedCount ∧ (look s).bi.lastRefused = s.bi.lastRefused ∧
    (look s).bi.setupSpan = s.bi.setupSpan ∧ (look s).bi.opened = s.bi.opened ∧
    (look s).bi.hostStall = s.bi.hostStall ∧ (look s).bi.burstGranted = s.bi.burstGranted ∧
    (look s).bi.burstRefused = s.bi.burstRefused ∧ (look s).bi.waitCount = s.bi.waitCount ∧
    (look s).bi.engine = s.bi.engine ∧ (look s).bi.readData = s.bi.readData ∧ (look s).nu.producer = s.nu.producer ∧
    (look s).nu.reserved = s.nu.reserved ∧ (look s).nu.attn = s.nu.attn ∧ (look s).su.header = s.su.header ∧
    (look s).su.lines = s.su.lines ∧ (look s).su.tenders = s.su.tenders ∧ (look s).su.nextNumber = s.su.nextNumber ∧
    (look s).su.event = s.su.event ∧ (look s).su.claim = s.su.claim ∧ (look s).su.finished = s.su.finished := by
  unfold look
  (repeat' split) <;> simp

@[simp] theorem raise_keeps (s : State) (k : CondKind) (source : Nat) :
    (raise s k source).re = s.re ∧ (raise s k source).lu = s.lu ∧ (raise s k source).pwu = s.pwu ∧
    (raise s k source).bwu = s.bwu ∧ (raise s k source).ctu = s.ctu ∧ (raise s k source).tu = s.tu ∧
    (raise s k source).pu = s.pu ∧ (raise s k source).ju = s.ju ∧ (raise s k source).mem = s.mem ∧
    (raise s k source).free = s.free ∧ (raise s k source).pending = s.pending := by
  unfold raise
  dsimp only
  simp

@[simp] theorem raise_fields (s : State) (k : CondKind) (source : Nat) :
    (raise s k source).bi.laSel = s.bi.laSel ∧ (raise s k source).bi.bagFit = s.bi.bagFit ∧
    (raise s k source).bi.inReset = s.bi.inReset ∧ (raise s k source).bi.reqProducer = s.bi.reqProducer ∧
    (raise s k source).bi.evtConsumer = s.bi.evtConsumer ∧ (raise s k source).bi.journalExport = s.bi.journalExport ∧
    (raise s k source).bi.noticeMask = s.bi.noticeMask ∧ (raise s k source).bi.receiptFill = s.bi.receiptFill ∧
    (raise s k source).bi.pageTable = s.bi.pageTable ∧ (raise s k source).bi.refusedCount = s.bi.refusedCount ∧
    (raise s k source).bi.lastRefused = s.bi.lastRefused ∧ (raise s k source).bi.setupSpan = s.bi.setupSpan ∧
    (raise s k source).bi.opened = s.bi.opened ∧ (raise s k source).bi.hostStall = s.bi.hostStall ∧
    (raise s k source).bi.burstGranted = s.bi.burstGranted ∧ (raise s k source).bi.burstRefused = s.bi.burstRefused ∧
    (raise s k source).bi.waitCount = s.bi.waitCount ∧ (raise s k source).bi.engine = s.bi.engine ∧
    (raise s k source).bi.readData = s.bi.readData ∧ (raise s k source).nu.producer = s.nu.producer ∧
    (raise s k source).nu.reserved = s.nu.reserved ∧ (raise s k source).nu.attn = s.nu.attn ∧
    (raise s k source).su.header = s.su.header ∧ (raise s k source).su.lines = s.su.lines ∧
    (raise s k source).su.tenders = s.su.tenders ∧ (raise s k source).su.nextNumber = s.su.nextNumber ∧
    (raise s k source).su.event = s.su.event ∧ (raise s k source).su.claim = s.su.claim ∧
    (raise s k source).su.finished = s.su.finished := by
  unfold raise
  dsimp only
  simp

@[simp] theorem updateAttn_keeps (s : State) :
    (updateAttn s).bi = s.bi ∧ (updateAttn s).re = s.re ∧ (updateAttn s).lu = s.lu ∧ (updateAttn s).pwu = s.pwu ∧
    (updateAttn s).bwu = s.bwu ∧ (updateAttn s).su = s.su ∧ (updateAttn s).ctu = s.ctu ∧ (updateAttn s).tu = s.tu ∧
    (updateAttn s).pu = s.pu ∧ (updateAttn s).ju = s.ju ∧ (updateAttn s).mem = s.mem ∧ (updateAttn s).free = s.free ∧
    (updateAttn s).pending = s.pending := by
  unfold updateAttn
  simp

@[simp] theorem updateAttn_fields (s : State) :
    (updateAttn s).nu.producer = s.nu.producer ∧ (updateAttn s).nu.reserved = s.nu.reserved ∧
    (updateAttn s).nu.latches = s.nu.latches ∧ (updateAttn s).nu.writer = s.nu.writer ∧
    (updateAttn s).nu.owed = s.nu.owed := by
  unfold updateAttn
  simp

@[simp] theorem grantReservation_keeps (s : State) :
    (grantReservation s).lu = s.lu ∧ (grantReservation s).pwu = s.pwu ∧ (grantReservation s).bwu = s.bwu ∧
    (grantReservation s).su = s.su ∧ (grantReservation s).ctu = s.ctu ∧ (grantReservation s).tu = s.tu ∧
    (grantReservation s).pu = s.pu ∧ (grantReservation s).ju = s.ju ∧ (grantReservation s).mem = s.mem ∧
    (grantReservation s).free = s.free ∧ (grantReservation s).pending = s.pending := by
  unfold grantReservation
  simp

@[simp] theorem grantReservation_fields (s : State) :
    (grantReservation s).bi.laSel = s.bi.laSel ∧ (grantReservation s).bi.bagFit = s.bi.bagFit ∧
    (grantReservation s).bi.inReset = s.bi.inReset ∧ (grantReservation s).bi.reqProducer = s.bi.reqProducer ∧
    (grantReservation s).bi.evtConsumer = s.bi.evtConsumer ∧
    (grantReservation s).bi.journalExport = s.bi.journalExport ∧
    (grantReservation s).bi.noticeMask = s.bi.noticeMask ∧ (grantReservation s).bi.receiptFill = s.bi.receiptFill ∧
    (grantReservation s).bi.pageTable = s.bi.pageTable ∧ (grantReservation s).bi.refusedCount = s.bi.refusedCount ∧
    (grantReservation s).bi.lastRefused = s.bi.lastRefused ∧ (grantReservation s).bi.setupSpan = s.bi.setupSpan ∧
    (grantReservation s).bi.waiting = s.bi.waiting ∧ (grantReservation s).bi.opened = s.bi.opened ∧
    (grantReservation s).bi.nextWindow = s.bi.nextWindow ∧ (grantReservation s).bi.nextGroup = s.bi.nextGroup ∧
    (grantReservation s).bi.hostStall = s.bi.hostStall ∧ (grantReservation s).bi.burstGranted = s.bi.burstGranted ∧
    (grantReservation s).bi.burstRefused = s.bi.burstRefused ∧ (grantReservation s).bi.waitCount = s.bi.waitCount ∧
    (grantReservation s).bi.readData = s.bi.readData ∧ (grantReservation s).re.device = s.re.device ∧
    (grantReservation s).re.consumer = s.re.consumer ∧ (grantReservation s).re.record = s.re.record ∧
    (grantReservation s).re.outcome = s.re.outcome ∧ (grantReservation s).re.statusDue = s.re.statusDue ∧
    (grantReservation s).re.setupRead = s.re.setupRead ∧ (grantReservation s).re.setup = s.re.setup ∧
    (grantReservation s).re.laneNumber = s.re.laneNumber ∧ (grantReservation s).re.clock = s.re.clock ∧
    (grantReservation s).re.lastCommit = s.re.lastCommit ∧ (grantReservation s).re.failField = s.re.failField ∧
    (grantReservation s).re.resetDue = s.re.resetDue ∧ (grantReservation s).re.resetting = s.re.resetting ∧
    (grantReservation s).nu.producer = s.nu.producer ∧ (grantReservation s).nu.latches = s.nu.latches ∧
    (grantReservation s).nu.attn = s.nu.attn ∧ (grantReservation s).nu.writer = s.nu.writer ∧
    (grantReservation s).nu.owed = s.nu.owed := by
  unfold grantReservation
  simp

@[simp] theorem nextRequest_keeps (s : State) :
    (nextRequest s).lu = s.lu ∧ (nextRequest s).pwu = s.pwu ∧ (nextRequest s).bwu = s.bwu ∧
    (nextRequest s).su = s.su ∧ (nextRequest s).ctu = s.ctu ∧ (nextRequest s).tu = s.tu ∧ (nextRequest s).pu = s.pu ∧
    (nextRequest s).ju = s.ju ∧ (nextRequest s).mem = s.mem ∧ (nextRequest s).free = s.free ∧
    (nextRequest s).pending = s.pending := by
  unfold nextRequest
  (repeat' split) <;> simp

@[simp] theorem nextRequest_fields (s : State) :
    (nextRequest s).bi.laSel = s.bi.laSel ∧ (nextRequest s).bi.bagFit = s.bi.bagFit ∧
    (nextRequest s).bi.inReset = s.bi.inReset ∧ (nextRequest s).bi.reqProducer = s.bi.reqProducer ∧
    (nextRequest s).bi.evtConsumer = s.bi.evtConsumer ∧ (nextRequest s).bi.journalExport = s.bi.journalExport ∧
    (nextRequest s).bi.noticeMask = s.bi.noticeMask ∧ (nextRequest s).bi.receiptFill = s.bi.receiptFill ∧
    (nextRequest s).bi.pageTable = s.bi.pageTable ∧ (nextRequest s).bi.refusedCount = s.bi.refusedCount ∧
    (nextRequest s).bi.lastRefused = s.bi.lastRefused ∧ (nextRequest s).bi.setupSpan = s.bi.setupSpan ∧
    (nextRequest s).bi.waiting = s.bi.waiting ∧ (nextRequest s).bi.opened = s.bi.opened ∧
    (nextRequest s).bi.nextWindow = s.bi.nextWindow ∧ (nextRequest s).bi.nextGroup = s.bi.nextGroup ∧
    (nextRequest s).bi.hostStall = s.bi.hostStall ∧ (nextRequest s).bi.burstGranted = s.bi.burstGranted ∧
    (nextRequest s).bi.burstRefused = s.bi.burstRefused ∧ (nextRequest s).bi.waitCount = s.bi.waitCount ∧
    (nextRequest s).bi.readData = s.bi.readData ∧ (nextRequest s).re.device = s.re.device ∧
    (nextRequest s).re.consumer = s.re.consumer ∧ (nextRequest s).re.record = s.re.record ∧
    (nextRequest s).re.outcome = s.re.outcome ∧ (nextRequest s).re.statusDue = s.re.statusDue ∧
    (nextRequest s).re.setupRead = s.re.setupRead ∧ (nextRequest s).re.setup = s.re.setup ∧
    (nextRequest s).re.laneNumber = s.re.laneNumber ∧ (nextRequest s).re.clock = s.re.clock ∧
    (nextRequest s).re.lastCommit = s.re.lastCommit ∧ (nextRequest s).re.failField = s.re.failField ∧
    (nextRequest s).re.resetDue = s.re.resetDue ∧ (nextRequest s).re.resetting = s.re.resetting ∧
    (nextRequest s).nu.producer = s.nu.producer ∧ (nextRequest s).nu.latches = s.nu.latches ∧
    (nextRequest s).nu.attn = s.nu.attn ∧ (nextRequest s).nu.writer = s.nu.writer ∧
    (nextRequest s).nu.owed = s.nu.owed := by
  unfold nextRequest
  (repeat' split) <;> simp

@[simp] theorem consumerAdvance_keeps (s : State) :
    (consumerAdvance s).lu = s.lu ∧ (consumerAdvance s).pwu = s.pwu ∧ (consumerAdvance s).bwu = s.bwu ∧
    (consumerAdvance s).ctu = s.ctu ∧ (consumerAdvance s).tu = s.tu ∧ (consumerAdvance s).pu = s.pu ∧
    (consumerAdvance s).ju = s.ju ∧ (consumerAdvance s).mem = s.mem ∧ (consumerAdvance s).free = s.free ∧
    (consumerAdvance s).pending = s.pending := by
  unfold consumerAdvance
  (repeat' split) <;> simp

@[simp] theorem consumerAdvance_fields (s : State) :
    (consumerAdvance s).bi.laSel = s.bi.laSel ∧ (consumerAdvance s).bi.bagFit = s.bi.bagFit ∧
    (consumerAdvance s).bi.inReset = s.bi.inReset ∧ (consumerAdvance s).bi.reqProducer = s.bi.reqProducer ∧
    (consumerAdvance s).bi.evtConsumer = s.bi.evtConsumer ∧
    (consumerAdvance s).bi.journalExport = s.bi.journalExport ∧ (consumerAdvance s).bi.noticeMask = s.bi.noticeMask ∧
    (consumerAdvance s).bi.receiptFill = s.bi.receiptFill ∧ (consumerAdvance s).bi.pageTable = s.bi.pageTable ∧
    (consumerAdvance s).bi.refusedCount = s.bi.refusedCount ∧ (consumerAdvance s).bi.lastRefused = s.bi.lastRefused ∧
    (consumerAdvance s).bi.setupSpan = s.bi.setupSpan ∧ (consumerAdvance s).bi.opened = s.bi.opened ∧
    (consumerAdvance s).bi.hostStall = s.bi.hostStall ∧ (consumerAdvance s).bi.burstGranted = s.bi.burstGranted ∧
    (consumerAdvance s).bi.burstRefused = s.bi.burstRefused ∧ (consumerAdvance s).bi.waitCount = s.bi.waitCount ∧
    (consumerAdvance s).bi.readData = s.bi.readData ∧ (consumerAdvance s).re.device = s.re.device ∧
    (consumerAdvance s).re.consumer = s.re.consumer ∧ (consumerAdvance s).re.record = s.re.record ∧
    (consumerAdvance s).re.outcome = s.re.outcome ∧ (consumerAdvance s).re.statusDue = s.re.statusDue ∧
    (consumerAdvance s).re.setupRead = s.re.setupRead ∧ (consumerAdvance s).re.setup = s.re.setup ∧
    (consumerAdvance s).re.laneNumber = s.re.laneNumber ∧ (consumerAdvance s).re.clock = s.re.clock ∧
    (consumerAdvance s).re.lastCommit = s.re.lastCommit ∧ (consumerAdvance s).re.failField = s.re.failField ∧
    (consumerAdvance s).re.resetDue = s.re.resetDue ∧ (consumerAdvance s).re.resetting = s.re.resetting ∧
    (consumerAdvance s).nu.producer = s.nu.producer ∧ (consumerAdvance s).su.header = s.su.header ∧
    (consumerAdvance s).su.lines = s.su.lines ∧ (consumerAdvance s).su.tenders = s.su.tenders ∧
    (consumerAdvance s).su.nextNumber = s.su.nextNumber ∧ (consumerAdvance s).su.event = s.su.event ∧
    (consumerAdvance s).su.claim = s.su.claim ∧ (consumerAdvance s).su.finished = s.su.finished := by
  unfold consumerAdvance
  (repeat' split) <;> simp

@[simp] theorem passCompletion_keeps (s : State) (o : ReqOutcome) :
    (passCompletion s o).lu = s.lu ∧ (passCompletion s o).pwu = s.pwu ∧ (passCompletion s o).bwu = s.bwu ∧
    (passCompletion s o).ctu = s.ctu ∧ (passCompletion s o).tu = s.tu ∧ (passCompletion s o).pu = s.pu ∧
    (passCompletion s o).ju = s.ju ∧ (passCompletion s o).mem = s.mem ∧ (passCompletion s o).free = s.free ∧
    (passCompletion s o).pending = s.pending := by
  unfold passCompletion
  simp

@[simp] theorem passCompletion_fields (s : State) (o : ReqOutcome) :
    (passCompletion s o).bi.laSel = s.bi.laSel ∧ (passCompletion s o).bi.bagFit = s.bi.bagFit ∧
    (passCompletion s o).bi.inReset = s.bi.inReset ∧ (passCompletion s o).bi.reqProducer = s.bi.reqProducer ∧
    (passCompletion s o).bi.evtConsumer = s.bi.evtConsumer ∧
    (passCompletion s o).bi.journalExport = s.bi.journalExport ∧
    (passCompletion s o).bi.noticeMask = s.bi.noticeMask ∧ (passCompletion s o).bi.receiptFill = s.bi.receiptFill ∧
    (passCompletion s o).bi.pageTable = s.bi.pageTable ∧ (passCompletion s o).bi.refusedCount = s.bi.refusedCount ∧
    (passCompletion s o).bi.lastRefused = s.bi.lastRefused ∧ (passCompletion s o).bi.setupSpan = s.bi.setupSpan ∧
    (passCompletion s o).bi.opened = s.bi.opened ∧ (passCompletion s o).bi.hostStall = s.bi.hostStall ∧
    (passCompletion s o).bi.burstGranted = s.bi.burstGranted ∧
    (passCompletion s o).bi.burstRefused = s.bi.burstRefused ∧ (passCompletion s o).bi.waitCount = s.bi.waitCount ∧
    (passCompletion s o).bi.engine = s.bi.engine ∧ (passCompletion s o).bi.readData = s.bi.readData ∧
    (passCompletion s o).re.device = s.re.device ∧ (passCompletion s o).re.consumer = s.re.consumer ∧
    (passCompletion s o).re.fetched = s.re.fetched ∧ (passCompletion s o).re.record = s.re.record ∧
    (passCompletion s o).re.outcome = s.re.outcome ∧ (passCompletion s o).re.statusDue = s.re.statusDue ∧
    (passCompletion s o).re.setupRead = s.re.setupRead ∧ (passCompletion s o).re.setup = s.re.setup ∧
    (passCompletion s o).re.laneNumber = s.re.laneNumber ∧ (passCompletion s o).re.clock = s.re.clock ∧
    (passCompletion s o).re.lastCommit = s.re.lastCommit ∧ (passCompletion s o).re.failField = s.re.failField ∧
    (passCompletion s o).re.resetDue = s.re.resetDue ∧ (passCompletion s o).re.resetting = s.re.resetting ∧
    (passCompletion s o).nu.producer = s.nu.producer ∧ (passCompletion s o).nu.reserved = s.nu.reserved ∧
    (passCompletion s o).nu.attn = s.nu.attn ∧ (passCompletion s o).su.header = s.su.header ∧
    (passCompletion s o).su.lines = s.su.lines ∧ (passCompletion s o).su.tenders = s.su.tenders ∧
    (passCompletion s o).su.nextNumber = s.su.nextNumber ∧ (passCompletion s o).su.event = s.su.event ∧
    (passCompletion s o).su.claim = s.su.claim ∧ (passCompletion s o).su.finished = s.su.finished := by
  unfold passCompletion
  simp

@[simp] theorem requestProgress_keeps (s : State) :
    (requestProgress s).lu = s.lu ∧ (requestProgress s).pwu = s.pwu ∧ (requestProgress s).bwu = s.bwu ∧
    (requestProgress s).ctu = s.ctu ∧ (requestProgress s).tu = s.tu ∧ (requestProgress s).pu = s.pu ∧
    (requestProgress s).ju = s.ju ∧ (requestProgress s).mem = s.mem ∧ (requestProgress s).free = s.free ∧
    (requestProgress s).pending = s.pending := by
  unfold requestProgress
  (repeat' split) <;> simp

@[simp] theorem requestProgress_fields (s : State) :
    (requestProgress s).bi.laSel = s.bi.laSel ∧ (requestProgress s).bi.bagFit = s.bi.bagFit ∧
    (requestProgress s).bi.inReset = s.bi.inReset ∧ (requestProgress s).bi.reqProducer = s.bi.reqProducer ∧
    (requestProgress s).bi.evtConsumer = s.bi.evtConsumer ∧
    (requestProgress s).bi.journalExport = s.bi.journalExport ∧ (requestProgress s).bi.noticeMask = s.bi.noticeMask ∧
    (requestProgress s).bi.receiptFill = s.bi.receiptFill ∧ (requestProgress s).bi.pageTable = s.bi.pageTable ∧
    (requestProgress s).bi.refusedCount = s.bi.refusedCount ∧ (requestProgress s).bi.lastRefused = s.bi.lastRefused ∧
    (requestProgress s).bi.setupSpan = s.bi.setupSpan ∧ (requestProgress s).bi.opened = s.bi.opened ∧
    (requestProgress s).bi.hostStall = s.bi.hostStall ∧ (requestProgress s).bi.burstGranted = s.bi.burstGranted ∧
    (requestProgress s).bi.burstRefused = s.bi.burstRefused ∧ (requestProgress s).bi.waitCount = s.bi.waitCount ∧
    (requestProgress s).bi.engine = s.bi.engine ∧ (requestProgress s).bi.readData = s.bi.readData ∧
    (requestProgress s).re.device = s.re.device ∧ (requestProgress s).re.consumer = s.re.consumer ∧
    (requestProgress s).re.fetched = s.re.fetched ∧ (requestProgress s).re.record = s.re.record ∧
    (requestProgress s).re.outcome = s.re.outcome ∧ (requestProgress s).re.setupRead = s.re.setupRead ∧
    (requestProgress s).re.setup = s.re.setup ∧ (requestProgress s).re.laneNumber = s.re.laneNumber ∧
    (requestProgress s).re.clock = s.re.clock ∧ (requestProgress s).re.lastCommit = s.re.lastCommit ∧
    (requestProgress s).re.failField = s.re.failField ∧ (requestProgress s).re.resetDue = s.re.resetDue ∧
    (requestProgress s).re.resetting = s.re.resetting ∧ (requestProgress s).nu.producer = s.nu.producer ∧
    (requestProgress s).nu.reserved = s.nu.reserved ∧ (requestProgress s).nu.attn = s.nu.attn ∧
    (requestProgress s).su.header = s.su.header ∧ (requestProgress s).su.lines = s.su.lines ∧
    (requestProgress s).su.tenders = s.su.tenders ∧ (requestProgress s).su.nextNumber = s.su.nextNumber ∧
    (requestProgress s).su.event = s.su.event ∧ (requestProgress s).su.claim = s.su.claim ∧
    (requestProgress s).su.finished = s.su.finished := by
  unfold requestProgress
  (repeat' split) <;> simp

@[simp] theorem finishRequest_keeps (s : State) (r : ResultCode) (d1 d2 : Word) :
    (finishRequest s r d1 d2).lu = s.lu ∧ (finishRequest s r d1 d2).pwu = s.pwu ∧
    (finishRequest s r d1 d2).bwu = s.bwu ∧ (finishRequest s r d1 d2).ctu = s.ctu ∧
    (finishRequest s r d1 d2).tu = s.tu ∧ (finishRequest s r d1 d2).pu = s.pu ∧ (finishRequest s r d1 d2).ju = s.ju ∧
    (finishRequest s r d1 d2).mem = s.mem ∧ (finishRequest s r d1 d2).free = s.free ∧
    (finishRequest s r d1 d2).pending = s.pending := by
  unfold finishRequest
  simp

@[simp] theorem finishRequest_fields (s : State) (r : ResultCode) (d1 d2 : Word) :
    (finishRequest s r d1 d2).bi.laSel = s.bi.laSel ∧ (finishRequest s r d1 d2).bi.bagFit = s.bi.bagFit ∧
    (finishRequest s r d1 d2).bi.inReset = s.bi.inReset ∧
    (finishRequest s r d1 d2).bi.reqProducer = s.bi.reqProducer ∧
    (finishRequest s r d1 d2).bi.evtConsumer = s.bi.evtConsumer ∧
    (finishRequest s r d1 d2).bi.journalExport = s.bi.journalExport ∧
    (finishRequest s r d1 d2).bi.noticeMask = s.bi.noticeMask ∧
    (finishRequest s r d1 d2).bi.receiptFill = s.bi.receiptFill ∧
    (finishRequest s r d1 d2).bi.pageTable = s.bi.pageTable ∧
    (finishRequest s r d1 d2).bi.refusedCount = s.bi.refusedCount ∧
    (finishRequest s r d1 d2).bi.lastRefused = s.bi.lastRefused ∧
    (finishRequest s r d1 d2).bi.setupSpan = s.bi.setupSpan ∧ (finishRequest s r d1 d2).bi.opened = s.bi.opened ∧
    (finishRequest s r d1 d2).bi.hostStall = s.bi.hostStall ∧
    (finishRequest s r d1 d2).bi.burstGranted = s.bi.burstGranted ∧
    (finishRequest s r d1 d2).bi.burstRefused = s.bi.burstRefused ∧
    (finishRequest s r d1 d2).bi.waitCount = s.bi.waitCount ∧ (finishRequest s r d1 d2).bi.engine = s.bi.engine ∧
    (finishRequest s r d1 d2).bi.readData = s.bi.readData ∧ (finishRequest s r d1 d2).re.device = s.re.device ∧
    (finishRequest s r d1 d2).re.consumer = s.re.consumer ∧ (finishRequest s r d1 d2).re.fetched = s.re.fetched ∧
    (finishRequest s r d1 d2).re.record = s.re.record ∧ (finishRequest s r d1 d2).re.setupRead = s.re.setupRead ∧
    (finishRequest s r d1 d2).re.setup = s.re.setup ∧ (finishRequest s r d1 d2).re.laneNumber = s.re.laneNumber ∧
    (finishRequest s r d1 d2).re.clock = s.re.clock ∧ (finishRequest s r d1 d2).re.lastCommit = s.re.lastCommit ∧
    (finishRequest s r d1 d2).re.failField = s.re.failField ∧ (finishRequest s r d1 d2).re.resetDue = s.re.resetDue ∧
    (finishRequest s r d1 d2).re.resetting = s.re.resetting ∧ (finishRequest s r d1 d2).nu.producer = s.nu.producer ∧
    (finishRequest s r d1 d2).nu.reserved = s.nu.reserved ∧ (finishRequest s r d1 d2).nu.attn = s.nu.attn ∧
    (finishRequest s r d1 d2).su.header = s.su.header ∧ (finishRequest s r d1 d2).su.lines = s.su.lines ∧
    (finishRequest s r d1 d2).su.tenders = s.su.tenders ∧ (finishRequest s r d1 d2).su.nextNumber = s.su.nextNumber ∧
    (finishRequest s r d1 d2).su.event = s.su.event ∧ (finishRequest s r d1 d2).su.claim = s.su.claim ∧
    (finishRequest s r d1 d2).su.finished = s.su.finished := by
  unfold finishRequest
  simp

@[simp] theorem failRequest_eq (s : State) (r : ResultCode) : failRequest s r = finishRequest s r 0 0 := rfl

@[simp] theorem linkError_keeps (s : State) (l : LinkId) (kind : ErrorKind) (place : RxField × Nat) :
    (linkError s l kind place).re = s.re ∧ (linkError s l kind place).nu = s.nu ∧
    (linkError s l kind place).pwu = s.pwu ∧ (linkError s l kind place).bwu = s.bwu ∧
    (linkError s l kind place).su = s.su ∧ (linkError s l kind place).ctu = s.ctu ∧
    (linkError s l kind place).tu = s.tu ∧ (linkError s l kind place).pu = s.pu ∧
    (linkError s l kind place).ju = s.ju ∧ (linkError s l kind place).mem = s.mem ∧
    (linkError s l kind place).free = s.free ∧ (linkError s l kind place).pending = s.pending := by
  unfold linkError
  dsimp only
  simp

@[simp] theorem linkError_fields (s : State) (l : LinkId) (kind : ErrorKind) (place : RxField × Nat) :
    (linkError s l kind place).bi.laSel = s.bi.laSel ∧ (linkError s l kind place).bi.bagFit = s.bi.bagFit ∧
    (linkError s l kind place).bi.inReset = s.bi.inReset ∧
    (linkError s l kind place).bi.reqProducer = s.bi.reqProducer ∧
    (linkError s l kind place).bi.evtConsumer = s.bi.evtConsumer ∧
    (linkError s l kind place).bi.journalExport = s.bi.journalExport ∧
    (linkError s l kind place).bi.noticeMask = s.bi.noticeMask ∧
    (linkError s l kind place).bi.receiptFill = s.bi.receiptFill ∧
    (linkError s l kind place).bi.pageTable = s.bi.pageTable ∧
    (linkError s l kind place).bi.refusedCount = s.bi.refusedCount ∧
    (linkError s l kind place).bi.lastRefused = s.bi.lastRefused ∧
    (linkError s l kind place).bi.setupSpan = s.bi.setupSpan ∧ (linkError s l kind place).bi.opened = s.bi.opened ∧
    (linkError s l kind place).bi.hostStall = s.bi.hostStall ∧
    (linkError s l kind place).bi.burstGranted = s.bi.burstGranted ∧
    (linkError s l kind place).bi.burstRefused = s.bi.burstRefused ∧
    (linkError s l kind place).bi.waitCount = s.bi.waitCount ∧ (linkError s l kind place).bi.engine = s.bi.engine ∧
    (linkError s l kind place).bi.readData = s.bi.readData := by
  unfold linkError
  dsimp only
  simp

@[simp] theorem queueHello_keeps (s : State) (l : LinkId) :
    (queueHello s l).bi = s.bi ∧ (queueHello s l).re = s.re ∧ (queueHello s l).nu = s.nu ∧
    (queueHello s l).pwu = s.pwu ∧ (queueHello s l).bwu = s.bwu ∧ (queueHello s l).su = s.su ∧
    (queueHello s l).ctu = s.ctu ∧ (queueHello s l).tu = s.tu ∧ (queueHello s l).pu = s.pu ∧
    (queueHello s l).ju = s.ju ∧ (queueHello s l).mem = s.mem ∧ (queueHello s l).free = s.free ∧
    (queueHello s l).pending = s.pending := by
  unfold queueHello
  dsimp only
  (repeat' split) <;> simp

@[simp] theorem linkSend_eq (s : State) (l : LinkId) (kind : Byte) (payload : List Byte) :
    linkSend s l kind payload
      = s.setLink l ((s.link l).push kind payload) := rfl

@[simp] theorem startSilence_keeps (s : State) (l : LinkId) :
    (startSilence s l).bi = s.bi ∧ (startSilence s l).re = s.re ∧ (startSilence s l).nu = s.nu ∧
    (startSilence s l).pwu = s.pwu ∧ (startSilence s l).bwu = s.bwu ∧ (startSilence s l).su = s.su ∧
    (startSilence s l).ctu = s.ctu ∧ (startSilence s l).tu = s.tu ∧ (startSilence s l).pu = s.pu ∧
    (startSilence s l).ju = s.ju ∧ (startSilence s l).mem = s.mem ∧ (startSilence s l).free = s.free ∧
    (startSilence s l).pending = s.pending := by
  unfold startSilence
  simp

@[simp] theorem changeLink_keeps (s : State) (l : LinkId) (new : LinkState) (reason : LinkReason) :
    (changeLink s l new reason).re = s.re ∧ (changeLink s l new reason).pwu = s.pwu ∧
    (changeLink s l new reason).bwu = s.bwu ∧ (changeLink s l new reason).ctu = s.ctu ∧
    (changeLink s l new reason).tu = s.tu ∧ (changeLink s l new reason).pu = s.pu ∧
    (changeLink s l new reason).ju = s.ju ∧ (changeLink s l new reason).mem = s.mem ∧
    (changeLink s l new reason).free = s.free ∧ (changeLink s l new reason).pending = s.pending := by
  unfold changeLink
  dsimp only
  simp

@[simp] theorem changeLink_fields (s : State) (l : LinkId) (new : LinkState) (reason : LinkReason) :
    (changeLink s l new reason).bi.laSel = s.bi.laSel ∧ (changeLink s l new reason).bi.bagFit = s.bi.bagFit ∧
    (changeLink s l new reason).bi.inReset = s.bi.inReset ∧
    (changeLink s l new reason).bi.reqProducer = s.bi.reqProducer ∧
    (changeLink s l new reason).bi.evtConsumer = s.bi.evtConsumer ∧
    (changeLink s l new reason).bi.journalExport = s.bi.journalExport ∧
    (changeLink s l new reason).bi.noticeMask = s.bi.noticeMask ∧
    (changeLink s l new reason).bi.receiptFill = s.bi.receiptFill ∧
    (changeLink s l new reason).bi.pageTable = s.bi.pageTable ∧
    (changeLink s l new reason).bi.refusedCount = s.bi.refusedCount ∧
    (changeLink s l new reason).bi.lastRefused = s.bi.lastRefused ∧
    (changeLink s l new reason).bi.setupSpan = s.bi.setupSpan ∧ (changeLink s l new reason).bi.opened = s.bi.opened ∧
    (changeLink s l new reason).bi.hostStall = s.bi.hostStall ∧
    (changeLink s l new reason).bi.burstGranted = s.bi.burstGranted ∧
    (changeLink s l new reason).bi.burstRefused = s.bi.burstRefused ∧
    (changeLink s l new reason).bi.waitCount = s.bi.waitCount ∧ (changeLink s l new reason).bi.engine = s.bi.engine ∧
    (changeLink s l new reason).bi.readData = s.bi.readData ∧
    (changeLink s l new reason).nu.producer = s.nu.producer ∧
    (changeLink s l new reason).nu.reserved = s.nu.reserved ∧ (changeLink s l new reason).nu.attn = s.nu.attn ∧
    (changeLink s l new reason).su.header = s.su.header ∧ (changeLink s l new reason).su.lines = s.su.lines ∧
    (changeLink s l new reason).su.tenders = s.su.tenders ∧
    (changeLink s l new reason).su.nextNumber = s.su.nextNumber ∧ (changeLink s l new reason).su.event = s.su.event ∧
    (changeLink s l new reason).su.claim = s.su.claim ∧ (changeLink s l new reason).su.finished = s.su.finished := by
  unfold changeLink
  dsimp only
  simp

@[simp] theorem enterUnseen_keeps (s : State) (l : LinkId) (reason : LinkReason) :
    (enterUnseen s l reason).re = s.re ∧ (enterUnseen s l reason).pwu = s.pwu ∧
    (enterUnseen s l reason).bwu = s.bwu ∧ (enterUnseen s l reason).ctu = s.ctu ∧
    (enterUnseen s l reason).tu = s.tu ∧ (enterUnseen s l reason).pu = s.pu ∧ (enterUnseen s l reason).ju = s.ju ∧
    (enterUnseen s l reason).mem = s.mem ∧ (enterUnseen s l reason).free = s.free ∧
    (enterUnseen s l reason).pending = s.pending := by
  unfold enterUnseen
  dsimp only
  (repeat' split) <;> simp

@[simp] theorem enterUnseen_fields (s : State) (l : LinkId) (reason : LinkReason) :
    (enterUnseen s l reason).bi.laSel = s.bi.laSel ∧ (enterUnseen s l reason).bi.bagFit = s.bi.bagFit ∧
    (enterUnseen s l reason).bi.inReset = s.bi.inReset ∧ (enterUnseen s l reason).bi.reqProducer = s.bi.reqProducer ∧
    (enterUnseen s l reason).bi.evtConsumer = s.bi.evtConsumer ∧
    (enterUnseen s l reason).bi.journalExport = s.bi.journalExport ∧
    (enterUnseen s l reason).bi.noticeMask = s.bi.noticeMask ∧
    (enterUnseen s l reason).bi.receiptFill = s.bi.receiptFill ∧
    (enterUnseen s l reason).bi.pageTable = s.bi.pageTable ∧
    (enterUnseen s l reason).bi.refusedCount = s.bi.refusedCount ∧
    (enterUnseen s l reason).bi.lastRefused = s.bi.lastRefused ∧
    (enterUnseen s l reason).bi.setupSpan = s.bi.setupSpan ∧ (enterUnseen s l reason).bi.opened = s.bi.opened ∧
    (enterUnseen s l reason).bi.hostStall = s.bi.hostStall ∧
    (enterUnseen s l reason).bi.burstGranted = s.bi.burstGranted ∧
    (enterUnseen s l reason).bi.burstRefused = s.bi.burstRefused ∧
    (enterUnseen s l reason).bi.waitCount = s.bi.waitCount ∧ (enterUnseen s l reason).bi.engine = s.bi.engine ∧
    (enterUnseen s l reason).bi.readData = s.bi.readData ∧ (enterUnseen s l reason).nu.producer = s.nu.producer ∧
    (enterUnseen s l reason).nu.reserved = s.nu.reserved ∧ (enterUnseen s l reason).nu.attn = s.nu.attn ∧
    (enterUnseen s l reason).su.header = s.su.header ∧ (enterUnseen s l reason).su.lines = s.su.lines ∧
    (enterUnseen s l reason).su.tenders = s.su.tenders ∧ (enterUnseen s l reason).su.nextNumber = s.su.nextNumber ∧
    (enterUnseen s l reason).su.event = s.su.event ∧ (enterUnseen s l reason).su.claim = s.su.claim ∧
    (enterUnseen s l reason).su.finished = s.su.finished := by
  unfold enterUnseen
  dsimp only
  (repeat' split) <;> simp

@[simp] theorem enterDown_keeps (s : State) (l : LinkId) (reason : LinkReason) :
    (enterDown s l reason).re = s.re ∧ (enterDown s l reason).pwu = s.pwu ∧ (enterDown s l reason).bwu = s.bwu ∧
    (enterDown s l reason).ctu = s.ctu ∧ (enterDown s l reason).tu = s.tu ∧ (enterDown s l reason).pu = s.pu ∧
    (enterDown s l reason).ju = s.ju ∧ (enterDown s l reason).mem = s.mem ∧ (enterDown s l reason).free = s.free ∧
    (enterDown s l reason).pending = s.pending := by
  unfold enterDown
  simp

@[simp] theorem enterDown_fields (s : State) (l : LinkId) (reason : LinkReason) :
    (enterDown s l reason).bi.laSel = s.bi.laSel ∧ (enterDown s l reason).bi.bagFit = s.bi.bagFit ∧
    (enterDown s l reason).bi.inReset = s.bi.inReset ∧ (enterDown s l reason).bi.reqProducer = s.bi.reqProducer ∧
    (enterDown s l reason).bi.evtConsumer = s.bi.evtConsumer ∧
    (enterDown s l reason).bi.journalExport = s.bi.journalExport ∧
    (enterDown s l reason).bi.noticeMask = s.bi.noticeMask ∧
    (enterDown s l reason).bi.receiptFill = s.bi.receiptFill ∧ (enterDown s l reason).bi.pageTable = s.bi.pageTable ∧
    (enterDown s l reason).bi.refusedCount = s.bi.refusedCount ∧
    (enterDown s l reason).bi.lastRefused = s.bi.lastRefused ∧ (enterDown s l reason).bi.setupSpan = s.bi.setupSpan ∧
    (enterDown s l reason).bi.opened = s.bi.opened ∧ (enterDown s l reason).bi.hostStall = s.bi.hostStall ∧
    (enterDown s l reason).bi.burstGranted = s.bi.burstGranted ∧
    (enterDown s l reason).bi.burstRefused = s.bi.burstRefused ∧
    (enterDown s l reason).bi.waitCount = s.bi.waitCount ∧ (enterDown s l reason).bi.engine = s.bi.engine ∧
    (enterDown s l reason).bi.readData = s.bi.readData ∧ (enterDown s l reason).nu.producer = s.nu.producer ∧
    (enterDown s l reason).nu.reserved = s.nu.reserved ∧ (enterDown s l reason).nu.attn = s.nu.attn ∧
    (enterDown s l reason).su.header = s.su.header ∧ (enterDown s l reason).su.lines = s.su.lines ∧
    (enterDown s l reason).su.tenders = s.su.tenders ∧ (enterDown s l reason).su.nextNumber = s.su.nextNumber ∧
    (enterDown s l reason).su.event = s.su.event ∧ (enterDown s l reason).su.claim = s.su.claim ∧
    (enterDown s l reason).su.finished = s.su.finished := by
  unfold enterDown
  simp

@[simp] theorem enterMismatch_keeps (s : State) (l : LinkId) :
    (enterMismatch s l).re = s.re ∧ (enterMismatch s l).pwu = s.pwu ∧ (enterMismatch s l).bwu = s.bwu ∧
    (enterMismatch s l).ctu = s.ctu ∧ (enterMismatch s l).tu = s.tu ∧ (enterMismatch s l).pu = s.pu ∧
    (enterMismatch s l).ju = s.ju ∧ (enterMismatch s l).mem = s.mem ∧ (enterMismatch s l).free = s.free ∧
    (enterMismatch s l).pending = s.pending := by
  unfold enterMismatch
  simp

@[simp] theorem enterMismatch_fields (s : State) (l : LinkId) :
    (enterMismatch s l).bi.laSel = s.bi.laSel ∧ (enterMismatch s l).bi.bagFit = s.bi.bagFit ∧
    (enterMismatch s l).bi.inReset = s.bi.inReset ∧ (enterMismatch s l).bi.reqProducer = s.bi.reqProducer ∧
    (enterMismatch s l).bi.evtConsumer = s.bi.evtConsumer ∧
    (enterMismatch s l).bi.journalExport = s.bi.journalExport ∧ (enterMismatch s l).bi.noticeMask = s.bi.noticeMask ∧
    (enterMismatch s l).bi.receiptFill = s.bi.receiptFill ∧ (enterMismatch s l).bi.pageTable = s.bi.pageTable ∧
    (enterMismatch s l).bi.refusedCount = s.bi.refusedCount ∧ (enterMismatch s l).bi.lastRefused = s.bi.lastRefused ∧
    (enterMismatch s l).bi.setupSpan = s.bi.setupSpan ∧ (enterMismatch s l).bi.opened = s.bi.opened ∧
    (enterMismatch s l).bi.hostStall = s.bi.hostStall ∧ (enterMismatch s l).bi.burstGranted = s.bi.burstGranted ∧
    (enterMismatch s l).bi.burstRefused = s.bi.burstRefused ∧ (enterMismatch s l).bi.waitCount = s.bi.waitCount ∧
    (enterMismatch s l).bi.engine = s.bi.engine ∧ (enterMismatch s l).bi.readData = s.bi.readData ∧
    (enterMismatch s l).nu.producer = s.nu.producer ∧ (enterMismatch s l).nu.reserved = s.nu.reserved ∧
    (enterMismatch s l).nu.attn = s.nu.attn ∧ (enterMismatch s l).su.header = s.su.header ∧
    (enterMismatch s l).su.lines = s.su.lines ∧ (enterMismatch s l).su.tenders = s.su.tenders ∧
    (enterMismatch s l).su.nextNumber = s.su.nextNumber ∧ (enterMismatch s l).su.event = s.su.event ∧
    (enterMismatch s l).su.claim = s.su.claim ∧ (enterMismatch s l).su.finished = s.su.finished := by
  unfold enterMismatch
  simp

@[simp] theorem enterUp_keeps (s : State) (l : LinkId) (reason : LinkReason) :
    (enterUp s l reason).re = s.re ∧ (enterUp s l reason).pwu = s.pwu ∧ (enterUp s l reason).bwu = s.bwu ∧
    (enterUp s l reason).ctu = s.ctu ∧ (enterUp s l reason).tu = s.tu ∧ (enterUp s l reason).pu = s.pu ∧
    (enterUp s l reason).ju = s.ju ∧ (enterUp s l reason).mem = s.mem ∧ (enterUp s l reason).free = s.free ∧
    (enterUp s l reason).pending = s.pending := by
  unfold enterUp
  dsimp only
  (repeat' split) <;> simp

@[simp] theorem enterUp_fields (s : State) (l : LinkId) (reason : LinkReason) :
    (enterUp s l reason).bi.laSel = s.bi.laSel ∧ (enterUp s l reason).bi.bagFit = s.bi.bagFit ∧
    (enterUp s l reason).bi.inReset = s.bi.inReset ∧ (enterUp s l reason).bi.reqProducer = s.bi.reqProducer ∧
    (enterUp s l reason).bi.evtConsumer = s.bi.evtConsumer ∧
    (enterUp s l reason).bi.journalExport = s.bi.journalExport ∧
    (enterUp s l reason).bi.noticeMask = s.bi.noticeMask ∧ (enterUp s l reason).bi.receiptFill = s.bi.receiptFill ∧
    (enterUp s l reason).bi.pageTable = s.bi.pageTable ∧ (enterUp s l reason).bi.refusedCount = s.bi.refusedCount ∧
    (enterUp s l reason).bi.lastRefused = s.bi.lastRefused ∧ (enterUp s l reason).bi.setupSpan = s.bi.setupSpan ∧
    (enterUp s l reason).bi.opened = s.bi.opened ∧ (enterUp s l reason).bi.hostStall = s.bi.hostStall ∧
    (enterUp s l reason).bi.burstGranted = s.bi.burstGranted ∧
    (enterUp s l reason).bi.burstRefused = s.bi.burstRefused ∧ (enterUp s l reason).bi.waitCount = s.bi.waitCount ∧
    (enterUp s l reason).bi.engine = s.bi.engine ∧ (enterUp s l reason).bi.readData = s.bi.readData ∧
    (enterUp s l reason).nu.producer = s.nu.producer ∧ (enterUp s l reason).nu.reserved = s.nu.reserved ∧
    (enterUp s l reason).nu.attn = s.nu.attn ∧ (enterUp s l reason).su.header = s.su.header ∧
    (enterUp s l reason).su.lines = s.su.lines ∧ (enterUp s l reason).su.tenders = s.su.tenders ∧
    (enterUp s l reason).su.nextNumber = s.su.nextNumber ∧ (enterUp s l reason).su.event = s.su.event ∧
    (enterUp s l reason).su.claim = s.su.claim ∧ (enterUp s l reason).su.finished = s.su.finished := by
  unfold enterUp
  dsimp only
  (repeat' split) <;> simp

@[simp] theorem badAttempt_keeps (s : State) (l : LinkId) (kind : ErrorKind) (place : RxField × Nat) :
    (badAttempt s l kind place).re = s.re ∧ (badAttempt s l kind place).pwu = s.pwu ∧
    (badAttempt s l kind place).bwu = s.bwu ∧ (badAttempt s l kind place).ctu = s.ctu ∧
    (badAttempt s l kind place).tu = s.tu ∧ (badAttempt s l kind place).pu = s.pu ∧
    (badAttempt s l kind place).ju = s.ju ∧ (badAttempt s l kind place).mem = s.mem ∧
    (badAttempt s l kind place).free = s.free ∧ (badAttempt s l kind place).pending = s.pending := by
  unfold badAttempt
  dsimp only
  (repeat' split) <;> simp

@[simp] theorem badAttempt_fields (s : State) (l : LinkId) (kind : ErrorKind) (place : RxField × Nat) :
    (badAttempt s l kind place).bi.laSel = s.bi.laSel ∧ (badAttempt s l kind place).bi.bagFit = s.bi.bagFit ∧
    (badAttempt s l kind place).bi.inReset = s.bi.inReset ∧
    (badAttempt s l kind place).bi.reqProducer = s.bi.reqProducer ∧
    (badAttempt s l kind place).bi.evtConsumer = s.bi.evtConsumer ∧
    (badAttempt s l kind place).bi.journalExport = s.bi.journalExport ∧
    (badAttempt s l kind place).bi.noticeMask = s.bi.noticeMask ∧
    (badAttempt s l kind place).bi.receiptFill = s.bi.receiptFill ∧
    (badAttempt s l kind place).bi.pageTable = s.bi.pageTable ∧
    (badAttempt s l kind place).bi.refusedCount = s.bi.refusedCount ∧
    (badAttempt s l kind place).bi.lastRefused = s.bi.lastRefused ∧
    (badAttempt s l kind place).bi.setupSpan = s.bi.setupSpan ∧ (badAttempt s l kind place).bi.opened = s.bi.opened ∧
    (badAttempt s l kind place).bi.hostStall = s.bi.hostStall ∧
    (badAttempt s l kind place).bi.burstGranted = s.bi.burstGranted ∧
    (badAttempt s l kind place).bi.burstRefused = s.bi.burstRefused ∧
    (badAttempt s l kind place).bi.waitCount = s.bi.waitCount ∧ (badAttempt s l kind place).bi.engine = s.bi.engine ∧
    (badAttempt s l kind place).bi.readData = s.bi.readData ∧
    (badAttempt s l kind place).nu.producer = s.nu.producer ∧
    (badAttempt s l kind place).nu.reserved = s.nu.reserved ∧ (badAttempt s l kind place).nu.attn = s.nu.attn ∧
    (badAttempt s l kind place).su.header = s.su.header ∧ (badAttempt s l kind place).su.lines = s.su.lines ∧
    (badAttempt s l kind place).su.tenders = s.su.tenders ∧
    (badAttempt s l kind place).su.nextNumber = s.su.nextNumber ∧ (badAttempt s l kind place).su.event = s.su.event ∧
    (badAttempt s l kind place).su.claim = s.su.claim ∧ (badAttempt s l kind place).su.finished = s.su.finished := by
  unfold badAttempt
  dsimp only
  (repeat' split) <;> simp

@[simp] theorem deliver_keeps (s : State) (l : LinkId) (kind : Byte) (payload : List Byte) (gap : Bool) :
    (deliver s l kind payload gap).re = s.re ∧ (deliver s l kind payload gap).nu = s.nu ∧
    (deliver s l kind payload gap).pwu = s.pwu ∧ (deliver s l kind payload gap).bwu = s.bwu ∧
    (deliver s l kind payload gap).su = s.su ∧ (deliver s l kind payload gap).ctu = s.ctu ∧
    (deliver s l kind payload gap).tu = s.tu ∧ (deliver s l kind payload gap).pu = s.pu ∧
    (deliver s l kind payload gap).ju = s.ju ∧ (deliver s l kind payload gap).mem = s.mem ∧
    (deliver s l kind payload gap).free = s.free ∧ (deliver s l kind payload gap).pending = s.pending := by
  unfold deliver
  dsimp only
  (repeat' split) <;> simp

@[simp] theorem deliver_fields (s : State) (l : LinkId) (kind : Byte) (payload : List Byte) (gap : Bool) :
    (deliver s l kind payload gap).bi.laSel = s.bi.laSel ∧ (deliver s l kind payload gap).bi.bagFit = s.bi.bagFit ∧
    (deliver s l kind payload gap).bi.inReset = s.bi.inReset ∧
    (deliver s l kind payload gap).bi.reqProducer = s.bi.reqProducer ∧
    (deliver s l kind payload gap).bi.evtConsumer = s.bi.evtConsumer ∧
    (deliver s l kind payload gap).bi.journalExport = s.bi.journalExport ∧
    (deliver s l kind payload gap).bi.noticeMask = s.bi.noticeMask ∧
    (deliver s l kind payload gap).bi.receiptFill = s.bi.receiptFill ∧
    (deliver s l kind payload gap).bi.pageTable = s.bi.pageTable ∧
    (deliver s l kind payload gap).bi.refusedCount = s.bi.refusedCount ∧
    (deliver s l kind payload gap).bi.lastRefused = s.bi.lastRefused ∧
    (deliver s l kind payload gap).bi.setupSpan = s.bi.setupSpan ∧
    (deliver s l kind payload gap).bi.opened = s.bi.opened ∧
    (deliver s l kind payload gap).bi.hostStall = s.bi.hostStall ∧
    (deliver s l kind payload gap).bi.burstGranted = s.bi.burstGranted ∧
    (deliver s l kind payload gap).bi.burstRefused = s.bi.burstRefused ∧
    (deliver s l kind payload gap).bi.waitCount = s.bi.waitCount ∧
    (deliver s l kind payload gap).bi.engine = s.bi.engine ∧
    (deliver s l kind payload gap).bi.readData = s.bi.readData := by
  unfold deliver
  dsimp only
  (repeat' split) <;> simp

@[simp] theorem takeIdent_keeps (s : State) (l : LinkId) (device : Byte) :
    (takeIdent s l device).re = s.re ∧ (takeIdent s l device).pwu = s.pwu ∧ (takeIdent s l device).bwu = s.bwu ∧
    (takeIdent s l device).ctu = s.ctu ∧ (takeIdent s l device).tu = s.tu ∧ (takeIdent s l device).pu = s.pu ∧
    (takeIdent s l device).ju = s.ju ∧ (takeIdent s l device).mem = s.mem ∧ (takeIdent s l device).free = s.free ∧
    (takeIdent s l device).pending = s.pending := by
  unfold takeIdent
  dsimp only
  (repeat' split) <;> simp

@[simp] theorem takeIdent_fields (s : State) (l : LinkId) (device : Byte) :
    (takeIdent s l device).bi.laSel = s.bi.laSel ∧ (takeIdent s l device).bi.bagFit = s.bi.bagFit ∧
    (takeIdent s l device).bi.inReset = s.bi.inReset ∧ (takeIdent s l device).bi.reqProducer = s.bi.reqProducer ∧
    (takeIdent s l device).bi.evtConsumer = s.bi.evtConsumer ∧
    (takeIdent s l device).bi.journalExport = s.bi.journalExport ∧
    (takeIdent s l device).bi.noticeMask = s.bi.noticeMask ∧
    (takeIdent s l device).bi.receiptFill = s.bi.receiptFill ∧ (takeIdent s l device).bi.pageTable = s.bi.pageTable ∧
    (takeIdent s l device).bi.refusedCount = s.bi.refusedCount ∧
    (takeIdent s l device).bi.lastRefused = s.bi.lastRefused ∧ (takeIdent s l device).bi.setupSpan = s.bi.setupSpan ∧
    (takeIdent s l device).bi.opened = s.bi.opened ∧ (takeIdent s l device).bi.hostStall = s.bi.hostStall ∧
    (takeIdent s l device).bi.burstGranted = s.bi.burstGranted ∧
    (takeIdent s l device).bi.burstRefused = s.bi.burstRefused ∧
    (takeIdent s l device).bi.waitCount = s.bi.waitCount ∧ (takeIdent s l device).bi.engine = s.bi.engine ∧
    (takeIdent s l device).bi.readData = s.bi.readData ∧ (takeIdent s l device).nu.producer = s.nu.producer ∧
    (takeIdent s l device).nu.reserved = s.nu.reserved ∧ (takeIdent s l device).nu.attn = s.nu.attn ∧
    (takeIdent s l device).su.header = s.su.header ∧ (takeIdent s l device).su.lines = s.su.lines ∧
    (takeIdent s l device).su.tenders = s.su.tenders ∧ (takeIdent s l device).su.nextNumber = s.su.nextNumber ∧
    (takeIdent s l device).su.event = s.su.event ∧ (takeIdent s l device).su.claim = s.su.claim ∧
    (takeIdent s l device).su.finished = s.su.finished := by
  unfold takeIdent
  dsimp only
  (repeat' split) <;> simp

@[simp] theorem takeFrame_keeps (s : State) (l : LinkId) (kind : Byte) (payload : List Byte) (gap : Bool) :
    (takeFrame s l kind payload gap).re = s.re ∧ (takeFrame s l kind payload gap).pwu = s.pwu ∧
    (takeFrame s l kind payload gap).bwu = s.bwu ∧ (takeFrame s l kind payload gap).ctu = s.ctu ∧
    (takeFrame s l kind payload gap).tu = s.tu ∧ (takeFrame s l kind payload gap).pu = s.pu ∧
    (takeFrame s l kind payload gap).ju = s.ju ∧ (takeFrame s l kind payload gap).mem = s.mem ∧
    (takeFrame s l kind payload gap).free = s.free ∧ (takeFrame s l kind payload gap).pending = s.pending := by
  unfold takeFrame
  dsimp only
  (repeat' split) <;> simp

@[simp] theorem takeFrame_fields (s : State) (l : LinkId) (kind : Byte) (payload : List Byte) (gap : Bool) :
    (takeFrame s l kind payload gap).bi.laSel = s.bi.laSel ∧
    (takeFrame s l kind payload gap).bi.bagFit = s.bi.bagFit ∧
    (takeFrame s l kind payload gap).bi.inReset = s.bi.inReset ∧
    (takeFrame s l kind payload gap).bi.reqProducer = s.bi.reqProducer ∧
    (takeFrame s l kind payload gap).bi.evtConsumer = s.bi.evtConsumer ∧
    (takeFrame s l kind payload gap).bi.journalExport = s.bi.journalExport ∧
    (takeFrame s l kind payload gap).bi.noticeMask = s.bi.noticeMask ∧
    (takeFrame s l kind payload gap).bi.receiptFill = s.bi.receiptFill ∧
    (takeFrame s l kind payload gap).bi.pageTable = s.bi.pageTable ∧
    (takeFrame s l kind payload gap).bi.refusedCount = s.bi.refusedCount ∧
    (takeFrame s l kind payload gap).bi.lastRefused = s.bi.lastRefused ∧
    (takeFrame s l kind payload gap).bi.setupSpan = s.bi.setupSpan ∧
    (takeFrame s l kind payload gap).bi.opened = s.bi.opened ∧
    (takeFrame s l kind payload gap).bi.hostStall = s.bi.hostStall ∧
    (takeFrame s l kind payload gap).bi.burstGranted = s.bi.burstGranted ∧
    (takeFrame s l kind payload gap).bi.burstRefused = s.bi.burstRefused ∧
    (takeFrame s l kind payload gap).bi.waitCount = s.bi.waitCount ∧
    (takeFrame s l kind payload gap).bi.engine = s.bi.engine ∧
    (takeFrame s l kind payload gap).bi.readData = s.bi.readData ∧
    (takeFrame s l kind payload gap).nu.producer = s.nu.producer ∧
    (takeFrame s l kind payload gap).nu.reserved = s.nu.reserved ∧
    (takeFrame s l kind payload gap).nu.attn = s.nu.attn ∧ (takeFrame s l kind payload gap).su.header = s.su.header ∧
    (takeFrame s l kind payload gap).su.lines = s.su.lines ∧
    (takeFrame s l kind payload gap).su.tenders = s.su.tenders ∧
    (takeFrame s l kind payload gap).su.nextNumber = s.su.nextNumber ∧
    (takeFrame s l kind payload gap).su.event = s.su.event ∧ (takeFrame s l kind payload gap).su.claim = s.su.claim ∧
    (takeFrame s l kind payload gap).su.finished = s.su.finished := by
  unfold takeFrame
  dsimp only
  (repeat' split) <;> simp

@[simp] theorem acceptFrame_keeps (s : State) (l : LinkId) (kind seq : Byte) (payload : List Byte) :
    (acceptFrame s l kind seq payload).re = s.re ∧ (acceptFrame s l kind seq payload).pwu = s.pwu ∧
    (acceptFrame s l kind seq payload).bwu = s.bwu ∧ (acceptFrame s l kind seq payload).ctu = s.ctu ∧
    (acceptFrame s l kind seq payload).tu = s.tu ∧ (acceptFrame s l kind seq payload).pu = s.pu ∧
    (acceptFrame s l kind seq payload).ju = s.ju ∧ (acceptFrame s l kind seq payload).mem = s.mem ∧
    (acceptFrame s l kind seq payload).free = s.free ∧ (acceptFrame s l kind seq payload).pending = s.pending := by
  unfold acceptFrame
  dsimp only
  (repeat' split) <;> simp

@[simp] theorem acceptFrame_fields (s : State) (l : LinkId) (kind seq : Byte) (payload : List Byte) :
    (acceptFrame s l kind seq payload).bi.laSel = s.bi.laSel ∧
    (acceptFrame s l kind seq payload).bi.bagFit = s.bi.bagFit ∧
    (acceptFrame s l kind seq payload).bi.inReset = s.bi.inReset ∧
    (acceptFrame s l kind seq payload).bi.reqProducer = s.bi.reqProducer ∧
    (acceptFrame s l kind seq payload).bi.evtConsumer = s.bi.evtConsumer ∧
    (acceptFrame s l kind seq payload).bi.journalExport = s.bi.journalExport ∧
    (acceptFrame s l kind seq payload).bi.noticeMask = s.bi.noticeMask ∧
    (acceptFrame s l kind seq payload).bi.receiptFill = s.bi.receiptFill ∧
    (acceptFrame s l kind seq payload).bi.pageTable = s.bi.pageTable ∧
    (acceptFrame s l kind seq payload).bi.refusedCount = s.bi.refusedCount ∧
    (acceptFrame s l kind seq payload).bi.lastRefused = s.bi.lastRefused ∧
    (acceptFrame s l kind seq payload).bi.setupSpan = s.bi.setupSpan ∧
    (acceptFrame s l kind seq payload).bi.opened = s.bi.opened ∧
    (acceptFrame s l kind seq payload).bi.hostStall = s.bi.hostStall ∧
    (acceptFrame s l kind seq payload).bi.burstGranted = s.bi.burstGranted ∧
    (acceptFrame s l kind seq payload).bi.burstRefused = s.bi.burstRefused ∧
    (acceptFrame s l kind seq payload).bi.waitCount = s.bi.waitCount ∧
    (acceptFrame s l kind seq payload).bi.engine = s.bi.engine ∧
    (acceptFrame s l kind seq payload).bi.readData = s.bi.readData ∧
    (acceptFrame s l kind seq payload).nu.producer = s.nu.producer ∧
    (acceptFrame s l kind seq payload).nu.reserved = s.nu.reserved ∧
    (acceptFrame s l kind seq payload).nu.attn = s.nu.attn ∧
    (acceptFrame s l kind seq payload).su.header = s.su.header ∧
    (acceptFrame s l kind seq payload).su.lines = s.su.lines ∧
    (acceptFrame s l kind seq payload).su.tenders = s.su.tenders ∧
    (acceptFrame s l kind seq payload).su.nextNumber = s.su.nextNumber ∧
    (acceptFrame s l kind seq payload).su.event = s.su.event ∧
    (acceptFrame s l kind seq payload).su.claim = s.su.claim ∧
    (acceptFrame s l kind seq payload).su.finished = s.su.finished := by
  unfold acceptFrame
  dsimp only
  (repeat' split) <;> simp

@[simp] theorem scan_keeps (s : State) (l : LinkId) (skip : Nat) (bs : List Byte) :
    (scan s l skip bs).re = s.re ∧ (scan s l skip bs).pwu = s.pwu ∧ (scan s l skip bs).bwu = s.bwu ∧
    (scan s l skip bs).ctu = s.ctu ∧ (scan s l skip bs).tu = s.tu ∧ (scan s l skip bs).pu = s.pu ∧
    (scan s l skip bs).ju = s.ju ∧ (scan s l skip bs).mem = s.mem ∧ (scan s l skip bs).free = s.free ∧
    (scan s l skip bs).pending = s.pending := by
  induction bs generalizing s skip with
  | nil => simp [scan]
  | cons b rest ih =>
    cases skip with
    | succ k => simp only [scan]; exact ih s k
    | zero =>
      simp only [scan]
      split
      · exact ih s 0
      · split
        · simp
        · simpa using ih (badAttempt s l _ _) 0
        · simpa using ih (acceptFrame s l _ _ _) _

@[simp] theorem scan_fields (s : State) (l : LinkId) (skip : Nat) (bs : List Byte) :
    (scan s l skip bs).bi.laSel = s.bi.laSel ∧ (scan s l skip bs).bi.bagFit = s.bi.bagFit ∧
    (scan s l skip bs).bi.inReset = s.bi.inReset ∧ (scan s l skip bs).bi.reqProducer = s.bi.reqProducer ∧
    (scan s l skip bs).bi.evtConsumer = s.bi.evtConsumer ∧ (scan s l skip bs).bi.journalExport = s.bi.journalExport ∧
    (scan s l skip bs).bi.noticeMask = s.bi.noticeMask ∧ (scan s l skip bs).bi.receiptFill = s.bi.receiptFill ∧
    (scan s l skip bs).bi.pageTable = s.bi.pageTable ∧ (scan s l skip bs).bi.refusedCount = s.bi.refusedCount ∧
    (scan s l skip bs).bi.lastRefused = s.bi.lastRefused ∧ (scan s l skip bs).bi.setupSpan = s.bi.setupSpan ∧
    (scan s l skip bs).bi.opened = s.bi.opened ∧ (scan s l skip bs).bi.hostStall = s.bi.hostStall ∧
    (scan s l skip bs).bi.burstGranted = s.bi.burstGranted ∧ (scan s l skip bs).bi.burstRefused = s.bi.burstRefused ∧
    (scan s l skip bs).bi.waitCount = s.bi.waitCount ∧ (scan s l skip bs).bi.engine = s.bi.engine ∧
    (scan s l skip bs).bi.readData = s.bi.readData ∧ (scan s l skip bs).nu.producer = s.nu.producer ∧
    (scan s l skip bs).nu.reserved = s.nu.reserved ∧ (scan s l skip bs).nu.attn = s.nu.attn ∧
    (scan s l skip bs).su.header = s.su.header ∧ (scan s l skip bs).su.lines = s.su.lines ∧
    (scan s l skip bs).su.tenders = s.su.tenders ∧ (scan s l skip bs).su.nextNumber = s.su.nextNumber ∧
    (scan s l skip bs).su.event = s.su.event ∧ (scan s l skip bs).su.claim = s.su.claim ∧
    (scan s l skip bs).su.finished = s.su.finished := by
  induction bs generalizing s skip with
  | nil => simp [scan]
  | cons b rest ih =>
    cases skip with
    | succ k => simp only [scan]; exact ih s k
    | zero =>
      simp only [scan]
      split
      · exact ih s 0
      · split
        · simp
        · simpa using ih (badAttempt s l _ _) 0
        · simpa using ih (acceptFrame s l _ _ _) _

@[simp] theorem popPath_keeps (s : State) (l : LinkId) :
    (popPath s l).bi = s.bi ∧ (popPath s l).re = s.re ∧ (popPath s l).nu = s.nu ∧ (popPath s l).pwu = s.pwu ∧
    (popPath s l).bwu = s.bwu ∧ (popPath s l).su = s.su ∧ (popPath s l).ctu = s.ctu ∧ (popPath s l).tu = s.tu ∧
    (popPath s l).pu = s.pu ∧ (popPath s l).ju = s.ju ∧ (popPath s l).mem = s.mem ∧ (popPath s l).free = s.free ∧
    (popPath s l).pending = s.pending := by
  unfold popPath
  simp

@[simp] theorem suDecide_keeps (s : State) (new : Su) (words : List (Nat × Word)) (after : List After) (ofRequest : Bool) :
    (suDecide s new words after ofRequest).bi = s.bi ∧ (suDecide s new words after ofRequest).re = s.re ∧
    (suDecide s new words after ofRequest).nu = s.nu ∧ (suDecide s new words after ofRequest).lu = s.lu ∧
    (suDecide s new words after ofRequest).pwu = s.pwu ∧ (suDecide s new words after ofRequest).bwu = s.bwu ∧
    (suDecide s new words after ofRequest).ctu = s.ctu ∧ (suDecide s new words after ofRequest).tu = s.tu ∧
    (suDecide s new words after ofRequest).pu = s.pu ∧ (suDecide s new words after ofRequest).ju = s.ju ∧
    (suDecide s new words after ofRequest).mem = s.mem ∧ (suDecide s new words after ofRequest).free = s.free ∧
    (suDecide s new words after ofRequest).pending = s.pending := by
  unfold suDecide
  simp

@[simp] theorem suAskWindow_keeps (s : State) :
    (suAskWindow s).re = s.re ∧ (suAskWindow s).nu = s.nu ∧ (suAskWindow s).lu = s.lu ∧ (suAskWindow s).pwu = s.pwu ∧
    (suAskWindow s).bwu = s.bwu ∧ (suAskWindow s).su = s.su ∧ (suAskWindow s).ctu = s.ctu ∧
    (suAskWindow s).tu = s.tu ∧ (suAskWindow s).pu = s.pu ∧ (suAskWindow s).ju = s.ju ∧ (suAskWindow s).mem = s.mem ∧
    (suAskWindow s).free = s.free ∧ (suAskWindow s).pending = s.pending := by
  unfold suAskWindow
  (repeat' split) <;> simp

@[simp] theorem suAskWindow_fields (s : State) :
    (suAskWindow s).bi.laSel = s.bi.laSel ∧ (suAskWindow s).bi.bagFit = s.bi.bagFit ∧
    (suAskWindow s).bi.inReset = s.bi.inReset ∧ (suAskWindow s).bi.reqProducer = s.bi.reqProducer ∧
    (suAskWindow s).bi.evtConsumer = s.bi.evtConsumer ∧ (suAskWindow s).bi.journalExport = s.bi.journalExport ∧
    (suAskWindow s).bi.noticeMask = s.bi.noticeMask ∧ (suAskWindow s).bi.receiptFill = s.bi.receiptFill ∧
    (suAskWindow s).bi.pageTable = s.bi.pageTable ∧ (suAskWindow s).bi.refusedCount = s.bi.refusedCount ∧
    (suAskWindow s).bi.lastRefused = s.bi.lastRefused ∧ (suAskWindow s).bi.setupSpan = s.bi.setupSpan ∧
    (suAskWindow s).bi.opened = s.bi.opened ∧ (suAskWindow s).bi.hostStall = s.bi.hostStall ∧
    (suAskWindow s).bi.burstGranted = s.bi.burstGranted ∧ (suAskWindow s).bi.burstRefused = s.bi.burstRefused ∧
    (suAskWindow s).bi.waitCount = s.bi.waitCount ∧ (suAskWindow s).bi.engine = s.bi.engine ∧
    (suAskWindow s).bi.readData = s.bi.readData := by
  unfold suAskWindow
  (repeat' split) <;> simp

@[simp] theorem suWrite_keeps (s : State) (new : Su) (words : List (Nat × Word)) (after : List After) (ofRequest : Bool) :
    (suWrite s new words after ofRequest).re = s.re ∧ (suWrite s new words after ofRequest).nu = s.nu ∧
    (suWrite s new words after ofRequest).lu = s.lu ∧ (suWrite s new words after ofRequest).pwu = s.pwu ∧
    (suWrite s new words after ofRequest).bwu = s.bwu ∧ (suWrite s new words after ofRequest).ctu = s.ctu ∧
    (suWrite s new words after ofRequest).tu = s.tu ∧ (suWrite s new words after ofRequest).pu = s.pu ∧
    (suWrite s new words after ofRequest).ju = s.ju ∧ (suWrite s new words after ofRequest).mem = s.mem ∧
    (suWrite s new words after ofRequest).free = s.free ∧ (suWrite s new words after ofRequest).pending = s.pending := by
  unfold suWrite
  simp

@[simp] theorem suWrite_fields (s : State) (new : Su) (words : List (Nat × Word)) (after : List After) (ofRequest : Bool) :
    (suWrite s new words after ofRequest).bi.laSel = s.bi.laSel ∧
    (suWrite s new words after ofRequest).bi.bagFit = s.bi.bagFit ∧
    (suWrite s new words after ofRequest).bi.inReset = s.bi.inReset ∧
    (suWrite s new words after ofRequest).bi.reqProducer = s.bi.reqProducer ∧
    (suWrite s new words after ofRequest).bi.evtConsumer = s.bi.evtConsumer ∧
    (suWrite s new words after ofRequest).bi.journalExport = s.bi.journalExport ∧
    (suWrite s new words after ofRequest).bi.noticeMask = s.bi.noticeMask ∧
    (suWrite s new words after ofRequest).bi.receiptFill = s.bi.receiptFill ∧
    (suWrite s new words after ofRequest).bi.pageTable = s.bi.pageTable ∧
    (suWrite s new words after ofRequest).bi.refusedCount = s.bi.refusedCount ∧
    (suWrite s new words after ofRequest).bi.lastRefused = s.bi.lastRefused ∧
    (suWrite s new words after ofRequest).bi.setupSpan = s.bi.setupSpan ∧
    (suWrite s new words after ofRequest).bi.opened = s.bi.opened ∧
    (suWrite s new words after ofRequest).bi.hostStall = s.bi.hostStall ∧
    (suWrite s new words after ofRequest).bi.burstGranted = s.bi.burstGranted ∧
    (suWrite s new words after ofRequest).bi.burstRefused = s.bi.burstRefused ∧
    (suWrite s new words after ofRequest).bi.waitCount = s.bi.waitCount ∧
    (suWrite s new words after ofRequest).bi.engine = s.bi.engine ∧
    (suWrite s new words after ofRequest).bi.readData = s.bi.readData := by
  unfold suWrite
  simp

@[simp] theorem suMoveTender_keeps (s : State) (m : TenderMove) (ofRequest : Bool) :
    (suMoveTender s m ofRequest).re = s.re ∧ (suMoveTender s m ofRequest).nu = s.nu ∧
    (suMoveTender s m ofRequest).lu = s.lu ∧ (suMoveTender s m ofRequest).pwu = s.pwu ∧
    (suMoveTender s m ofRequest).bwu = s.bwu ∧ (suMoveTender s m ofRequest).ctu = s.ctu ∧
    (suMoveTender s m ofRequest).tu = s.tu ∧ (suMoveTender s m ofRequest).pu = s.pu ∧
    (suMoveTender s m ofRequest).ju = s.ju ∧ (suMoveTender s m ofRequest).mem = s.mem ∧
    (suMoveTender s m ofRequest).free = s.free ∧ (suMoveTender s m ofRequest).pending = s.pending := by
  unfold suMoveTender
  dsimp only
  simp

@[simp] theorem suMoveTender_fields (s : State) (m : TenderMove) (ofRequest : Bool) :
    (suMoveTender s m ofRequest).bi.laSel = s.bi.laSel ∧ (suMoveTender s m ofRequest).bi.bagFit = s.bi.bagFit ∧
    (suMoveTender s m ofRequest).bi.inReset = s.bi.inReset ∧
    (suMoveTender s m ofRequest).bi.reqProducer = s.bi.reqProducer ∧
    (suMoveTender s m ofRequest).bi.evtConsumer = s.bi.evtConsumer ∧
    (suMoveTender s m ofRequest).bi.journalExport = s.bi.journalExport ∧
    (suMoveTender s m ofRequest).bi.noticeMask = s.bi.noticeMask ∧
    (suMoveTender s m ofRequest).bi.receiptFill = s.bi.receiptFill ∧
    (suMoveTender s m ofRequest).bi.pageTable = s.bi.pageTable ∧
    (suMoveTender s m ofRequest).bi.refusedCount = s.bi.refusedCount ∧
    (suMoveTender s m ofRequest).bi.lastRefused = s.bi.lastRefused ∧
    (suMoveTender s m ofRequest).bi.setupSpan = s.bi.setupSpan ∧
    (suMoveTender s m ofRequest).bi.opened = s.bi.opened ∧
    (suMoveTender s m ofRequest).bi.hostStall = s.bi.hostStall ∧
    (suMoveTender s m ofRequest).bi.burstGranted = s.bi.burstGranted ∧
    (suMoveTender s m ofRequest).bi.burstRefused = s.bi.burstRefused ∧
    (suMoveTender s m ofRequest).bi.waitCount = s.bi.waitCount ∧
    (suMoveTender s m ofRequest).bi.engine = s.bi.engine ∧ (suMoveTender s m ofRequest).bi.readData = s.bi.readData := by
  unfold suMoveTender
  dsimp only
  simp

@[simp] theorem suBagClaim_keeps (s : State) (new : Su) (ofRequest : Bool) :
    (suBagClaim s new ofRequest).re = s.re ∧ (suBagClaim s new ofRequest).nu = s.nu ∧
    (suBagClaim s new ofRequest).lu = s.lu ∧ (suBagClaim s new ofRequest).pwu = s.pwu ∧
    (suBagClaim s new ofRequest).bwu = s.bwu ∧ (suBagClaim s new ofRequest).ctu = s.ctu ∧
    (suBagClaim s new ofRequest).tu = s.tu ∧ (suBagClaim s new ofRequest).pu = s.pu ∧
    (suBagClaim s new ofRequest).ju = s.ju ∧ (suBagClaim s new ofRequest).mem = s.mem ∧
    (suBagClaim s new ofRequest).free = s.free ∧ (suBagClaim s new ofRequest).pending = s.pending := by
  unfold suBagClaim
  (repeat' split) <;> simp

@[simp] theorem suBagClaim_fields (s : State) (new : Su) (ofRequest : Bool) :
    (suBagClaim s new ofRequest).bi.laSel = s.bi.laSel ∧ (suBagClaim s new ofRequest).bi.bagFit = s.bi.bagFit ∧
    (suBagClaim s new ofRequest).bi.inReset = s.bi.inReset ∧
    (suBagClaim s new ofRequest).bi.reqProducer = s.bi.reqProducer ∧
    (suBagClaim s new ofRequest).bi.evtConsumer = s.bi.evtConsumer ∧
    (suBagClaim s new ofRequest).bi.journalExport = s.bi.journalExport ∧
    (suBagClaim s new ofRequest).bi.noticeMask = s.bi.noticeMask ∧
    (suBagClaim s new ofRequest).bi.receiptFill = s.bi.receiptFill ∧
    (suBagClaim s new ofRequest).bi.pageTable = s.bi.pageTable ∧
    (suBagClaim s new ofRequest).bi.refusedCount = s.bi.refusedCount ∧
    (suBagClaim s new ofRequest).bi.lastRefused = s.bi.lastRefused ∧
    (suBagClaim s new ofRequest).bi.setupSpan = s.bi.setupSpan ∧
    (suBagClaim s new ofRequest).bi.opened = s.bi.opened ∧
    (suBagClaim s new ofRequest).bi.hostStall = s.bi.hostStall ∧
    (suBagClaim s new ofRequest).bi.burstGranted = s.bi.burstGranted ∧
    (suBagClaim s new ofRequest).bi.burstRefused = s.bi.burstRefused ∧
    (suBagClaim s new ofRequest).bi.waitCount = s.bi.waitCount ∧
    (suBagClaim s new ofRequest).bi.engine = s.bi.engine ∧ (suBagClaim s new ofRequest).bi.readData = s.bi.readData := by
  unfold suBagClaim
  (repeat' split) <;> simp

@[simp] theorem suPop_keeps (s : State) :
    (suPop s).bi = s.bi ∧ (suPop s).re = s.re ∧ (suPop s).nu = s.nu ∧ (suPop s).lu = s.lu ∧ (suPop s).pwu = s.pwu ∧
    (suPop s).bwu = s.bwu ∧ (suPop s).ctu = s.ctu ∧ (suPop s).tu = s.tu ∧ (suPop s).pu = s.pu ∧ (suPop s).ju = s.ju ∧
    (suPop s).mem = s.mem ∧ (suPop s).free = s.free ∧ (suPop s).pending = s.pending := by
  unfold suPop
  simp

@[simp] theorem suPop_fields (s : State) :
    (suPop s).su.header = s.su.header ∧ (suPop s).su.lines = s.su.lines ∧ (suPop s).su.tenders = s.su.tenders ∧
    (suPop s).su.nextNumber = s.su.nextNumber ∧ (suPop s).su.event = s.su.event ∧ (suPop s).su.claim = s.su.claim ∧
    (suPop s).su.finished = s.su.finished := by
  unfold suPop
  simp

@[simp] theorem suSend_keeps (s : State) (x : SaleItem) :
    (suSend s x).bi = s.bi ∧ (suSend s x).re = s.re ∧ (suSend s x).nu = s.nu ∧ (suSend s x).lu = s.lu ∧
    (suSend s x).pwu = s.pwu ∧ (suSend s x).bwu = s.bwu ∧ (suSend s x).ctu = s.ctu ∧ (suSend s x).tu = s.tu ∧
    (suSend s x).pu = s.pu ∧ (suSend s x).ju = s.ju ∧ (suSend s x).mem = s.mem ∧ (suSend s x).free = s.free ∧
    (suSend s x).pending = s.pending := by
  unfold suSend
  simp

@[simp] theorem suSend_fields (s : State) (x : SaleItem) :
    (suSend s x).su.header = s.su.header ∧ (suSend s x).su.lines = s.su.lines ∧
    (suSend s x).su.tenders = s.su.tenders ∧ (suSend s x).su.nextNumber = s.su.nextNumber ∧
    (suSend s x).su.event = s.su.event ∧ (suSend s x).su.claim = s.su.claim ∧
    (suSend s x).su.finished = s.su.finished := by
  unfold suSend
  simp

@[simp] theorem suFail_eq (s : State) (r : ResultCode) : suFail s r = failRequest (suPop s) r := rfl

end Sys2Proof.Machine
end

