-- ==== Sys2Proof/Laws/Units.lean ====
section
/-! SUPPORT. For each event of the PWU, BWU, SU, CTU, TU, PU and JU and each operation it is made of: the blocks, the memory
and the queue it leaves unchanged. -/

namespace Sys2Proof.Machine

@[simp] theorem askPwu_keeps (old s : State) (slot : Option Nat) (ofRequest : Bool) :
    (askPwu old s slot ofRequest).re = s.re ∧ (askPwu old s slot ofRequest).nu = s.nu ∧
    (askPwu old s slot ofRequest).lu = s.lu ∧ (askPwu old s slot ofRequest).pwu = s.pwu ∧
    (askPwu old s slot ofRequest).bwu = s.bwu ∧ (askPwu old s slot ofRequest).su = s.su ∧
    (askPwu old s slot ofRequest).ctu = s.ctu ∧ (askPwu old s slot ofRequest).tu = s.tu ∧
    (askPwu old s slot ofRequest).pu = s.pu ∧ (askPwu old s slot ofRequest).ju = s.ju ∧
    (askPwu old s slot ofRequest).mem = s.mem ∧ (askPwu old s slot ofRequest).free = s.free ∧
    (askPwu old s slot ofRequest).pending = s.pending := by
  unfold askPwu
  (repeat' split) <;> simp

@[simp] theorem askPwu_fields (old s : State) (slot : Option Nat) (ofRequest : Bool) :
    (askPwu old s slot ofRequest).bi.laSel = s.bi.laSel ∧ (askPwu old s slot ofRequest).bi.bagFit = s.bi.bagFit ∧
    (askPwu old s slot ofRequest).bi.inReset = s.bi.inReset ∧
    (askPwu old s slot ofRequest).bi.reqProducer = s.bi.reqProducer ∧
    (askPwu old s slot ofRequest).bi.evtConsumer = s.bi.evtConsumer ∧
    (askPwu old s slot ofRequest).bi.journalExport = s.bi.journalExport ∧
    (askPwu old s slot ofRequest).bi.noticeMask = s.bi.noticeMask ∧
    (askPwu old s slot ofRequest).bi.receiptFill = s.bi.receiptFill ∧
    (askPwu old s slot ofRequest).bi.pageTable = s.bi.pageTable ∧
    (askPwu old s slot ofRequest).bi.refusedCount = s.bi.refusedCount ∧
    (askPwu old s slot ofRequest).bi.lastRefused = s.bi.lastRefused ∧
    (askPwu old s slot ofRequest).bi.setupSpan = s.bi.setupSpan ∧
    (askPwu old s slot ofRequest).bi.opened = s.bi.opened ∧
    (askPwu old s slot ofRequest).bi.hostStall = s.bi.hostStall ∧
    (askPwu old s slot ofRequest).bi.burstGranted = s.bi.burstGranted ∧
    (askPwu old s slot ofRequest).bi.burstRefused = s.bi.burstRefused ∧
    (askPwu old s slot ofRequest).bi.waitCount = s.bi.waitCount ∧
    (askPwu old s slot ofRequest).bi.engine = s.bi.engine ∧ (askPwu old s slot ofRequest).bi.readData = s.bi.readData := by
  unfold askPwu
  (repeat' split) <;> simp

@[simp] theorem staleCurrent_keeps (old s : State) (u : Pwu) (ofRequest : Bool) :
    (staleCurrent old s u ofRequest).re = s.re ∧ (staleCurrent old s u ofRequest).lu = s.lu ∧
    (staleCurrent old s u ofRequest).bwu = s.bwu ∧ (staleCurrent old s u ofRequest).ctu = s.ctu ∧
    (staleCurrent old s u ofRequest).tu = s.tu ∧ (staleCurrent old s u ofRequest).pu = s.pu ∧
    (staleCurrent old s u ofRequest).ju = s.ju ∧ (staleCurrent old s u ofRequest).mem = s.mem ∧
    (staleCurrent old s u ofRequest).free = s.free ∧ (staleCurrent old s u ofRequest).pending = s.pending := by
  unfold staleCurrent
  (repeat' split) <;> simp

@[simp] theorem staleCurrent_fields (old s : State) (u : Pwu) (ofRequest : Bool) :
    (staleCurrent old s u ofRequest).bi.laSel = s.bi.laSel ∧
    (staleCurrent old s u ofRequest).bi.bagFit = s.bi.bagFit ∧
    (staleCurrent old s u ofRequest).bi.inReset = s.bi.inReset ∧
    (staleCurrent old s u ofRequest).bi.reqProducer = s.bi.reqProducer ∧
    (staleCurrent old s u ofRequest).bi.evtConsumer = s.bi.evtConsumer ∧
    (staleCurrent old s u ofRequest).bi.journalExport = s.bi.journalExport ∧
    (staleCurrent old s u ofRequest).bi.noticeMask = s.bi.noticeMask ∧
    (staleCurrent old s u ofRequest).bi.receiptFill = s.bi.receiptFill ∧
    (staleCurrent old s u ofRequest).bi.pageTable = s.bi.pageTable ∧
    (staleCurrent old s u ofRequest).bi.refusedCount = s.bi.refusedCount ∧
    (staleCurrent old s u ofRequest).bi.lastRefused = s.bi.lastRefused ∧
    (staleCurrent old s u ofRequest).bi.setupSpan = s.bi.setupSpan ∧
    (staleCurrent old s u ofRequest).bi.opened = s.bi.opened ∧
    (staleCurrent old s u ofRequest).bi.hostStall = s.bi.hostStall ∧
    (staleCurrent old s u ofRequest).bi.burstGranted = s.bi.burstGranted ∧
    (staleCurrent old s u ofRequest).bi.burstRefused = s.bi.burstRefused ∧
    (staleCurrent old s u ofRequest).bi.waitCount = s.bi.waitCount ∧
    (staleCurrent old s u ofRequest).bi.engine = s.bi.engine ∧
    (staleCurrent old s u ofRequest).bi.readData = s.bi.readData ∧
    (staleCurrent old s u ofRequest).nu.producer = s.nu.producer ∧
    (staleCurrent old s u ofRequest).nu.reserved = s.nu.reserved ∧
    (staleCurrent old s u ofRequest).nu.attn = s.nu.attn ∧ (staleCurrent old s u ofRequest).su.header = s.su.header ∧
    (staleCurrent old s u ofRequest).su.lines = s.su.lines ∧
    (staleCurrent old s u ofRequest).su.tenders = s.su.tenders ∧
    (staleCurrent old s u ofRequest).su.nextNumber = s.su.nextNumber ∧
    (staleCurrent old s u ofRequest).su.event = s.su.event ∧ (staleCurrent old s u ofRequest).su.claim = s.su.claim ∧
    (staleCurrent old s u ofRequest).su.finished = s.su.finished := by
  unfold staleCurrent
  (repeat' split) <;> simp

@[simp] theorem offsetChanged_keeps (s : State) (u : Pwu) (ofRequest : Bool) :
    (offsetChanged s u ofRequest).re = s.re ∧ (offsetChanged s u ofRequest).lu = s.lu ∧
    (offsetChanged s u ofRequest).bwu = s.bwu ∧ (offsetChanged s u ofRequest).ctu = s.ctu ∧
    (offsetChanged s u ofRequest).tu = s.tu ∧ (offsetChanged s u ofRequest).pu = s.pu ∧
    (offsetChanged s u ofRequest).ju = s.ju ∧ (offsetChanged s u ofRequest).mem = s.mem ∧
    (offsetChanged s u ofRequest).free = s.free ∧ (offsetChanged s u ofRequest).pending = s.pending := by
  unfold offsetChanged
  dsimp only
  simp

@[simp] theorem offsetChanged_fields (s : State) (u : Pwu) (ofRequest : Bool) :
    (offsetChanged s u ofRequest).bi.laSel = s.bi.laSel ∧ (offsetChanged s u ofRequest).bi.bagFit = s.bi.bagFit ∧
    (offsetChanged s u ofRequest).bi.inReset = s.bi.inReset ∧
    (offsetChanged s u ofRequest).bi.reqProducer = s.bi.reqProducer ∧
    (offsetChanged s u ofRequest).bi.evtConsumer = s.bi.evtConsumer ∧
    (offsetChanged s u ofRequest).bi.journalExport = s.bi.journalExport ∧
    (offsetChanged s u ofRequest).bi.noticeMask = s.bi.noticeMask ∧
    (offsetChanged s u ofRequest).bi.receiptFill = s.bi.receiptFill ∧
    (offsetChanged s u ofRequest).bi.pageTable = s.bi.pageTable ∧
    (offsetChanged s u ofRequest).bi.refusedCount = s.bi.refusedCount ∧
    (offsetChanged s u ofRequest).bi.lastRefused = s.bi.lastRefused ∧
    (offsetChanged s u ofRequest).bi.setupSpan = s.bi.setupSpan ∧
    (offsetChanged s u ofRequest).bi.opened = s.bi.opened ∧
    (offsetChanged s u ofRequest).bi.hostStall = s.bi.hostStall ∧
    (offsetChanged s u ofRequest).bi.burstGranted = s.bi.burstGranted ∧
    (offsetChanged s u ofRequest).bi.burstRefused = s.bi.burstRefused ∧
    (offsetChanged s u ofRequest).bi.waitCount = s.bi.waitCount ∧
    (offsetChanged s u ofRequest).bi.engine = s.bi.engine ∧
    (offsetChanged s u ofRequest).bi.readData = s.bi.readData ∧
    (offsetChanged s u ofRequest).nu.producer = s.nu.producer ∧
    (offsetChanged s u ofRequest).nu.reserved = s.nu.reserved ∧ (offsetChanged s u ofRequest).nu.attn = s.nu.attn ∧
    (offsetChanged s u ofRequest).su.header = s.su.header ∧ (offsetChanged s u ofRequest).su.lines = s.su.lines ∧
    (offsetChanged s u ofRequest).su.tenders = s.su.tenders ∧
    (offsetChanged s u ofRequest).su.nextNumber = s.su.nextNumber ∧
    (offsetChanged s u ofRequest).su.event = s.su.event ∧ (offsetChanged s u ofRequest).su.claim = s.su.claim ∧
    (offsetChanged s u ofRequest).su.finished = s.su.finished := by
  unfold offsetChanged
  dsimp only
  simp

@[simp] theorem platterSample_keeps (s : State) (payload : List Byte) (gap : Bool) :
    (platterSample s payload gap).re = s.re ∧ (platterSample s payload gap).bwu = s.bwu ∧
    (platterSample s payload gap).ctu = s.ctu ∧ (platterSample s payload gap).tu = s.tu ∧
    (platterSample s payload gap).pu = s.pu ∧ (platterSample s payload gap).ju = s.ju ∧
    (platterSample s payload gap).mem = s.mem ∧ (platterSample s payload gap).free = s.free ∧
    (platterSample s payload gap).pending = s.pending := by
  unfold platterSample
  dsimp only
  (repeat' split) <;> simp

@[simp] theorem platterLinkChange_keeps (s : State) (old new : LinkState) :
    (platterLinkChange s old new).re = s.re ∧ (platterLinkChange s old new).bwu = s.bwu ∧
    (platterLinkChange s old new).ctu = s.ctu ∧ (platterLinkChange s old new).tu = s.tu ∧
    (platterLinkChange s old new).pu = s.pu ∧ (platterLinkChange s old new).ju = s.ju ∧
    (platterLinkChange s old new).mem = s.mem ∧ (platterLinkChange s old new).free = s.free ∧
    (platterLinkChange s old new).pending = s.pending := by
  unfold platterLinkChange
  dsimp only
  (repeat' split) <;> simp

@[simp] theorem zeroTracked_keeps (s : State) :
    (zeroTracked s).re = s.re ∧ (zeroTracked s).nu = s.nu ∧ (zeroTracked s).lu = s.lu ∧ (zeroTracked s).bwu = s.bwu ∧
    (zeroTracked s).su = s.su ∧ (zeroTracked s).ctu = s.ctu ∧ (zeroTracked s).tu = s.tu ∧ (zeroTracked s).pu = s.pu ∧
    (zeroTracked s).ju = s.ju ∧ (zeroTracked s).mem = s.mem ∧ (zeroTracked s).free = s.free ∧
    (zeroTracked s).pending = s.pending := by
  unfold zeroTracked
  dsimp only
  simp

@[simp] theorem scaleZero_keeps (s : State) :
    (scaleZero s).lu = s.lu ∧ (scaleZero s).bwu = s.bwu ∧ (scaleZero s).ctu = s.ctu ∧ (scaleZero s).tu = s.tu ∧
    (scaleZero s).pu = s.pu ∧ (scaleZero s).ju = s.ju ∧ (scaleZero s).mem = s.mem ∧ (scaleZero s).free = s.free ∧
    (scaleZero s).pending = s.pending := by
  unfold scaleZero
  (repeat' split) <;> simp

@[simp] theorem setTare_keeps (s : State) (tare : Int) :
    (setTare s tare).lu = s.lu ∧ (setTare s tare).bwu = s.bwu ∧ (setTare s tare).ctu = s.ctu ∧
    (setTare s tare).tu = s.tu ∧ (setTare s tare).pu = s.pu ∧ (setTare s tare).ju = s.ju ∧
    (setTare s tare).mem = s.mem ∧ (setTare s tare).free = s.free ∧ (setTare s tare).pending = s.pending := by
  unfold setTare
  (repeat' split) <;> simp

@[simp] theorem scaleTare_keeps (s : State) :
    (scaleTare s).lu = s.lu ∧ (scaleTare s).bwu = s.bwu ∧ (scaleTare s).ctu = s.ctu ∧ (scaleTare s).tu = s.tu ∧
    (scaleTare s).pu = s.pu ∧ (scaleTare s).ju = s.ju ∧ (scaleTare s).mem = s.mem ∧ (scaleTare s).free = s.free ∧
    (scaleTare s).pending = s.pending := by
  unfold scaleTare
  dsimp only
  (repeat' split) <;> simp

@[simp] theorem tareClear_keeps (s : State) :
    (tareClear s).lu = s.lu ∧ (tareClear s).bwu = s.bwu ∧ (tareClear s).ctu = s.ctu ∧ (tareClear s).tu = s.tu ∧
    (tareClear s).pu = s.pu ∧ (tareClear s).ju = s.ju ∧ (tareClear s).mem = s.mem ∧ (tareClear s).free = s.free ∧
    (tareClear s).pending = s.pending := by
  unfold tareClear
  (repeat' split) <;> simp

@[simp] theorem setHold_keeps (s : State) (reason : HoldReason) :
    (setHold s reason).re = s.re ∧ (setHold s reason).lu = s.lu ∧ (setHold s reason).pwu = s.pwu ∧
    (setHold s reason).ctu = s.ctu ∧ (setHold s reason).tu = s.tu ∧ (setHold s reason).pu = s.pu ∧
    (setHold s reason).ju = s.ju ∧ (setHold s reason).mem = s.mem ∧ (setHold s reason).free = s.free ∧
    (setHold s reason).pending = s.pending := by
  unfold setHold
  simp

@[simp] theorem setHold_fields (s : State) (reason : HoldReason) :
    (setHold s reason).bi.laSel = s.bi.laSel ∧ (setHold s reason).bi.bagFit = s.bi.bagFit ∧
    (setHold s reason).bi.inReset = s.bi.inReset ∧ (setHold s reason).bi.reqProducer = s.bi.reqProducer ∧
    (setHold s reason).bi.evtConsumer = s.bi.evtConsumer ∧ (setHold s reason).bi.journalExport = s.bi.journalExport ∧
    (setHold s reason).bi.noticeMask = s.bi.noticeMask ∧ (setHold s reason).bi.receiptFill = s.bi.receiptFill ∧
    (setHold s reason).bi.pageTable = s.bi.pageTable ∧ (setHold s reason).bi.refusedCount = s.bi.refusedCount ∧
    (setHold s reason).bi.lastRefused = s.bi.lastRefused ∧ (setHold s reason).bi.setupSpan = s.bi.setupSpan ∧
    (setHold s reason).bi.opened = s.bi.opened ∧ (setHold s reason).bi.hostStall = s.bi.hostStall ∧
    (setHold s reason).bi.burstGranted = s.bi.burstGranted ∧ (setHold s reason).bi.burstRefused = s.bi.burstRefused ∧
    (setHold s reason).bi.waitCount = s.bi.waitCount ∧ (setHold s reason).bi.engine = s.bi.engine ∧
    (setHold s reason).bi.readData = s.bi.readData ∧ (setHold s reason).nu.producer = s.nu.producer ∧
    (setHold s reason).nu.reserved = s.nu.reserved ∧ (setHold s reason).nu.attn = s.nu.attn ∧
    (setHold s reason).su.header = s.su.header ∧ (setHold s reason).su.lines = s.su.lines ∧
    (setHold s reason).su.tenders = s.su.tenders ∧ (setHold s reason).su.nextNumber = s.su.nextNumber ∧
    (setHold s reason).su.event = s.su.event ∧ (setHold s reason).su.claim = s.su.claim ∧
    (setHold s reason).su.finished = s.su.finished := by
  unfold setHold
  simp

@[simp] theorem clearHold_keeps (s : State) (reason : ClearReason) (named : List NamedLine) :
    (clearHold s reason named).re = s.re ∧ (clearHold s reason named).lu = s.lu ∧
    (clearHold s reason named).pwu = s.pwu ∧ (clearHold s reason named).ctu = s.ctu ∧
    (clearHold s reason named).tu = s.tu ∧ (clearHold s reason named).pu = s.pu ∧
    (clearHold s reason named).ju = s.ju ∧ (clearHold s reason named).mem = s.mem ∧
    (clearHold s reason named).free = s.free ∧ (clearHold s reason named).pending = s.pending := by
  unfold clearHold
  dsimp only
  (repeat' split) <;> simp

@[simp] theorem clearHold_fields (s : State) (reason : ClearReason) (named : List NamedLine) :
    (clearHold s reason named).bi.laSel = s.bi.laSel ∧ (clearHold s reason named).bi.bagFit = s.bi.bagFit ∧
    (clearHold s reason named).bi.inReset = s.bi.inReset ∧
    (clearHold s reason named).bi.reqProducer = s.bi.reqProducer ∧
    (clearHold s reason named).bi.evtConsumer = s.bi.evtConsumer ∧
    (clearHold s reason named).bi.journalExport = s.bi.journalExport ∧
    (clearHold s reason named).bi.noticeMask = s.bi.noticeMask ∧
    (clearHold s reason named).bi.receiptFill = s.bi.receiptFill ∧
    (clearHold s reason named).bi.pageTable = s.bi.pageTable ∧
    (clearHold s reason named).bi.refusedCount = s.bi.refusedCount ∧
    (clearHold s reason named).bi.lastRefused = s.bi.lastRefused ∧
    (clearHold s reason named).bi.setupSpan = s.bi.setupSpan ∧ (clearHold s reason named).bi.opened = s.bi.opened ∧
    (clearHold s reason named).bi.hostStall = s.bi.hostStall ∧
    (clearHold s reason named).bi.burstGranted = s.bi.burstGranted ∧
    (clearHold s reason named).bi.burstRefused = s.bi.burstRefused ∧
    (clearHold s reason named).bi.waitCount = s.bi.waitCount ∧ (clearHold s reason named).bi.engine = s.bi.engine ∧
    (clearHold s reason named).bi.readData = s.bi.readData ∧ (clearHold s reason named).nu.producer = s.nu.producer ∧
    (clearHold s reason named).nu.reserved = s.nu.reserved ∧ (clearHold s reason named).nu.attn = s.nu.attn ∧
    (clearHold s reason named).su.header = s.su.header ∧ (clearHold s reason named).su.lines = s.su.lines ∧
    (clearHold s reason named).su.tenders = s.su.tenders ∧
    (clearHold s reason named).su.nextNumber = s.su.nextNumber ∧ (clearHold s reason named).su.event = s.su.event ∧
    (clearHold s reason named).su.claim = s.su.claim ∧ (clearHold s reason named).su.finished = s.su.finished := by
  unfold clearHold
  dsimp only
  (repeat' split) <;> simp

@[simp] theorem judgeClear_keeps (s : State) (d : Int) :
    (judgeClear s d).re = s.re ∧ (judgeClear s d).lu = s.lu ∧ (judgeClear s d).pwu = s.pwu ∧
    (judgeClear s d).ctu = s.ctu ∧ (judgeClear s d).tu = s.tu ∧ (judgeClear s d).pu = s.pu ∧
    (judgeClear s d).ju = s.ju ∧ (judgeClear s d).mem = s.mem ∧ (judgeClear s d).free = s.free ∧
    (judgeClear s d).pending = s.pending := by
  unfold judgeClear
  dsimp only
  (repeat' split) <;> simp

@[simp] theorem judgeHeld_keeps (s : State) (d : Int) :
    (judgeHeld s d).re = s.re ∧ (judgeHeld s d).lu = s.lu ∧ (judgeHeld s d).pwu = s.pwu ∧
    (judgeHeld s d).ctu = s.ctu ∧ (judgeHeld s d).tu = s.tu ∧ (judgeHeld s d).pu = s.pu ∧ (judgeHeld s d).ju = s.ju ∧
    (judgeHeld s d).mem = s.mem ∧ (judgeHeld s d).free = s.free ∧ (judgeHeld s d).pending = s.pending := by
  unfold judgeHeld
  dsimp only
  (repeat' split) <;> simp

@[simp] theorem judgeSettlement_keeps (s : State) :
    (judgeSettlement s).re = s.re ∧ (judgeSettlement s).lu = s.lu ∧ (judgeSettlement s).pwu = s.pwu ∧
    (judgeSettlement s).ctu = s.ctu ∧ (judgeSettlement s).tu = s.tu ∧ (judgeSettlement s).pu = s.pu ∧
    (judgeSettlement s).ju = s.ju ∧ (judgeSettlement s).mem = s.mem ∧ (judgeSettlement s).free = s.free ∧
    (judgeSettlement s).pending = s.pending := by
  unfold judgeSettlement
  dsimp only
  (repeat' split) <;> simp

@[simp] theorem bagSample_keeps (s : State) (payload : List Byte) (gap : Bool) :
    (bagSample s payload gap).re = s.re ∧ (bagSample s payload gap).pwu = s.pwu ∧
    (bagSample s payload gap).ctu = s.ctu ∧ (bagSample s payload gap).tu = s.tu ∧
    (bagSample s payload gap).pu = s.pu ∧ (bagSample s payload gap).ju = s.ju ∧
    (bagSample s payload gap).mem = s.mem ∧ (bagSample s payload gap).free = s.free ∧
    (bagSample s payload gap).pending = s.pending := by
  unfold bagSample
  dsimp only
  (repeat' split) <;> simp

@[simp] theorem bagLinkChange_keeps (s : State) (old new : LinkState) :
    (bagLinkChange s old new).re = s.re ∧ (bagLinkChange s old new).pwu = s.pwu ∧
    (bagLinkChange s old new).ctu = s.ctu ∧ (bagLinkChange s old new).tu = s.tu ∧
    (bagLinkChange s old new).pu = s.pu ∧ (bagLinkChange s old new).ju = s.ju ∧
    (bagLinkChange s old new).mem = s.mem ∧ (bagLinkChange s old new).free = s.free ∧
    (bagLinkChange s old new).pending = s.pending := by
  unfold bagLinkChange
  dsimp only
  (repeat' split) <;> simp

@[simp] theorem bagWaitExpired_keeps (s : State) :
    (bagWaitExpired s).re = s.re ∧ (bagWaitExpired s).lu = s.lu ∧ (bagWaitExpired s).pwu = s.pwu ∧
    (bagWaitExpired s).ctu = s.ctu ∧ (bagWaitExpired s).tu = s.tu ∧ (bagWaitExpired s).pu = s.pu ∧
    (bagWaitExpired s).ju = s.ju ∧ (bagWaitExpired s).mem = s.mem ∧ (bagWaitExpired s).free = s.free ∧
    (bagWaitExpired s).pending = s.pending := by
  unfold bagWaitExpired
  dsimp only
  (repeat' split) <;> simp

@[simp] theorem bagSaleOpened_keeps (s : State) (mode : SaleMode) (baseline : Int) :
    (bagSaleOpened s mode baseline).re = s.re ∧ (bagSaleOpened s mode baseline).nu = s.nu ∧
    (bagSaleOpened s mode baseline).lu = s.lu ∧ (bagSaleOpened s mode baseline).pwu = s.pwu ∧
    (bagSaleOpened s mode baseline).su = s.su ∧ (bagSaleOpened s mode baseline).ctu = s.ctu ∧
    (bagSaleOpened s mode baseline).tu = s.tu ∧ (bagSaleOpened s mode baseline).pu = s.pu ∧
    (bagSaleOpened s mode baseline).ju = s.ju ∧ (bagSaleOpened s mode baseline).mem = s.mem ∧
    (bagSaleOpened s mode baseline).free = s.free ∧ (bagSaleOpened s mode baseline).pending = s.pending := by
  unfold bagSaleOpened
  (repeat' split) <;> simp

@[simp] theorem bagSaleClosing_keeps (s : State) :
    (bagSaleClosing s).re = s.re ∧ (bagSaleClosing s).nu = s.nu ∧ (bagSaleClosing s).lu = s.lu ∧
    (bagSaleClosing s).pwu = s.pwu ∧ (bagSaleClosing s).su = s.su ∧ (bagSaleClosing s).ctu = s.ctu ∧
    (bagSaleClosing s).tu = s.tu ∧ (bagSaleClosing s).pu = s.pu ∧ (bagSaleClosing s).ju = s.ju ∧
    (bagSaleClosing s).mem = s.mem ∧ (bagSaleClosing s).free = s.free ∧ (bagSaleClosing s).pending = s.pending := by
  unfold bagSaleClosing
  simp

@[simp] theorem bagSaleEnded_keeps (s : State) :
    (bagSaleEnded s).re = s.re ∧ (bagSaleEnded s).nu = s.nu ∧ (bagSaleEnded s).lu = s.lu ∧
    (bagSaleEnded s).pwu = s.pwu ∧ (bagSaleEnded s).su = s.su ∧ (bagSaleEnded s).ctu = s.ctu ∧
    (bagSaleEnded s).tu = s.tu ∧ (bagSaleEnded s).pu = s.pu ∧ (bagSaleEnded s).ju = s.ju ∧
    (bagSaleEnded s).mem = s.mem ∧ (bagSaleEnded s).free = s.free ∧ (bagSaleEnded s).pending = s.pending := by
  unfold bagSaleEnded
  simp

@[simp] theorem holdReleased_keeps (s : State) :
    (holdReleased s).lu = s.lu ∧ (holdReleased s).pwu = s.pwu ∧ (holdReleased s).ctu = s.ctu ∧
    (holdReleased s).tu = s.tu ∧ (holdReleased s).pu = s.pu ∧ (holdReleased s).ju = s.ju ∧
    (holdReleased s).mem = s.mem ∧ (holdReleased s).free = s.free ∧ (holdReleased s).pending = s.pending := by
  unfold holdReleased
  dsimp only
  simp

@[simp] theorem holdRelease_keeps (s : State) :
    (holdRelease s).lu = s.lu ∧ (holdRelease s).pwu = s.pwu ∧ (holdRelease s).ctu = s.ctu ∧
    (holdRelease s).tu = s.tu ∧ (holdRelease s).pu = s.pu ∧ (holdRelease s).ju = s.ju ∧ (holdRelease s).mem = s.mem ∧
    (holdRelease s).free = s.free ∧ (holdRelease s).pending = s.pending := by
  unfold holdRelease
  (repeat' split) <;> simp

@[simp] theorem saleOpened_keeps (s : State) (mode : SaleMode) :
    (saleOpened s mode).lu = s.lu ∧ (saleOpened s mode).pwu = s.pwu ∧ (saleOpened s mode).bwu = s.bwu ∧
    (saleOpened s mode).ctu = s.ctu ∧ (saleOpened s mode).tu = s.tu ∧ (saleOpened s mode).pu = s.pu ∧
    (saleOpened s mode).ju = s.ju ∧ (saleOpened s mode).mem = s.mem ∧ (saleOpened s mode).free = s.free ∧
    (saleOpened s mode).pending = s.pending := by
  unfold saleOpened
  dsimp only
  simp

@[simp] theorem saleOpen_keeps (s : State) :
    (saleOpen s).lu = s.lu ∧ (saleOpen s).pwu = s.pwu ∧ (saleOpen s).bwu = s.bwu ∧ (saleOpen s).ctu = s.ctu ∧
    (saleOpen s).tu = s.tu ∧ (saleOpen s).pu = s.pu ∧ (saleOpen s).ju = s.ju ∧ (saleOpen s).mem = s.mem ∧
    (saleOpen s).free = s.free ∧ (saleOpen s).pending = s.pending := by
  unfold saleOpen
  (repeat' split) <;> simp

@[simp] theorem handExpectation_keeps (s : State) (line : Nat) (d : Option Int) :
    (handExpectation s line d).re = s.re ∧ (handExpectation s line d).nu = s.nu ∧
    (handExpectation s line d).lu = s.lu ∧ (handExpectation s line d).pwu = s.pwu ∧
    (handExpectation s line d).su = s.su ∧ (handExpectation s line d).ctu = s.ctu ∧
    (handExpectation s line d).tu = s.tu ∧ (handExpectation s line d).pu = s.pu ∧
    (handExpectation s line d).ju = s.ju ∧ (handExpectation s line d).mem = s.mem ∧
    (handExpectation s line d).free = s.free ∧ (handExpectation s line d).pending = s.pending := by
  unfold handExpectation
  (repeat' split) <;> simp

@[simp] theorem itemAdded_keeps (s : State) :
    (itemAdded s).lu = s.lu ∧ (itemAdded s).pwu = s.pwu ∧ (itemAdded s).ctu = s.ctu ∧ (itemAdded s).tu = s.tu ∧
    (itemAdded s).pu = s.pu ∧ (itemAdded s).ju = s.ju ∧ (itemAdded s).mem = s.mem ∧ (itemAdded s).free = s.free ∧
    (itemAdded s).pending = s.pending := by
  unfold itemAdded
  dsimp only
  simp

@[simp] theorem itemAdd_keeps (s : State) :
    (itemAdd s).lu = s.lu ∧ (itemAdd s).pwu = s.pwu ∧ (itemAdd s).ctu = s.ctu ∧ (itemAdd s).tu = s.tu ∧
    (itemAdd s).pu = s.pu ∧ (itemAdd s).ju = s.ju ∧ (itemAdd s).mem = s.mem ∧ (itemAdd s).free = s.free ∧
    (itemAdd s).pending = s.pending := by
  unfold itemAdd
  (repeat' split) <;> simp

@[simp] theorem claimConsume_keeps (s : State) :
    (claimConsume s).bi = s.bi ∧ (claimConsume s).re = s.re ∧ (claimConsume s).nu = s.nu ∧
    (claimConsume s).lu = s.lu ∧ (claimConsume s).pwu = s.pwu ∧ (claimConsume s).bwu = s.bwu ∧
    (claimConsume s).ctu = s.ctu ∧ (claimConsume s).tu = s.tu ∧ (claimConsume s).pu = s.pu ∧
    (claimConsume s).ju = s.ju ∧ (claimConsume s).mem = s.mem ∧ (claimConsume s).free = s.free ∧
    (claimConsume s).pending = s.pending := by
  unfold claimConsume
  simp

@[simp] theorem claimConsume_fields (s : State) :
    (claimConsume s).su.header = s.su.header ∧ (claimConsume s).su.lines = s.su.lines ∧
    (claimConsume s).su.tenders = s.su.tenders ∧ (claimConsume s).su.nextNumber = s.su.nextNumber ∧
    (claimConsume s).su.inbox = s.su.inbox ∧ (claimConsume s).su.event = s.su.event ∧
    (claimConsume s).su.finished = s.su.finished := by
  unfold claimConsume
  simp

@[simp] theorem itemWeighed_keeps (s : State) (a : ConsumeClaim) (slot : Nat) :
    (itemWeighed s a slot).lu = s.lu ∧ (itemWeighed s a slot).ctu = s.ctu ∧ (itemWeighed s a slot).tu = s.tu ∧
    (itemWeighed s a slot).pu = s.pu ∧ (itemWeighed s a slot).ju = s.ju ∧ (itemWeighed s a slot).mem = s.mem ∧
    (itemWeighed s a slot).free = s.free ∧ (itemWeighed s a slot).pending = s.pending := by
  unfold itemWeighed
  dsimp only
  simp

@[simp] theorem weighRefused_keeps (s : State) (a : ConsumeClaim) (r : ResultCode) :
    (weighRefused s a r).lu = s.lu ∧ (weighRefused s a r).pwu = s.pwu ∧ (weighRefused s a r).bwu = s.bwu ∧
    (weighRefused s a r).ctu = s.ctu ∧ (weighRefused s a r).tu = s.tu ∧ (weighRefused s a r).pu = s.pu ∧
    (weighRefused s a r).ju = s.ju ∧ (weighRefused s a r).mem = s.mem ∧ (weighRefused s a r).free = s.free ∧
    (weighRefused s a r).pending = s.pending := by
  unfold weighRefused
  simp

@[simp] theorem consumeAnswered_keeps (s : State) (a : ConsumeClaim) :
    (consumeAnswered s a).lu = s.lu ∧ (consumeAnswered s a).ctu = s.ctu ∧ (consumeAnswered s a).tu = s.tu ∧
    (consumeAnswered s a).pu = s.pu ∧ (consumeAnswered s a).ju = s.ju ∧ (consumeAnswered s a).mem = s.mem ∧
    (consumeAnswered s a).free = s.free ∧ (consumeAnswered s a).pending = s.pending := by
  unfold consumeAnswered
  (repeat' split) <;> simp

@[simp] theorem itemWeigh_keeps (s : State) :
    (itemWeigh s).lu = s.lu ∧ (itemWeigh s).ctu = s.ctu ∧ (itemWeigh s).tu = s.tu ∧ (itemWeigh s).pu = s.pu ∧
    (itemWeigh s).ju = s.ju ∧ (itemWeigh s).mem = s.mem ∧ (itemWeigh s).free = s.free ∧
    (itemWeigh s).pending = s.pending := by
  unfold itemWeigh
  (repeat' split) <;> simp

@[simp] theorem lineVoided_keeps (s : State) (n : Nat) (l : SaleLine) :
    (lineVoided s n l).lu = s.lu ∧ (lineVoided s n l).pwu = s.pwu ∧ (lineVoided s n l).ctu = s.ctu ∧
    (lineVoided s n l).tu = s.tu ∧ (lineVoided s n l).pu = s.pu ∧ (lineVoided s n l).ju = s.ju ∧
    (lineVoided s n l).mem = s.mem ∧ (lineVoided s n l).free = s.free ∧ (lineVoided s n l).pending = s.pending := by
  unfold lineVoided
  dsimp only
  (repeat' split) <;> simp

@[simp] theorem lineVoid_keeps (s : State) :
    (lineVoid s).lu = s.lu ∧ (lineVoid s).pwu = s.pwu ∧ (lineVoid s).ctu = s.ctu ∧ (lineVoid s).tu = s.tu ∧
    (lineVoid s).pu = s.pu ∧ (lineVoid s).ju = s.ju ∧ (lineVoid s).mem = s.mem ∧ (lineVoid s).free = s.free ∧
    (lineVoid s).pending = s.pending := by
  unfold lineVoid
  dsimp only
  (repeat' split) <;> simp

@[simp] theorem offerCard_keeps (s : State) (fs : List (Byte × List Byte)) :
    (offerCard s fs).bi = s.bi ∧ (offerCard s fs).re = s.re ∧ (offerCard s fs).nu = s.nu ∧
    (offerCard s fs).pwu = s.pwu ∧ (offerCard s fs).bwu = s.bwu ∧ (offerCard s fs).su = s.su ∧
    (offerCard s fs).tu = s.tu ∧ (offerCard s fs).pu = s.pu ∧ (offerCard s fs).ju = s.ju ∧
    (offerCard s fs).mem = s.mem ∧ (offerCard s fs).free = s.free ∧ (offerCard s fs).pending = s.pending := by
  induction fs generalizing s with
  | nil => simp [offerCard]
  | cons f rest ih =>
    simp only [offerCard]
    split
    · simpa using ih (linkSend s .card f.1 f.2)
    · simp

@[simp] theorem cardOffers_keeps (s : State) :
    (cardOffers s).bi = s.bi ∧ (cardOffers s).re = s.re ∧ (cardOffers s).nu = s.nu ∧ (cardOffers s).pwu = s.pwu ∧
    (cardOffers s).bwu = s.bwu ∧ (cardOffers s).su = s.su ∧ (cardOffers s).tu = s.tu ∧ (cardOffers s).pu = s.pu ∧
    (cardOffers s).ju = s.ju ∧ (cardOffers s).mem = s.mem ∧ (cardOffers s).free = s.free ∧
    (cardOffers s).pending = s.pending := by
  unfold cardOffers
  (repeat' split) <;> simp

@[simp] theorem cardSend_keeps (s : State) (kind : Byte) (payload : List Byte) :
    (cardSend s kind payload).bi = s.bi ∧ (cardSend s kind payload).re = s.re ∧ (cardSend s kind payload).nu = s.nu ∧
    (cardSend s kind payload).pwu = s.pwu ∧ (cardSend s kind payload).bwu = s.bwu ∧
    (cardSend s kind payload).su = s.su ∧ (cardSend s kind payload).tu = s.tu ∧ (cardSend s kind payload).pu = s.pu ∧
    (cardSend s kind payload).ju = s.ju ∧ (cardSend s kind payload).mem = s.mem ∧
    (cardSend s kind payload).free = s.free ∧ (cardSend s kind payload).pending = s.pending := by
  unfold cardSend
  (repeat' split) <;> simp

@[simp] theorem cardNotice_keeps (s : State) :
    (cardNotice s).bi = s.bi ∧ (cardNotice s).re = s.re ∧ (cardNotice s).nu = s.nu ∧ (cardNotice s).pwu = s.pwu ∧
    (cardNotice s).bwu = s.bwu ∧ (cardNotice s).su = s.su ∧ (cardNotice s).tu = s.tu ∧ (cardNotice s).pu = s.pu ∧
    (cardNotice s).ju = s.ju ∧ (cardNotice s).mem = s.mem ∧ (cardNotice s).free = s.free ∧
    (cardNotice s).pending = s.pending := by
  unfold cardNotice
  (repeat' split) <;> simp

@[simp] theorem takeCardNotices_keeps (n : Nat) (s : State) :
    (takeCardNotices n s).bi = s.bi ∧ (takeCardNotices n s).re = s.re ∧ (takeCardNotices n s).nu = s.nu ∧
    (takeCardNotices n s).pwu = s.pwu ∧ (takeCardNotices n s).bwu = s.bwu ∧ (takeCardNotices n s).su = s.su ∧
    (takeCardNotices n s).tu = s.tu ∧ (takeCardNotices n s).pu = s.pu ∧ (takeCardNotices n s).ju = s.ju ∧
    (takeCardNotices n s).mem = s.mem ∧ (takeCardNotices n s).free = s.free ∧
    (takeCardNotices n s).pending = s.pending := by
  induction n generalizing s with
  | zero => simp [takeCardNotices]
  | succ n ih =>
    simp only [takeCardNotices]
    split
    · simpa using ih (cardOffers (s.setCtu { s.ctu with notices := s.ctu.notices - 1 }))
    · simp

@[simp] theorem cardNotices_keeps (s : State) :
    (cardNotices s).bi = s.bi ∧ (cardNotices s).re = s.re ∧ (cardNotices s).nu = s.nu ∧
    (cardNotices s).pwu = s.pwu ∧ (cardNotices s).bwu = s.bwu ∧ (cardNotices s).su = s.su ∧
    (cardNotices s).tu = s.tu ∧ (cardNotices s).pu = s.pu ∧ (cardNotices s).ju = s.ju ∧
    (cardNotices s).mem = s.mem ∧ (cardNotices s).free = s.free ∧ (cardNotices s).pending = s.pending := by
  unfold cardNotices
  simp

/-- Where no notice waits, or it is not its turn, nothing is taken. -/
theorem cardNotices_none (s : State) (h : s.ctu.notices = 0 ∨ unitTakes s .ctu .sent = false) : cardNotices s = s := by
  unfold cardNotices
  cases hn : s.ctu.notices with
  | zero => rfl
  | succ n => simp [takeCardNotices, h.resolve_left (by simp [hn])]

@[simp] theorem askCardIfChanged_keeps (s : State) (old : Ctu) :
    (askCardIfChanged s old).re = s.re ∧ (askCardIfChanged s old).nu = s.nu ∧ (askCardIfChanged s old).lu = s.lu ∧
    (askCardIfChanged s old).pwu = s.pwu ∧ (askCardIfChanged s old).bwu = s.bwu ∧
    (askCardIfChanged s old).su = s.su ∧ (askCardIfChanged s old).ctu = s.ctu ∧ (askCardIfChanged s old).tu = s.tu ∧
    (askCardIfChanged s old).pu = s.pu ∧ (askCardIfChanged s old).ju = s.ju ∧ (askCardIfChanged s old).mem = s.mem ∧
    (askCardIfChanged s old).pending = s.pending := by
  unfold askCardIfChanged
  (repeat' split) <;> simp

@[simp] theorem cardInTaken_keeps (s : State) (p : List Byte) :
    (cardInTaken s p).re = s.re ∧ (cardInTaken s p).pwu = s.pwu ∧ (cardInTaken s p).bwu = s.bwu ∧
    (cardInTaken s p).tu = s.tu ∧ (cardInTaken s p).pu = s.pu ∧ (cardInTaken s p).ju = s.ju ∧
    (cardInTaken s p).mem = s.mem ∧ (cardInTaken s p).pending = s.pending := by
  unfold cardInTaken
  dsimp only
  simp

@[simp] theorem cardOutTaken_keeps (s : State) :
    (cardOutTaken s).re = s.re ∧ (cardOutTaken s).pwu = s.pwu ∧ (cardOutTaken s).bwu = s.bwu ∧
    (cardOutTaken s).tu = s.tu ∧ (cardOutTaken s).pu = s.pu ∧ (cardOutTaken s).ju = s.ju ∧
    (cardOutTaken s).mem = s.mem ∧ (cardOutTaken s).pending = s.pending := by
  unfold cardOutTaken
  (repeat' split) <;> simp

@[simp] theorem moduleStatusTaken_keeps (s : State) (p : List Byte) :
    (moduleStatusTaken s p).re = s.re ∧ (moduleStatusTaken s p).nu = s.nu ∧ (moduleStatusTaken s p).pwu = s.pwu ∧
    (moduleStatusTaken s p).bwu = s.bwu ∧ (moduleStatusTaken s p).su = s.su ∧ (moduleStatusTaken s p).tu = s.tu ∧
    (moduleStatusTaken s p).pu = s.pu ∧ (moduleStatusTaken s p).ju = s.ju ∧ (moduleStatusTaken s p).mem = s.mem ∧
    (moduleStatusTaken s p).pending = s.pending := by
  unfold moduleStatusTaken
  simp

@[simp] theorem cardTendered_keeps (s : State) (amount : Nat) :
    (cardTendered s amount).lu = s.lu ∧ (cardTendered s amount).pwu = s.pwu ∧ (cardTendered s amount).bwu = s.bwu ∧
    (cardTendered s amount).ctu = s.ctu ∧ (cardTendered s amount).tu = s.tu ∧ (cardTendered s amount).pu = s.pu ∧
    (cardTendered s amount).ju = s.ju ∧ (cardTendered s amount).mem = s.mem ∧ (cardTendered s amount).free = s.free ∧
    (cardTendered s amount).pending = s.pending := by
  unfold cardTendered
  dsimp only
  simp

@[simp] theorem cardTender_keeps (s : State) :
    (cardTender s).lu = s.lu ∧ (cardTender s).pwu = s.pwu ∧ (cardTender s).bwu = s.bwu ∧ (cardTender s).ctu = s.ctu ∧
    (cardTender s).tu = s.tu ∧ (cardTender s).pu = s.pu ∧ (cardTender s).ju = s.ju ∧ (cardTender s).mem = s.mem ∧
    (cardTender s).free = s.free ∧ (cardTender s).pending = s.pending := by
  unfold cardTender
  (repeat' split) <;> simp

@[simp] theorem cardAsks_keeps (s : State) (index amount : Nat) :
    (cardAsks s index amount).re = s.re ∧ (cardAsks s index amount).nu = s.nu ∧
    (cardAsks s index amount).pwu = s.pwu ∧ (cardAsks s index amount).bwu = s.bwu ∧
    (cardAsks s index amount).su = s.su ∧ (cardAsks s index amount).tu = s.tu ∧ (cardAsks s index amount).pu = s.pu ∧
    (cardAsks s index amount).ju = s.ju ∧ (cardAsks s index amount).mem = s.mem ∧
    (cardAsks s index amount).pending = s.pending := by
  unfold cardAsks
  dsimp only
  simp

@[simp] theorem cardAsks_fields (s : State) (index amount : Nat) :
    (cardAsks s index amount).bi.laSel = s.bi.laSel ∧ (cardAsks s index amount).bi.bagFit = s.bi.bagFit ∧
    (cardAsks s index amount).bi.inReset = s.bi.inReset ∧
    (cardAsks s index amount).bi.reqProducer = s.bi.reqProducer ∧
    (cardAsks s index amount).bi.evtConsumer = s.bi.evtConsumer ∧
    (cardAsks s index amount).bi.journalExport = s.bi.journalExport ∧
    (cardAsks s index amount).bi.noticeMask = s.bi.noticeMask ∧
    (cardAsks s index amount).bi.receiptFill = s.bi.receiptFill ∧
    (cardAsks s index amount).bi.pageTable = s.bi.pageTable ∧
    (cardAsks s index amount).bi.refusedCount = s.bi.refusedCount ∧
    (cardAsks s index amount).bi.lastRefused = s.bi.lastRefused ∧
    (cardAsks s index amount).bi.setupSpan = s.bi.setupSpan ∧ (cardAsks s index amount).bi.opened = s.bi.opened ∧
    (cardAsks s index amount).bi.hostStall = s.bi.hostStall ∧
    (cardAsks s index amount).bi.burstGranted = s.bi.burstGranted ∧
    (cardAsks s index amount).bi.burstRefused = s.bi.burstRefused ∧
    (cardAsks s index amount).bi.waitCount = s.bi.waitCount ∧ (cardAsks s index amount).bi.engine = s.bi.engine ∧
    (cardAsks s index amount).bi.readData = s.bi.readData := by
  unfold cardAsks
  dsimp only
  simp

@[simp] theorem cancelTender_keeps (s : State) (o : OutTender) (ofRequest : Bool) :
    (cancelTender s o ofRequest).re = s.re ∧ (cancelTender s o ofRequest).nu = s.nu ∧
    (cancelTender s o ofRequest).pwu = s.pwu ∧ (cancelTender s o ofRequest).bwu = s.bwu ∧
    (cancelTender s o ofRequest).tu = s.tu ∧ (cancelTender s o ofRequest).pu = s.pu ∧
    (cancelTender s o ofRequest).ju = s.ju ∧ (cancelTender s o ofRequest).mem = s.mem ∧
    (cancelTender s o ofRequest).pending = s.pending := by
  unfold cancelTender
  dsimp only
  simp

@[simp] theorem cancelTender_fields (s : State) (o : OutTender) (ofRequest : Bool) :
    (cancelTender s o ofRequest).bi.laSel = s.bi.laSel ∧ (cancelTender s o ofRequest).bi.bagFit = s.bi.bagFit ∧
    (cancelTender s o ofRequest).bi.inReset = s.bi.inReset ∧
    (cancelTender s o ofRequest).bi.reqProducer = s.bi.reqProducer ∧
    (cancelTender s o ofRequest).bi.evtConsumer = s.bi.evtConsumer ∧
    (cancelTender s o ofRequest).bi.journalExport = s.bi.journalExport ∧
    (cancelTender s o ofRequest).bi.noticeMask = s.bi.noticeMask ∧
    (cancelTender s o ofRequest).bi.receiptFill = s.bi.receiptFill ∧
    (cancelTender s o ofRequest).bi.pageTable = s.bi.pageTable ∧
    (cancelTender s o ofRequest).bi.refusedCount = s.bi.refusedCount ∧
    (cancelTender s o ofRequest).bi.lastRefused = s.bi.lastRefused ∧
    (cancelTender s o ofRequest).bi.setupSpan = s.bi.setupSpan ∧
    (cancelTender s o ofRequest).bi.opened = s.bi.opened ∧
    (cancelTender s o ofRequest).bi.hostStall = s.bi.hostStall ∧
    (cancelTender s o ofRequest).bi.burstGranted = s.bi.burstGranted ∧
    (cancelTender s o ofRequest).bi.burstRefused = s.bi.burstRefused ∧
    (cancelTender s o ofRequest).bi.waitCount = s.bi.waitCount ∧
    (cancelTender s o ofRequest).bi.engine = s.bi.engine ∧ (cancelTender s o ofRequest).bi.readData = s.bi.readData ∧
    (cancelTender s o ofRequest).su.header = s.su.header ∧ (cancelTender s o ofRequest).su.lines = s.su.lines ∧
    (cancelTender s o ofRequest).su.tenders = s.su.tenders ∧
    (cancelTender s o ofRequest).su.nextNumber = s.su.nextNumber ∧
    (cancelTender s o ofRequest).su.event = s.su.event ∧ (cancelTender s o ofRequest).su.claim = s.su.claim ∧
    (cancelTender s o ofRequest).su.finished = s.su.finished := by
  unfold cancelTender
  dsimp only
  simp

@[simp] theorem cardCancel_keeps (s : State) :
    (cardCancel s).pwu = s.pwu ∧ (cardCancel s).bwu = s.bwu ∧ (cardCancel s).tu = s.tu ∧ (cardCancel s).pu = s.pu ∧
    (cardCancel s).ju = s.ju ∧ (cardCancel s).mem = s.mem ∧ (cardCancel s).pending = s.pending := by
  unfold cardCancel
  (repeat' split) <;> simp

@[simp] theorem cardWaitExpired_keeps (s : State) :
    (cardWaitExpired s).re = s.re ∧ (cardWaitExpired s).nu = s.nu ∧ (cardWaitExpired s).pwu = s.pwu ∧
    (cardWaitExpired s).bwu = s.bwu ∧ (cardWaitExpired s).tu = s.tu ∧ (cardWaitExpired s).pu = s.pu ∧
    (cardWaitExpired s).ju = s.ju ∧ (cardWaitExpired s).mem = s.mem ∧ (cardWaitExpired s).pending = s.pending := by
  unfold cardWaitExpired
  (repeat' split) <;> simp

@[simp] theorem unresolve_keeps (s : State) (o : OutTender) :
    (unresolve s o).re = s.re ∧ (unresolve s o).lu = s.lu ∧ (unresolve s o).pwu = s.pwu ∧
    (unresolve s o).bwu = s.bwu ∧ (unresolve s o).tu = s.tu ∧ (unresolve s o).pu = s.pu ∧ (unresolve s o).ju = s.ju ∧
    (unresolve s o).mem = s.mem ∧ (unresolve s o).free = s.free ∧ (unresolve s o).pending = s.pending := by
  unfold unresolve
  dsimp only
  simp

@[simp] theorem unresolve_fields (s : State) (o : OutTender) :
    (unresolve s o).bi.laSel = s.bi.laSel ∧ (unresolve s o).bi.bagFit = s.bi.bagFit ∧
    (unresolve s o).bi.inReset = s.bi.inReset ∧ (unresolve s o).bi.reqProducer = s.bi.reqProducer ∧
    (unresolve s o).bi.evtConsumer = s.bi.evtConsumer ∧ (unresolve s o).bi.journalExport = s.bi.journalExport ∧
    (unresolve s o).bi.noticeMask = s.bi.noticeMask ∧ (unresolve s o).bi.receiptFill = s.bi.receiptFill ∧
    (unresolve s o).bi.pageTable = s.bi.pageTable ∧ (unresolve s o).bi.refusedCount = s.bi.refusedCount ∧
    (unresolve s o).bi.lastRefused = s.bi.lastRefused ∧ (unresolve s o).bi.setupSpan = s.bi.setupSpan ∧
    (unresolve s o).bi.opened = s.bi.opened ∧ (unresolve s o).bi.hostStall = s.bi.hostStall ∧
    (unresolve s o).bi.burstGranted = s.bi.burstGranted ∧ (unresolve s o).bi.burstRefused = s.bi.burstRefused ∧
    (unresolve s o).bi.waitCount = s.bi.waitCount ∧ (unresolve s o).bi.engine = s.bi.engine ∧
    (unresolve s o).bi.readData = s.bi.readData ∧ (unresolve s o).nu.producer = s.nu.producer ∧
    (unresolve s o).nu.reserved = s.nu.reserved ∧ (unresolve s o).nu.attn = s.nu.attn ∧
    (unresolve s o).su.header = s.su.header ∧ (unresolve s o).su.lines = s.su.lines ∧
    (unresolve s o).su.tenders = s.su.tenders ∧ (unresolve s o).su.nextNumber = s.su.nextNumber ∧
    (unresolve s o).su.event = s.su.event ∧ (unresolve s o).su.claim = s.su.claim ∧
    (unresolve s o).su.finished = s.su.finished := by
  unfold unresolve
  dsimp only
  simp

@[simp] theorem queryTender_keeps (s : State) (o : OutTender) :
    (queryTender s o).bi = s.bi ∧ (queryTender s o).re = s.re ∧ (queryTender s o).nu = s.nu ∧
    (queryTender s o).pwu = s.pwu ∧ (queryTender s o).bwu = s.bwu ∧ (queryTender s o).su = s.su ∧
    (queryTender s o).tu = s.tu ∧ (queryTender s o).pu = s.pu ∧ (queryTender s o).ju = s.ju ∧
    (queryTender s o).mem = s.mem ∧ (queryTender s o).free = s.free ∧ (queryTender s o).pending = s.pending := by
  unfold queryTender
  dsimp only
  simp

@[simp] theorem cancelWaitExpired_keeps (s : State) :
    (cancelWaitExpired s).re = s.re ∧ (cancelWaitExpired s).pwu = s.pwu ∧ (cancelWaitExpired s).bwu = s.bwu ∧
    (cancelWaitExpired s).tu = s.tu ∧ (cancelWaitExpired s).pu = s.pu ∧ (cancelWaitExpired s).ju = s.ju ∧
    (cancelWaitExpired s).mem = s.mem ∧ (cancelWaitExpired s).pending = s.pending := by
  unfold cancelWaitExpired
  (repeat' split) <;> simp

@[simp] theorem cardLinkDown_keeps (s : State) :
    (cardLinkDown s).re = s.re ∧ (cardLinkDown s).lu = s.lu ∧ (cardLinkDown s).pwu = s.pwu ∧
    (cardLinkDown s).bwu = s.bwu ∧ (cardLinkDown s).tu = s.tu ∧ (cardLinkDown s).pu = s.pu ∧
    (cardLinkDown s).ju = s.ju ∧ (cardLinkDown s).mem = s.mem ∧ (cardLinkDown s).pending = s.pending := by
  unfold cardLinkDown
  dsimp only
  (repeat' split) <;> simp

@[simp] theorem cardLinkBack_keeps (s : State) :
    (cardLinkBack s).re = s.re ∧ (cardLinkBack s).nu = s.nu ∧ (cardLinkBack s).pwu = s.pwu ∧
    (cardLinkBack s).bwu = s.bwu ∧ (cardLinkBack s).su = s.su ∧ (cardLinkBack s).tu = s.tu ∧
    (cardLinkBack s).pu = s.pu ∧ (cardLinkBack s).ju = s.ju ∧ (cardLinkBack s).mem = s.mem ∧
    (cardLinkBack s).pending = s.pending := by
  unfold cardLinkBack
  dsimp only
  (repeat' split) <;> simp

@[simp] theorem cardLinkChange_keeps (s : State) (old new : LinkState) :
    (cardLinkChange s old new).re = s.re ∧ (cardLinkChange s old new).pwu = s.pwu ∧
    (cardLinkChange s old new).bwu = s.bwu ∧ (cardLinkChange s old new).tu = s.tu ∧
    (cardLinkChange s old new).pu = s.pu ∧ (cardLinkChange s old new).ju = s.ju ∧
    (cardLinkChange s old new).mem = s.mem ∧ (cardLinkChange s old new).pending = s.pending := by
  unfold cardLinkChange
  dsimp only
  (repeat' split) <;> simp

@[simp] theorem finishTender_keeps (s : State) (o : OutTender) (st : TenderState) (a : Nat) (code : List Byte) :
    (finishTender s o st a code).re = s.re ∧ (finishTender s o st a code).lu = s.lu ∧
    (finishTender s o st a code).pwu = s.pwu ∧ (finishTender s o st a code).bwu = s.bwu ∧
    (finishTender s o st a code).tu = s.tu ∧ (finishTender s o st a code).pu = s.pu ∧
    (finishTender s o st a code).ju = s.ju ∧ (finishTender s o st a code).mem = s.mem ∧
    (finishTender s o st a code).pending = s.pending := by
  unfold finishTender
  dsimp only
  (repeat' split) <;> simp

@[simp] theorem finishTender_fields (s : State) (o : OutTender) (st : TenderState) (a : Nat) (code : List Byte) :
    (finishTender s o st a code).bi.laSel = s.bi.laSel ∧ (finishTender s o st a code).bi.bagFit = s.bi.bagFit ∧
    (finishTender s o st a code).bi.inReset = s.bi.inReset ∧
    (finishTender s o st a code).bi.reqProducer = s.bi.reqProducer ∧
    (finishTender s o st a code).bi.evtConsumer = s.bi.evtConsumer ∧
    (finishTender s o st a code).bi.journalExport = s.bi.journalExport ∧
    (finishTender s o st a code).bi.noticeMask = s.bi.noticeMask ∧
    (finishTender s o st a code).bi.receiptFill = s.bi.receiptFill ∧
    (finishTender s o st a code).bi.pageTable = s.bi.pageTable ∧
    (finishTender s o st a code).bi.refusedCount = s.bi.refusedCount ∧
    (finishTender s o st a code).bi.lastRefused = s.bi.lastRefused ∧
    (finishTender s o st a code).bi.setupSpan = s.bi.setupSpan ∧
    (finishTender s o st a code).bi.opened = s.bi.opened ∧
    (finishTender s o st a code).bi.hostStall = s.bi.hostStall ∧
    (finishTender s o st a code).bi.burstGranted = s.bi.burstGranted ∧
    (finishTender s o st a code).bi.burstRefused = s.bi.burstRefused ∧
    (finishTender s o st a code).bi.waitCount = s.bi.waitCount ∧
    (finishTender s o st a code).bi.engine = s.bi.engine ∧ (finishTender s o st a code).bi.readData = s.bi.readData ∧
    (finishTender s o st a code).nu.producer = s.nu.producer ∧
    (finishTender s o st a code).nu.reserved = s.nu.reserved ∧ (finishTender s o st a code).nu.attn = s.nu.attn ∧
    (finishTender s o st a code).su.header = s.su.header ∧ (finishTender s o st a code).su.lines = s.su.lines ∧
    (finishTender s o st a code).su.tenders = s.su.tenders ∧
    (finishTender s o st a code).su.nextNumber = s.su.nextNumber ∧
    (finishTender s o st a code).su.event = s.su.event ∧ (finishTender s o st a code).su.claim = s.su.claim ∧
    (finishTender s o st a code).su.finished = s.su.finished := by
  unfold finishTender
  dsimp only
  (repeat' split) <;> simp

@[simp] theorem authForOut_keeps (s : State) (o : OutTender) (p : List Byte) :
    (authForOut s o p).re = s.re ∧ (authForOut s o p).lu = s.lu ∧ (authForOut s o p).pwu = s.pwu ∧
    (authForOut s o p).bwu = s.bwu ∧ (authForOut s o p).tu = s.tu ∧ (authForOut s o p).pu = s.pu ∧
    (authForOut s o p).ju = s.ju ∧ (authForOut s o p).mem = s.mem ∧ (authForOut s o p).pending = s.pending := by
  unfold authForOut
  dsimp only
  (repeat' split) <;> simp

@[simp] theorem judgeVerdict_keeps (s : State) (v : VerdictEntry) (x : CardOutcome) (a : Nat) (shown : Word) :
    (judgeVerdict s v x a shown).re = s.re ∧ (judgeVerdict s v x a shown).lu = s.lu ∧
    (judgeVerdict s v x a shown).pwu = s.pwu ∧ (judgeVerdict s v x a shown).bwu = s.bwu ∧
    (judgeVerdict s v x a shown).tu = s.tu ∧ (judgeVerdict s v x a shown).pu = s.pu ∧
    (judgeVerdict s v x a shown).ju = s.ju ∧ (judgeVerdict s v x a shown).mem = s.mem ∧
    (judgeVerdict s v x a shown).pending = s.pending := by
  unfold judgeVerdict
  dsimp only
  (repeat' split) <;> simp

@[simp] theorem resultForNone_keeps (s : State) (reference : Half) (x : Option (CardOutcome × Nat × Word)) :
    (resultForNone s reference x).re = s.re ∧ (resultForNone s reference x).lu = s.lu ∧
    (resultForNone s reference x).pwu = s.pwu ∧ (resultForNone s reference x).bwu = s.bwu ∧
    (resultForNone s reference x).tu = s.tu ∧ (resultForNone s reference x).pu = s.pu ∧
    (resultForNone s reference x).ju = s.ju ∧ (resultForNone s reference x).mem = s.mem ∧
    (resultForNone s reference x).pending = s.pending := by
  unfold resultForNone
  dsimp only
  (repeat' split) <;> simp

@[simp] theorem authResult_keeps (s : State) (p : List Byte) :
    (authResult s p).re = s.re ∧ (authResult s p).pwu = s.pwu ∧ (authResult s p).bwu = s.bwu ∧
    (authResult s p).tu = s.tu ∧ (authResult s p).pu = s.pu ∧ (authResult s p).ju = s.ju ∧
    (authResult s p).mem = s.mem ∧ (authResult s p).pending = s.pending := by
  unfold authResult
  dsimp only
  (repeat' split) <;> simp

@[simp] theorem noRecord_keeps (s : State) (p : List Byte) :
    (noRecord s p).re = s.re ∧ (noRecord s p).pwu = s.pwu ∧ (noRecord s p).bwu = s.bwu ∧ (noRecord s p).tu = s.tu ∧
    (noRecord s p).pu = s.pu ∧ (noRecord s p).ju = s.ju ∧ (noRecord s p).mem = s.mem ∧
    (noRecord s p).pending = s.pending := by
  unfold noRecord
  dsimp only
  (repeat' split) <;> simp

@[simp] theorem verdictGiven_keeps (s : State) (o : OutTender) (v : Verdict) :
    (verdictGiven s o v).lu = s.lu ∧ (verdictGiven s o v).pwu = s.pwu ∧ (verdictGiven s o v).bwu = s.bwu ∧
    (verdictGiven s o v).tu = s.tu ∧ (verdictGiven s o v).pu = s.pu ∧ (verdictGiven s o v).ju = s.ju ∧
    (verdictGiven s o v).mem = s.mem ∧ (verdictGiven s o v).pending = s.pending := by
  unfold verdictGiven
  dsimp only
  (repeat' split) <;> simp

@[simp] theorem tenderVerdict_keeps (s : State) :
    (tenderVerdict s).lu = s.lu ∧ (tenderVerdict s).pwu = s.pwu ∧ (tenderVerdict s).bwu = s.bwu ∧
    (tenderVerdict s).tu = s.tu ∧ (tenderVerdict s).pu = s.pu ∧ (tenderVerdict s).ju = s.ju ∧
    (tenderVerdict s).mem = s.mem ∧ (tenderVerdict s).pending = s.pending := by
  unfold tenderVerdict
  dsimp only
  (repeat' split) <;> simp

@[simp] theorem laneClockTick_keeps (s : State) :
    (laneClockTick s).bi = s.bi ∧ (laneClockTick s).nu = s.nu ∧ (laneClockTick s).lu = s.lu ∧
    (laneClockTick s).pwu = s.pwu ∧ (laneClockTick s).bwu = s.bwu ∧ (laneClockTick s).su = s.su ∧
    (laneClockTick s).ctu = s.ctu ∧ (laneClockTick s).pu = s.pu ∧ (laneClockTick s).ju = s.ju ∧
    (laneClockTick s).mem = s.mem ∧ (laneClockTick s).free = s.free ∧ (laneClockTick s).pending = s.pending := by
  unfold laneClockTick
  dsimp only
  (repeat' split) <;> simp

@[simp] theorem rawLevelChange_keeps (s : State) (input : InputId) (level : Bool) :
    (rawLevelChange s input level).bi = s.bi ∧ (rawLevelChange s input level).re = s.re ∧
    (rawLevelChange s input level).nu = s.nu ∧ (rawLevelChange s input level).lu = s.lu ∧
    (rawLevelChange s input level).pwu = s.pwu ∧ (rawLevelChange s input level).bwu = s.bwu ∧
    (rawLevelChange s input level).su = s.su ∧ (rawLevelChange s input level).ctu = s.ctu ∧
    (rawLevelChange s input level).pu = s.pu ∧ (rawLevelChange s input level).ju = s.ju ∧
    (rawLevelChange s input level).mem = s.mem ∧ (rawLevelChange s input level).free = s.free ∧
    (rawLevelChange s input level).pending = s.pending := by
  unfold rawLevelChange
  dsimp only
  (repeat' split) <;> simp

@[simp] theorem beginKick_keeps (s : State) (cause : KickCause) (ofRequest : Bool) :
    (beginKick s cause ofRequest).re = s.re ∧ (beginKick s cause ofRequest).nu = s.nu ∧
    (beginKick s cause ofRequest).lu = s.lu ∧ (beginKick s cause ofRequest).pwu = s.pwu ∧
    (beginKick s cause ofRequest).bwu = s.bwu ∧ (beginKick s cause ofRequest).su = s.su ∧
    (beginKick s cause ofRequest).ctu = s.ctu ∧ (beginKick s cause ofRequest).pu = s.pu ∧
    (beginKick s cause ofRequest).ju = s.ju ∧ (beginKick s cause ofRequest).mem = s.mem ∧
    (beginKick s cause ofRequest).free = s.free ∧ (beginKick s cause ofRequest).pending = s.pending := by
  unfold beginKick
  (repeat' split) <;> simp

@[simp] theorem beginKick_fields (s : State) (cause : KickCause) (ofRequest : Bool) :
    (beginKick s cause ofRequest).bi.laSel = s.bi.laSel ∧ (beginKick s cause ofRequest).bi.bagFit = s.bi.bagFit ∧
    (beginKick s cause ofRequest).bi.inReset = s.bi.inReset ∧
    (beginKick s cause ofRequest).bi.reqProducer = s.bi.reqProducer ∧
    (beginKick s cause ofRequest).bi.evtConsumer = s.bi.evtConsumer ∧
    (beginKick s cause ofRequest).bi.journalExport = s.bi.journalExport ∧
    (beginKick s cause ofRequest).bi.noticeMask = s.bi.noticeMask ∧
    (beginKick s cause ofRequest).bi.receiptFill = s.bi.receiptFill ∧
    (beginKick s cause ofRequest).bi.pageTable = s.bi.pageTable ∧
    (beginKick s cause ofRequest).bi.refusedCount = s.bi.refusedCount ∧
    (beginKick s cause ofRequest).bi.lastRefused = s.bi.lastRefused ∧
    (beginKick s cause ofRequest).bi.setupSpan = s.bi.setupSpan ∧
    (beginKick s cause ofRequest).bi.opened = s.bi.opened ∧
    (beginKick s cause ofRequest).bi.hostStall = s.bi.hostStall ∧
    (beginKick s cause ofRequest).bi.burstGranted = s.bi.burstGranted ∧
    (beginKick s cause ofRequest).bi.burstRefused = s.bi.burstRefused ∧
    (beginKick s cause ofRequest).bi.waitCount = s.bi.waitCount ∧
    (beginKick s cause ofRequest).bi.engine = s.bi.engine ∧ (beginKick s cause ofRequest).bi.readData = s.bi.readData := by
  unfold beginKick
  (repeat' split) <;> simp

@[simp] theorem kickWidthExpired_keeps (s : State) :
    (kickWidthExpired s).bi = s.bi ∧ (kickWidthExpired s).re = s.re ∧ (kickWidthExpired s).nu = s.nu ∧
    (kickWidthExpired s).lu = s.lu ∧ (kickWidthExpired s).pwu = s.pwu ∧ (kickWidthExpired s).bwu = s.bwu ∧
    (kickWidthExpired s).su = s.su ∧ (kickWidthExpired s).ctu = s.ctu ∧ (kickWidthExpired s).pu = s.pu ∧
    (kickWidthExpired s).ju = s.ju ∧ (kickWidthExpired s).mem = s.mem ∧ (kickWidthExpired s).free = s.free ∧
    (kickWidthExpired s).pending = s.pending := by
  unfold kickWidthExpired
  simp

@[simp] theorem kickConfirmExpired_keeps (s : State) :
    (kickConfirmExpired s).re = s.re ∧ (kickConfirmExpired s).lu = s.lu ∧ (kickConfirmExpired s).pwu = s.pwu ∧
    (kickConfirmExpired s).bwu = s.bwu ∧ (kickConfirmExpired s).ctu = s.ctu ∧ (kickConfirmExpired s).pu = s.pu ∧
    (kickConfirmExpired s).ju = s.ju ∧ (kickConfirmExpired s).mem = s.mem ∧ (kickConfirmExpired s).free = s.free ∧
    (kickConfirmExpired s).pending = s.pending := by
  unfold kickConfirmExpired
  (repeat' split) <;> simp

@[simp] theorem askTuEvent_keeps (s : State) :
    (askTuEvent s).re = s.re ∧ (askTuEvent s).nu = s.nu ∧ (askTuEvent s).lu = s.lu ∧ (askTuEvent s).pwu = s.pwu ∧
    (askTuEvent s).bwu = s.bwu ∧ (askTuEvent s).su = s.su ∧ (askTuEvent s).ctu = s.ctu ∧ (askTuEvent s).tu = s.tu ∧
    (askTuEvent s).pu = s.pu ∧ (askTuEvent s).ju = s.ju ∧ (askTuEvent s).mem = s.mem ∧ (askTuEvent s).free = s.free ∧
    (askTuEvent s).pending = s.pending := by
  unfold askTuEvent
  (repeat' split) <;> simp

@[simp] theorem askTuEvent_fields (s : State) :
    (askTuEvent s).bi.laSel = s.bi.laSel ∧ (askTuEvent s).bi.bagFit = s.bi.bagFit ∧
    (askTuEvent s).bi.inReset = s.bi.inReset ∧ (askTuEvent s).bi.reqProducer = s.bi.reqProducer ∧
    (askTuEvent s).bi.evtConsumer = s.bi.evtConsumer ∧ (askTuEvent s).bi.journalExport = s.bi.journalExport ∧
    (askTuEvent s).bi.noticeMask = s.bi.noticeMask ∧ (askTuEvent s).bi.receiptFill = s.bi.receiptFill ∧
    (askTuEvent s).bi.pageTable = s.bi.pageTable ∧ (askTuEvent s).bi.refusedCount = s.bi.refusedCount ∧
    (askTuEvent s).bi.lastRefused = s.bi.lastRefused ∧ (askTuEvent s).bi.setupSpan = s.bi.setupSpan ∧
    (askTuEvent s).bi.opened = s.bi.opened ∧ (askTuEvent s).bi.hostStall = s.bi.hostStall ∧
    (askTuEvent s).bi.burstGranted = s.bi.burstGranted ∧ (askTuEvent s).bi.burstRefused = s.bi.burstRefused ∧
    (askTuEvent s).bi.waitCount = s.bi.waitCount ∧ (askTuEvent s).bi.engine = s.bi.engine ∧
    (askTuEvent s).bi.readData = s.bi.readData := by
  unfold askTuEvent
  (repeat' split) <;> simp

@[simp] theorem enterOpen_keeps (s : State) (forced : Bool) :
    (enterOpen s forced).re = s.re ∧ (enterOpen s forced).lu = s.lu ∧ (enterOpen s forced).pwu = s.pwu ∧
    (enterOpen s forced).bwu = s.bwu ∧ (enterOpen s forced).ctu = s.ctu ∧ (enterOpen s forced).pu = s.pu ∧
    (enterOpen s forced).ju = s.ju ∧ (enterOpen s forced).mem = s.mem ∧ (enterOpen s forced).free = s.free ∧
    (enterOpen s forced).pending = s.pending := by
  unfold enterOpen
  simp

@[simp] theorem enterOpen_fields (s : State) (forced : Bool) :
    (enterOpen s forced).bi.laSel = s.bi.laSel ∧ (enterOpen s forced).bi.bagFit = s.bi.bagFit ∧
    (enterOpen s forced).bi.inReset = s.bi.inReset ∧ (enterOpen s forced).bi.reqProducer = s.bi.reqProducer ∧
    (enterOpen s forced).bi.evtConsumer = s.bi.evtConsumer ∧
    (enterOpen s forced).bi.journalExport = s.bi.journalExport ∧
    (enterOpen s forced).bi.noticeMask = s.bi.noticeMask ∧ (enterOpen s forced).bi.receiptFill = s.bi.receiptFill ∧
    (enterOpen s forced).bi.pageTable = s.bi.pageTable ∧ (enterOpen s forced).bi.refusedCount = s.bi.refusedCount ∧
    (enterOpen s forced).bi.lastRefused = s.bi.lastRefused ∧ (enterOpen s forced).bi.setupSpan = s.bi.setupSpan ∧
    (enterOpen s forced).bi.opened = s.bi.opened ∧ (enterOpen s forced).bi.hostStall = s.bi.hostStall ∧
    (enterOpen s forced).bi.burstGranted = s.bi.burstGranted ∧
    (enterOpen s forced).bi.burstRefused = s.bi.burstRefused ∧ (enterOpen s forced).bi.waitCount = s.bi.waitCount ∧
    (enterOpen s forced).bi.engine = s.bi.engine ∧ (enterOpen s forced).bi.readData = s.bi.readData ∧
    (enterOpen s forced).nu.producer = s.nu.producer ∧ (enterOpen s forced).nu.reserved = s.nu.reserved ∧
    (enterOpen s forced).nu.attn = s.nu.attn ∧ (enterOpen s forced).su.header = s.su.header ∧
    (enterOpen s forced).su.lines = s.su.lines ∧ (enterOpen s forced).su.tenders = s.su.tenders ∧
    (enterOpen s forced).su.nextNumber = s.su.nextNumber ∧ (enterOpen s forced).su.event = s.su.event ∧
    (enterOpen s forced).su.claim = s.su.claim ∧ (enterOpen s forced).su.finished = s.su.finished := by
  unfold enterOpen
  simp

@[simp] theorem forcedOpening_keeps (s : State) :
    (forcedOpening s).re = s.re ∧ (forcedOpening s).lu = s.lu ∧ (forcedOpening s).pwu = s.pwu ∧
    (forcedOpening s).bwu = s.bwu ∧ (forcedOpening s).ctu = s.ctu ∧ (forcedOpening s).pu = s.pu ∧
    (forcedOpening s).mem = s.mem ∧ (forcedOpening s).free = s.free ∧ (forcedOpening s).pending = s.pending := by
  unfold forcedOpening
  dsimp only
  simp

@[simp] theorem forcedOpening_fields (s : State) :
    (forcedOpening s).bi.laSel = s.bi.laSel ∧ (forcedOpening s).bi.bagFit = s.bi.bagFit ∧
    (forcedOpening s).bi.inReset = s.bi.inReset ∧ (forcedOpening s).bi.reqProducer = s.bi.reqProducer ∧
    (forcedOpening s).bi.evtConsumer = s.bi.evtConsumer ∧ (forcedOpening s).bi.journalExport = s.bi.journalExport ∧
    (forcedOpening s).bi.noticeMask = s.bi.noticeMask ∧ (forcedOpening s).bi.receiptFill = s.bi.receiptFill ∧
    (forcedOpening s).bi.pageTable = s.bi.pageTable ∧ (forcedOpening s).bi.refusedCount = s.bi.refusedCount ∧
    (forcedOpening s).bi.lastRefused = s.bi.lastRefused ∧ (forcedOpening s).bi.setupSpan = s.bi.setupSpan ∧
    (forcedOpening s).bi.opened = s.bi.opened ∧ (forcedOpening s).bi.hostStall = s.bi.hostStall ∧
    (forcedOpening s).bi.burstGranted = s.bi.burstGranted ∧ (forcedOpening s).bi.burstRefused = s.bi.burstRefused ∧
    (forcedOpening s).bi.waitCount = s.bi.waitCount ∧ (forcedOpening s).bi.engine = s.bi.engine ∧
    (forcedOpening s).bi.readData = s.bi.readData ∧ (forcedOpening s).nu.producer = s.nu.producer ∧
    (forcedOpening s).nu.reserved = s.nu.reserved ∧ (forcedOpening s).nu.attn = s.nu.attn ∧
    (forcedOpening s).su.header = s.su.header ∧ (forcedOpening s).su.lines = s.su.lines ∧
    (forcedOpening s).su.tenders = s.su.tenders ∧ (forcedOpening s).su.nextNumber = s.su.nextNumber ∧
    (forcedOpening s).su.event = s.su.event ∧ (forcedOpening s).su.claim = s.su.claim ∧
    (forcedOpening s).su.finished = s.su.finished := by
  unfold forcedOpening
  dsimp only
  simp

@[simp] theorem drawerShut_keeps (s : State) :
    (drawerShut s).re = s.re ∧ (drawerShut s).lu = s.lu ∧ (drawerShut s).pwu = s.pwu ∧ (drawerShut s).bwu = s.bwu ∧
    (drawerShut s).ctu = s.ctu ∧ (drawerShut s).pu = s.pu ∧ (drawerShut s).ju = s.ju ∧ (drawerShut s).mem = s.mem ∧
    (drawerShut s).free = s.free ∧ (drawerShut s).pending = s.pending := by
  unfold drawerShut
  simp

@[simp] theorem drawerShut_fields (s : State) :
    (drawerShut s).bi.laSel = s.bi.laSel ∧ (drawerShut s).bi.bagFit = s.bi.bagFit ∧
    (drawerShut s).bi.inReset = s.bi.inReset ∧ (drawerShut s).bi.reqProducer = s.bi.reqProducer ∧
    (drawerShut s).bi.evtConsumer = s.bi.evtConsumer ∧ (drawerShut s).bi.journalExport = s.bi.journalExport ∧
    (drawerShut s).bi.noticeMask = s.bi.noticeMask ∧ (drawerShut s).bi.receiptFill = s.bi.receiptFill ∧
    (drawerShut s).bi.pageTable = s.bi.pageTable ∧ (drawerShut s).bi.refusedCount = s.bi.refusedCount ∧
    (drawerShut s).bi.lastRefused = s.bi.lastRefused ∧ (drawerShut s).bi.setupSpan = s.bi.setupSpan ∧
    (drawerShut s).bi.opened = s.bi.opened ∧ (drawerShut s).bi.hostStall = s.bi.hostStall ∧
    (drawerShut s).bi.burstGranted = s.bi.burstGranted ∧ (drawerShut s).bi.burstRefused = s.bi.burstRefused ∧
    (drawerShut s).bi.waitCount = s.bi.waitCount ∧ (drawerShut s).bi.engine = s.bi.engine ∧
    (drawerShut s).bi.readData = s.bi.readData ∧ (drawerShut s).nu.producer = s.nu.producer ∧
    (drawerShut s).nu.reserved = s.nu.reserved ∧ (drawerShut s).nu.attn = s.nu.attn ∧
    (drawerShut s).su.header = s.su.header ∧ (drawerShut s).su.lines = s.su.lines ∧
    (drawerShut s).su.tenders = s.su.tenders ∧ (drawerShut s).su.nextNumber = s.su.nextNumber ∧
    (drawerShut s).su.event = s.su.event ∧ (drawerShut s).su.claim = s.su.claim ∧
    (drawerShut s).su.finished = s.su.finished := by
  unfold drawerShut
  simp

@[simp] theorem sensorReady_keeps (s : State) (level : Bool) :
    (sensorReady s level).re = s.re ∧ (sensorReady s level).lu = s.lu ∧ (sensorReady s level).pwu = s.pwu ∧
    (sensorReady s level).bwu = s.bwu ∧ (sensorReady s level).ctu = s.ctu ∧ (sensorReady s level).pu = s.pu ∧
    (sensorReady s level).mem = s.mem ∧ (sensorReady s level).free = s.free ∧
    (sensorReady s level).pending = s.pending := by
  unfold sensorReady
  (repeat' split) <;> simp

@[simp] theorem followSensor_keeps (s : State) (level : Bool) :
    (followSensor s level).bi = s.bi ∧ (followSensor s level).re = s.re ∧ (followSensor s level).nu = s.nu ∧
    (followSensor s level).lu = s.lu ∧ (followSensor s level).pwu = s.pwu ∧ (followSensor s level).bwu = s.bwu ∧
    (followSensor s level).su = s.su ∧ (followSensor s level).ctu = s.ctu ∧ (followSensor s level).pu = s.pu ∧
    (followSensor s level).ju = s.ju ∧ (followSensor s level).mem = s.mem ∧ (followSensor s level).free = s.free ∧
    (followSensor s level).pending = s.pending := by
  unfold followSensor
  (repeat' split) <;> simp

@[simp] theorem sensorEdge_keeps (s : State) (e : Edge) :
    (sensorEdge s e).re = s.re ∧ (sensorEdge s e).lu = s.lu ∧ (sensorEdge s e).pwu = s.pwu ∧
    (sensorEdge s e).bwu = s.bwu ∧ (sensorEdge s e).ctu = s.ctu ∧ (sensorEdge s e).pu = s.pu ∧
    (sensorEdge s e).mem = s.mem ∧ (sensorEdge s e).free = s.free ∧ (sensorEdge s e).pending = s.pending := by
  unfold sensorEdge
  dsimp only
  (repeat' split) <;> simp

@[simp] theorem keyEdge_keeps (s : State) (e : Edge) :
    (keyEdge s e).re = s.re ∧ (keyEdge s e).nu = s.nu ∧ (keyEdge s e).lu = s.lu ∧ (keyEdge s e).pwu = s.pwu ∧
    (keyEdge s e).bwu = s.bwu ∧ (keyEdge s e).su = s.su ∧ (keyEdge s e).ctu = s.ctu ∧ (keyEdge s e).pu = s.pu ∧
    (keyEdge s e).ju = s.ju ∧ (keyEdge s e).mem = s.mem ∧ (keyEdge s e).free = s.free ∧
    (keyEdge s e).pending = s.pending := by
  unfold keyEdge
  dsimp only
  (repeat' split) <;> simp

@[simp] theorem drawerLimitExpired_keeps (s : State) :
    (drawerLimitExpired s).re = s.re ∧ (drawerLimitExpired s).lu = s.lu ∧ (drawerLimitExpired s).pwu = s.pwu ∧
    (drawerLimitExpired s).bwu = s.bwu ∧ (drawerLimitExpired s).ctu = s.ctu ∧ (drawerLimitExpired s).pu = s.pu ∧
    (drawerLimitExpired s).ju = s.ju ∧ (drawerLimitExpired s).mem = s.mem ∧ (drawerLimitExpired s).free = s.free ∧
    (drawerLimitExpired s).pending = s.pending := by
  unfold drawerLimitExpired
  simp

@[simp] theorem forcedOpeningTold_keeps (s : State) :
    (forcedOpeningTold s).bi = s.bi ∧ (forcedOpeningTold s).re = s.re ∧ (forcedOpeningTold s).nu = s.nu ∧
    (forcedOpeningTold s).lu = s.lu ∧ (forcedOpeningTold s).pwu = s.pwu ∧ (forcedOpeningTold s).bwu = s.bwu ∧
    (forcedOpeningTold s).su = s.su ∧ (forcedOpeningTold s).ctu = s.ctu ∧ (forcedOpeningTold s).tu = s.tu ∧
    (forcedOpeningTold s).pu = s.pu ∧ (forcedOpeningTold s).mem = s.mem ∧ (forcedOpeningTold s).free = s.free ∧
    (forcedOpeningTold s).pending = s.pending := by
  unfold forcedOpeningTold
  simp

@[simp] theorem cashTendered_keeps (s : State) :
    (cashTendered s).lu = s.lu ∧ (cashTendered s).pwu = s.pwu ∧ (cashTendered s).bwu = s.bwu ∧
    (cashTendered s).ctu = s.ctu ∧ (cashTendered s).tu = s.tu ∧ (cashTendered s).pu = s.pu ∧
    (cashTendered s).ju = s.ju ∧ (cashTendered s).mem = s.mem ∧ (cashTendered s).free = s.free ∧
    (cashTendered s).pending = s.pending := by
  unfold cashTendered
  dsimp only
  simp

@[simp] theorem cashTender_keeps (s : State) :
    (cashTender s).lu = s.lu ∧ (cashTender s).pwu = s.pwu ∧ (cashTender s).bwu = s.bwu ∧ (cashTender s).ctu = s.ctu ∧
    (cashTender s).tu = s.tu ∧ (cashTender s).pu = s.pu ∧ (cashTender s).ju = s.ju ∧ (cashTender s).mem = s.mem ∧
    (cashTender s).free = s.free ∧ (cashTender s).pending = s.pending := by
  unfold cashTender
  (repeat' split) <;> simp

@[simp] theorem writeNosale_keeps (s : State) :
    (writeNosale s).re = s.re ∧ (writeNosale s).nu = s.nu ∧ (writeNosale s).lu = s.lu ∧ (writeNosale s).pwu = s.pwu ∧
    (writeNosale s).bwu = s.bwu ∧ (writeNosale s).su = s.su ∧ (writeNosale s).ctu = s.ctu ∧
    (writeNosale s).tu = s.tu ∧ (writeNosale s).pu = s.pu ∧ (writeNosale s).mem = s.mem ∧
    (writeNosale s).free = s.free ∧ (writeNosale s).pending = s.pending := by
  unfold writeNosale
  dsimp only
  simp

@[simp] theorem nosaleOpened_keeps (s : State) :
    (nosaleOpened s).lu = s.lu ∧ (nosaleOpened s).pwu = s.pwu ∧ (nosaleOpened s).bwu = s.bwu ∧
    (nosaleOpened s).ctu = s.ctu ∧ (nosaleOpened s).pu = s.pu ∧ (nosaleOpened s).mem = s.mem ∧
    (nosaleOpened s).free = s.free ∧ (nosaleOpened s).pending = s.pending := by
  unfold nosaleOpened
  dsimp only
  simp

@[simp] theorem drawerNosale_keeps (s : State) :
    (drawerNosale s).lu = s.lu ∧ (drawerNosale s).pwu = s.pwu ∧ (drawerNosale s).bwu = s.bwu ∧
    (drawerNosale s).ctu = s.ctu ∧ (drawerNosale s).pu = s.pu ∧ (drawerNosale s).mem = s.mem ∧
    (drawerNosale s).free = s.free ∧ (drawerNosale s).pending = s.pending := by
  unfold drawerNosale
  (repeat' split) <;> simp

@[simp] theorem beginFetch_keeps (s : State) (slot : Nat) (flight : FlightKind) :
    (beginFetch s slot flight).re = s.re ∧ (beginFetch s slot flight).nu = s.nu ∧
    (beginFetch s slot flight).lu = s.lu ∧ (beginFetch s slot flight).pwu = s.pwu ∧
    (beginFetch s slot flight).bwu = s.bwu ∧ (beginFetch s slot flight).su = s.su ∧
    (beginFetch s slot flight).ctu = s.ctu ∧ (beginFetch s slot flight).tu = s.tu ∧
    (beginFetch s slot flight).ju = s.ju ∧ (beginFetch s slot flight).mem = s.mem ∧
    (beginFetch s slot flight).free = s.free ∧ (beginFetch s slot flight).pending = s.pending := by
  unfold beginFetch
  simp

@[simp] theorem beginFetch_fields (s : State) (slot : Nat) (flight : FlightKind) :
    (beginFetch s slot flight).bi.laSel = s.bi.laSel ∧ (beginFetch s slot flight).bi.bagFit = s.bi.bagFit ∧
    (beginFetch s slot flight).bi.inReset = s.bi.inReset ∧
    (beginFetch s slot flight).bi.reqProducer = s.bi.reqProducer ∧
    (beginFetch s slot flight).bi.evtConsumer = s.bi.evtConsumer ∧
    (beginFetch s slot flight).bi.journalExport = s.bi.journalExport ∧
    (beginFetch s slot flight).bi.noticeMask = s.bi.noticeMask ∧
    (beginFetch s slot flight).bi.receiptFill = s.bi.receiptFill ∧
    (beginFetch s slot flight).bi.pageTable = s.bi.pageTable ∧
    (beginFetch s slot flight).bi.refusedCount = s.bi.refusedCount ∧
    (beginFetch s slot flight).bi.lastRefused = s.bi.lastRefused ∧
    (beginFetch s slot flight).bi.setupSpan = s.bi.setupSpan ∧ (beginFetch s slot flight).bi.waiting = s.bi.waiting ∧
    (beginFetch s slot flight).bi.opened = s.bi.opened ∧ (beginFetch s slot flight).bi.nextWindow = s.bi.nextWindow ∧
    (beginFetch s slot flight).bi.nextGroup = s.bi.nextGroup ∧
    (beginFetch s slot flight).bi.hostStall = s.bi.hostStall ∧
    (beginFetch s slot flight).bi.burstGranted = s.bi.burstGranted ∧
    (beginFetch s slot flight).bi.burstRefused = s.bi.burstRefused ∧
    (beginFetch s slot flight).bi.waitCount = s.bi.waitCount ∧ (beginFetch s slot flight).bi.readData = s.bi.readData := by
  unfold beginFetch
  simp

@[simp] theorem offerPrint_keeps (s : State) (f : ReadyFrame) :
    (offerPrint s f).re = s.re ∧ (offerPrint s f).nu = s.nu ∧ (offerPrint s f).pwu = s.pwu ∧
    (offerPrint s f).bwu = s.bwu ∧ (offerPrint s f).su = s.su ∧ (offerPrint s f).ctu = s.ctu ∧
    (offerPrint s f).tu = s.tu ∧ (offerPrint s f).ju = s.ju ∧ (offerPrint s f).mem = s.mem ∧
    (offerPrint s f).free = s.free ∧ (offerPrint s f).pending = s.pending := by
  unfold offerPrint
  dsimp only
  (repeat' split) <;> simp

@[simp] theorem offerPrint_fields (s : State) (f : ReadyFrame) :
    (offerPrint s f).bi.laSel = s.bi.laSel ∧ (offerPrint s f).bi.bagFit = s.bi.bagFit ∧
    (offerPrint s f).bi.inReset = s.bi.inReset ∧ (offerPrint s f).bi.reqProducer = s.bi.reqProducer ∧
    (offerPrint s f).bi.evtConsumer = s.bi.evtConsumer ∧ (offerPrint s f).bi.journalExport = s.bi.journalExport ∧
    (offerPrint s f).bi.noticeMask = s.bi.noticeMask ∧ (offerPrint s f).bi.receiptFill = s.bi.receiptFill ∧
    (offerPrint s f).bi.pageTable = s.bi.pageTable ∧ (offerPrint s f).bi.refusedCount = s.bi.refusedCount ∧
    (offerPrint s f).bi.lastRefused = s.bi.lastRefused ∧ (offerPrint s f).bi.setupSpan = s.bi.setupSpan ∧
    (offerPrint s f).bi.opened = s.bi.opened ∧ (offerPrint s f).bi.hostStall = s.bi.hostStall ∧
    (offerPrint s f).bi.burstGranted = s.bi.burstGranted ∧ (offerPrint s f).bi.burstRefused = s.bi.burstRefused ∧
    (offerPrint s f).bi.waitCount = s.bi.waitCount ∧ (offerPrint s f).bi.engine = s.bi.engine ∧
    (offerPrint s f).bi.readData = s.bi.readData := by
  unfold offerPrint
  dsimp only
  (repeat' split) <;> simp

@[simp] theorem printOffers_keeps (s : State) :
    (printOffers s).re = s.re ∧ (printOffers s).nu = s.nu ∧ (printOffers s).pwu = s.pwu ∧
    (printOffers s).bwu = s.bwu ∧ (printOffers s).su = s.su ∧ (printOffers s).ctu = s.ctu ∧
    (printOffers s).tu = s.tu ∧ (printOffers s).ju = s.ju ∧ (printOffers s).mem = s.mem ∧
    (printOffers s).free = s.free ∧ (printOffers s).pending = s.pending := by
  unfold printOffers
  (repeat' split) <;> simp

@[simp] theorem printOffers_fields (s : State) :
    (printOffers s).bi.laSel = s.bi.laSel ∧ (printOffers s).bi.bagFit = s.bi.bagFit ∧
    (printOffers s).bi.inReset = s.bi.inReset ∧ (printOffers s).bi.reqProducer = s.bi.reqProducer ∧
    (printOffers s).bi.evtConsumer = s.bi.evtConsumer ∧ (printOffers s).bi.journalExport = s.bi.journalExport ∧
    (printOffers s).bi.noticeMask = s.bi.noticeMask ∧ (printOffers s).bi.receiptFill = s.bi.receiptFill ∧
    (printOffers s).bi.pageTable = s.bi.pageTable ∧ (printOffers s).bi.refusedCount = s.bi.refusedCount ∧
    (printOffers s).bi.lastRefused = s.bi.lastRefused ∧ (printOffers s).bi.setupSpan = s.bi.setupSpan ∧
    (printOffers s).bi.opened = s.bi.opened ∧ (printOffers s).bi.hostStall = s.bi.hostStall ∧
    (printOffers s).bi.burstGranted = s.bi.burstGranted ∧ (printOffers s).bi.burstRefused = s.bi.burstRefused ∧
    (printOffers s).bi.waitCount = s.bi.waitCount ∧ (printOffers s).bi.engine = s.bi.engine ∧
    (printOffers s).bi.readData = s.bi.readData := by
  unfold printOffers
  (repeat' split) <;> simp

@[simp] theorem takeSent_keeps (s : State) :
    (takeSent s).re = s.re ∧ (takeSent s).nu = s.nu ∧ (takeSent s).pwu = s.pwu ∧ (takeSent s).bwu = s.bwu ∧
    (takeSent s).su = s.su ∧ (takeSent s).ctu = s.ctu ∧ (takeSent s).tu = s.tu ∧ (takeSent s).ju = s.ju ∧
    (takeSent s).mem = s.mem ∧ (takeSent s).free = s.free ∧ (takeSent s).pending = s.pending := by
  unfold takeSent
  simp

@[simp] theorem takeSent_fields (s : State) :
    (takeSent s).bi.laSel = s.bi.laSel ∧ (takeSent s).bi.bagFit = s.bi.bagFit ∧
    (takeSent s).bi.inReset = s.bi.inReset ∧ (takeSent s).bi.reqProducer = s.bi.reqProducer ∧
    (takeSent s).bi.evtConsumer = s.bi.evtConsumer ∧ (takeSent s).bi.journalExport = s.bi.journalExport ∧
    (takeSent s).bi.noticeMask = s.bi.noticeMask ∧ (takeSent s).bi.receiptFill = s.bi.receiptFill ∧
    (takeSent s).bi.pageTable = s.bi.pageTable ∧ (takeSent s).bi.refusedCount = s.bi.refusedCount ∧
    (takeSent s).bi.lastRefused = s.bi.lastRefused ∧ (takeSent s).bi.setupSpan = s.bi.setupSpan ∧
    (takeSent s).bi.opened = s.bi.opened ∧ (takeSent s).bi.hostStall = s.bi.hostStall ∧
    (takeSent s).bi.burstGranted = s.bi.burstGranted ∧ (takeSent s).bi.burstRefused = s.bi.burstRefused ∧
    (takeSent s).bi.waitCount = s.bi.waitCount ∧ (takeSent s).bi.engine = s.bi.engine ∧
    (takeSent s).bi.readData = s.bi.readData := by
  unfold takeSent
  simp

@[simp] theorem printNotice_keeps (s : State) :
    (printNotice s).re = s.re ∧ (printNotice s).nu = s.nu ∧ (printNotice s).pwu = s.pwu ∧
    (printNotice s).bwu = s.bwu ∧ (printNotice s).su = s.su ∧ (printNotice s).ctu = s.ctu ∧
    (printNotice s).tu = s.tu ∧ (printNotice s).ju = s.ju ∧ (printNotice s).mem = s.mem ∧
    (printNotice s).free = s.free ∧ (printNotice s).pending = s.pending := by
  unfold printNotice
  (repeat' split) <;> simp

@[simp] theorem printNotice_fields (s : State) :
    (printNotice s).bi.laSel = s.bi.laSel ∧ (printNotice s).bi.bagFit = s.bi.bagFit ∧
    (printNotice s).bi.inReset = s.bi.inReset ∧ (printNotice s).bi.reqProducer = s.bi.reqProducer ∧
    (printNotice s).bi.evtConsumer = s.bi.evtConsumer ∧ (printNotice s).bi.journalExport = s.bi.journalExport ∧
    (printNotice s).bi.noticeMask = s.bi.noticeMask ∧ (printNotice s).bi.receiptFill = s.bi.receiptFill ∧
    (printNotice s).bi.pageTable = s.bi.pageTable ∧ (printNotice s).bi.refusedCount = s.bi.refusedCount ∧
    (printNotice s).bi.lastRefused = s.bi.lastRefused ∧ (printNotice s).bi.setupSpan = s.bi.setupSpan ∧
    (printNotice s).bi.opened = s.bi.opened ∧ (printNotice s).bi.hostStall = s.bi.hostStall ∧
    (printNotice s).bi.burstGranted = s.bi.burstGranted ∧ (printNotice s).bi.burstRefused = s.bi.burstRefused ∧
    (printNotice s).bi.waitCount = s.bi.waitCount ∧ (printNotice s).bi.engine = s.bi.engine ∧
    (printNotice s).bi.readData = s.bi.readData := by
  unfold printNotice
  (repeat' split) <;> simp

@[simp] theorem takePrintNotices_keeps (n : Nat) (s : State) :
    (takePrintNotices n s).re = s.re ∧ (takePrintNotices n s).nu = s.nu ∧ (takePrintNotices n s).pwu = s.pwu ∧
    (takePrintNotices n s).bwu = s.bwu ∧ (takePrintNotices n s).su = s.su ∧ (takePrintNotices n s).ctu = s.ctu ∧
    (takePrintNotices n s).tu = s.tu ∧ (takePrintNotices n s).ju = s.ju ∧ (takePrintNotices n s).mem = s.mem ∧
    (takePrintNotices n s).free = s.free ∧ (takePrintNotices n s).pending = s.pending := by
  induction n generalizing s with
  | zero => simp [takePrintNotices]
  | succ n ih =>
    simp only [takePrintNotices]
    split
    · simpa using ih (takeSent (s.setPu { s.pu with notices := s.pu.notices - 1 }))
    · simp

@[simp] theorem takePrintNotices_fields (n : Nat) (s : State) :
    (takePrintNotices n s).bi.laSel = s.bi.laSel ∧ (takePrintNotices n s).bi.bagFit = s.bi.bagFit ∧
    (takePrintNotices n s).bi.inReset = s.bi.inReset ∧ (takePrintNotices n s).bi.reqProducer = s.bi.reqProducer ∧
    (takePrintNotices n s).bi.evtConsumer = s.bi.evtConsumer ∧
    (takePrintNotices n s).bi.journalExport = s.bi.journalExport ∧
    (takePrintNotices n s).bi.noticeMask = s.bi.noticeMask ∧
    (takePrintNotices n s).bi.receiptFill = s.bi.receiptFill ∧
    (takePrintNotices n s).bi.pageTable = s.bi.pageTable ∧
    (takePrintNotices n s).bi.refusedCount = s.bi.refusedCount ∧
    (takePrintNotices n s).bi.lastRefused = s.bi.lastRefused ∧
    (takePrintNotices n s).bi.setupSpan = s.bi.setupSpan ∧ (takePrintNotices n s).bi.opened = s.bi.opened ∧
    (takePrintNotices n s).bi.hostStall = s.bi.hostStall ∧
    (takePrintNotices n s).bi.burstGranted = s.bi.burstGranted ∧
    (takePrintNotices n s).bi.burstRefused = s.bi.burstRefused ∧
    (takePrintNotices n s).bi.waitCount = s.bi.waitCount ∧ (takePrintNotices n s).bi.engine = s.bi.engine ∧
    (takePrintNotices n s).bi.readData = s.bi.readData := by
  induction n generalizing s with
  | zero => simp [takePrintNotices]
  | succ n ih =>
    simp only [takePrintNotices]
    split
    · simpa using ih (takeSent (s.setPu { s.pu with notices := s.pu.notices - 1 }))
    · simp

@[simp] theorem printNotices_keeps (s : State) :
    (printNotices s).re = s.re ∧ (printNotices s).nu = s.nu ∧ (printNotices s).pwu = s.pwu ∧
    (printNotices s).bwu = s.bwu ∧ (printNotices s).su = s.su ∧ (printNotices s).ctu = s.ctu ∧
    (printNotices s).tu = s.tu ∧ (printNotices s).ju = s.ju ∧ (printNotices s).mem = s.mem ∧
    (printNotices s).free = s.free ∧ (printNotices s).pending = s.pending := by
  unfold printNotices
  simp

@[simp] theorem printNotices_fields (s : State) :
    (printNotices s).bi.laSel = s.bi.laSel ∧ (printNotices s).bi.bagFit = s.bi.bagFit ∧
    (printNotices s).bi.inReset = s.bi.inReset ∧ (printNotices s).bi.reqProducer = s.bi.reqProducer ∧
    (printNotices s).bi.evtConsumer = s.bi.evtConsumer ∧ (printNotices s).bi.journalExport = s.bi.journalExport ∧
    (printNotices s).bi.noticeMask = s.bi.noticeMask ∧ (printNotices s).bi.receiptFill = s.bi.receiptFill ∧
    (printNotices s).bi.pageTable = s.bi.pageTable ∧ (printNotices s).bi.refusedCount = s.bi.refusedCount ∧
    (printNotices s).bi.lastRefused = s.bi.lastRefused ∧ (printNotices s).bi.setupSpan = s.bi.setupSpan ∧
    (printNotices s).bi.opened = s.bi.opened ∧ (printNotices s).bi.hostStall = s.bi.hostStall ∧
    (printNotices s).bi.burstGranted = s.bi.burstGranted ∧ (printNotices s).bi.burstRefused = s.bi.burstRefused ∧
    (printNotices s).bi.waitCount = s.bi.waitCount ∧ (printNotices s).bi.engine = s.bi.engine ∧
    (printNotices s).bi.readData = s.bi.readData := by
  unfold printNotices
  simp

theorem printNotices_none (s : State) (h : s.pu.notices = 0 ∨ unitTakes s .pu .sent = false) : printNotices s = s := by
  unfold printNotices
  cases hn : s.pu.notices with
  | zero => rfl
  | succ n => simp [takePrintNotices, h.resolve_left (by simp [hn])]

@[simp] theorem unitNotices_keeps (s : State) (b : BlockId) :
    (unitNotices s b).re = s.re ∧ (unitNotices s b).nu = s.nu ∧ (unitNotices s b).pwu = s.pwu ∧
    (unitNotices s b).bwu = s.bwu ∧ (unitNotices s b).su = s.su ∧ (unitNotices s b).tu = s.tu ∧
    (unitNotices s b).ju = s.ju ∧ (unitNotices s b).mem = s.mem ∧ (unitNotices s b).free = s.free ∧
    (unitNotices s b).pending = s.pending := by
  unfold unitNotices
  (repeat' split) <;> simp

@[simp] theorem unitNotices_fields (s : State) (b : BlockId) :
    (unitNotices s b).bi.laSel = s.bi.laSel ∧ (unitNotices s b).bi.bagFit = s.bi.bagFit ∧
    (unitNotices s b).bi.inReset = s.bi.inReset ∧ (unitNotices s b).bi.reqProducer = s.bi.reqProducer ∧
    (unitNotices s b).bi.evtConsumer = s.bi.evtConsumer ∧ (unitNotices s b).bi.journalExport = s.bi.journalExport ∧
    (unitNotices s b).bi.noticeMask = s.bi.noticeMask ∧ (unitNotices s b).bi.receiptFill = s.bi.receiptFill ∧
    (unitNotices s b).bi.pageTable = s.bi.pageTable ∧ (unitNotices s b).bi.refusedCount = s.bi.refusedCount ∧
    (unitNotices s b).bi.lastRefused = s.bi.lastRefused ∧ (unitNotices s b).bi.setupSpan = s.bi.setupSpan ∧
    (unitNotices s b).bi.opened = s.bi.opened ∧ (unitNotices s b).bi.hostStall = s.bi.hostStall ∧
    (unitNotices s b).bi.burstGranted = s.bi.burstGranted ∧ (unitNotices s b).bi.burstRefused = s.bi.burstRefused ∧
    (unitNotices s b).bi.waitCount = s.bi.waitCount ∧ (unitNotices s b).bi.engine = s.bi.engine ∧
    (unitNotices s b).bi.readData = s.bi.readData := by
  unfold unitNotices
  (repeat' split) <;> simp

@[simp] theorem makeFrame_keeps (s : State) (f : NextFrame) :
    (makeFrame s f).re = s.re ∧ (makeFrame s f).nu = s.nu ∧ (makeFrame s f).pwu = s.pwu ∧
    (makeFrame s f).bwu = s.bwu ∧ (makeFrame s f).su = s.su ∧ (makeFrame s f).ctu = s.ctu ∧
    (makeFrame s f).tu = s.tu ∧ (makeFrame s f).ju = s.ju ∧ (makeFrame s f).mem = s.mem ∧
    (makeFrame s f).free = s.free ∧ (makeFrame s f).pending = s.pending := by
  unfold makeFrame
  (repeat' split) <;> simp

@[simp] theorem makeFrame_fields (s : State) (f : NextFrame) :
    (makeFrame s f).bi.laSel = s.bi.laSel ∧ (makeFrame s f).bi.bagFit = s.bi.bagFit ∧
    (makeFrame s f).bi.inReset = s.bi.inReset ∧ (makeFrame s f).bi.reqProducer = s.bi.reqProducer ∧
    (makeFrame s f).bi.evtConsumer = s.bi.evtConsumer ∧ (makeFrame s f).bi.journalExport = s.bi.journalExport ∧
    (makeFrame s f).bi.noticeMask = s.bi.noticeMask ∧ (makeFrame s f).bi.receiptFill = s.bi.receiptFill ∧
    (makeFrame s f).bi.pageTable = s.bi.pageTable ∧ (makeFrame s f).bi.refusedCount = s.bi.refusedCount ∧
    (makeFrame s f).bi.lastRefused = s.bi.lastRefused ∧ (makeFrame s f).bi.setupSpan = s.bi.setupSpan ∧
    (makeFrame s f).bi.opened = s.bi.opened ∧ (makeFrame s f).bi.hostStall = s.bi.hostStall ∧
    (makeFrame s f).bi.burstGranted = s.bi.burstGranted ∧ (makeFrame s f).bi.burstRefused = s.bi.burstRefused ∧
    (makeFrame s f).bi.waitCount = s.bi.waitCount ∧ (makeFrame s f).bi.readData = s.bi.readData := by
  unfold makeFrame
  (repeat' split) <;> simp

@[simp] theorem printFrameOffer_keeps (s : State) :
    (printFrameOffer s).re = s.re ∧ (printFrameOffer s).nu = s.nu ∧ (printFrameOffer s).pwu = s.pwu ∧
    (printFrameOffer s).bwu = s.bwu ∧ (printFrameOffer s).su = s.su ∧ (printFrameOffer s).ctu = s.ctu ∧
    (printFrameOffer s).tu = s.tu ∧ (printFrameOffer s).ju = s.ju ∧ (printFrameOffer s).mem = s.mem ∧
    (printFrameOffer s).free = s.free ∧ (printFrameOffer s).pending = s.pending := by
  unfold printFrameOffer
  (repeat' split) <;> simp

@[simp] theorem printFrameOffer_fields (s : State) :
    (printFrameOffer s).bi.laSel = s.bi.laSel ∧ (printFrameOffer s).bi.bagFit = s.bi.bagFit ∧
    (printFrameOffer s).bi.inReset = s.bi.inReset ∧ (printFrameOffer s).bi.reqProducer = s.bi.reqProducer ∧
    (printFrameOffer s).bi.evtConsumer = s.bi.evtConsumer ∧
    (printFrameOffer s).bi.journalExport = s.bi.journalExport ∧ (printFrameOffer s).bi.noticeMask = s.bi.noticeMask ∧
    (printFrameOffer s).bi.receiptFill = s.bi.receiptFill ∧ (printFrameOffer s).bi.pageTable = s.bi.pageTable ∧
    (printFrameOffer s).bi.refusedCount = s.bi.refusedCount ∧ (printFrameOffer s).bi.lastRefused = s.bi.lastRefused ∧
    (printFrameOffer s).bi.setupSpan = s.bi.setupSpan ∧ (printFrameOffer s).bi.opened = s.bi.opened ∧
    (printFrameOffer s).bi.hostStall = s.bi.hostStall ∧ (printFrameOffer s).bi.burstGranted = s.bi.burstGranted ∧
    (printFrameOffer s).bi.burstRefused = s.bi.burstRefused ∧ (printFrameOffer s).bi.waitCount = s.bi.waitCount ∧
    (printFrameOffer s).bi.readData = s.bi.readData := by
  unfold printFrameOffer
  (repeat' split) <;> simp

@[simp] theorem arbitrate_keeps (s : State) :
    (arbitrate s).bi = s.bi ∧ (arbitrate s).re = s.re ∧ (arbitrate s).nu = s.nu ∧ (arbitrate s).lu = s.lu ∧
    (arbitrate s).pwu = s.pwu ∧ (arbitrate s).bwu = s.bwu ∧ (arbitrate s).su = s.su ∧ (arbitrate s).ctu = s.ctu ∧
    (arbitrate s).tu = s.tu ∧ (arbitrate s).ju = s.ju ∧ (arbitrate s).mem = s.mem ∧ (arbitrate s).free = s.free ∧
    (arbitrate s).pending = s.pending := by
  unfold arbitrate
  (repeat' split) <;> simp

@[simp] theorem composeBlock_keeps (s : State) :
    (composeBlock s).bi = s.bi ∧ (composeBlock s).re = s.re ∧ (composeBlock s).nu = s.nu ∧
    (composeBlock s).lu = s.lu ∧ (composeBlock s).pwu = s.pwu ∧ (composeBlock s).bwu = s.bwu ∧
    (composeBlock s).su = s.su ∧ (composeBlock s).ctu = s.ctu ∧ (composeBlock s).tu = s.tu ∧
    (composeBlock s).ju = s.ju ∧ (composeBlock s).mem = s.mem ∧ (composeBlock s).free = s.free ∧
    (composeBlock s).pending = s.pending := by
  unfold composeBlock
  (repeat' split) <;> simp

@[simp] theorem endReceipt_keeps (s : State) :
    (endReceipt s).bi = s.bi ∧ (endReceipt s).re = s.re ∧ (endReceipt s).nu = s.nu ∧ (endReceipt s).lu = s.lu ∧
    (endReceipt s).pwu = s.pwu ∧ (endReceipt s).bwu = s.bwu ∧ (endReceipt s).ctu = s.ctu ∧ (endReceipt s).tu = s.tu ∧
    (endReceipt s).ju = s.ju ∧ (endReceipt s).mem = s.mem ∧ (endReceipt s).free = s.free ∧
    (endReceipt s).pending = s.pending := by
  unfold endReceipt
  simp

@[simp] theorem endReceipt_fields (s : State) :
    (endReceipt s).su.header = s.su.header ∧ (endReceipt s).su.lines = s.su.lines ∧
    (endReceipt s).su.tenders = s.su.tenders ∧ (endReceipt s).su.nextNumber = s.su.nextNumber ∧
    (endReceipt s).su.event = s.su.event ∧ (endReceipt s).su.claim = s.su.claim ∧
    (endReceipt s).su.finished = s.su.finished := by
  unfold endReceipt
  simp

@[simp] theorem endJob_keeps (s : State) (j : Nat) :
    (endJob s j).re = s.re ∧ (endJob s j).lu = s.lu ∧ (endJob s j).pwu = s.pwu ∧ (endJob s j).bwu = s.bwu ∧
    (endJob s j).ctu = s.ctu ∧ (endJob s j).tu = s.tu ∧ (endJob s j).ju = s.ju ∧ (endJob s j).mem = s.mem ∧
    (endJob s j).free = s.free ∧ (endJob s j).pending = s.pending := by
  unfold endJob
  dsimp only
  simp

@[simp] theorem endJob_fields (s : State) (j : Nat) :
    (endJob s j).bi.laSel = s.bi.laSel ∧ (endJob s j).bi.bagFit = s.bi.bagFit ∧
    (endJob s j).bi.inReset = s.bi.inReset ∧ (endJob s j).bi.reqProducer = s.bi.reqProducer ∧
    (endJob s j).bi.evtConsumer = s.bi.evtConsumer ∧ (endJob s j).bi.journalExport = s.bi.journalExport ∧
    (endJob s j).bi.noticeMask = s.bi.noticeMask ∧ (endJob s j).bi.receiptFill = s.bi.receiptFill ∧
    (endJob s j).bi.pageTable = s.bi.pageTable ∧ (endJob s j).bi.refusedCount = s.bi.refusedCount ∧
    (endJob s j).bi.lastRefused = s.bi.lastRefused ∧ (endJob s j).bi.setupSpan = s.bi.setupSpan ∧
    (endJob s j).bi.opened = s.bi.opened ∧ (endJob s j).bi.hostStall = s.bi.hostStall ∧
    (endJob s j).bi.burstGranted = s.bi.burstGranted ∧ (endJob s j).bi.burstRefused = s.bi.burstRefused ∧
    (endJob s j).bi.waitCount = s.bi.waitCount ∧ (endJob s j).bi.engine = s.bi.engine ∧
    (endJob s j).bi.readData = s.bi.readData ∧ (endJob s j).nu.producer = s.nu.producer ∧
    (endJob s j).nu.reserved = s.nu.reserved ∧ (endJob s j).nu.attn = s.nu.attn ∧
    (endJob s j).su.header = s.su.header ∧ (endJob s j).su.lines = s.su.lines ∧
    (endJob s j).su.tenders = s.su.tenders ∧ (endJob s j).su.nextNumber = s.su.nextNumber ∧
    (endJob s j).su.event = s.su.event ∧ (endJob s j).su.claim = s.su.claim ∧
    (endJob s j).su.finished = s.su.finished := by
  unfold endJob
  dsimp only
  simp

@[simp] theorem acknowledge_keeps (s : State) (kind : FlightKind) :
    (acknowledge s kind).re = s.re ∧ (acknowledge s kind).lu = s.lu ∧ (acknowledge s kind).pwu = s.pwu ∧
    (acknowledge s kind).bwu = s.bwu ∧ (acknowledge s kind).ctu = s.ctu ∧ (acknowledge s kind).tu = s.tu ∧
    (acknowledge s kind).ju = s.ju ∧ (acknowledge s kind).mem = s.mem ∧ (acknowledge s kind).free = s.free ∧
    (acknowledge s kind).pending = s.pending := by
  unfold acknowledge
  (repeat' split) <;> simp

@[simp] theorem acknowledge_fields (s : State) (kind : FlightKind) :
    (acknowledge s kind).bi.laSel = s.bi.laSel ∧ (acknowledge s kind).bi.bagFit = s.bi.bagFit ∧
    (acknowledge s kind).bi.inReset = s.bi.inReset ∧ (acknowledge s kind).bi.reqProducer = s.bi.reqProducer ∧
    (acknowledge s kind).bi.evtConsumer = s.bi.evtConsumer ∧
    (acknowledge s kind).bi.journalExport = s.bi.journalExport ∧
    (acknowledge s kind).bi.noticeMask = s.bi.noticeMask ∧ (acknowledge s kind).bi.receiptFill = s.bi.receiptFill ∧
    (acknowledge s kind).bi.pageTable = s.bi.pageTable ∧ (acknowledge s kind).bi.refusedCount = s.bi.refusedCount ∧
    (acknowledge s kind).bi.lastRefused = s.bi.lastRefused ∧ (acknowledge s kind).bi.setupSpan = s.bi.setupSpan ∧
    (acknowledge s kind).bi.opened = s.bi.opened ∧ (acknowledge s kind).bi.hostStall = s.bi.hostStall ∧
    (acknowledge s kind).bi.burstGranted = s.bi.burstGranted ∧
    (acknowledge s kind).bi.burstRefused = s.bi.burstRefused ∧ (acknowledge s kind).bi.waitCount = s.bi.waitCount ∧
    (acknowledge s kind).bi.engine = s.bi.engine ∧ (acknowledge s kind).bi.readData = s.bi.readData ∧
    (acknowledge s kind).nu.producer = s.nu.producer ∧ (acknowledge s kind).nu.reserved = s.nu.reserved ∧
    (acknowledge s kind).nu.attn = s.nu.attn ∧ (acknowledge s kind).su.header = s.su.header ∧
    (acknowledge s kind).su.lines = s.su.lines ∧ (acknowledge s kind).su.tenders = s.su.tenders ∧
    (acknowledge s kind).su.nextNumber = s.su.nextNumber ∧ (acknowledge s kind).su.event = s.su.event ∧
    (acknowledge s kind).su.claim = s.su.claim ∧ (acknowledge s kind).su.finished = s.su.finished := by
  unfold acknowledge
  (repeat' split) <;> simp

@[simp] theorem takeLineDone_keeps (s : State) (seq : Half) :
    (takeLineDone s seq).re = s.re ∧ (takeLineDone s seq).lu = s.lu ∧ (takeLineDone s seq).pwu = s.pwu ∧
    (takeLineDone s seq).bwu = s.bwu ∧ (takeLineDone s seq).ctu = s.ctu ∧ (takeLineDone s seq).tu = s.tu ∧
    (takeLineDone s seq).ju = s.ju ∧ (takeLineDone s seq).mem = s.mem ∧ (takeLineDone s seq).free = s.free ∧
    (takeLineDone s seq).pending = s.pending := by
  unfold takeLineDone
  (repeat' split) <;> simp

@[simp] theorem takeLineDone_fields (s : State) (seq : Half) :
    (takeLineDone s seq).bi.laSel = s.bi.laSel ∧ (takeLineDone s seq).bi.bagFit = s.bi.bagFit ∧
    (takeLineDone s seq).bi.inReset = s.bi.inReset ∧ (takeLineDone s seq).bi.reqProducer = s.bi.reqProducer ∧
    (takeLineDone s seq).bi.evtConsumer = s.bi.evtConsumer ∧
    (takeLineDone s seq).bi.journalExport = s.bi.journalExport ∧
    (takeLineDone s seq).bi.noticeMask = s.bi.noticeMask ∧ (takeLineDone s seq).bi.receiptFill = s.bi.receiptFill ∧
    (takeLineDone s seq).bi.pageTable = s.bi.pageTable ∧ (takeLineDone s seq).bi.refusedCount = s.bi.refusedCount ∧
    (takeLineDone s seq).bi.lastRefused = s.bi.lastRefused ∧ (takeLineDone s seq).bi.setupSpan = s.bi.setupSpan ∧
    (takeLineDone s seq).bi.opened = s.bi.opened ∧ (takeLineDone s seq).bi.hostStall = s.bi.hostStall ∧
    (takeLineDone s seq).bi.burstGranted = s.bi.burstGranted ∧
    (takeLineDone s seq).bi.burstRefused = s.bi.burstRefused ∧ (takeLineDone s seq).bi.waitCount = s.bi.waitCount ∧
    (takeLineDone s seq).bi.engine = s.bi.engine ∧ (takeLineDone s seq).bi.readData = s.bi.readData ∧
    (takeLineDone s seq).nu.producer = s.nu.producer ∧ (takeLineDone s seq).nu.reserved = s.nu.reserved ∧
    (takeLineDone s seq).nu.attn = s.nu.attn ∧ (takeLineDone s seq).su.header = s.su.header ∧
    (takeLineDone s seq).su.lines = s.su.lines ∧ (takeLineDone s seq).su.tenders = s.su.tenders ∧
    (takeLineDone s seq).su.nextNumber = s.su.nextNumber ∧ (takeLineDone s seq).su.event = s.su.event ∧
    (takeLineDone s seq).su.claim = s.su.claim ∧ (takeLineDone s seq).su.finished = s.su.finished := by
  unfold takeLineDone
  (repeat' split) <;> simp

@[simp] theorem lineDone_keeps (s : State) (p : List Byte) :
    (lineDone s p).re = s.re ∧ (lineDone s p).pwu = s.pwu ∧ (lineDone s p).bwu = s.bwu ∧ (lineDone s p).ctu = s.ctu ∧
    (lineDone s p).tu = s.tu ∧ (lineDone s p).ju = s.ju ∧ (lineDone s p).mem = s.mem ∧ (lineDone s p).free = s.free ∧
    (lineDone s p).pending = s.pending := by
  unfold lineDone
  simp

@[simp] theorem printSuspend_keeps (s : State) :
    (printSuspend s).re = s.re ∧ (printSuspend s).lu = s.lu ∧ (printSuspend s).pwu = s.pwu ∧
    (printSuspend s).bwu = s.bwu ∧ (printSuspend s).ctu = s.ctu ∧ (printSuspend s).tu = s.tu ∧
    (printSuspend s).ju = s.ju ∧ (printSuspend s).mem = s.mem ∧ (printSuspend s).free = s.free ∧
    (printSuspend s).pending = s.pending := by
  unfold printSuspend
  simp

@[simp] theorem printSuspend_fields (s : State) :
    (printSuspend s).bi.laSel = s.bi.laSel ∧ (printSuspend s).bi.bagFit = s.bi.bagFit ∧
    (printSuspend s).bi.inReset = s.bi.inReset ∧ (printSuspend s).bi.reqProducer = s.bi.reqProducer ∧
    (printSuspend s).bi.evtConsumer = s.bi.evtConsumer ∧ (printSuspend s).bi.journalExport = s.bi.journalExport ∧
    (printSuspend s).bi.noticeMask = s.bi.noticeMask ∧ (printSuspend s).bi.receiptFill = s.bi.receiptFill ∧
    (printSuspend s).bi.pageTable = s.bi.pageTable ∧ (printSuspend s).bi.refusedCount = s.bi.refusedCount ∧
    (printSuspend s).bi.lastRefused = s.bi.lastRefused ∧ (printSuspend s).bi.setupSpan = s.bi.setupSpan ∧
    (printSuspend s).bi.opened = s.bi.opened ∧ (printSuspend s).bi.hostStall = s.bi.hostStall ∧
    (printSuspend s).bi.burstGranted = s.bi.burstGranted ∧ (printSuspend s).bi.burstRefused = s.bi.burstRefused ∧
    (printSuspend s).bi.waitCount = s.bi.waitCount ∧ (printSuspend s).bi.engine = s.bi.engine ∧
    (printSuspend s).bi.readData = s.bi.readData ∧ (printSuspend s).nu.producer = s.nu.producer ∧
    (printSuspend s).nu.reserved = s.nu.reserved ∧ (printSuspend s).nu.attn = s.nu.attn ∧
    (printSuspend s).su.header = s.su.header ∧ (printSuspend s).su.lines = s.su.lines ∧
    (printSuspend s).su.tenders = s.su.tenders ∧ (printSuspend s).su.nextNumber = s.su.nextNumber ∧
    (printSuspend s).su.event = s.su.event ∧ (printSuspend s).su.claim = s.su.claim ∧
    (printSuspend s).su.finished = s.su.finished := by
  unfold printSuspend
  simp

@[simp] theorem printResume_keeps (s : State) :
    (printResume s).re = s.re ∧ (printResume s).lu = s.lu ∧ (printResume s).pwu = s.pwu ∧
    (printResume s).bwu = s.bwu ∧ (printResume s).ctu = s.ctu ∧ (printResume s).tu = s.tu ∧
    (printResume s).ju = s.ju ∧ (printResume s).mem = s.mem ∧ (printResume s).free = s.free ∧
    (printResume s).pending = s.pending := by
  unfold printResume
  dsimp only
  (repeat' split) <;> simp

@[simp] theorem printResume_fields (s : State) :
    (printResume s).bi.laSel = s.bi.laSel ∧ (printResume s).bi.bagFit = s.bi.bagFit ∧
    (printResume s).bi.inReset = s.bi.inReset ∧ (printResume s).bi.reqProducer = s.bi.reqProducer ∧
    (printResume s).bi.evtConsumer = s.bi.evtConsumer ∧ (printResume s).bi.journalExport = s.bi.journalExport ∧
    (printResume s).bi.noticeMask = s.bi.noticeMask ∧ (printResume s).bi.receiptFill = s.bi.receiptFill ∧
    (printResume s).bi.pageTable = s.bi.pageTable ∧ (printResume s).bi.refusedCount = s.bi.refusedCount ∧
    (printResume s).bi.lastRefused = s.bi.lastRefused ∧ (printResume s).bi.setupSpan = s.bi.setupSpan ∧
    (printResume s).bi.opened = s.bi.opened ∧ (printResume s).bi.hostStall = s.bi.hostStall ∧
    (printResume s).bi.burstGranted = s.bi.burstGranted ∧ (printResume s).bi.burstRefused = s.bi.burstRefused ∧
    (printResume s).bi.waitCount = s.bi.waitCount ∧ (printResume s).bi.engine = s.bi.engine ∧
    (printResume s).bi.readData = s.bi.readData ∧ (printResume s).nu.producer = s.nu.producer ∧
    (printResume s).nu.reserved = s.nu.reserved ∧ (printResume s).nu.attn = s.nu.attn ∧
    (printResume s).su.header = s.su.header ∧ (printResume s).su.lines = s.su.lines ∧
    (printResume s).su.tenders = s.su.tenders ∧ (printResume s).su.nextNumber = s.su.nextNumber ∧
    (printResume s).su.event = s.su.event ∧ (printResume s).su.claim = s.su.claim ∧
    (printResume s).su.finished = s.su.finished := by
  unfold printResume
  dsimp only
  (repeat' split) <;> simp

@[simp] theorem printerStatus_keeps (s : State) (p : List Byte) :
    (printerStatus s p).re = s.re ∧ (printerStatus s p).pwu = s.pwu ∧ (printerStatus s p).bwu = s.bwu ∧
    (printerStatus s p).ctu = s.ctu ∧ (printerStatus s p).tu = s.tu ∧ (printerStatus s p).ju = s.ju ∧
    (printerStatus s p).mem = s.mem ∧ (printerStatus s p).free = s.free ∧ (printerStatus s p).pending = s.pending := by
  unfold printerStatus
  dsimp only
  (repeat' split) <;> simp

@[simp] theorem printerLinkChange_keeps (s : State) (old new : LinkState) :
    (printerLinkChange s old new).re = s.re ∧ (printerLinkChange s old new).pwu = s.pwu ∧
    (printerLinkChange s old new).bwu = s.bwu ∧ (printerLinkChange s old new).ctu = s.ctu ∧
    (printerLinkChange s old new).tu = s.tu ∧ (printerLinkChange s old new).ju = s.ju ∧
    (printerLinkChange s old new).mem = s.mem ∧ (printerLinkChange s old new).free = s.free ∧
    (printerLinkChange s old new).pending = s.pending := by
  unfold printerLinkChange
  dsimp only
  (repeat' split) <;> simp

@[simp] theorem receiptBegin_keeps (s : State) :
    (receiptBegin s).re = s.re ∧ (receiptBegin s).nu = s.nu ∧ (receiptBegin s).lu = s.lu ∧
    (receiptBegin s).pwu = s.pwu ∧ (receiptBegin s).bwu = s.bwu ∧ (receiptBegin s).su = s.su ∧
    (receiptBegin s).ctu = s.ctu ∧ (receiptBegin s).tu = s.tu ∧ (receiptBegin s).ju = s.ju ∧
    (receiptBegin s).mem = s.mem ∧ (receiptBegin s).free = s.free ∧ (receiptBegin s).pending = s.pending := by
  unfold receiptBegin
  simp

@[simp] theorem receiptCloseMark_keeps (s : State) (mark : Half) (kind : BlockKind) :
    (receiptCloseMark s mark kind).re = s.re ∧ (receiptCloseMark s mark kind).nu = s.nu ∧
    (receiptCloseMark s mark kind).lu = s.lu ∧ (receiptCloseMark s mark kind).pwu = s.pwu ∧
    (receiptCloseMark s mark kind).bwu = s.bwu ∧ (receiptCloseMark s mark kind).su = s.su ∧
    (receiptCloseMark s mark kind).ctu = s.ctu ∧ (receiptCloseMark s mark kind).tu = s.tu ∧
    (receiptCloseMark s mark kind).ju = s.ju ∧ (receiptCloseMark s mark kind).mem = s.mem ∧
    (receiptCloseMark s mark kind).free = s.free ∧ (receiptCloseMark s mark kind).pending = s.pending := by
  unfold receiptCloseMark
  simp

@[simp] theorem saleIdleTold_keeps (s : State) :
    (saleIdleTold s).re = s.re ∧ (saleIdleTold s).nu = s.nu ∧ (saleIdleTold s).lu = s.lu ∧
    (saleIdleTold s).pwu = s.pwu ∧ (saleIdleTold s).bwu = s.bwu ∧ (saleIdleTold s).su = s.su ∧
    (saleIdleTold s).ctu = s.ctu ∧ (saleIdleTold s).tu = s.tu ∧ (saleIdleTold s).ju = s.ju ∧
    (saleIdleTold s).mem = s.mem ∧ (saleIdleTold s).free = s.free ∧ (saleIdleTold s).pending = s.pending := by
  unfold saleIdleTold
  simp

@[simp] theorem jobSubmitted_keeps (s : State) (j : Nat) :
    (jobSubmitted s j).lu = s.lu ∧ (jobSubmitted s j).pwu = s.pwu ∧ (jobSubmitted s j).bwu = s.bwu ∧
    (jobSubmitted s j).ctu = s.ctu ∧ (jobSubmitted s j).tu = s.tu ∧ (jobSubmitted s j).ju = s.ju ∧
    (jobSubmitted s j).mem = s.mem ∧ (jobSubmitted s j).free = s.free ∧ (jobSubmitted s j).pending = s.pending := by
  unfold jobSubmitted
  dsimp only
  simp

@[simp] theorem printSubmit_keeps (s : State) :
    (printSubmit s).lu = s.lu ∧ (printSubmit s).pwu = s.pwu ∧ (printSubmit s).bwu = s.bwu ∧
    (printSubmit s).ctu = s.ctu ∧ (printSubmit s).tu = s.tu ∧ (printSubmit s).ju = s.ju ∧
    (printSubmit s).mem = s.mem ∧ (printSubmit s).free = s.free ∧ (printSubmit s).pending = s.pending := by
  unfold printSubmit
  dsimp only
  (repeat' split) <;> simp

@[simp] theorem receiptAbandoned_keeps (s : State) :
    (receiptAbandoned s).lu = s.lu ∧ (receiptAbandoned s).pwu = s.pwu ∧ (receiptAbandoned s).bwu = s.bwu ∧
    (receiptAbandoned s).ctu = s.ctu ∧ (receiptAbandoned s).tu = s.tu ∧ (receiptAbandoned s).ju = s.ju ∧
    (receiptAbandoned s).mem = s.mem ∧ (receiptAbandoned s).free = s.free ∧ (receiptAbandoned s).pending = s.pending := by
  unfold receiptAbandoned
  dsimp only
  simp

@[simp] theorem receiptAbandon_keeps (s : State) :
    (receiptAbandon s).lu = s.lu ∧ (receiptAbandon s).pwu = s.pwu ∧ (receiptAbandon s).bwu = s.bwu ∧
    (receiptAbandon s).ctu = s.ctu ∧ (receiptAbandon s).tu = s.tu ∧ (receiptAbandon s).ju = s.ju ∧
    (receiptAbandon s).mem = s.mem ∧ (receiptAbandon s).free = s.free ∧ (receiptAbandon s).pending = s.pending := by
  unfold receiptAbandon
  (repeat' split) <;> simp

@[simp] theorem enterClosing_keeps (s : State) (outcome : SaleOutcome) (kind : JournalKind) (block : BlockKind) :
    (enterClosing s outcome kind block).lu = s.lu ∧ (enterClosing s outcome kind block).pwu = s.pwu ∧
    (enterClosing s outcome kind block).bwu = s.bwu ∧ (enterClosing s outcome kind block).ctu = s.ctu ∧
    (enterClosing s outcome kind block).tu = s.tu ∧ (enterClosing s outcome kind block).pu = s.pu ∧
    (enterClosing s outcome kind block).mem = s.mem ∧ (enterClosing s outcome kind block).free = s.free ∧
    (enterClosing s outcome kind block).pending = s.pending := by
  unfold enterClosing
  dsimp only
  simp

@[simp] theorem saleClose_keeps (s : State) :
    (saleClose s).lu = s.lu ∧ (saleClose s).pwu = s.pwu ∧ (saleClose s).bwu = s.bwu ∧ (saleClose s).ctu = s.ctu ∧
    (saleClose s).tu = s.tu ∧ (saleClose s).pu = s.pu ∧ (saleClose s).mem = s.mem ∧ (saleClose s).free = s.free ∧
    (saleClose s).pending = s.pending := by
  unfold saleClose
  (repeat' split) <;> simp

@[simp] theorem saleAbort_keeps (s : State) :
    (saleAbort s).lu = s.lu ∧ (saleAbort s).pwu = s.pwu ∧ (saleAbort s).bwu = s.bwu ∧ (saleAbort s).ctu = s.ctu ∧
    (saleAbort s).pu = s.pu ∧ (saleAbort s).mem = s.mem ∧ (saleAbort s).free = s.free ∧
    (saleAbort s).pending = s.pending := by
  unfold saleAbort
  (repeat' split) <;> simp

@[simp] theorem receiptEnded_keeps (s : State) (incomplete ofRequest : Bool) :
    (receiptEnded s incomplete ofRequest).re = s.re ∧ (receiptEnded s incomplete ofRequest).nu = s.nu ∧
    (receiptEnded s incomplete ofRequest).lu = s.lu ∧ (receiptEnded s incomplete ofRequest).pwu = s.pwu ∧
    (receiptEnded s incomplete ofRequest).bwu = s.bwu ∧ (receiptEnded s incomplete ofRequest).ctu = s.ctu ∧
    (receiptEnded s incomplete ofRequest).tu = s.tu ∧ (receiptEnded s incomplete ofRequest).pu = s.pu ∧
    (receiptEnded s incomplete ofRequest).mem = s.mem ∧ (receiptEnded s incomplete ofRequest).free = s.free ∧
    (receiptEnded s incomplete ofRequest).pending = s.pending := by
  unfold receiptEnded
  dsimp only
  (repeat' split) <;> simp

/-! ### The SU's turn, and the BWU's ask of it (R24, R91, R108) -/

theorem saleBetween_iff (s : State) :
    saleBetween s = true ↔ unitBusy s .su = false ∧ s.su.event = none ∧ s.su.claim = none := by
  unfold saleBetween
  rw [Bool.and_eq_true, Bool.and_eq_true, Bool.not_eq_true', Option.isNone_iff_eq_none, Option.isNone_iff_eq_none, and_assoc]

theorem saleAnswers_iff (s : State) :
    saleAnswers s = true ↔
      unitBusy s .su = false ∧ s.su.event = none ∧ s.su.claim = none ∧ ∀ x ∈ s.su.inbox, x = .request := by
  unfold saleAnswers
  rw [Bool.and_eq_true, saleBetween_iff, List.all_eq_true, and_assoc, and_assoc]
  exact and_congr_right fun _ => and_congr_right fun _ => and_congr_right fun _ =>
    forall₂_congr fun x _ => decide_eq_true_iff

theorem saleReady_iff (s : State) :
    saleReady s = true ↔ unitBusy s .su = false ∧ s.su.event = none ∧ s.su.claim = none ∧ s.su.inbox = [] := by
  unfold saleReady
  rw [Bool.and_eq_true, saleBetween_iff, List.isEmpty_iff, and_assoc, and_assoc]

theorem selfSale_iff (s : State) : selfSale s = true ↔ s.su.header.mode = .self
    ∧ (s.su.header.state = .opened ∨ s.su.header.state = .tendering ∨ s.su.header.state = .settled) := by
  unfold selfSale SaleState.active
  rw [Bool.and_eq_true, decide_eq_true_iff]
  cases s.su.header.state <;> simp

end Sys2Proof.Machine
end

