-- ==== Sys2Proof/Laws/Events.lean ====
section
/-! SUPPORT. The same for the host accesses, the windows, the links, the requests and the records: the blocks, the memory and
the queue each leaves unchanged. -/

namespace Sys2Proof.Machine

@[simp] theorem setWatched_keeps (s : State) (k : Watched) (w : Word) :
    (setWatched s k w).re = s.re ∧ (setWatched s k w).nu = s.nu ∧ (setWatched s k w).lu = s.lu ∧
    (setWatched s k w).pwu = s.pwu ∧ (setWatched s k w).bwu = s.bwu ∧ (setWatched s k w).su = s.su ∧
    (setWatched s k w).ctu = s.ctu ∧ (setWatched s k w).tu = s.tu ∧ (setWatched s k w).pu = s.pu ∧
    (setWatched s k w).ju = s.ju ∧ (setWatched s k w).mem = s.mem ∧ (setWatched s k w).free = s.free ∧
    (setWatched s k w).pending = s.pending := by
  unfold setWatched
  (repeat' split) <;> simp

@[simp] theorem deliverWatched_keeps (s : State) (k : Watched) (old : Word) :
    (deliverWatched s k old).lu = s.lu ∧ (deliverWatched s k old).pwu = s.pwu ∧
    (deliverWatched s k old).bwu = s.bwu ∧ (deliverWatched s k old).ctu = s.ctu ∧
    (deliverWatched s k old).tu = s.tu ∧ (deliverWatched s k old).pu = s.pu ∧ (deliverWatched s k old).ju = s.ju ∧
    (deliverWatched s k old).mem = s.mem ∧ (deliverWatched s k old).free = s.free ∧
    (deliverWatched s k old).pending = s.pending := by
  unfold deliverWatched
  (repeat' split) <;> simp

@[simp] theorem storeWatched_keeps (s : State) (k : Watched) (w : Word) :
    (storeWatched s k w).lu = s.lu ∧ (storeWatched s k w).pwu = s.pwu ∧ (storeWatched s k w).bwu = s.bwu ∧
    (storeWatched s k w).ctu = s.ctu ∧ (storeWatched s k w).tu = s.tu ∧ (storeWatched s k w).pu = s.pu ∧
    (storeWatched s k w).ju = s.ju ∧ (storeWatched s k w).free = s.free ∧ (storeWatched s k w).pending = s.pending := by
  unfold storeWatched
  simp

@[simp] theorem refuseWord_keeps (s : State) (addr : Nat) (unmapped : Bool) :
    (refuseWord s addr unmapped).re = s.re ∧ (refuseWord s addr unmapped).lu = s.lu ∧
    (refuseWord s addr unmapped).pwu = s.pwu ∧ (refuseWord s addr unmapped).bwu = s.bwu ∧
    (refuseWord s addr unmapped).ctu = s.ctu ∧ (refuseWord s addr unmapped).tu = s.tu ∧
    (refuseWord s addr unmapped).pu = s.pu ∧ (refuseWord s addr unmapped).ju = s.ju ∧
    (refuseWord s addr unmapped).mem = s.mem ∧ (refuseWord s addr unmapped).free = s.free ∧
    (refuseWord s addr unmapped).pending = s.pending := by
  unfold refuseWord
  (repeat' split) <;> simp

@[simp] theorem writePage_keeps (s : State) (w : HostWord) (word : Nat) :
    (writePage s w word).re = s.re ∧ (writePage s w word).nu = s.nu ∧ (writePage s w word).lu = s.lu ∧
    (writePage s w word).pwu = s.pwu ∧ (writePage s w word).bwu = s.bwu ∧ (writePage s w word).su = s.su ∧
    (writePage s w word).ctu = s.ctu ∧ (writePage s w word).tu = s.tu ∧ (writePage s w word).pu = s.pu ∧
    (writePage s w word).ju = s.ju ∧ (writePage s w word).free = s.free ∧ (writePage s w word).pending = s.pending := by
  unfold writePage
  simp

@[simp] theorem grantBurst_keeps (s : State) :
    (grantBurst s).re = s.re ∧ (grantBurst s).nu = s.nu ∧ (grantBurst s).lu = s.lu ∧ (grantBurst s).pwu = s.pwu ∧
    (grantBurst s).bwu = s.bwu ∧ (grantBurst s).su = s.su ∧ (grantBurst s).ctu = s.ctu ∧ (grantBurst s).tu = s.tu ∧
    (grantBurst s).pu = s.pu ∧ (grantBurst s).ju = s.ju ∧ (grantBurst s).mem = s.mem ∧ (grantBurst s).free = s.free ∧
    (grantBurst s).pending = s.pending := by
  unfold grantBurst
  dsimp only
  (repeat' split) <;> simp

@[simp] theorem applyDecision_keeps (s : State) (w : HostWord) (d : Decision) :
    (applyDecision s w d).lu = s.lu ∧ (applyDecision s w d).pwu = s.pwu ∧ (applyDecision s w d).bwu = s.bwu ∧
    (applyDecision s w d).ctu = s.ctu ∧ (applyDecision s w d).tu = s.tu ∧ (applyDecision s w d).pu = s.pu ∧
    (applyDecision s w d).ju = s.ju ∧ (applyDecision s w d).free = s.free ∧ (applyDecision s w d).pending = s.pending := by
  unfold applyDecision
  (repeat' split) <;> simp

@[simp] theorem endBurst_keeps (s : State) :
    (endBurst s).re = s.re ∧ (endBurst s).nu = s.nu ∧ (endBurst s).lu = s.lu ∧ (endBurst s).pwu = s.pwu ∧
    (endBurst s).bwu = s.bwu ∧ (endBurst s).su = s.su ∧ (endBurst s).ctu = s.ctu ∧ (endBurst s).tu = s.tu ∧
    (endBurst s).pu = s.pu ∧ (endBurst s).ju = s.ju ∧ (endBurst s).mem = s.mem ∧ (endBurst s).free = s.free ∧
    (endBurst s).pending = s.pending := by
  unfold endBurst
  dsimp only
  (repeat' split) <;> simp

@[simp] theorem takeWord_keeps (s : State) (w : HostWord) :
    (takeWord s w).lu = s.lu ∧ (takeWord s w).pwu = s.pwu ∧ (takeWord s w).bwu = s.bwu ∧ (takeWord s w).ctu = s.ctu ∧
    (takeWord s w).tu = s.tu ∧ (takeWord s w).pu = s.pu ∧ (takeWord s w).ju = s.ju ∧ (takeWord s w).free = s.free ∧
    (takeWord s w).pending = s.pending := by
  unfold takeWord
  dsimp only
  (repeat' split) <;> simp

@[simp] theorem askFill_keeps (s : State) (w : HostWord) :
    (askFill s w).re = s.re ∧ (askFill s w).nu = s.nu ∧ (askFill s w).lu = s.lu ∧ (askFill s w).pwu = s.pwu ∧
    (askFill s w).bwu = s.bwu ∧ (askFill s w).ctu = s.ctu ∧ (askFill s w).tu = s.tu ∧ (askFill s w).pu = s.pu ∧
    (askFill s w).ju = s.ju ∧ (askFill s w).mem = s.mem ∧ (askFill s w).free = s.free ∧
    (askFill s w).pending = s.pending := by
  unfold askFill
  simp

@[simp] theorem askFill_fields (s : State) (w : HostWord) :
    (askFill s w).bi.laSel = s.bi.laSel ∧ (askFill s w).bi.bagFit = s.bi.bagFit ∧
    (askFill s w).bi.inReset = s.bi.inReset ∧ (askFill s w).bi.reqProducer = s.bi.reqProducer ∧
    (askFill s w).bi.evtConsumer = s.bi.evtConsumer ∧ (askFill s w).bi.journalExport = s.bi.journalExport ∧
    (askFill s w).bi.noticeMask = s.bi.noticeMask ∧ (askFill s w).bi.receiptFill = s.bi.receiptFill ∧
    (askFill s w).bi.pageTable = s.bi.pageTable ∧ (askFill s w).bi.refusedCount = s.bi.refusedCount ∧
    (askFill s w).bi.lastRefused = s.bi.lastRefused ∧ (askFill s w).bi.setupSpan = s.bi.setupSpan ∧
    (askFill s w).bi.waiting = s.bi.waiting ∧ (askFill s w).bi.opened = s.bi.opened ∧
    (askFill s w).bi.nextWindow = s.bi.nextWindow ∧ (askFill s w).bi.nextGroup = s.bi.nextGroup ∧
    (askFill s w).bi.burstGranted = s.bi.burstGranted ∧ (askFill s w).bi.burstRefused = s.bi.burstRefused ∧
    (askFill s w).bi.waitCount = s.bi.waitCount ∧ (askFill s w).bi.engine = s.bi.engine ∧
    (askFill s w).bi.readData = s.bi.readData ∧ (askFill s w).su.header = s.su.header ∧
    (askFill s w).su.lines = s.su.lines ∧ (askFill s w).su.tenders = s.su.tenders ∧
    (askFill s w).su.nextNumber = s.su.nextNumber ∧ (askFill s w).su.event = s.su.event ∧
    (askFill s w).su.claim = s.su.claim ∧ (askFill s w).su.finished = s.su.finished := by
  unfold askFill
  simp

@[simp] theorem offerWord_keeps (s : State) (w : HostWord) :
    (offerWord s w).lu = s.lu ∧ (offerWord s w).pwu = s.pwu ∧ (offerWord s w).bwu = s.bwu ∧
    (offerWord s w).ctu = s.ctu ∧ (offerWord s w).tu = s.tu ∧ (offerWord s w).pu = s.pu ∧ (offerWord s w).ju = s.ju ∧
    (offerWord s w).free = s.free ∧ (offerWord s w).pending = s.pending := by
  unfold offerWord
  (repeat' split) <;> simp

@[simp] theorem presentWord_keeps (s : State) (w : HostWord) :
    (presentWord s w).lu = s.lu ∧ (presentWord s w).pwu = s.pwu ∧ (presentWord s w).bwu = s.bwu ∧
    (presentWord s w).ctu = s.ctu ∧ (presentWord s w).tu = s.tu ∧ (presentWord s w).pu = s.pu ∧
    (presentWord s w).ju = s.ju ∧ (presentWord s w).free = s.free ∧ (presentWord s w).pending = s.pending := by
  unfold presentWord
  (repeat' split) <;> simp

@[simp] theorem presentRead_keeps (s : State) (addr len : Nat) :
    (presentRead s addr len).re = s.re ∧ (presentRead s addr len).nu = s.nu ∧ (presentRead s addr len).lu = s.lu ∧
    (presentRead s addr len).pwu = s.pwu ∧ (presentRead s addr len).bwu = s.bwu ∧
    (presentRead s addr len).su = s.su ∧ (presentRead s addr len).ctu = s.ctu ∧ (presentRead s addr len).tu = s.tu ∧
    (presentRead s addr len).pu = s.pu ∧ (presentRead s addr len).ju = s.ju ∧ (presentRead s addr len).mem = s.mem ∧
    (presentRead s addr len).free = s.free ∧ (presentRead s addr len).pending = s.pending := by
  unfold presentRead
  (repeat' split) <;> simp

@[simp] theorem portGrant_keeps (s : State) :
    (portGrant s).lu = s.lu ∧ (portGrant s).pwu = s.pwu ∧ (portGrant s).bwu = s.bwu ∧ (portGrant s).ctu = s.ctu ∧
    (portGrant s).tu = s.tu ∧ (portGrant s).free = s.free ∧ (portGrant s).pending = s.pending ∧
    (portGrant s).ju.forcedCarry = s.ju.forcedCarry ∧ (portGrant s).ju.nosaleCarry = s.ju.nosaleCarry ∧
    (portGrant s).ju.fixed = s.ju.fixed ∧ (portGrant s).ju.tells = s.ju.tells := by
  unfold portGrant
  (repeat' split) <;> simp

@[simp] theorem askPuFree_keeps (s : State) (ofRequest : Bool) :
    (askPuFree s ofRequest).re = s.re ∧ (askPuFree s ofRequest).nu = s.nu ∧ (askPuFree s ofRequest).lu = s.lu ∧
    (askPuFree s ofRequest).pwu = s.pwu ∧ (askPuFree s ofRequest).bwu = s.bwu ∧ (askPuFree s ofRequest).su = s.su ∧
    (askPuFree s ofRequest).ctu = s.ctu ∧ (askPuFree s ofRequest).tu = s.tu ∧ (askPuFree s ofRequest).pu = s.pu ∧
    (askPuFree s ofRequest).ju = s.ju ∧ (askPuFree s ofRequest).mem = s.mem ∧ (askPuFree s ofRequest).free = s.free ∧
    (askPuFree s ofRequest).pending = s.pending := by
  unfold askPuFree
  simp

@[simp] theorem resetLatches_keeps (s : State) :
    (resetLatches s).bi = s.bi ∧ (resetLatches s).re = s.re ∧ (resetLatches s).lu = s.lu ∧
    (resetLatches s).pwu = s.pwu ∧ (resetLatches s).bwu = s.bwu ∧ (resetLatches s).su = s.su ∧
    (resetLatches s).ctu = s.ctu ∧ (resetLatches s).tu = s.tu ∧ (resetLatches s).pu = s.pu ∧
    (resetLatches s).ju = s.ju ∧ (resetLatches s).mem = s.mem ∧ (resetLatches s).free = s.free ∧
    (resetLatches s).pending = s.pending := by
  unfold resetLatches
  simp

@[simp] theorem resetSale_keeps (s : State) :
    (resetSale s).re = s.re ∧ (resetSale s).nu = s.nu ∧ (resetSale s).lu = s.lu ∧ (resetSale s).pwu = s.pwu ∧
    (resetSale s).bwu = s.bwu ∧ (resetSale s).ctu = s.ctu ∧ (resetSale s).tu = s.tu ∧ (resetSale s).pu = s.pu ∧
    (resetSale s).ju = s.ju ∧ (resetSale s).mem = s.mem ∧ (resetSale s).free = s.free ∧
    (resetSale s).pending = s.pending := by
  unfold resetSale
  dsimp only
  simp

@[simp] theorem resetPlatter_keeps (s : State) :
    (resetPlatter s).re = s.re ∧ (resetPlatter s).nu = s.nu ∧ (resetPlatter s).lu = s.lu ∧
    (resetPlatter s).bwu = s.bwu ∧ (resetPlatter s).su = s.su ∧ (resetPlatter s).ctu = s.ctu ∧
    (resetPlatter s).tu = s.tu ∧ (resetPlatter s).pu = s.pu ∧ (resetPlatter s).ju = s.ju ∧
    (resetPlatter s).mem = s.mem ∧ (resetPlatter s).free = s.free ∧ (resetPlatter s).pending = s.pending := by
  unfold resetPlatter
  simp

@[simp] theorem resetBag_keeps (s : State) :
    (resetBag s).re = s.re ∧ (resetBag s).nu = s.nu ∧ (resetBag s).lu = s.lu ∧ (resetBag s).pwu = s.pwu ∧
    (resetBag s).su = s.su ∧ (resetBag s).ctu = s.ctu ∧ (resetBag s).tu = s.tu ∧ (resetBag s).pu = s.pu ∧
    (resetBag s).ju = s.ju ∧ (resetBag s).mem = s.mem ∧ (resetBag s).free = s.free ∧ (resetBag s).pending = s.pending := by
  unfold resetBag
  simp

@[simp] theorem resetCard_keeps (s : State) :
    (resetCard s).re = s.re ∧ (resetCard s).nu = s.nu ∧ (resetCard s).lu = s.lu ∧ (resetCard s).pwu = s.pwu ∧
    (resetCard s).bwu = s.bwu ∧ (resetCard s).su = s.su ∧ (resetCard s).tu = s.tu ∧ (resetCard s).pu = s.pu ∧
    (resetCard s).ju = s.ju ∧ (resetCard s).mem = s.mem ∧ (resetCard s).pending = s.pending := by
  unfold resetCard
  simp

@[simp] theorem resetTill_keeps (s : State) :
    (resetTill s).re = s.re ∧ (resetTill s).nu = s.nu ∧ (resetTill s).lu = s.lu ∧ (resetTill s).pwu = s.pwu ∧
    (resetTill s).bwu = s.bwu ∧ (resetTill s).su = s.su ∧ (resetTill s).ctu = s.ctu ∧ (resetTill s).pu = s.pu ∧
    (resetTill s).ju = s.ju ∧ (resetTill s).mem = s.mem ∧ (resetTill s).free = s.free ∧
    (resetTill s).pending = s.pending := by
  unfold resetTill
  (repeat' split) <;> simp

@[simp] theorem resetPrinter_keeps (s : State) :
    (resetPrinter s).re = s.re ∧ (resetPrinter s).nu = s.nu ∧ (resetPrinter s).lu = s.lu ∧
    (resetPrinter s).pwu = s.pwu ∧ (resetPrinter s).bwu = s.bwu ∧ (resetPrinter s).su = s.su ∧
    (resetPrinter s).ctu = s.ctu ∧ (resetPrinter s).tu = s.tu ∧ (resetPrinter s).ju = s.ju ∧
    (resetPrinter s).mem = s.mem ∧ (resetPrinter s).free = s.free ∧ (resetPrinter s).pending = s.pending := by
  unfold resetPrinter
  simp

@[simp] theorem resetJournal_keeps (s : State) :
    (resetJournal s).bi = s.bi ∧ (resetJournal s).re = s.re ∧ (resetJournal s).nu = s.nu ∧
    (resetJournal s).lu = s.lu ∧ (resetJournal s).pwu = s.pwu ∧ (resetJournal s).bwu = s.bwu ∧
    (resetJournal s).su = s.su ∧ (resetJournal s).ctu = s.ctu ∧ (resetJournal s).tu = s.tu ∧
    (resetJournal s).pu = s.pu ∧ (resetJournal s).mem = s.mem ∧ (resetJournal s).free = s.free ∧
    (resetJournal s).pending = s.pending := by
  unfold resetJournal
  simp

@[simp] theorem quietLink_keeps (s : State) (l : LinkId) :
    (quietLink s l).re = s.re ∧ (quietLink s l).pwu = s.pwu ∧ (quietLink s l).bwu = s.bwu ∧
    (quietLink s l).ctu = s.ctu ∧ (quietLink s l).tu = s.tu ∧ (quietLink s l).pu = s.pu ∧ (quietLink s l).ju = s.ju ∧
    (quietLink s l).mem = s.mem ∧ (quietLink s l).free = s.free ∧ (quietLink s l).pending = s.pending := by
  unfold quietLink
  dsimp only
  (repeat' split) <;> simp

@[simp] theorem resetLinks_keeps (s : State) :
    (resetLinks s).re = s.re ∧ (resetLinks s).pwu = s.pwu ∧ (resetLinks s).bwu = s.bwu ∧ (resetLinks s).ctu = s.ctu ∧
    (resetLinks s).tu = s.tu ∧ (resetLinks s).pu = s.pu ∧ (resetLinks s).ju = s.ju ∧ (resetLinks s).mem = s.mem ∧
    (resetLinks s).free = s.free ∧ (resetLinks s).pending = s.pending := by
  unfold resetLinks
  (repeat' split) <;> simp

@[simp] theorem resetEngine_keeps (s : State) :
    (resetEngine s).nu = s.nu ∧ (resetEngine s).lu = s.lu ∧ (resetEngine s).pwu = s.pwu ∧
    (resetEngine s).bwu = s.bwu ∧ (resetEngine s).su = s.su ∧ (resetEngine s).ctu = s.ctu ∧
    (resetEngine s).tu = s.tu ∧ (resetEngine s).pu = s.pu ∧ (resetEngine s).ju = s.ju ∧ (resetEngine s).mem = s.mem ∧
    (resetEngine s).free = s.free ∧ (resetEngine s).pending = s.pending := by
  unfold resetEngine
  simp

@[simp] theorem cutPulse_keeps (s : State) :
    (cutPulse s).bi = s.bi ∧ (cutPulse s).re = s.re ∧ (cutPulse s).nu = s.nu ∧ (cutPulse s).lu = s.lu ∧
    (cutPulse s).pwu = s.pwu ∧ (cutPulse s).bwu = s.bwu ∧ (cutPulse s).su = s.su ∧ (cutPulse s).ctu = s.ctu ∧
    (cutPulse s).pu = s.pu ∧ (cutPulse s).ju = s.ju ∧ (cutPulse s).mem = s.mem ∧ (cutPulse s).free = s.free ∧
    (cutPulse s).pending = s.pending := by
  unfold cutPulse
  simp

@[simp] theorem resetUnit_keeps (s : State) (b : BlockId) :
    (resetUnit s b).mem = s.mem ∧ (resetUnit s b).pending = s.pending := by
  unfold resetUnit
  (repeat' split) <;> simp

@[simp] theorem resetUnits_keeps (s : State) (bs : List BlockId) :
    (bs.foldl resetUnit s).mem = s.mem ∧ (bs.foldl resetUnit s).pending = s.pending := by
  induction bs generalizing s with
  | nil => simp
  | cons b rest ih => simpa using ih (resetUnit s b)

@[simp] theorem takeResets_keeps (s : State) :
    (takeResets s).mem = s.mem ∧ (takeResets s).pending = s.pending := by
  unfold takeResets
  dsimp only
  (repeat' split) <;> simp

@[simp] theorem applyLaneReset_keeps (s : State) :
    (applyLaneReset s).mem = s.mem ∧ (applyLaneReset s).pending = s.pending := by
  unfold applyLaneReset
  dsimp only
  (repeat' split) <;> simp

@[simp] theorem resumeResets_keeps (s : State) :
    (resumeResets s).mem = s.mem ∧ (resumeResets s).pending = s.pending := by
  unfold resumeResets
  (repeat' split) <;> simp

@[simp] theorem runAfter_keeps (s : State) (a : After) :
    (runAfter s a).re = s.re ∧ (runAfter s a).pwu = s.pwu ∧ (runAfter s a).mem = s.mem ∧
    (runAfter s a).pending = s.pending := by
  unfold runAfter
  (repeat' split) <;> simp

@[simp] theorem runAfter_fields (s : State) (a : After) :
    (runAfter s a).bi.laSel = s.bi.laSel ∧ (runAfter s a).bi.bagFit = s.bi.bagFit ∧
    (runAfter s a).bi.inReset = s.bi.inReset ∧ (runAfter s a).bi.reqProducer = s.bi.reqProducer ∧
    (runAfter s a).bi.evtConsumer = s.bi.evtConsumer ∧ (runAfter s a).bi.journalExport = s.bi.journalExport ∧
    (runAfter s a).bi.noticeMask = s.bi.noticeMask ∧ (runAfter s a).bi.receiptFill = s.bi.receiptFill ∧
    (runAfter s a).bi.pageTable = s.bi.pageTable ∧ (runAfter s a).bi.refusedCount = s.bi.refusedCount ∧
    (runAfter s a).bi.lastRefused = s.bi.lastRefused ∧ (runAfter s a).bi.setupSpan = s.bi.setupSpan ∧
    (runAfter s a).bi.opened = s.bi.opened ∧ (runAfter s a).bi.hostStall = s.bi.hostStall ∧
    (runAfter s a).bi.burstGranted = s.bi.burstGranted ∧ (runAfter s a).bi.burstRefused = s.bi.burstRefused ∧
    (runAfter s a).bi.waitCount = s.bi.waitCount ∧ (runAfter s a).bi.engine = s.bi.engine ∧
    (runAfter s a).bi.readData = s.bi.readData ∧ (runAfter s a).nu.producer = s.nu.producer ∧
    (runAfter s a).nu.reserved = s.nu.reserved ∧ (runAfter s a).nu.attn = s.nu.attn ∧
    (runAfter s a).su.header = s.su.header ∧ (runAfter s a).su.lines = s.su.lines ∧
    (runAfter s a).su.tenders = s.su.tenders ∧ (runAfter s a).su.nextNumber = s.su.nextNumber ∧
    (runAfter s a).su.claim = s.su.claim ∧ (runAfter s a).su.finished = s.su.finished := by
  unfold runAfter
  (repeat' split) <;> simp

@[simp] theorem removeWindow_keeps (s : State) (id : Nat) :
    (removeWindow s id).re = s.re ∧ (removeWindow s id).nu = s.nu ∧ (removeWindow s id).lu = s.lu ∧
    (removeWindow s id).pwu = s.pwu ∧ (removeWindow s id).bwu = s.bwu ∧ (removeWindow s id).su = s.su ∧
    (removeWindow s id).ctu = s.ctu ∧ (removeWindow s id).tu = s.tu ∧ (removeWindow s id).pu = s.pu ∧
    (removeWindow s id).ju = s.ju ∧ (removeWindow s id).mem = s.mem ∧ (removeWindow s id).free = s.free ∧
    (removeWindow s id).pending = s.pending := by
  unfold removeWindow
  simp

@[simp] theorem removeWindow_fields (s : State) (id : Nat) :
    (removeWindow s id).bi.laSel = s.bi.laSel ∧ (removeWindow s id).bi.bagFit = s.bi.bagFit ∧
    (removeWindow s id).bi.inReset = s.bi.inReset ∧ (removeWindow s id).bi.reqProducer = s.bi.reqProducer ∧
    (removeWindow s id).bi.evtConsumer = s.bi.evtConsumer ∧
    (removeWindow s id).bi.journalExport = s.bi.journalExport ∧ (removeWindow s id).bi.noticeMask = s.bi.noticeMask ∧
    (removeWindow s id).bi.receiptFill = s.bi.receiptFill ∧ (removeWindow s id).bi.pageTable = s.bi.pageTable ∧
    (removeWindow s id).bi.refusedCount = s.bi.refusedCount ∧ (removeWindow s id).bi.lastRefused = s.bi.lastRefused ∧
    (removeWindow s id).bi.setupSpan = s.bi.setupSpan ∧ (removeWindow s id).bi.waiting = s.bi.waiting ∧
    (removeWindow s id).bi.nextWindow = s.bi.nextWindow ∧ (removeWindow s id).bi.nextGroup = s.bi.nextGroup ∧
    (removeWindow s id).bi.burstGranted = s.bi.burstGranted ∧
    (removeWindow s id).bi.burstRefused = s.bi.burstRefused ∧ (removeWindow s id).bi.engine = s.bi.engine := by
  unfold removeWindow
  simp

@[simp] theorem runAfters_keeps (s : State) (as : List After) :
    (as.foldl runAfter s).re = s.re ∧ (as.foldl runAfter s).pwu = s.pwu ∧ (as.foldl runAfter s).mem = s.mem ∧ (as.foldl runAfter s).pending = s.pending := by
  induction as generalizing s with
  | nil => simp
  | cons a rest ih => simpa using ih (runAfter s a)

@[simp] theorem runAfters_fields (s : State) (as : List After) :
    (as.foldl runAfter s).bi.laSel = s.bi.laSel ∧
    (as.foldl runAfter s).bi.bagFit = s.bi.bagFit ∧
    (as.foldl runAfter s).bi.inReset = s.bi.inReset ∧
    (as.foldl runAfter s).bi.reqProducer = s.bi.reqProducer ∧
    (as.foldl runAfter s).bi.evtConsumer = s.bi.evtConsumer ∧
    (as.foldl runAfter s).bi.journalExport = s.bi.journalExport ∧
    (as.foldl runAfter s).bi.noticeMask = s.bi.noticeMask ∧
    (as.foldl runAfter s).bi.receiptFill = s.bi.receiptFill ∧
    (as.foldl runAfter s).bi.pageTable = s.bi.pageTable ∧
    (as.foldl runAfter s).bi.refusedCount = s.bi.refusedCount ∧
    (as.foldl runAfter s).bi.lastRefused = s.bi.lastRefused ∧
    (as.foldl runAfter s).bi.setupSpan = s.bi.setupSpan ∧
    (as.foldl runAfter s).bi.opened = s.bi.opened ∧
    (as.foldl runAfter s).bi.hostStall = s.bi.hostStall ∧
    (as.foldl runAfter s).bi.burstGranted = s.bi.burstGranted ∧
    (as.foldl runAfter s).bi.burstRefused = s.bi.burstRefused ∧
    (as.foldl runAfter s).bi.waitCount = s.bi.waitCount ∧
    (as.foldl runAfter s).bi.engine = s.bi.engine ∧
    (as.foldl runAfter s).bi.readData = s.bi.readData := by
  induction as generalizing s with
  | nil => simp
  | cons a rest ih => simpa using ih (runAfter s a)

@[simp] theorem closeWindow_keeps (s : State) (o : OpenWindow) :
    (closeWindow s o).mem = s.mem ∧ (closeWindow s o).pending = s.pending := by
  unfold closeWindow
  (repeat' split) <;> simp

@[simp] theorem freedNotices_keeps (s t : State) :
    (freedNotices s t).re = t.re ∧ (freedNotices s t).nu = t.nu ∧ (freedNotices s t).pwu = t.pwu ∧
    (freedNotices s t).bwu = t.bwu ∧ (freedNotices s t).su = t.su ∧ (freedNotices s t).tu = t.tu ∧
    (freedNotices s t).ju = t.ju ∧ (freedNotices s t).mem = t.mem ∧ (freedNotices s t).free = t.free ∧
    (freedNotices s t).pending = t.pending := by
  unfold freedNotices
  dsimp only
  (repeat' split) <;> simp

@[simp] theorem freedNotices_fields (s t : State) :
    (freedNotices s t).bi.laSel = t.bi.laSel ∧ (freedNotices s t).bi.bagFit = t.bi.bagFit ∧
    (freedNotices s t).bi.inReset = t.bi.inReset ∧ (freedNotices s t).bi.reqProducer = t.bi.reqProducer ∧
    (freedNotices s t).bi.evtConsumer = t.bi.evtConsumer ∧
    (freedNotices s t).bi.journalExport = t.bi.journalExport ∧ (freedNotices s t).bi.noticeMask = t.bi.noticeMask ∧
    (freedNotices s t).bi.receiptFill = t.bi.receiptFill ∧ (freedNotices s t).bi.pageTable = t.bi.pageTable ∧
    (freedNotices s t).bi.refusedCount = t.bi.refusedCount ∧ (freedNotices s t).bi.lastRefused = t.bi.lastRefused ∧
    (freedNotices s t).bi.setupSpan = t.bi.setupSpan ∧ (freedNotices s t).bi.opened = t.bi.opened ∧
    (freedNotices s t).bi.hostStall = t.bi.hostStall ∧ (freedNotices s t).bi.burstGranted = t.bi.burstGranted ∧
    (freedNotices s t).bi.burstRefused = t.bi.burstRefused ∧ (freedNotices s t).bi.waitCount = t.bi.waitCount ∧
    (freedNotices s t).bi.engine = t.bi.engine ∧ (freedNotices s t).bi.readData = t.bi.readData := by
  unfold freedNotices
  dsimp only
  (repeat' split) <;> simp

/-- A unit that was in no request has no notices freed. -/
theorem freedNotices_none (s t : State) (hc : unitBusy s .ctu = false) (hp : unitBusy s .pu = false) :
    freedNotices s t = t := by
  simp [freedNotices, hc, hp]

@[simp] theorem rxCharacter_keeps (s : State) (l : LinkId) (char : Byte) (stopHigh : Bool) :
    (rxCharacter s l char stopHigh).re = s.re ∧ (rxCharacter s l char stopHigh).pwu = s.pwu ∧
    (rxCharacter s l char stopHigh).bwu = s.bwu ∧ (rxCharacter s l char stopHigh).ctu = s.ctu ∧
    (rxCharacter s l char stopHigh).tu = s.tu ∧ (rxCharacter s l char stopHigh).pu = s.pu ∧
    (rxCharacter s l char stopHigh).ju = s.ju ∧ (rxCharacter s l char stopHigh).mem = s.mem ∧
    (rxCharacter s l char stopHigh).free = s.free ∧ (rxCharacter s l char stopHigh).pending = s.pending := by
  unfold rxCharacter
  dsimp only
  (repeat' split) <;> simp

@[simp] theorem failAttempt_keeps (s : State) (l : LinkId) (kind : ErrorKind) (held : List Byte) :
    (failAttempt s l kind held).re = s.re ∧ (failAttempt s l kind held).pwu = s.pwu ∧
    (failAttempt s l kind held).bwu = s.bwu ∧ (failAttempt s l kind held).ctu = s.ctu ∧
    (failAttempt s l kind held).tu = s.tu ∧ (failAttempt s l kind held).pu = s.pu ∧
    (failAttempt s l kind held).ju = s.ju ∧ (failAttempt s l kind held).mem = s.mem ∧
    (failAttempt s l kind held).free = s.free ∧ (failAttempt s l kind held).pending = s.pending := by
  unfold failAttempt
  simp

@[simp] theorem lineRise_keeps (s : State) (l : LinkId) :
    (lineRise s l).re = s.re ∧ (lineRise s l).pwu = s.pwu ∧ (lineRise s l).bwu = s.bwu ∧ (lineRise s l).ctu = s.ctu ∧
    (lineRise s l).tu = s.tu ∧ (lineRise s l).pu = s.pu ∧ (lineRise s l).ju = s.ju ∧ (lineRise s l).mem = s.mem ∧
    (lineRise s l).free = s.free ∧ (lineRise s l).pending = s.pending := by
  unfold lineRise
  dsimp only
  (repeat' split) <;> simp

@[simp] theorem gapTimeout_keeps (s : State) (l : LinkId) :
    (gapTimeout s l).re = s.re ∧ (gapTimeout s l).pwu = s.pwu ∧ (gapTimeout s l).bwu = s.bwu ∧
    (gapTimeout s l).ctu = s.ctu ∧ (gapTimeout s l).tu = s.tu ∧ (gapTimeout s l).pu = s.pu ∧
    (gapTimeout s l).ju = s.ju ∧ (gapTimeout s l).mem = s.mem ∧ (gapTimeout s l).free = s.free ∧
    (gapTimeout s l).pending = s.pending := by
  unfold gapTimeout
  (repeat' split) <;> simp

@[simp] theorem breakDetected_keeps (s : State) (l : LinkId) :
    (breakDetected s l).re = s.re ∧ (breakDetected s l).pwu = s.pwu ∧ (breakDetected s l).bwu = s.bwu ∧
    (breakDetected s l).ctu = s.ctu ∧ (breakDetected s l).tu = s.tu ∧ (breakDetected s l).pu = s.pu ∧
    (breakDetected s l).ju = s.ju ∧ (breakDetected s l).mem = s.mem ∧ (breakDetected s l).free = s.free ∧
    (breakDetected s l).pending = s.pending := by
  unfold breakDetected
  dsimp only
  (repeat' split) <;> simp

@[simp] theorem breakLineHigh_keeps (s : State) (l : LinkId) :
    (breakLineHigh s l).bi = s.bi ∧ (breakLineHigh s l).re = s.re ∧ (breakLineHigh s l).nu = s.nu ∧
    (breakLineHigh s l).pwu = s.pwu ∧ (breakLineHigh s l).bwu = s.bwu ∧ (breakLineHigh s l).su = s.su ∧
    (breakLineHigh s l).ctu = s.ctu ∧ (breakLineHigh s l).tu = s.tu ∧ (breakLineHigh s l).pu = s.pu ∧
    (breakLineHigh s l).ju = s.ju ∧ (breakLineHigh s l).mem = s.mem ∧ (breakLineHigh s l).free = s.free ∧
    (breakLineHigh s l).pending = s.pending := by
  unfold breakLineHigh
  simp

@[simp] theorem silenceExpired_keeps (s : State) (l : LinkId) :
    (silenceExpired s l).re = s.re ∧ (silenceExpired s l).pwu = s.pwu ∧ (silenceExpired s l).bwu = s.bwu ∧
    (silenceExpired s l).ctu = s.ctu ∧ (silenceExpired s l).tu = s.tu ∧ (silenceExpired s l).pu = s.pu ∧
    (silenceExpired s l).ju = s.ju ∧ (silenceExpired s l).mem = s.mem ∧ (silenceExpired s l).free = s.free ∧
    (silenceExpired s l).pending = s.pending := by
  unfold silenceExpired
  (repeat' split) <;> simp

@[simp] theorem sentNotice_keeps (s : State) (l : LinkId) :
    (sentNotice s l).re = s.re ∧ (sentNotice s l).nu = s.nu ∧ (sentNotice s l).pwu = s.pwu ∧
    (sentNotice s l).bwu = s.bwu ∧ (sentNotice s l).su = s.su ∧ (sentNotice s l).tu = s.tu ∧
    (sentNotice s l).ju = s.ju ∧ (sentNotice s l).mem = s.mem ∧ (sentNotice s l).free = s.free ∧
    (sentNotice s l).pending = s.pending := by
  unfold sentNotice
  (repeat' split) <;> simp

@[simp] theorem frameSent_keeps (s : State) (l : LinkId) :
    (frameSent s l).re = s.re ∧ (frameSent s l).nu = s.nu ∧ (frameSent s l).pwu = s.pwu ∧
    (frameSent s l).bwu = s.bwu ∧ (frameSent s l).su = s.su ∧ (frameSent s l).tu = s.tu ∧ (frameSent s l).ju = s.ju ∧
    (frameSent s l).mem = s.mem ∧ (frameSent s l).free = s.free ∧ (frameSent s l).pending = s.pending := by
  unfold frameSent
  dsimp only
  (repeat' split) <;> simp

@[simp] theorem decodeRequest_keeps (s : State) :
    (decodeRequest s).lu = s.lu ∧ (decodeRequest s).pwu = s.pwu ∧ (decodeRequest s).bwu = s.bwu ∧
    (decodeRequest s).ctu = s.ctu ∧ (decodeRequest s).tu = s.tu ∧ (decodeRequest s).pu = s.pu ∧
    (decodeRequest s).ju = s.ju ∧ (decodeRequest s).mem = s.mem ∧ (decodeRequest s).free = s.free ∧
    (decodeRequest s).pending = s.pending := by
  unfold decodeRequest
  (repeat' split) <;> simp

@[simp] theorem decodeRequest_fields (s : State) :
    (decodeRequest s).bi.laSel = s.bi.laSel ∧ (decodeRequest s).bi.bagFit = s.bi.bagFit ∧
    (decodeRequest s).bi.inReset = s.bi.inReset ∧ (decodeRequest s).bi.reqProducer = s.bi.reqProducer ∧
    (decodeRequest s).bi.evtConsumer = s.bi.evtConsumer ∧ (decodeRequest s).bi.journalExport = s.bi.journalExport ∧
    (decodeRequest s).bi.noticeMask = s.bi.noticeMask ∧ (decodeRequest s).bi.receiptFill = s.bi.receiptFill ∧
    (decodeRequest s).bi.pageTable = s.bi.pageTable ∧ (decodeRequest s).bi.refusedCount = s.bi.refusedCount ∧
    (decodeRequest s).bi.lastRefused = s.bi.lastRefused ∧ (decodeRequest s).bi.setupSpan = s.bi.setupSpan ∧
    (decodeRequest s).bi.opened = s.bi.opened ∧ (decodeRequest s).bi.hostStall = s.bi.hostStall ∧
    (decodeRequest s).bi.burstGranted = s.bi.burstGranted ∧ (decodeRequest s).bi.burstRefused = s.bi.burstRefused ∧
    (decodeRequest s).bi.waitCount = s.bi.waitCount ∧ (decodeRequest s).bi.engine = s.bi.engine ∧
    (decodeRequest s).bi.readData = s.bi.readData ∧ (decodeRequest s).re.device = s.re.device ∧
    (decodeRequest s).re.consumer = s.re.consumer ∧ (decodeRequest s).re.fetched = s.re.fetched ∧
    (decodeRequest s).re.record = s.re.record ∧ (decodeRequest s).re.setupRead = s.re.setupRead ∧
    (decodeRequest s).re.setup = s.re.setup ∧ (decodeRequest s).re.laneNumber = s.re.laneNumber ∧
    (decodeRequest s).re.clock = s.re.clock ∧ (decodeRequest s).re.lastCommit = s.re.lastCommit ∧
    (decodeRequest s).re.failField = s.re.failField ∧ (decodeRequest s).re.resetDue = s.re.resetDue ∧
    (decodeRequest s).re.resetting = s.re.resetting ∧ (decodeRequest s).nu.producer = s.nu.producer ∧
    (decodeRequest s).nu.reserved = s.nu.reserved ∧ (decodeRequest s).nu.attn = s.nu.attn ∧
    (decodeRequest s).su.header = s.su.header ∧ (decodeRequest s).su.lines = s.su.lines ∧
    (decodeRequest s).su.tenders = s.su.tenders ∧ (decodeRequest s).su.nextNumber = s.su.nextNumber ∧
    (decodeRequest s).su.event = s.su.event ∧ (decodeRequest s).su.claim = s.su.claim ∧
    (decodeRequest s).su.finished = s.su.finished := by
  unfold decodeRequest
  (repeat' split) <;> simp

@[simp] theorem requestFetched_keeps (s : State) :
    (requestFetched s).lu = s.lu ∧ (requestFetched s).pwu = s.pwu ∧ (requestFetched s).bwu = s.bwu ∧
    (requestFetched s).ctu = s.ctu ∧ (requestFetched s).tu = s.tu ∧ (requestFetched s).pu = s.pu ∧
    (requestFetched s).ju = s.ju ∧ (requestFetched s).mem = s.mem ∧ (requestFetched s).free = s.free ∧
    (requestFetched s).pending = s.pending := by
  unfold requestFetched
  simp

@[simp] theorem requestFetched_fields (s : State) :
    (requestFetched s).bi.laSel = s.bi.laSel ∧ (requestFetched s).bi.bagFit = s.bi.bagFit ∧
    (requestFetched s).bi.inReset = s.bi.inReset ∧ (requestFetched s).bi.reqProducer = s.bi.reqProducer ∧
    (requestFetched s).bi.evtConsumer = s.bi.evtConsumer ∧ (requestFetched s).bi.journalExport = s.bi.journalExport ∧
    (requestFetched s).bi.noticeMask = s.bi.noticeMask ∧ (requestFetched s).bi.receiptFill = s.bi.receiptFill ∧
    (requestFetched s).bi.pageTable = s.bi.pageTable ∧ (requestFetched s).bi.refusedCount = s.bi.refusedCount ∧
    (requestFetched s).bi.lastRefused = s.bi.lastRefused ∧ (requestFetched s).bi.setupSpan = s.bi.setupSpan ∧
    (requestFetched s).bi.opened = s.bi.opened ∧ (requestFetched s).bi.hostStall = s.bi.hostStall ∧
    (requestFetched s).bi.burstGranted = s.bi.burstGranted ∧ (requestFetched s).bi.burstRefused = s.bi.burstRefused ∧
    (requestFetched s).bi.waitCount = s.bi.waitCount ∧ (requestFetched s).bi.engine = s.bi.engine ∧
    (requestFetched s).bi.readData = s.bi.readData ∧ (requestFetched s).re.device = s.re.device ∧
    (requestFetched s).re.setupRead = s.re.setupRead ∧ (requestFetched s).re.setup = s.re.setup ∧
    (requestFetched s).re.laneNumber = s.re.laneNumber ∧ (requestFetched s).re.clock = s.re.clock ∧
    (requestFetched s).re.lastCommit = s.re.lastCommit ∧ (requestFetched s).re.failField = s.re.failField ∧
    (requestFetched s).re.resetDue = s.re.resetDue ∧ (requestFetched s).re.resetting = s.re.resetting ∧
    (requestFetched s).nu.producer = s.nu.producer ∧ (requestFetched s).nu.reserved = s.nu.reserved ∧
    (requestFetched s).nu.attn = s.nu.attn ∧ (requestFetched s).su.header = s.su.header ∧
    (requestFetched s).su.lines = s.su.lines ∧ (requestFetched s).su.tenders = s.su.tenders ∧
    (requestFetched s).su.nextNumber = s.su.nextNumber ∧ (requestFetched s).su.event = s.su.event ∧
    (requestFetched s).su.claim = s.su.claim ∧ (requestFetched s).su.finished = s.su.finished := by
  unfold requestFetched
  simp

@[simp] theorem beginCommit_keeps (s : State) :
    (beginCommit s).lu = s.lu ∧ (beginCommit s).pwu = s.pwu ∧ (beginCommit s).bwu = s.bwu ∧
    (beginCommit s).ctu = s.ctu ∧ (beginCommit s).tu = s.tu ∧ (beginCommit s).pu = s.pu ∧ (beginCommit s).ju = s.ju ∧
    (beginCommit s).mem = s.mem ∧ (beginCommit s).free = s.free ∧ (beginCommit s).pending = s.pending := by
  unfold beginCommit
  (repeat' split) <;> simp

/-- Only the engine's queue grows (R15, R18). -/
@[simp] theorem takeJournal_queues (s : State) (c : Setup) :
    takeJournal s c = s.setBi { s.bi with engine := s.bi.engine ++ [.journalWrite c.head c.exported] } := rfl

@[simp] theorem takeSetup_keeps (s : State) (c : Setup) :
    (takeSetup s c).bi = s.bi ∧ (takeSetup s c).nu = s.nu ∧ (takeSetup s c).lu = s.lu ∧ (takeSetup s c).pwu = s.pwu ∧
    (takeSetup s c).bwu = s.bwu ∧ (takeSetup s c).su = s.su ∧ (takeSetup s c).ctu = s.ctu ∧
    (takeSetup s c).tu = s.tu ∧ (takeSetup s c).pu = s.pu ∧ (takeSetup s c).ju = s.ju ∧ (takeSetup s c).mem = s.mem ∧
    (takeSetup s c).free = s.free ∧ (takeSetup s c).pending = s.pending := by
  unfold takeSetup
  simp

@[simp] theorem initSale_keeps (s : State) (c : Setup) :
    (initSale s c).re = s.re ∧ (initSale s c).nu = s.nu ∧ (initSale s c).lu = s.lu ∧ (initSale s c).pwu = s.pwu ∧
    (initSale s c).bwu = s.bwu ∧ (initSale s c).ctu = s.ctu ∧ (initSale s c).tu = s.tu ∧ (initSale s c).pu = s.pu ∧
    (initSale s c).ju = s.ju ∧ (initSale s c).mem = s.mem ∧ (initSale s c).free = s.free ∧
    (initSale s c).pending = s.pending := by
  unfold initSale
  dsimp only
  simp

@[simp] theorem initPlatter_keeps (s : State) :
    (initPlatter s).re = s.re ∧ (initPlatter s).nu = s.nu ∧ (initPlatter s).lu = s.lu ∧ (initPlatter s).bwu = s.bwu ∧
    (initPlatter s).su = s.su ∧ (initPlatter s).ctu = s.ctu ∧ (initPlatter s).tu = s.tu ∧ (initPlatter s).pu = s.pu ∧
    (initPlatter s).ju = s.ju ∧ (initPlatter s).mem = s.mem ∧ (initPlatter s).free = s.free ∧
    (initPlatter s).pending = s.pending := by
  unfold initPlatter
  simp

@[simp] theorem initBag_keeps (s : State) :
    (initBag s).re = s.re ∧ (initBag s).nu = s.nu ∧ (initBag s).lu = s.lu ∧ (initBag s).pwu = s.pwu ∧
    (initBag s).su = s.su ∧ (initBag s).ctu = s.ctu ∧ (initBag s).tu = s.tu ∧ (initBag s).pu = s.pu ∧
    (initBag s).ju = s.ju ∧ (initBag s).mem = s.mem ∧ (initBag s).free = s.free ∧ (initBag s).pending = s.pending := by
  unfold initBag
  simp

@[simp] theorem initCard_keeps (s : State) :
    (initCard s).re = s.re ∧ (initCard s).nu = s.nu ∧ (initCard s).lu = s.lu ∧ (initCard s).pwu = s.pwu ∧
    (initCard s).bwu = s.bwu ∧ (initCard s).su = s.su ∧ (initCard s).tu = s.tu ∧ (initCard s).pu = s.pu ∧
    (initCard s).ju = s.ju ∧ (initCard s).mem = s.mem ∧ (initCard s).pending = s.pending := by
  unfold initCard
  simp

@[simp] theorem initTill_keeps (s : State) :
    (initTill s).re = s.re ∧ (initTill s).nu = s.nu ∧ (initTill s).lu = s.lu ∧ (initTill s).pwu = s.pwu ∧
    (initTill s).bwu = s.bwu ∧ (initTill s).su = s.su ∧ (initTill s).ctu = s.ctu ∧ (initTill s).pu = s.pu ∧
    (initTill s).ju = s.ju ∧ (initTill s).mem = s.mem ∧ (initTill s).free = s.free ∧ (initTill s).pending = s.pending := by
  unfold initTill
  (repeat' split) <;> simp

@[simp] theorem initPrinter_keeps (s : State) :
    (initPrinter s).re = s.re ∧ (initPrinter s).nu = s.nu ∧ (initPrinter s).lu = s.lu ∧ (initPrinter s).pwu = s.pwu ∧
    (initPrinter s).bwu = s.bwu ∧ (initPrinter s).su = s.su ∧ (initPrinter s).ctu = s.ctu ∧
    (initPrinter s).tu = s.tu ∧ (initPrinter s).ju = s.ju ∧ (initPrinter s).mem = s.mem ∧
    (initPrinter s).free = s.free ∧ (initPrinter s).pending = s.pending := by
  unfold initPrinter
  simp

@[simp] theorem initLinks_keeps (s : State) :
    (initLinks s).re = s.re ∧ (initLinks s).pwu = s.pwu ∧ (initLinks s).bwu = s.bwu ∧ (initLinks s).ctu = s.ctu ∧
    (initLinks s).tu = s.tu ∧ (initLinks s).pu = s.pu ∧ (initLinks s).ju = s.ju ∧ (initLinks s).mem = s.mem ∧
    (initLinks s).free = s.free ∧ (initLinks s).pending = s.pending := by
  unfold initLinks
  (repeat' split) <;> simp

@[simp] theorem markCommit_keeps (s : State) (start : Nat) :
    (markCommit s start).re = s.re ∧ (markCommit s start).nu = s.nu ∧ (markCommit s start).lu = s.lu ∧
    (markCommit s start).pwu = s.pwu ∧ (markCommit s start).bwu = s.bwu ∧ (markCommit s start).su = s.su ∧
    (markCommit s start).ctu = s.ctu ∧ (markCommit s start).tu = s.tu ∧ (markCommit s start).pu = s.pu ∧
    (markCommit s start).ju = s.ju ∧ (markCommit s start).mem = s.mem ∧ (markCommit s start).free = s.free ∧
    (markCommit s start).pending = s.pending := by
  unfold markCommit
  (repeat' split) <;> simp

@[simp] theorem applyFirst_keeps (s : State) (c : Setup) :
    (applyFirst s c).pending = s.pending := by
  unfold applyFirst
  dsimp only
  simp

@[simp] theorem relink_keeps (old : Setup) (s : State) (l : LinkId) :
    (relink old s l).re = s.re ∧ (relink old s l).pwu = s.pwu ∧ (relink old s l).bwu = s.bwu ∧
    (relink old s l).ctu = s.ctu ∧ (relink old s l).tu = s.tu ∧ (relink old s l).pu = s.pu ∧
    (relink old s l).ju = s.ju ∧ (relink old s l).mem = s.mem ∧ (relink old s l).free = s.free ∧
    (relink old s l).pending = s.pending := by
  unfold relink
  (repeat' split) <;> simp

@[simp] theorem recommitPlatter_keeps (old s : State) :
    (recommitPlatter old s).re = s.re ∧ (recommitPlatter old s).lu = s.lu ∧ (recommitPlatter old s).bwu = s.bwu ∧
    (recommitPlatter old s).ctu = s.ctu ∧ (recommitPlatter old s).tu = s.tu ∧ (recommitPlatter old s).pu = s.pu ∧
    (recommitPlatter old s).ju = s.ju ∧ (recommitPlatter old s).mem = s.mem ∧ (recommitPlatter old s).free = s.free ∧
    (recommitPlatter old s).pending = s.pending := by
  unfold recommitPlatter
  dsimp only
  (repeat' split) <;> simp

@[simp] theorem applyRecommit_keeps (s : State) (c : Setup) (journal : Bool) :
    (applyRecommit s c journal).ctu = s.ctu ∧ (applyRecommit s c journal).tu = s.tu ∧
    (applyRecommit s c journal).pu = s.pu ∧ (applyRecommit s c journal).free = s.free ∧
    (applyRecommit s c journal).pending = s.pending := by
  unfold applyRecommit
  dsimp only
  (repeat' split) <;> simp

@[simp] theorem decideCommit_keeps (s : State) :
    (decideCommit s).pending = s.pending := by
  unfold decideCommit
  dsimp only
  (repeat' split) <;> simp

@[simp] theorem setupCommit_keeps (s : State) :
    (setupCommit s).pending = s.pending := by
  unfold setupCommit
  (repeat' split) <;> simp

@[simp] theorem laneReset_keeps (s : State) :
    (laneReset s).lu = s.lu ∧ (laneReset s).pwu = s.pwu ∧ (laneReset s).bwu = s.bwu ∧ (laneReset s).ctu = s.ctu ∧
    (laneReset s).tu = s.tu ∧ (laneReset s).pu = s.pu ∧ (laneReset s).ju = s.ju ∧ (laneReset s).mem = s.mem ∧
    (laneReset s).free = s.free ∧ (laneReset s).pending = s.pending := by
  unfold laneReset
  (repeat' split) <;> simp

@[simp] theorem recordWritten_keeps (s : State) (o : OpenWindow) (reserved : Nat) :
    (recordWritten s o reserved).re = s.re ∧ (recordWritten s o reserved).lu = s.lu ∧
    (recordWritten s o reserved).pwu = s.pwu ∧ (recordWritten s o reserved).bwu = s.bwu ∧
    (recordWritten s o reserved).su = s.su ∧ (recordWritten s o reserved).ctu = s.ctu ∧
    (recordWritten s o reserved).tu = s.tu ∧ (recordWritten s o reserved).pu = s.pu ∧
    (recordWritten s o reserved).ju = s.ju ∧ (recordWritten s o reserved).mem = s.mem ∧
    (recordWritten s o reserved).free = s.free ∧ (recordWritten s o reserved).pending = s.pending := by
  unfold recordWritten
  dsimp only
  simp

@[simp] theorem recordWritten_fields (s : State) (o : OpenWindow) (reserved : Nat) :
    (recordWritten s o reserved).bi.laSel = s.bi.laSel ∧ (recordWritten s o reserved).bi.bagFit = s.bi.bagFit ∧
    (recordWritten s o reserved).bi.inReset = s.bi.inReset ∧
    (recordWritten s o reserved).bi.reqProducer = s.bi.reqProducer ∧
    (recordWritten s o reserved).bi.evtConsumer = s.bi.evtConsumer ∧
    (recordWritten s o reserved).bi.journalExport = s.bi.journalExport ∧
    (recordWritten s o reserved).bi.noticeMask = s.bi.noticeMask ∧
    (recordWritten s o reserved).bi.receiptFill = s.bi.receiptFill ∧
    (recordWritten s o reserved).bi.pageTable = s.bi.pageTable ∧
    (recordWritten s o reserved).bi.refusedCount = s.bi.refusedCount ∧
    (recordWritten s o reserved).bi.lastRefused = s.bi.lastRefused ∧
    (recordWritten s o reserved).bi.setupSpan = s.bi.setupSpan ∧
    (recordWritten s o reserved).bi.waiting = s.bi.waiting ∧
    (recordWritten s o reserved).bi.nextWindow = s.bi.nextWindow ∧
    (recordWritten s o reserved).bi.nextGroup = s.bi.nextGroup ∧
    (recordWritten s o reserved).bi.burstGranted = s.bi.burstGranted ∧
    (recordWritten s o reserved).bi.burstRefused = s.bi.burstRefused ∧
    (recordWritten s o reserved).bi.engine = s.bi.engine ∧ (recordWritten s o reserved).nu.latches = s.nu.latches ∧
    (recordWritten s o reserved).nu.owed = s.nu.owed := by
  unfold recordWritten
  dsimp only
  simp

@[simp] theorem leaveCompleting_keeps (s : State) :
    (leaveCompleting s).bi = s.bi ∧ (leaveCompleting s).nu = s.nu ∧ (leaveCompleting s).lu = s.lu ∧
    (leaveCompleting s).pwu = s.pwu ∧ (leaveCompleting s).bwu = s.bwu ∧ (leaveCompleting s).su = s.su ∧
    (leaveCompleting s).ctu = s.ctu ∧ (leaveCompleting s).tu = s.tu ∧ (leaveCompleting s).pu = s.pu ∧
    (leaveCompleting s).ju = s.ju ∧ (leaveCompleting s).mem = s.mem ∧ (leaveCompleting s).free = s.free ∧
    (leaveCompleting s).pending = s.pending := by
  unfold leaveCompleting
  simp

@[simp] theorem afterCompletion_keeps (s : State) (askFirst : Bool) :
    (afterCompletion s askFirst).lu = s.lu ∧ (afterCompletion s askFirst).pwu = s.pwu ∧
    (afterCompletion s askFirst).bwu = s.bwu ∧ (afterCompletion s askFirst).ctu = s.ctu ∧
    (afterCompletion s askFirst).tu = s.tu ∧ (afterCompletion s askFirst).pu = s.pu ∧
    (afterCompletion s askFirst).ju = s.ju ∧ (afterCompletion s askFirst).mem = s.mem ∧
    (afterCompletion s askFirst).free = s.free ∧ (afterCompletion s askFirst).pending = s.pending := by
  unfold afterCompletion
  (repeat' split) <;> simp

@[simp] theorem afterCompletion_fields (s : State) (askFirst : Bool) :
    (afterCompletion s askFirst).bi.laSel = s.bi.laSel ∧ (afterCompletion s askFirst).bi.bagFit = s.bi.bagFit ∧
    (afterCompletion s askFirst).bi.inReset = s.bi.inReset ∧
    (afterCompletion s askFirst).bi.reqProducer = s.bi.reqProducer ∧
    (afterCompletion s askFirst).bi.evtConsumer = s.bi.evtConsumer ∧
    (afterCompletion s askFirst).bi.journalExport = s.bi.journalExport ∧
    (afterCompletion s askFirst).bi.noticeMask = s.bi.noticeMask ∧
    (afterCompletion s askFirst).bi.receiptFill = s.bi.receiptFill ∧
    (afterCompletion s askFirst).bi.pageTable = s.bi.pageTable ∧
    (afterCompletion s askFirst).bi.refusedCount = s.bi.refusedCount ∧
    (afterCompletion s askFirst).bi.lastRefused = s.bi.lastRefused ∧
    (afterCompletion s askFirst).bi.setupSpan = s.bi.setupSpan ∧
    (afterCompletion s askFirst).bi.opened = s.bi.opened ∧
    (afterCompletion s askFirst).bi.hostStall = s.bi.hostStall ∧
    (afterCompletion s askFirst).bi.burstGranted = s.bi.burstGranted ∧
    (afterCompletion s askFirst).bi.burstRefused = s.bi.burstRefused ∧
    (afterCompletion s askFirst).bi.waitCount = s.bi.waitCount ∧
    (afterCompletion s askFirst).bi.readData = s.bi.readData ∧ (afterCompletion s askFirst).re.device = s.re.device ∧
    (afterCompletion s askFirst).re.consumer = s.re.consumer ∧ (afterCompletion s askFirst).re.record = s.re.record ∧
    (afterCompletion s askFirst).re.outcome = s.re.outcome ∧
    (afterCompletion s askFirst).re.statusDue = s.re.statusDue ∧
    (afterCompletion s askFirst).re.setupRead = s.re.setupRead ∧ (afterCompletion s askFirst).re.setup = s.re.setup ∧
    (afterCompletion s askFirst).re.laneNumber = s.re.laneNumber ∧
    (afterCompletion s askFirst).re.clock = s.re.clock ∧
    (afterCompletion s askFirst).re.lastCommit = s.re.lastCommit ∧
    (afterCompletion s askFirst).re.failField = s.re.failField ∧
    (afterCompletion s askFirst).re.resetDue = s.re.resetDue ∧
    (afterCompletion s askFirst).re.resetting = s.re.resetting ∧
    (afterCompletion s askFirst).nu.producer = s.nu.producer ∧ (afterCompletion s askFirst).nu.attn = s.nu.attn ∧
    (afterCompletion s askFirst).su.header = s.su.header ∧ (afterCompletion s askFirst).su.lines = s.su.lines ∧
    (afterCompletion s askFirst).su.tenders = s.su.tenders ∧
    (afterCompletion s askFirst).su.nextNumber = s.su.nextNumber ∧
    (afterCompletion s askFirst).su.event = s.su.event ∧ (afterCompletion s askFirst).su.claim = s.su.claim ∧
    (afterCompletion s askFirst).su.finished = s.su.finished := by
  unfold afterCompletion
  (repeat' split) <;> simp

@[simp] theorem afterLaneReset_keeps (s : State) (askFirst : Bool) :
    (afterLaneReset s askFirst).mem = s.mem ∧ (afterLaneReset s askFirst).pending = s.pending := by
  unfold afterLaneReset
  (repeat' split) <;> simp

@[simp] theorem completionWritten_keeps (s : State) (o : OpenWindow) (askFirst : Bool) :
    (completionWritten s o askFirst).mem = s.mem ∧ (completionWritten s o askFirst).pending = s.pending := by
  unfold completionWritten
  dsimp only
  (repeat' split) <;> simp

@[simp] theorem takeAsk_keeps (s : State) (b : BlockId) :
    (takeAsk s b).bi = s.bi ∧ (takeAsk s b).re = s.re ∧ (takeAsk s b).nu = s.nu ∧ (takeAsk s b).lu = s.lu ∧
    (takeAsk s b).pwu = s.pwu ∧ (takeAsk s b).bwu = s.bwu ∧ (takeAsk s b).ctu = s.ctu ∧ (takeAsk s b).tu = s.tu ∧
    (takeAsk s b).pu = s.pu ∧ (takeAsk s b).ju = s.ju ∧ (takeAsk s b).mem = s.mem ∧ (takeAsk s b).free = s.free ∧
    (takeAsk s b).pending = s.pending := by
  unfold takeAsk
  (repeat' split) <;> simp

@[simp] theorem answered_keeps (s : State) (kind : CondKind) (count : Nat) (stamp : Word) (source : Nat) (rest : List BlockId) (payload : List Byte) :
    (answered s kind count stamp source rest payload).re = s.re ∧
    (answered s kind count stamp source rest payload).lu = s.lu ∧
    (answered s kind count stamp source rest payload).pwu = s.pwu ∧
    (answered s kind count stamp source rest payload).bwu = s.bwu ∧
    (answered s kind count stamp source rest payload).su = s.su ∧
    (answered s kind count stamp source rest payload).ctu = s.ctu ∧
    (answered s kind count stamp source rest payload).tu = s.tu ∧
    (answered s kind count stamp source rest payload).pu = s.pu ∧
    (answered s kind count stamp source rest payload).ju = s.ju ∧
    (answered s kind count stamp source rest payload).mem = s.mem ∧
    (answered s kind count stamp source rest payload).free = s.free ∧
    (answered s kind count stamp source rest payload).pending = s.pending := by
  unfold answered
  (repeat' split) <;> simp

@[simp] theorem answered_fields (s : State) (kind : CondKind) (count : Nat) (stamp : Word) (source : Nat) (rest : List BlockId) (payload : List Byte) :
    (answered s kind count stamp source rest payload).bi.laSel = s.bi.laSel ∧
    (answered s kind count stamp source rest payload).bi.bagFit = s.bi.bagFit ∧
    (answered s kind count stamp source rest payload).bi.inReset = s.bi.inReset ∧
    (answered s kind count stamp source rest payload).bi.reqProducer = s.bi.reqProducer ∧
    (answered s kind count stamp source rest payload).bi.evtConsumer = s.bi.evtConsumer ∧
    (answered s kind count stamp source rest payload).bi.journalExport = s.bi.journalExport ∧
    (answered s kind count stamp source rest payload).bi.noticeMask = s.bi.noticeMask ∧
    (answered s kind count stamp source rest payload).bi.receiptFill = s.bi.receiptFill ∧
    (answered s kind count stamp source rest payload).bi.pageTable = s.bi.pageTable ∧
    (answered s kind count stamp source rest payload).bi.refusedCount = s.bi.refusedCount ∧
    (answered s kind count stamp source rest payload).bi.lastRefused = s.bi.lastRefused ∧
    (answered s kind count stamp source rest payload).bi.setupSpan = s.bi.setupSpan ∧
    (answered s kind count stamp source rest payload).bi.opened = s.bi.opened ∧
    (answered s kind count stamp source rest payload).bi.hostStall = s.bi.hostStall ∧
    (answered s kind count stamp source rest payload).bi.burstGranted = s.bi.burstGranted ∧
    (answered s kind count stamp source rest payload).bi.burstRefused = s.bi.burstRefused ∧
    (answered s kind count stamp source rest payload).bi.waitCount = s.bi.waitCount ∧
    (answered s kind count stamp source rest payload).bi.engine = s.bi.engine ∧
    (answered s kind count stamp source rest payload).bi.readData = s.bi.readData ∧
    (answered s kind count stamp source rest payload).nu.producer = s.nu.producer ∧
    (answered s kind count stamp source rest payload).nu.reserved = s.nu.reserved ∧
    (answered s kind count stamp source rest payload).nu.latches = s.nu.latches ∧
    (answered s kind count stamp source rest payload).nu.attn = s.nu.attn ∧
    (answered s kind count stamp source rest payload).nu.owed = s.nu.owed := by
  unfold answered
  (repeat' split) <;> simp

@[simp] theorem conditionWritten_keeps (s : State) (o : OpenWindow) :
    (conditionWritten s o).re = s.re ∧ (conditionWritten s o).lu = s.lu ∧ (conditionWritten s o).pwu = s.pwu ∧
    (conditionWritten s o).bwu = s.bwu ∧ (conditionWritten s o).ctu = s.ctu ∧ (conditionWritten s o).tu = s.tu ∧
    (conditionWritten s o).pu = s.pu ∧ (conditionWritten s o).ju = s.ju ∧ (conditionWritten s o).mem = s.mem ∧
    (conditionWritten s o).free = s.free ∧ (conditionWritten s o).pending = s.pending := by
  unfold conditionWritten
  simp

end Sys2Proof.Machine
end

