-- ==== Sys2Proof/Laws/Fields.lean ====
section
/-! SUPPORT. The fields of the records and frames the part reads, as numbers of their bytes (R175), and the lines a bag claim
names, one after another (R96). -/

namespace Sys2Proof.Machine

/-! ### Records of words -/

theorem recByte_toNat (r : List Word) (k : Nat) : (recByte r k).toNat = recordByte r k := by
  unfold recByte recordByte byteOfWord
  simp [BitVec.extractLsb'_toNat]

theorem recHalf_toNat (r : List Word) (k : Nat) : (recHalf r k).toNat = recordField r k 2 := by
  unfold recHalf
  rw [BitVec.toNat_append, ← Nat.shiftLeft_add_eq_or_of_lt (recByte r k).isLt, Nat.shiftLeft_eq]
  simp only [recordField, ← recByte_toNat]
  omega

/-- A word is its four bytes. -/
theorem word_toNat_bytes (w : Word) : w.toNat = (w >>> 0).toNat % 256 + 256 * ((w >>> 8).toNat % 256
    + 256 * ((w >>> 16).toNat % 256 + 256 * ((w >>> 24).toNat % 256))) := by
  have h := w.isLt
  simp only [BitVec.toNat_ushiftRight, Nat.shiftRight_eq_div_pow]
  omega

/-- A field of four bytes that lies on a word. -/
theorem recWord_toNat (r : List Word) (k : Nat) (h : k % 4 = 0) : (recWord r k).toNat = recordField r k 4 := by
  unfold recWord
  rw [word_toNat_bytes]
  have h1 : (k + 1) / 4 = k / 4 := by omega
  have h2 : (k + 1 + 1) / 4 = k / 4 := by omega
  have h3 : (k + 1 + 1 + 1) / 4 = k / 4 := by omega
  have a1 : (k + 1) % 4 = 1 := by omega
  have a2 : (k + 1 + 1) % 4 = 2 := by omega
  have a3 : (k + 1 + 1 + 1) % 4 = 3 := by omega
  simp only [recordField, recordByte, h1, h2, h3, a1, a2, a3, h, Nat.mul_zero, Nat.mul_one, Nat.add_zero, Nat.reduceMul]

/-! ### Payloads -/

theorem payHalf_toNat (p : List Byte) (k : Nat) : (payHalf p k).toNat = payloadField p k 2 := by
  unfold payHalf payByte
  have a := (p.getD k 0).isLt
  rw [BitVec.toNat_append, ← Nat.shiftLeft_add_eq_or_of_lt a, Nat.shiftLeft_eq]
  simp only [payloadField]
  omega

theorem payWord_toNat (p : List Byte) (k : Nat) : (payWord p k).toNat = payloadField p k 4 := by
  have a := (p.getD k 0).isLt
  have b := (p.getD (k + 1) 0).isLt
  have c := (p.getD (k + 2) 0).isLt
  unfold payWord payByte wordOfBytes
  rw [BitVec.toNat_append, ← Nat.shiftLeft_add_eq_or_of_lt a, BitVec.toNat_append, ← Nat.shiftLeft_add_eq_or_of_lt b,
    BitVec.toNat_append, ← Nat.shiftLeft_add_eq_or_of_lt c, Nat.shiftLeft_eq, Nat.shiftLeft_eq, Nat.shiftLeft_eq]
  simp only [payloadField, Nat.add_assoc, Nat.reduceAdd]
  omega

/-! ### Label text -/

/-- The bytes of a label are text, then zero bytes. -/
theorem labelTail_iff (l : List Byte) : labelTail l = true ↔ ∃ (text : List Byte) (n : Nat),
    l = text ++ List.replicate n 0 ∧ ∀ b ∈ text, 0x20 ≤ b.toNat ∧ b.toNat ≤ 0x7E := by
  induction l with
  | nil => simp [labelTail]
  | cons b rest ih =>
    unfold labelTail
    split
    · next hb =>
      subst hb
      constructor
      · intro h
        simp only [List.all_eq_true] at h
        refine ⟨[], rest.length + 1, ?_, by simp⟩
        simp only [List.nil_append, List.replicate_succ, List.cons.injEq, true_and]
        exact List.eq_replicate_iff.mpr ⟨rfl, fun x hx => by simpa using h x hx⟩
      · rintro ⟨text, n, h, ht⟩
        cases text with
        | nil =>
          cases n with
          | zero => simp at h
          | succ n => simp [List.replicate_succ] at h; subst h; simp
        | cons t text => simp at h; have := ht t (by simp); rw [← h.1] at this; simp at this
    · next hb =>
      simp only [Bool.and_eq_true, decide_eq_true_eq, ih]
      constructor
      · rintro ⟨⟨h1, h2⟩, text, n, rfl, ht⟩
        exact ⟨b :: text, n, by simp, by simpa using ⟨⟨h1, h2⟩, ht⟩⟩
      · rintro ⟨text, n, h, ht⟩
        cases text with
        | nil =>
          cases n with
          | zero => simp at h
          | succ n => simp [List.replicate_succ] at h; exact absurd h.1 hb
        | cons t text =>
          simp at h
          obtain ⟨rfl, rfl⟩ := h
          exact ⟨ht _ (by simp), text, n, rfl, fun x hx => ht x (by simp [hx])⟩

/-! ### The lines a claim names -/

/-- The named lines move one after another. -/
theorem moveNamed_cons (lines : List SaleLine) (n : NamedLine) (named : List NamedLine) (item : BagStatus) :
    moveNamed lines (n :: named) item = moveNamed (moveNamed lines [n] item) named item := rfl

theorem moveNamed_nil (lines : List SaleLine) (item : BagStatus) : moveNamed lines [] item = lines := rfl

theorem moveNamed_length (lines : List SaleLine) (named : List NamedLine) (item : BagStatus) :
    (moveNamed lines named item).length = lines.length := by
  induction named generalizing lines with
  | nil => rfl
  | cons n named ih =>
    rw [moveNamed_cons, ih]
    simp only [moveNamed, List.foldl_cons, List.foldl_nil]
    split
    · split <;> simp
    · rfl

/-- A line another claim names stays. -/
theorem moveNamed_other (lines : List SaleLine) (n : NamedLine) (item : BagStatus) (k : Nat) (h : n.line ≠ k + 1) :
    (moveNamed lines [n] item)[k]? = lines[k]? := by
  simp only [moveNamed, List.foldl_cons, List.foldl_nil]
  split
  · split
    · rfl
    · exact List.getElem?_set_ne (by omega)
  · rfl

/-- A data bit meets the register as R56 says. -/
theorem crcBit_eq (r : Half) (d : Bool) : crcBit r d = if r.getLsbD 15 = d then r <<< 1 else r <<< 1 ^^^ 0x1021 := by
  unfold crcBit; cases d <;> cases h : r.getLsbD 15 <;> simp 

/-- The machine's check value is R56's. -/
theorem crc16_checkRule (bs : List Byte) : crc16 bs = checkRule bs := by
  unfold crc16 checkRule
  generalize (0xFFFF : Half) = r
  induction bs generalizing r with
  | nil => rfl
  | cons b rest ih =>
    rw [List.foldl_cons, List.flatMap_cons, List.foldl_append, ih]
    congr 1
    simp only [crcByte, crcBit_eq, List.map_cons, List.map_nil, List.foldl_cons, List.foldl_nil]

end Sys2Proof.Machine
end

