-- ==== Sys2Proof/Laws/Frames.lean ====
section
/-! SUPPORT. For each operation that leaves memory alone: applied to a state reached within a frame, it stays within the
frame, given that the blocks it changes as a whole belong to it. A frame is closed off by applying these from the last
operation to the first. -/

namespace Sys2Proof.Machine

/-! ### The ground: no change, and the setters -/

theorem eventFrame.refl (bs : List BlockId) (s : State) : eventFrame bs s s := by
  constructor <;> first | exact fun _ => rfl | rfl | exact .inr rfl

theorem eventFrame_setFree {bs : List BlockId} {z s : State} {x : Nat} (h : eventFrame bs z s) :
    eventFrame bs z (s.setFree x) := { h with }

/-- The record of arrivals is no part of a frame. -/
theorem arrivals_frame {bs : List BlockId} {z s : State} {x : List Arrival} (h : eventFrame bs z s) :
    eventFrame bs z (s.setArrivals x) := { h with }
theorem arriveAll_frame {bs : List BlockId} {z : State} (s : State) (es : List (BlockId × UnitEvent)) (h : eventFrame bs z s) :
    eventFrame bs z (arriveAll s es) := arrivals_frame h
theorem arrive_frame {bs : List BlockId} {z : State} (s : State) (b : BlockId) (e : UnitEvent) (h : eventFrame bs z s) :
    eventFrame bs z (arrive s b e) := arrivals_frame h
theorem arriveAgain_frame {bs : List BlockId} {z : State} (s : State) (l : LinkId) (kept : List Bool) (h : eventFrame bs z s) :
    eventFrame bs z (arriveAgain s l kept) := arrivals_frame h
theorem forgetPath_frame {bs : List BlockId} {z : State} (s : State) (l : LinkId) (kept : List Bool) (h : eventFrame bs z s) :
    eventFrame bs z (forgetPath s l kept) := arrivals_frame h

theorem eventFrame_setBi {bs : List BlockId} {z s : State} {x : Bi} (h : eventFrame bs z s) (hb : .bi ∈ bs) :
    eventFrame bs z (s.setBi x) := { h with bi := .inl hb }

theorem eventFrame_setRe {bs : List BlockId} {z s : State} {x : Re} (h : eventFrame bs z s) (hb : .re ∈ bs) :
    eventFrame bs z (s.setRe x) := { h with re := .inl hb }

theorem eventFrame_setNu {bs : List BlockId} {z s : State} {x : Nu} (h : eventFrame bs z s) (hb : .nu ∈ bs) :
    eventFrame bs z (s.setNu x) := { h with nu := .inl hb }

theorem eventFrame_setLu {bs : List BlockId} {z s : State} {x : Lu} (h : eventFrame bs z s) (hb : .lu ∈ bs) :
    eventFrame bs z (s.setLu x) := { h with lu := .inl hb }

theorem eventFrame_setPwu {bs : List BlockId} {z s : State} {x : Pwu} (h : eventFrame bs z s) (hb : .pwu ∈ bs) :
    eventFrame bs z (s.setPwu x) := { h with pwu := .inl hb }

theorem eventFrame_setBwu {bs : List BlockId} {z s : State} {x : Bwu} (h : eventFrame bs z s) (hb : .bwu ∈ bs) :
    eventFrame bs z (s.setBwu x) := { h with bwu := .inl hb }

theorem eventFrame_setSu {bs : List BlockId} {z s : State} {x : Su} (h : eventFrame bs z s) (hb : .su ∈ bs) :
    eventFrame bs z (s.setSu x) := { h with su := .inl hb }

theorem eventFrame_setCtu {bs : List BlockId} {z s : State} {x : Ctu} (h : eventFrame bs z s) (hb : .ctu ∈ bs) :
    eventFrame bs z (s.setCtu x) := { h with ctu := .inl hb }

theorem eventFrame_setTu {bs : List BlockId} {z s : State} {x : Tu} (h : eventFrame bs z s) (hb : .tu ∈ bs) :
    eventFrame bs z (s.setTu x) := { h with tu := .inl hb }

theorem eventFrame_setPu {bs : List BlockId} {z s : State} {x : Pu} (h : eventFrame bs z s) (hb : .pu ∈ bs) :
    eventFrame bs z (s.setPu x) := { h with pu := .inl hb }

theorem eventFrame_setJu {bs : List BlockId} {z s : State} {x : Ju} (h : eventFrame bs z s) (hb : .ju ∈ bs) :
    eventFrame bs z (s.setJu x) := { h with ju := .inl hb }

theorem eventFrame_setLink {bs : List BlockId} {z s : State} {l : LinkId} {x : Link} (h : eventFrame bs z s)
    (hb : .lu ∈ bs) : eventFrame bs z (s.setLink l x) := { h with lu := .inl hb }

/-- Only windows are asked. -/
theorem eventFrame_asks {bs : List BlockId} {z s : State} {x : Bi} (h : eventFrame bs z s)
    (hx : x = { s.bi with waiting := x.waiting, nextWindow := x.nextWindow, nextGroup := x.nextGroup }) :
    eventFrame bs z (s.setBi x) := by
  refine { h with bi := ?_ }
  rcases h.bi with hb | hb
  · exact .inl hb
  · right
    unfold windowsAskedOnly at *
    show x = { z.bi with waiting := x.waiting, nextWindow := x.nextWindow, nextGroup := x.nextGroup }
    rw [hx, hb]

/-- Only latches and the writer's work change. -/
theorem eventFrame_notices {bs : List BlockId} {z s : State} {x : Nu} (h : eventFrame bs z s)
    (hx : x = { s.nu with latches := x.latches, writer := x.writer, owed := x.owed }) : eventFrame bs z (s.setNu x) := by
  refine { h with nu := ?_ }
  rcases h.nu with hb | hb
  · exact .inl hb
  · right
    unfold noticesOnly at *
    show x = { z.nu with latches := x.latches, writer := x.writer, owed := x.owed }
    rw [hx, hb]

/-- Only the list of waiting items changes. -/
theorem eventFrame_list {bs : List BlockId} {z s : State} {x : Su} (h : eventFrame bs z s)
    (hx : x = { s.su with inbox := x.inbox }) : eventFrame bs z (s.setSu x) := by
  refine { h with su := ?_ }
  rcases h.su with hb | hb
  · exact .inl hb
  · right
    unfold listOnly at *
    show x = { z.su with inbox := x.inbox }
    rw [hx, hb]

theorem askWindow_frame {bs : List BlockId} {z : State} (s : State) (owner : BlockId) (sections : List LaneSection)
    (fixed : List (Nat × Word)) (live : List LiveBlock) (after : List After) (ofRequest : Bool) (h : eventFrame bs z
    s) :
    eventFrame bs z (askWindow s owner sections fixed live after ofRequest) := by
  unfold askWindow
  repeat' (first | (with_reducible assumption) | (with_reducible apply eventFrame_asks) | split | rfl)

theorem askFixed_frame {bs : List BlockId} {z : State} (s : State) (owner : BlockId) (sections : List LaneSection)
    (fixed : List (Nat × Word)) (after : List After) (ofRequest : Bool) (h : eventFrame bs z s) :
    eventFrame bs z (askFixed s owner sections fixed after ofRequest) := by
  unfold askFixed
  repeat' (first | (with_reducible assumption) | (with_reducible apply askWindow_frame) | split | rfl)

theorem askLiveAfter_frame {bs : List BlockId} {z : State} (s : State) (owner : BlockId) (sections : List
    LaneSection) (live : List LiveBlock) (after : List After) (ofRequest : Bool) (h : eventFrame bs z s) :
    eventFrame bs z (askLiveAfter s owner sections live after ofRequest) := by
  unfold askLiveAfter
  repeat' (first | (with_reducible assumption) | (with_reducible apply askWindow_frame)
                 | (with_reducible apply eventFrame_asks) | split | rfl)

theorem askLive_frame {bs : List BlockId} {z : State} (s : State) (owner : BlockId) (sections : List LaneSection)
    (live : List LiveBlock) (ofRequest : Bool) (h : eventFrame bs z s) :
    eventFrame bs z (askLive s owner sections live ofRequest) := by
  unfold askLive
  repeat' (first | (with_reducible assumption) | (with_reducible apply askLiveAfter_frame) | split | rfl)

theorem freezeWaiting_frame {bs : List BlockId} {z : State} (old s : State) (owner : BlockId) (h : eventFrame bs z
    s) :
    eventFrame bs z (freezeWaiting old s owner) := by
  unfold freezeWaiting
  repeat' (first | (with_reducible assumption) | (with_reducible apply eventFrame_asks) | split | rfl)

theorem askPwuLive_frame {bs : List BlockId} {z : State} (old s : State) (sections : List LaneSection) (live : List
    LiveBlock) (after : List After) (ofRequest : Bool) (h : eventFrame bs z s) :
    eventFrame bs z (askPwuLive old s sections live after ofRequest) := by
  unfold askPwuLive
  repeat' (first | (with_reducible assumption) | (with_reducible apply askLiveAfter_frame)
                 | (with_reducible apply freezeWaiting_frame) | split | rfl)

theorem tieAsks_frame {bs : List BlockId} {z : State} (s : State) (start : Nat) (h : eventFrame bs z s) :
    eventFrame bs z (tieAsks s start) := by
  unfold tieAsks
  repeat' (first | (with_reducible assumption) | (with_reducible apply eventFrame_asks) | split | rfl)

theorem askBiStatus_frame {bs : List BlockId} {z : State} (s : State) (h : eventFrame bs z s) :
    eventFrame bs z (askBiStatus s) := by
  unfold askBiStatus
  repeat' (first | (with_reducible assumption) | (with_reducible apply askLive_frame) | split | rfl)

theorem askBwuStatus_frame {bs : List BlockId} {z : State} (s : State) (ofRequest : Bool) (h : eventFrame bs z s) :
    eventFrame bs z (askBwuStatus s ofRequest) := by
  unfold askBwuStatus
  repeat' (first | (with_reducible assumption) | (with_reducible apply askLive_frame) | split | rfl)

theorem askTuStatus_frame {bs : List BlockId} {z : State} (s : State) (ofRequest : Bool) (h : eventFrame bs z s) :
    eventFrame bs z (askTuStatus s ofRequest) := by
  unfold askTuStatus
  repeat' (first | (with_reducible assumption) | (with_reducible apply askLive_frame) | split | rfl)

theorem askLinkStatus_frame {bs : List BlockId} {z : State} (s : State) (l : LinkId) (ofRequest : Bool) (h :
    eventFrame bs z s) :
    eventFrame bs z (askLinkStatus s l ofRequest) := by
  unfold askLinkStatus
  repeat' (first | (with_reducible assumption) | (with_reducible apply askLive_frame) | split | rfl)

theorem askJuStatus_frame {bs : List BlockId} {z : State} (s : State) (ofRequest : Bool) (h : eventFrame bs z s) :
    eventFrame bs z (askJuStatus s ofRequest) := by
  unfold askJuStatus
  repeat' (first | (with_reducible assumption) | (with_reducible apply askFixed_frame) | split | rfl)

theorem askPu_frame {bs : List BlockId} {z : State} (old : Pu) (s : State) (ofRequest : Bool) (h : eventFrame bs z
    s) :
    eventFrame bs z (askPu old s ofRequest) := by
  unfold askPu
  repeat' (first | (with_reducible assumption) | (with_reducible apply askFixed_frame) | split | rfl)

theorem askReStatus_frame {bs : List BlockId} {z : State} (s : State) (ofRequest : Bool) (h : eventFrame bs z s) :
    eventFrame bs z (askReStatus s ofRequest) := by
  unfold askReStatus
  repeat' (first | (with_reducible assumption) | (with_reducible apply askFixed_frame) | split | rfl)

theorem askReConsumer_frame {bs : List BlockId} {z : State} (s : State) (h : eventFrame bs z s) :
    eventFrame bs z (askReConsumer s) := by
  unfold askReConsumer
  repeat' (first | (with_reducible assumption) | (with_reducible apply askFixed_frame) | split | rfl)

theorem askCardSession_frame {bs : List BlockId} {z : State} (s : State) (ofRequest : Bool) (h : eventFrame bs z s) :
    eventFrame bs z (askCardSession s ofRequest) := by
  unfold askCardSession
  repeat' (first | (with_reducible assumption) | (with_reducible apply askFixed_frame)
                 | (with_reducible apply eventFrame_setFree) | split | rfl)

theorem openWindow_frame {bs : List BlockId} {z : State} (s : State) (w : WindowAsk) (h : eventFrame bs z s) (hbi :
    .bi ∈ bs) :
    eventFrame bs z (openWindow s w) := by
  unfold openWindow
  repeat' (first | (with_reducible assumption) | (with_reducible apply eventFrame_setBi)
                 | (with_reducible apply eventFrame_setFree) | split | rfl)

theorem hostGrant_frame {bs : List BlockId} {z : State} (s : State) (h : eventFrame bs z s) (hbi : .bi ∈ bs) :
    eventFrame bs z (hostGrant s) := by
  unfold hostGrant
  repeat' (first | (with_reducible assumption) | (with_reducible apply eventFrame_setBi) | split | rfl)

theorem serveRead_frame {bs : List BlockId} {z : State} (s : State) (addr len : Nat) (h : eventFrame bs z s) (hbi :
    .bi ∈ bs) :
    eventFrame bs z (serveRead s addr len) := by
  unfold serveRead
  dsimp only
  repeat' (first | (with_reducible assumption) | (with_reducible apply hostGrant_frame)
                 | (with_reducible apply eventFrame_setBi) | split | rfl)

theorem releaseHeld_frame {bs : List BlockId} {z : State} (s : State) (h : eventFrame bs z s) (hbi : .bi ∈ bs) :
    eventFrame bs z (releaseHeld s) := by
  unfold releaseHeld
  repeat' (first | (with_reducible assumption) | (with_reducible apply serveRead_frame) | split | rfl)

theorem entryFetched_frame {bs : List BlockId} {z : State} (s : State) (f : SlotFetch) (e : PageEntry) (h :
    eventFrame bs z s) (hbi : .bi ∈ bs) (hpu : .pu ∈ bs) :
    eventFrame bs z (entryFetched s f e) := by
  unfold entryFetched
  repeat' (first | (with_reducible assumption) | (with_reducible apply eventFrame_setBi)
                 | (with_reducible apply eventFrame_setPu) | split | rfl)

theorem slotFetched_frame {bs : List BlockId} {z : State} (s : State) (f : SlotFetch) (ws : List Word) (h :
    eventFrame bs z s) (hpu : .pu ∈ bs) :
    eventFrame bs z (slotFetched s f ws) := by
  unfold slotFetched
  repeat' (first | (with_reducible assumption) | (with_reducible apply eventFrame_setPu) | split | rfl)

theorem askSalePayload_frame {bs : List BlockId} {z : State} (s : State) (k : CondKind) (h : eventFrame bs z s) :
    eventFrame bs z (askSalePayload s k) := by
  unfold askSalePayload
  repeat' (first | (with_reducible assumption) | (with_reducible apply eventFrame_list) | split | rfl)

theorem takeLatch_frame {bs : List BlockId} {z : State} (s : State) (i : Nat) (h : eventFrame bs z s) :
    eventFrame bs z (takeLatch s i) := by
  unfold takeLatch
  dsimp only
  repeat' (first | (with_reducible apply arriveAll_frame)
                 | (with_reducible assumption) | (with_reducible apply askSalePayload_frame)
                 | (with_reducible apply eventFrame_notices) | split | rfl)

theorem askRecord_frame {bs : List BlockId} {z : State} (s : State) (words : List Word) (h : eventFrame bs z s) :
    eventFrame bs z (askRecord s words) := by
  unfold askRecord
  repeat' (first | (with_reducible assumption) | (with_reducible apply askFixed_frame) | split | rfl)

theorem beginCompletion_frame {bs : List BlockId} {z : State} (s : State) (c : Completion) (h : eventFrame bs z s) :
    eventFrame bs z (beginCompletion s c) := by
  unfold beginCompletion
  repeat' (first | (with_reducible assumption) | (with_reducible apply askWindow_frame)
                 | (with_reducible apply eventFrame_notices) | split | rfl)

theorem look_frame {bs : List BlockId} {z : State} (s : State) (h : eventFrame bs z s) :
    eventFrame bs z (look s) := by
  unfold look
  repeat' (first | (with_reducible assumption) | (with_reducible apply takeLatch_frame)
                 | (with_reducible apply beginCompletion_frame) | split | rfl)

theorem raise_frame {bs : List BlockId} {z : State} (s : State) (k : CondKind) (source : Nat) (h : eventFrame bs z
    s) :
    eventFrame bs z (raise s k source) := by
  unfold raise
  dsimp only
  repeat' (first | (with_reducible assumption) | (with_reducible apply look_frame)
                 | (with_reducible apply eventFrame_notices) | split | rfl)

theorem updateAttn_frame {bs : List BlockId} {z : State} (s : State) (h : eventFrame bs z s) (hnu : .nu ∈ bs) :
    eventFrame bs z (updateAttn s) := by
  unfold updateAttn
  repeat' (first | (with_reducible assumption) | (with_reducible apply eventFrame_setNu) | split | rfl)

theorem grantReservation_frame {bs : List BlockId} {z : State} (s : State) (h : eventFrame bs z s) (hbi : .bi ∈ bs)
    (hre : .re ∈ bs) (hnu : .nu ∈ bs) :
    eventFrame bs z (grantReservation s) := by
  unfold grantReservation
  repeat' (first | (with_reducible assumption) | (with_reducible apply eventFrame_setBi)
                 | (with_reducible apply eventFrame_setRe) | (with_reducible apply eventFrame_setNu) | split | rfl)

theorem nextRequest_frame {bs : List BlockId} {z : State} (s : State) (h : eventFrame bs z s) (hbi : .bi ∈ bs) (hre
    : .re ∈ bs) (hnu : .nu ∈ bs) :
    eventFrame bs z (nextRequest s) := by
  unfold nextRequest
  repeat' (first | (with_reducible assumption) | (with_reducible apply grantReservation_frame)
                 | (with_reducible apply eventFrame_setRe) | split | rfl)

theorem consumerAdvance_frame {bs : List BlockId} {z : State} (s : State) (h : eventFrame bs z s) (hbi : .bi ∈ bs)
    (hre : .re ∈ bs) (hnu : .nu ∈ bs) :
    eventFrame bs z (consumerAdvance s) := by
  unfold consumerAdvance
  repeat' (first | (with_reducible assumption) | (with_reducible apply look_frame)
                 | (with_reducible apply updateAttn_frame) | (with_reducible apply grantReservation_frame)
                 | split | rfl)

theorem passCompletion_frame {bs : List BlockId} {z : State} (s : State) (o : ReqOutcome) (h : eventFrame bs z s)
    (hre : .re ∈ bs) :
    eventFrame bs z (passCompletion s o) := by
  unfold passCompletion
  repeat' (first | (with_reducible assumption) | (with_reducible apply look_frame)
                 | (with_reducible apply eventFrame_setRe) | (with_reducible apply eventFrame_notices) | split | rfl)

theorem requestProgress_frame {bs : List BlockId} {z : State} (s : State) (h : eventFrame bs z s) (hre : .re ∈ bs) :
    eventFrame bs z (requestProgress s) := by
  unfold requestProgress
  repeat' (first | (with_reducible assumption) | (with_reducible apply askReStatus_frame)
                 | (with_reducible apply passCompletion_frame) | (with_reducible apply eventFrame_setRe) | split
                 | rfl)

theorem finishRequest_frame {bs : List BlockId} {z : State} (s : State) (r : ResultCode) (d1 d2 : Word) (h :
    eventFrame bs z s) (hre : .re ∈ bs) :
    eventFrame bs z (finishRequest s r d1 d2) := by
  unfold finishRequest
  repeat' (first | (with_reducible assumption) | (with_reducible apply requestProgress_frame)
                 | (with_reducible apply eventFrame_setRe) | split | rfl)

theorem failRequest_frame {bs : List BlockId} {z : State} (s : State) (r : ResultCode) (h : eventFrame bs z s) (hre
    : .re ∈ bs) :
    eventFrame bs z (failRequest s r) := by
  unfold failRequest
  repeat' (first | (with_reducible assumption) | (with_reducible apply finishRequest_frame) | split | rfl)

theorem linkError_frame {bs : List BlockId} {z : State} (s : State) (l : LinkId) (kind : ErrorKind) (place : RxField
    × Nat) (h : eventFrame bs z s) (hlu : .lu ∈ bs) :
    eventFrame bs z (linkError s l kind place) := by
  unfold linkError
  dsimp only
  repeat' (first | (with_reducible assumption) | (with_reducible apply askLinkStatus_frame)
                 | (with_reducible apply eventFrame_setLink) | split | rfl)

theorem queueHello_frame {bs : List BlockId} {z : State} (s : State) (l : LinkId) (h : eventFrame bs z s) (hlu : .lu
    ∈ bs) :
    eventFrame bs z (queueHello s l) := by
  unfold queueHello
  dsimp only
  repeat' (first | (with_reducible assumption) | (with_reducible apply eventFrame_setLink) | split | rfl)

theorem linkSend_frame {bs : List BlockId} {z : State} (s : State) (l : LinkId) (kind : Byte) (payload : List Byte)
    (h : eventFrame bs z s) (hlu : .lu ∈ bs) :
    eventFrame bs z (linkSend s l kind payload) := by
  unfold linkSend
  repeat' (first | (with_reducible assumption) | (with_reducible apply eventFrame_setLink) | split | rfl)

theorem startSilence_frame {bs : List BlockId} {z : State} (s : State) (l : LinkId) (h : eventFrame bs z s) (hlu :
    .lu ∈ bs) :
    eventFrame bs z (startSilence s l) := by
  unfold startSilence
  repeat' (first | (with_reducible assumption) | (with_reducible apply eventFrame_setLink) | split | rfl)

theorem changeLink_frame {bs : List BlockId} {z : State} (s : State) (l : LinkId) (new : LinkState) (reason :
    LinkReason) (h : eventFrame bs z s) (hlu : .lu ∈ bs) :
    eventFrame bs z (changeLink s l new reason) := by
  unfold changeLink
  dsimp only
  repeat' (first | (with_reducible apply arrive_frame)
                 | (with_reducible assumption) | (with_reducible apply askLinkStatus_frame)
                 | (with_reducible apply raise_frame) | (with_reducible apply eventFrame_setLink) | split | rfl)

theorem enterUnseen_frame {bs : List BlockId} {z : State} (s : State) (l : LinkId) (reason : LinkReason) (h :
    eventFrame bs z s) (hlu : .lu ∈ bs) :
    eventFrame bs z (enterUnseen s l reason) := by
  unfold enterUnseen
  dsimp only
  repeat' (first | (with_reducible assumption) | (with_reducible apply queueHello_frame)
                 | (with_reducible apply startSilence_frame) | (with_reducible apply changeLink_frame)
                 | (with_reducible apply eventFrame_setLink) | split | rfl)

theorem enterDown_frame {bs : List BlockId} {z : State} (s : State) (l : LinkId) (reason : LinkReason) (h :
    eventFrame bs z s) (hlu : .lu ∈ bs) :
    eventFrame bs z (enterDown s l reason) := by
  unfold enterDown
  repeat' (first | (with_reducible assumption) | (with_reducible apply queueHello_frame)
                 | (with_reducible apply startSilence_frame) | (with_reducible apply changeLink_frame)
                 | (with_reducible apply eventFrame_setLink) | split | rfl)

theorem enterMismatch_frame {bs : List BlockId} {z : State} (s : State) (l : LinkId) (h : eventFrame bs z s) (hlu :
    .lu ∈ bs) :
    eventFrame bs z (enterMismatch s l) := by
  unfold enterMismatch
  repeat' (first | (with_reducible assumption) | (with_reducible apply changeLink_frame)
                 | (with_reducible apply eventFrame_setLink) | split | rfl)

theorem enterUp_frame {bs : List BlockId} {z : State} (s : State) (l : LinkId) (reason : LinkReason) (h : eventFrame
    bs z s) (hlu : .lu ∈ bs) :
    eventFrame bs z (enterUp s l reason) := by
  unfold enterUp
  dsimp only
  repeat' (first | (with_reducible assumption) | (with_reducible apply startSilence_frame)
                 | (with_reducible apply changeLink_frame) | split | rfl)

theorem badAttempt_frame {bs : List BlockId} {z : State} (s : State) (l : LinkId) (kind : ErrorKind) (place :
    RxField × Nat) (h : eventFrame bs z s) (hlu : .lu ∈ bs) :
    eventFrame bs z (badAttempt s l kind place) := by
  unfold badAttempt
  dsimp only
  repeat' (first | (with_reducible assumption) | (with_reducible apply linkError_frame)
                 | (with_reducible apply enterDown_frame) | (with_reducible apply eventFrame_setLink) | split | rfl)

theorem deliver_frame {bs : List BlockId} {z : State} (s : State) (l : LinkId) (kind : Byte) (payload : List Byte)
    (gap : Bool) (h : eventFrame bs z s) (hlu : .lu ∈ bs) :
    eventFrame bs z (deliver s l kind payload gap) := by
  unfold deliver
  dsimp only
  repeat' (first | (with_reducible apply arrive_frame) | (with_reducible apply arriveAgain_frame)
                 | (with_reducible assumption) | (with_reducible apply linkError_frame)
                 | (with_reducible apply eventFrame_setLink) | split | rfl)

theorem takeIdent_frame {bs : List BlockId} {z : State} (s : State) (l : LinkId) (device : Byte) (h : eventFrame bs
    z s) (hlu : .lu ∈ bs) :
    eventFrame bs z (takeIdent s l device) := by
  unfold takeIdent
  dsimp only
  repeat' (first | (with_reducible assumption) | (with_reducible apply askLinkStatus_frame)
                 | (with_reducible apply enterMismatch_frame) | (with_reducible apply enterUp_frame)
                 | (with_reducible apply eventFrame_setLink) | split | rfl)

theorem takeFrame_frame {bs : List BlockId} {z : State} (s : State) (l : LinkId) (kind : Byte) (payload : List Byte)
    (gap : Bool) (h : eventFrame bs z s) (hlu : .lu ∈ bs) :
    eventFrame bs z (takeFrame s l kind payload gap) := by
  unfold takeFrame
  dsimp only
  repeat' (first | (with_reducible assumption) | (with_reducible apply enterUp_frame)
                 | (with_reducible apply deliver_frame) | split | rfl)

theorem acceptFrame_frame {bs : List BlockId} {z : State} (s : State) (l : LinkId) (kind seq : Byte) (payload : List
    Byte) (h : eventFrame bs z s) (hlu : .lu ∈ bs) :
    eventFrame bs z (acceptFrame s l kind seq payload) := by
  unfold acceptFrame
  dsimp only
  repeat' (first | (with_reducible assumption) | (with_reducible apply askLinkStatus_frame)
                 | (with_reducible apply startSilence_frame) | (with_reducible apply takeIdent_frame)
                 | (with_reducible apply takeFrame_frame) | (with_reducible apply eventFrame_setLink) | split | rfl)

theorem scan_frame {bs : List BlockId} {z : State} (s : State) (l : LinkId) (skip : Nat) (bs' : List Byte) (h :
    eventFrame bs z s) (hlu : .lu ∈ bs) :
    eventFrame bs z (scan s l skip bs') := by
  induction bs' generalizing s skip with
  | nil => exact eventFrame_setLink h hlu
  | cons b rest ih =>
    cases skip with
    | succ k => simp only [scan]; exact ih s k h
    | zero =>
      simp only [scan]
      split
      · exact ih s 0 h
      · split
        · exact eventFrame_setLink h hlu
        · exact ih _ 0 (badAttempt_frame _ _ _ _ h hlu)
        · exact ih _ _ (acceptFrame_frame _ _ _ _ _ h hlu)

theorem popPath_frame {bs : List BlockId} {z : State} (s : State) (l : LinkId) (h : eventFrame bs z s) (hlu : .lu ∈
    bs) :
    eventFrame bs z (popPath s l) := by
  unfold popPath
  repeat' (first | (with_reducible assumption) | (with_reducible apply eventFrame_setLink) | split | rfl)

theorem askPwu_frame {bs : List BlockId} {z : State} (old s : State) (slot : Option Nat) (ofRequest : Bool) (h :
    eventFrame bs z s) :
    eventFrame bs z (askPwu old s slot ofRequest) := by
  unfold askPwu
  repeat' (first | (with_reducible assumption) | (with_reducible apply askPwuLive_frame) | split | rfl)

theorem staleCurrent_frame {bs : List BlockId} {z : State} (old s : State) (u : Pwu) (ofRequest : Bool) (h :
    eventFrame bs z s) (hpwu : .pwu ∈ bs) :
    eventFrame bs z (staleCurrent old s u ofRequest) := by
  unfold staleCurrent
  repeat' (first | (with_reducible assumption) | (with_reducible apply raise_frame)
                 | (with_reducible apply askPwu_frame) | (with_reducible apply eventFrame_setPwu) | split | rfl)

theorem offsetChanged_frame {bs : List BlockId} {z : State} (s : State) (u : Pwu) (ofRequest : Bool) (h : eventFrame
    bs z s) (hpwu : .pwu ∈ bs) :
    eventFrame bs z (offsetChanged s u ofRequest) := by
  unfold offsetChanged
  dsimp only
  repeat' (first | (with_reducible assumption) | (with_reducible apply staleCurrent_frame)
                 | (with_reducible apply eventFrame_setPwu) | split | rfl)

theorem platterSample_frame {bs : List BlockId} {z : State} (s : State) (payload : List Byte) (gap : Bool) (h :
    eventFrame bs z s) (hlu : .lu ∈ bs) (hpwu : .pwu ∈ bs) :
    eventFrame bs z (platterSample s payload gap) := by
  unfold platterSample
  dsimp only
  repeat' (first | (with_reducible assumption) | (with_reducible apply raise_frame)
                 | (with_reducible apply popPath_frame) | (with_reducible apply askPwu_frame)
                 | (with_reducible apply eventFrame_setPwu) | split | rfl)

theorem platterLinkChange_frame {bs : List BlockId} {z : State} (s : State) (old new : LinkState) (h : eventFrame bs
    z s) (hlu : .lu ∈ bs) (hpwu : .pwu ∈ bs) :
    eventFrame bs z (platterLinkChange s old new) := by
  unfold platterLinkChange
  dsimp only
  repeat' (first | (with_reducible assumption) | (with_reducible apply popPath_frame)
                 | (with_reducible apply askPwu_frame) | (with_reducible apply staleCurrent_frame)
                 | (with_reducible apply eventFrame_setPwu) | split | rfl)

theorem zeroTracked_frame {bs : List BlockId} {z : State} (s : State) (h : eventFrame bs z s) (hpwu : .pwu ∈ bs) :
    eventFrame bs z (zeroTracked s) := by
  unfold zeroTracked
  dsimp only
  repeat' (first | (with_reducible assumption) | (with_reducible apply askPwu_frame)
                 | (with_reducible apply eventFrame_setPwu) | split | rfl)

theorem scaleZero_frame {bs : List BlockId} {z : State} (s : State) (h : eventFrame bs z s) (hre : .re ∈ bs) (hpwu :
    .pwu ∈ bs) :
    eventFrame bs z (scaleZero s) := by
  unfold scaleZero
  repeat' (first | (with_reducible assumption) | (with_reducible apply finishRequest_frame)
                 | (with_reducible apply failRequest_frame) | (with_reducible apply offsetChanged_frame) | split
                 | rfl)

theorem setTare_frame {bs : List BlockId} {z : State} (s : State) (tare : Int) (h : eventFrame bs z s) (hre : .re ∈
    bs) (hpwu : .pwu ∈ bs) :
    eventFrame bs z (setTare s tare) := by
  unfold setTare
  repeat' (first | (with_reducible assumption) | (with_reducible apply finishRequest_frame)
                 | (with_reducible apply askPwu_frame) | (with_reducible apply offsetChanged_frame) | split | rfl)

theorem scaleTare_frame {bs : List BlockId} {z : State} (s : State) (h : eventFrame bs z s) (hre : .re ∈ bs) (hpwu :
    .pwu ∈ bs) :
    eventFrame bs z (scaleTare s) := by
  unfold scaleTare
  dsimp only
  repeat' (first | (with_reducible assumption) | (with_reducible apply failRequest_frame)
                 | (with_reducible apply setTare_frame) | split | rfl)

theorem tareClear_frame {bs : List BlockId} {z : State} (s : State) (h : eventFrame bs z s) (hre : .re ∈ bs) (hpwu :
    .pwu ∈ bs) :
    eventFrame bs z (tareClear s) := by
  unfold tareClear
  repeat' (first | (with_reducible assumption) | (with_reducible apply finishRequest_frame)
                 | (with_reducible apply failRequest_frame) | (with_reducible apply offsetChanged_frame) | split
                 | rfl)

theorem suDecide_frame {bs : List BlockId} {z : State} (s : State) (new : Su) (words : List (Nat × Word)) (after :
    List After) (ofRequest : Bool) (h : eventFrame bs z s) (hsu : .su ∈ bs) :
    eventFrame bs z (suDecide s new words after ofRequest) := by
  unfold suDecide
  repeat' (first | (with_reducible assumption) | (with_reducible apply eventFrame_setSu) | split | rfl)

theorem suAskWindow_frame {bs : List BlockId} {z : State} (s : State) (h : eventFrame bs z s) :
    eventFrame bs z (suAskWindow s) := by
  unfold suAskWindow
  repeat' (first | (with_reducible assumption) | (with_reducible apply askFixed_frame) | split | rfl)

theorem suWrite_frame {bs : List BlockId} {z : State} (s : State) (new : Su) (words : List (Nat × Word)) (after :
    List After) (ofRequest : Bool) (h : eventFrame bs z s) (hsu : .su ∈ bs) :
    eventFrame bs z (suWrite s new words after ofRequest) := by
  unfold suWrite
  repeat' (first | (with_reducible assumption) | (with_reducible apply suDecide_frame)
                 | (with_reducible apply suAskWindow_frame) | split | rfl)

theorem suMoveTender_frame {bs : List BlockId} {z : State} (s : State) (m : TenderMove) (ofRequest : Bool) (h :
    eventFrame bs z s) (hsu : .su ∈ bs) :
    eventFrame bs z (suMoveTender s m ofRequest) := by
  unfold suMoveTender
  dsimp only
  repeat' (first | (with_reducible assumption) | (with_reducible apply suWrite_frame) | split | rfl)

theorem suBagClaim_frame {bs : List BlockId} {z : State} (s : State) (new : Su) (ofRequest : Bool) (h : eventFrame
    bs z s) (hsu : .su ∈ bs) :
    eventFrame bs z (suBagClaim s new ofRequest) := by
  unfold suBagClaim
  repeat' (first | (with_reducible assumption) | (with_reducible apply suWrite_frame) | split | rfl)

theorem suPop_frame {bs : List BlockId} {z : State} (s : State) (h : eventFrame bs z s) :
    eventFrame bs z (suPop s) := by
  unfold suPop
  repeat' (first | (with_reducible assumption) | (with_reducible apply eventFrame_list) | split | rfl)

theorem suSend_frame {bs : List BlockId} {z : State} (s : State) (x : SaleItem) (h : eventFrame bs z s) :
    eventFrame bs z (suSend s x) := by
  unfold suSend
  repeat' (first | (with_reducible assumption) | (with_reducible apply eventFrame_list) | split | rfl)

theorem suFail_frame {bs : List BlockId} {z : State} (s : State) (r : ResultCode) (h : eventFrame bs z s) (hre : .re
    ∈ bs) :
    eventFrame bs z (suFail s r) := by
  unfold suFail
  repeat' (first | (with_reducible assumption) | (with_reducible apply failRequest_frame)
                 | (with_reducible apply suPop_frame) | split | rfl)

theorem setHold_frame {bs : List BlockId} {z : State} (s : State) (reason : HoldReason) (h : eventFrame bs z s)
    (hbwu : .bwu ∈ bs) :
    eventFrame bs z (setHold s reason) := by
  unfold setHold
  repeat' (first | (with_reducible assumption) | (with_reducible apply raise_frame)
                 | (with_reducible apply suSend_frame) | (with_reducible apply eventFrame_setBwu) | split | rfl)

theorem clearHold_frame {bs : List BlockId} {z : State} (s : State) (reason : ClearReason) (named : List NamedLine)
    (h : eventFrame bs z s) (hbwu : .bwu ∈ bs) :
    eventFrame bs z (clearHold s reason named) := by
  unfold clearHold
  dsimp only
  repeat' (first | (with_reducible assumption) | (with_reducible apply raise_frame)
                 | (with_reducible apply suSend_frame) | (with_reducible apply eventFrame_setBwu) | split | rfl)

theorem judgeClear_frame {bs : List BlockId} {z : State} (s : State) (d : Int) (h : eventFrame bs z s) (hbwu : .bwu
    ∈ bs) :
    eventFrame bs z (judgeClear s d) := by
  unfold judgeClear
  dsimp only
  repeat' (first | (with_reducible assumption) | (with_reducible apply suSend_frame)
                 | (with_reducible apply setHold_frame) | (with_reducible apply eventFrame_setBwu) | split | rfl)

theorem judgeHeld_frame {bs : List BlockId} {z : State} (s : State) (d : Int) (h : eventFrame bs z s) (hbwu : .bwu ∈
    bs) :
    eventFrame bs z (judgeHeld s d) := by
  unfold judgeHeld
  dsimp only
  repeat' (first | (with_reducible assumption) | (with_reducible apply setHold_frame)
                 | (with_reducible apply clearHold_frame) | (with_reducible apply eventFrame_setBwu) | split | rfl)

theorem judgeSettlement_frame {bs : List BlockId} {z : State} (s : State) (h : eventFrame bs z s) (hbwu : .bwu ∈ bs) :
    eventFrame bs z (judgeSettlement s) := by
  unfold judgeSettlement
  dsimp only
  repeat' (first | (with_reducible assumption) | (with_reducible apply judgeClear_frame)
                 | (with_reducible apply judgeHeld_frame) | (with_reducible apply eventFrame_setBwu) | split | rfl)

theorem bagSample_frame {bs : List BlockId} {z : State} (s : State) (payload : List Byte) (gap : Bool) (h :
    eventFrame bs z s) (hlu : .lu ∈ bs) (hbwu : .bwu ∈ bs) :
    eventFrame bs z (bagSample s payload gap) := by
  unfold bagSample
  dsimp only
  repeat' (first | (with_reducible assumption) | (with_reducible apply askBwuStatus_frame)
                 | (with_reducible apply raise_frame) | (with_reducible apply popPath_frame)
                 | (with_reducible apply judgeSettlement_frame) | (with_reducible apply eventFrame_setBwu)
                 | split | rfl)

theorem bagLinkChange_frame {bs : List BlockId} {z : State} (s : State) (old new : LinkState) (h : eventFrame bs z
    s) (hlu : .lu ∈ bs) (hbwu : .bwu ∈ bs) :
    eventFrame bs z (bagLinkChange s old new) := by
  unfold bagLinkChange
  dsimp only
  repeat' (first | (with_reducible assumption) | (with_reducible apply askBwuStatus_frame)
                 | (with_reducible apply popPath_frame) | (with_reducible apply setHold_frame)
                 | (with_reducible apply eventFrame_setBwu) | split | rfl)

theorem bagWaitExpired_frame {bs : List BlockId} {z : State} (s : State) (h : eventFrame bs z s) (hbwu : .bwu ∈ bs) :
    eventFrame bs z (bagWaitExpired s) := by
  unfold bagWaitExpired
  dsimp only
  repeat' (first | (with_reducible assumption) | (with_reducible apply askBwuStatus_frame)
                 | (with_reducible apply setHold_frame) | (with_reducible apply eventFrame_setBwu) | split | rfl)

theorem bagSaleOpened_frame {bs : List BlockId} {z : State} (s : State) (mode : SaleMode) (baseline : Int) (h :
    eventFrame bs z s) (hbwu : .bwu ∈ bs) :
    eventFrame bs z (bagSaleOpened s mode baseline) := by
  unfold bagSaleOpened
  repeat' (first | (with_reducible assumption) | (with_reducible apply askBwuStatus_frame)
                 | (with_reducible apply eventFrame_setBwu) | split | rfl)

theorem bagSaleClosing_frame {bs : List BlockId} {z : State} (s : State) (h : eventFrame bs z s) (hbwu : .bwu ∈ bs) :
    eventFrame bs z (bagSaleClosing s) := by
  unfold bagSaleClosing
  repeat' (first | (with_reducible assumption) | (with_reducible apply askBwuStatus_frame)
                 | (with_reducible apply eventFrame_setBwu) | split | rfl)

theorem bagSaleEnded_frame {bs : List BlockId} {z : State} (s : State) (h : eventFrame bs z s) (hbwu : .bwu ∈ bs) :
    eventFrame bs z (bagSaleEnded s) := by
  unfold bagSaleEnded
  repeat' (first | (with_reducible assumption) | (with_reducible apply askBwuStatus_frame)
                 | (with_reducible apply eventFrame_setBwu) | split | rfl)

theorem holdReleased_frame {bs : List BlockId} {z : State} (s : State) (h : eventFrame bs z s) (hre : .re ∈ bs)
    (hbwu : .bwu ∈ bs) (hsu : .su ∈ bs) :
    eventFrame bs z (holdReleased s) := by
  unfold holdReleased
  dsimp only
  repeat' (first | (with_reducible assumption) | (with_reducible apply askBwuStatus_frame)
                 | (with_reducible apply raise_frame) | (with_reducible apply finishRequest_frame)
                 | (with_reducible apply suBagClaim_frame) | (with_reducible apply eventFrame_setBwu) | split | rfl)

theorem holdRelease_frame {bs : List BlockId} {z : State} (s : State) (h : eventFrame bs z s) (hre : .re ∈ bs) (hbwu
    : .bwu ∈ bs) (hsu : .su ∈ bs) :
    eventFrame bs z (holdRelease s) := by
  unfold holdRelease
  repeat' (first | (with_reducible assumption) | (with_reducible apply failRequest_frame)
                 | (with_reducible apply holdReleased_frame) | split | rfl)

theorem saleOpened_frame {bs : List BlockId} {z : State} (s : State) (mode : SaleMode) (h : eventFrame bs z s) (hre
    : .re ∈ bs) (hsu : .su ∈ bs) :
    eventFrame bs z (saleOpened s mode) := by
  unfold saleOpened
  dsimp only
  repeat' (first | (with_reducible assumption) | (with_reducible apply finishRequest_frame)
                 | (with_reducible apply suWrite_frame) | split | rfl)

theorem saleOpen_frame {bs : List BlockId} {z : State} (s : State) (h : eventFrame bs z s) (hre : .re ∈ bs) (hsu :
    .su ∈ bs) :
    eventFrame bs z (saleOpen s) := by
  unfold saleOpen
  repeat' (first | (with_reducible assumption) | (with_reducible apply suFail_frame)
                 | (with_reducible apply saleOpened_frame) | split | rfl)

theorem handExpectation_frame {bs : List BlockId} {z : State} (s : State) (line : Nat) (d : Option Int) (h :
    eventFrame bs z s) (hbwu : .bwu ∈ bs) :
    eventFrame bs z (handExpectation s line d) := by
  unfold handExpectation
  repeat' (first | (with_reducible assumption) | (with_reducible apply askBwuStatus_frame)
                 | (with_reducible apply eventFrame_setBwu) | split | rfl)

theorem itemAdded_frame {bs : List BlockId} {z : State} (s : State) (h : eventFrame bs z s) (hre : .re ∈ bs) (hbwu :
    .bwu ∈ bs) (hsu : .su ∈ bs) :
    eventFrame bs z (itemAdded s) := by
  unfold itemAdded
  dsimp only
  repeat' (first | (with_reducible assumption) | (with_reducible apply finishRequest_frame)
                 | (with_reducible apply suWrite_frame) | (with_reducible apply handExpectation_frame) | split | rfl)

theorem itemAdd_frame {bs : List BlockId} {z : State} (s : State) (h : eventFrame bs z s) (hre : .re ∈ bs) (hbwu :
    .bwu ∈ bs) (hsu : .su ∈ bs) :
    eventFrame bs z (itemAdd s) := by
  unfold itemAdd
  repeat' (first | (with_reducible assumption) | (with_reducible apply suFail_frame)
                 | (with_reducible apply itemAdded_frame) | split | rfl)

theorem claimConsume_frame {bs : List BlockId} {z : State} (s : State) (h : eventFrame bs z s) (hsu : .su ∈ bs) :
    eventFrame bs z (claimConsume s) := by
  unfold claimConsume
  repeat' (first | (with_reducible assumption) | (with_reducible apply eventFrame_setSu) | split | rfl)

theorem itemWeighed_frame {bs : List BlockId} {z : State} (s : State) (a : ConsumeClaim) (slot : Nat) (h :
    eventFrame bs z s) (hre : .re ∈ bs) (hpwu : .pwu ∈ bs) (hbwu : .bwu ∈ bs) (hsu : .su ∈ bs) :
    eventFrame bs z (itemWeighed s a slot) := by
  unfold itemWeighed
  dsimp only
  repeat' (first | (with_reducible assumption) | (with_reducible apply askPwuLive_frame)
                 | (with_reducible apply finishRequest_frame) | (with_reducible apply suDecide_frame)
                 | (with_reducible apply handExpectation_frame) | (with_reducible apply eventFrame_setPwu)
                 | split | rfl)

theorem weighRefused_frame {bs : List BlockId} {z : State} (s : State) (a : ConsumeClaim) (r : ResultCode) (h :
    eventFrame bs z s) (hre : .re ∈ bs) (hsu : .su ∈ bs) :
    eventFrame bs z (weighRefused s a r) := by
  unfold weighRefused
  repeat' (first | (with_reducible assumption) | (with_reducible apply finishRequest_frame)
                 | (with_reducible apply eventFrame_setSu) | split | rfl)

theorem consumeAnswered_frame {bs : List BlockId} {z : State} (s : State) (a : ConsumeClaim) (h : eventFrame bs z s)
    (hre : .re ∈ bs) (hpwu : .pwu ∈ bs) (hbwu : .bwu ∈ bs) (hsu : .su ∈ bs) :
    eventFrame bs z (consumeAnswered s a) := by
  unfold consumeAnswered
  repeat' (first | (with_reducible assumption) | (with_reducible apply itemWeighed_frame)
                 | (with_reducible apply weighRefused_frame) | split | rfl)

theorem itemWeigh_frame {bs : List BlockId} {z : State} (s : State) (h : eventFrame bs z s) (hre : .re ∈ bs) (hpwu :
    .pwu ∈ bs) (hbwu : .bwu ∈ bs) (hsu : .su ∈ bs) :
    eventFrame bs z (itemWeigh s) := by
  unfold itemWeigh
  repeat' (first | (with_reducible assumption) | (with_reducible apply suFail_frame)
                 | (with_reducible apply claimConsume_frame) | (with_reducible apply consumeAnswered_frame)
                 | split | rfl)

theorem lineVoided_frame {bs : List BlockId} {z : State} (s : State) (n : Nat) (l : SaleLine) (h : eventFrame bs z
    s) (hre : .re ∈ bs) (hbwu : .bwu ∈ bs) (hsu : .su ∈ bs) :
    eventFrame bs z (lineVoided s n l) := by
  unfold lineVoided
  dsimp only
  repeat' (first | (with_reducible assumption) | (with_reducible apply askBwuStatus_frame)
                 | (with_reducible apply finishRequest_frame) | (with_reducible apply suWrite_frame)
                 | (with_reducible apply eventFrame_setBwu) | split | rfl)

theorem lineVoid_frame {bs : List BlockId} {z : State} (s : State) (h : eventFrame bs z s) (hre : .re ∈ bs) (hbwu :
    .bwu ∈ bs) (hsu : .su ∈ bs) :
    eventFrame bs z (lineVoid s) := by
  unfold lineVoid
  dsimp only
  repeat' (first | (with_reducible assumption) | (with_reducible apply suFail_frame)
                 | (with_reducible apply lineVoided_frame) | split | rfl)

theorem offerCard_frame {bs : List BlockId} {z : State} (s : State) (fs : List (Byte × List Byte)) (h : eventFrame
    bs z s) (hlu : .lu ∈ bs) (hctu : .ctu ∈ bs) :
    eventFrame bs z (offerCard s fs) := by
  induction fs generalizing s with
  | nil => exact eventFrame_setCtu h hctu
  | cons f rest ih =>
    simp only [offerCard]
    split
    · exact ih _ (linkSend_frame _ _ _ _ h hlu)
    · exact eventFrame_setCtu h hctu

theorem cardOffers_frame {bs : List BlockId} {z : State} (s : State) (h : eventFrame bs z s) (hlu : .lu ∈ bs) (hctu
    : .ctu ∈ bs) :
    eventFrame bs z (cardOffers s) := by
  unfold cardOffers
  repeat' (first | (with_reducible assumption) | (with_reducible apply offerCard_frame) | split | rfl)

theorem cardSend_frame {bs : List BlockId} {z : State} (s : State) (kind : Byte) (payload : List Byte) (h :
    eventFrame bs z s) (hlu : .lu ∈ bs) (hctu : .ctu ∈ bs) :
    eventFrame bs z (cardSend s kind payload) := by
  unfold cardSend
  repeat' (first | (with_reducible assumption) | (with_reducible apply offerCard_frame)
                 | (with_reducible apply cardOffers_frame) | (with_reducible apply eventFrame_setCtu) | split | rfl)

theorem cardNotice_frame {bs : List BlockId} {z : State} (s : State) (h : eventFrame bs z s)
    (hlu : .lu ∈ bs) (hctu : .ctu ∈ bs) :
    eventFrame bs z (cardNotice s) := by
  unfold cardNotice
  repeat' (first | (with_reducible assumption)
                 | (with_reducible apply cardOffers_frame)
                 | (with_reducible apply eventFrame_setCtu)
                 | (with_reducible apply arrive_frame) | split | rfl)

theorem takeCardNotices_frame {bs : List BlockId} {z : State} (n : Nat) (s : State) (h : eventFrame bs z s)
    (hlu : .lu ∈ bs) (hctu : .ctu ∈ bs) :
    eventFrame bs z (takeCardNotices n s) := by
  induction n generalizing s with
  | zero => exact h
  | succ n ih =>
    simp only [takeCardNotices]
    split
    · exact ih _ (cardOffers_frame _ (eventFrame_setCtu h hctu) hlu hctu)
    · exact h

theorem cardNotices_frame {bs : List BlockId} {z : State} (s : State) (h : eventFrame bs z s)
    (hlu : .lu ∈ bs) (hctu : .ctu ∈ bs) :
    eventFrame bs z (cardNotices s) := by
  exact takeCardNotices_frame _ s h hlu hctu

theorem askCardIfChanged_frame {bs : List BlockId} {z : State} (s : State) (old : Ctu) (h : eventFrame bs z s) :
    eventFrame bs z (askCardIfChanged s old) := by
  unfold askCardIfChanged
  repeat' (first | (with_reducible assumption) | (with_reducible apply askCardSession_frame) | split | rfl)

theorem cardInTaken_frame {bs : List BlockId} {z : State} (s : State) (p : List Byte) (h : eventFrame bs z s) (hlu :
    .lu ∈ bs) (hctu : .ctu ∈ bs) :
    eventFrame bs z (cardInTaken s p) := by
  unfold cardInTaken
  dsimp only
  repeat' (first | (with_reducible assumption) | (with_reducible apply raise_frame)
                 | (with_reducible apply popPath_frame) | (with_reducible apply askCardIfChanged_frame)
                 | (with_reducible apply eventFrame_setCtu) | split | rfl)

theorem cardOutTaken_frame {bs : List BlockId} {z : State} (s : State) (h : eventFrame bs z s) (hlu : .lu ∈ bs)
    (hctu : .ctu ∈ bs) :
    eventFrame bs z (cardOutTaken s) := by
  unfold cardOutTaken
  repeat' (first | (with_reducible assumption) | (with_reducible apply askCardSession_frame)
                 | (with_reducible apply raise_frame) | (with_reducible apply popPath_frame)
                 | (with_reducible apply eventFrame_setCtu) | split | rfl)

theorem moduleStatusTaken_frame {bs : List BlockId} {z : State} (s : State) (p : List Byte) (h : eventFrame bs z s)
    (hlu : .lu ∈ bs) (hctu : .ctu ∈ bs) :
    eventFrame bs z (moduleStatusTaken s p) := by
  unfold moduleStatusTaken
  repeat' (first | (with_reducible assumption) | (with_reducible apply popPath_frame)
                 | (with_reducible apply askCardIfChanged_frame) | (with_reducible apply eventFrame_setCtu)
                 | split | rfl)

theorem cardTendered_frame {bs : List BlockId} {z : State} (s : State) (amount : Nat) (h : eventFrame bs z s) (hre :
    .re ∈ bs) (hsu : .su ∈ bs) :
    eventFrame bs z (cardTendered s amount) := by
  unfold cardTendered
  dsimp only
  repeat' (first | (with_reducible assumption) | (with_reducible apply finishRequest_frame)
                 | (with_reducible apply suWrite_frame) | split | rfl)

theorem cardTender_frame {bs : List BlockId} {z : State} (s : State) (h : eventFrame bs z s) (hre : .re ∈ bs) (hsu :
    .su ∈ bs) :
    eventFrame bs z (cardTender s) := by
  unfold cardTender
  repeat' (first | (with_reducible assumption) | (with_reducible apply failRequest_frame)
                 | (with_reducible apply cardTendered_frame) | split | rfl)

theorem cardAsks_frame {bs : List BlockId} {z : State} (s : State) (index amount : Nat) (h : eventFrame bs z s) (hlu
    : .lu ∈ bs) (hctu : .ctu ∈ bs) :
    eventFrame bs z (cardAsks s index amount) := by
  unfold cardAsks
  dsimp only
  repeat' (first | (with_reducible assumption) | (with_reducible apply askCardSession_frame)
                 | (with_reducible apply cardSend_frame) | (with_reducible apply eventFrame_setCtu) | split | rfl)

theorem cancelTender_frame {bs : List BlockId} {z : State} (s : State) (o : OutTender) (ofRequest : Bool) (h :
    eventFrame bs z s) (hlu : .lu ∈ bs) (hctu : .ctu ∈ bs) :
    eventFrame bs z (cancelTender s o ofRequest) := by
  unfold cancelTender
  dsimp only
  repeat' (first | (with_reducible assumption) | (with_reducible apply askCardSession_frame)
                 | (with_reducible apply suSend_frame) | (with_reducible apply cardSend_frame)
                 | (with_reducible apply eventFrame_setCtu) | split | rfl)

theorem cardCancel_frame {bs : List BlockId} {z : State} (s : State) (h : eventFrame bs z s) (hre : .re ∈ bs) (hlu :
    .lu ∈ bs) (hctu : .ctu ∈ bs) :
    eventFrame bs z (cardCancel s) := by
  unfold cardCancel
  repeat' (first | (with_reducible assumption) | (with_reducible apply finishRequest_frame)
                 | (with_reducible apply failRequest_frame) | (with_reducible apply cancelTender_frame) | split | rfl)

theorem cardWaitExpired_frame {bs : List BlockId} {z : State} (s : State) (h : eventFrame bs z s) (hlu : .lu ∈ bs)
    (hctu : .ctu ∈ bs) :
    eventFrame bs z (cardWaitExpired s) := by
  unfold cardWaitExpired
  repeat' (first | (with_reducible assumption) | (with_reducible apply cancelTender_frame)
                 | (with_reducible apply eventFrame_setCtu) | split | rfl)

theorem unresolve_frame {bs : List BlockId} {z : State} (s : State) (o : OutTender) (h : eventFrame bs z s) (hctu :
    .ctu ∈ bs) :
    eventFrame bs z (unresolve s o) := by
  unfold unresolve
  dsimp only
  repeat' (first | (with_reducible assumption) | (with_reducible apply raise_frame)
                 | (with_reducible apply suSend_frame) | (with_reducible apply eventFrame_setCtu) | split | rfl)

theorem queryTender_frame {bs : List BlockId} {z : State} (s : State) (o : OutTender) (h : eventFrame bs z s) (hlu :
    .lu ∈ bs) (hctu : .ctu ∈ bs) :
    eventFrame bs z (queryTender s o) := by
  unfold queryTender
  dsimp only
  repeat' (first | (with_reducible assumption) | (with_reducible apply cardSend_frame)
                 | (with_reducible apply eventFrame_setCtu) | split | rfl)

theorem cancelWaitExpired_frame {bs : List BlockId} {z : State} (s : State) (h : eventFrame bs z s) (hlu : .lu ∈ bs)
    (hctu : .ctu ∈ bs) :
    eventFrame bs z (cancelWaitExpired s) := by
  unfold cancelWaitExpired
  repeat' (first | (with_reducible assumption) | (with_reducible apply askCardSession_frame)
                 | (with_reducible apply unresolve_frame) | (with_reducible apply queryTender_frame)
                 | (with_reducible apply eventFrame_setCtu) | split | rfl)

theorem cardLinkDown_frame {bs : List BlockId} {z : State} (s : State) (h : eventFrame bs z s) (hctu : .ctu ∈ bs) :
    eventFrame bs z (cardLinkDown s) := by
  unfold cardLinkDown
  dsimp only
  repeat' (first | (with_reducible assumption) | (with_reducible apply askCardSession_frame)
                 | (with_reducible apply unresolve_frame) | (with_reducible apply eventFrame_setCtu) | split | rfl)

theorem cardLinkBack_frame {bs : List BlockId} {z : State} (s : State) (h : eventFrame bs z s) (hlu : .lu ∈ bs)
    (hctu : .ctu ∈ bs) :
    eventFrame bs z (cardLinkBack s) := by
  unfold cardLinkBack
  dsimp only
  repeat' (first | (with_reducible assumption) | (with_reducible apply askCardSession_frame)
                 | (with_reducible apply queryTender_frame) | (with_reducible apply eventFrame_setCtu) | split | rfl)

theorem cardLinkChange_frame {bs : List BlockId} {z : State} (s : State) (old new : LinkState) (h : eventFrame bs z
    s) (hlu : .lu ∈ bs) (hctu : .ctu ∈ bs) :
    eventFrame bs z (cardLinkChange s old new) := by
  unfold cardLinkChange
  dsimp only
  repeat' (first | (with_reducible assumption) | (with_reducible apply popPath_frame)
                 | (with_reducible apply cardLinkDown_frame) | (with_reducible apply cardLinkBack_frame) | split
                 | rfl)

theorem finishTender_frame {bs : List BlockId} {z : State} (s : State) (o : OutTender) (st : TenderState) (a : Nat)
    (code : List Byte) (h : eventFrame bs z s) (hctu : .ctu ∈ bs) :
    eventFrame bs z (finishTender s o st a code) := by
  unfold finishTender
  dsimp only
  repeat' (first | (with_reducible assumption) | (with_reducible apply askCardSession_frame)
                 | (with_reducible apply raise_frame) | (with_reducible apply suSend_frame)
                 | (with_reducible apply eventFrame_setCtu) | split | rfl)

theorem authForOut_frame {bs : List BlockId} {z : State} (s : State) (o : OutTender) (p : List Byte) (h : eventFrame
    bs z s) (hctu : .ctu ∈ bs) :
    eventFrame bs z (authForOut s o p) := by
  unfold authForOut
  dsimp only
  repeat' (first | (with_reducible assumption) | (with_reducible apply askCardSession_frame)
                 | (with_reducible apply finishTender_frame) | (with_reducible apply eventFrame_setCtu) | split | rfl)

theorem judgeVerdict_frame {bs : List BlockId} {z : State} (s : State) (v : VerdictEntry) (x : CardOutcome) (a :
    Nat) (shown : Word) (h : eventFrame bs z s) (hctu : .ctu ∈ bs) :
    eventFrame bs z (judgeVerdict s v x a shown) := by
  unfold judgeVerdict
  dsimp only
  repeat' (first | (with_reducible assumption) | (with_reducible apply askCardSession_frame)
                 | (with_reducible apply raise_frame) | (with_reducible apply eventFrame_setCtu) | split | rfl)

theorem resultForNone_frame {bs : List BlockId} {z : State} (s : State) (reference : Half) (x : Option (CardOutcome
    × Nat × Word)) (h : eventFrame bs z s) (hctu : .ctu ∈ bs) :
    eventFrame bs z (resultForNone s reference x) := by
  unfold resultForNone
  dsimp only
  repeat' (first | (with_reducible assumption) | (with_reducible apply askCardSession_frame)
                 | (with_reducible apply judgeVerdict_frame) | (with_reducible apply eventFrame_setCtu) | split | rfl)

theorem authResult_frame {bs : List BlockId} {z : State} (s : State) (p : List Byte) (h : eventFrame bs z s) (hlu :
    .lu ∈ bs) (hctu : .ctu ∈ bs) :
    eventFrame bs z (authResult s p) := by
  unfold authResult
  dsimp only
  repeat' (first | (with_reducible assumption) | (with_reducible apply popPath_frame)
                 | (with_reducible apply authForOut_frame) | (with_reducible apply resultForNone_frame) | split | rfl)

theorem noRecord_frame {bs : List BlockId} {z : State} (s : State) (p : List Byte) (h : eventFrame bs z s) (hlu :
    .lu ∈ bs) (hctu : .ctu ∈ bs) :
    eventFrame bs z (noRecord s p) := by
  unfold noRecord
  dsimp only
  repeat' (first | (with_reducible assumption) | (with_reducible apply askCardSession_frame)
                 | (with_reducible apply popPath_frame) | (with_reducible apply finishTender_frame)
                 | (with_reducible apply resultForNone_frame) | (with_reducible apply eventFrame_setCtu)
                 | (with_reducible apply eventFrame_setFree) | split | rfl)

theorem verdictGiven_frame {bs : List BlockId} {z : State} (s : State) (o : OutTender) (v : Verdict) (h : eventFrame
    bs z s) (hre : .re ∈ bs) (hsu : .su ∈ bs) (hctu : .ctu ∈ bs) :
    eventFrame bs z (verdictGiven s o v) := by
  unfold verdictGiven
  dsimp only
  repeat' (first | (with_reducible assumption) | (with_reducible apply askCardSession_frame)
                 | (with_reducible apply raise_frame) | (with_reducible apply finishRequest_frame)
                 | (with_reducible apply suMoveTender_frame) | (with_reducible apply eventFrame_setCtu) | split | rfl)

theorem tenderVerdict_frame {bs : List BlockId} {z : State} (s : State) (h : eventFrame bs z s) (hre : .re ∈ bs)
    (hsu : .su ∈ bs) (hctu : .ctu ∈ bs) :
    eventFrame bs z (tenderVerdict s) := by
  unfold tenderVerdict
  dsimp only
  repeat' (first | (with_reducible assumption) | (with_reducible apply failRequest_frame)
                 | (with_reducible apply verdictGiven_frame) | split | rfl)

theorem laneClockTick_frame {bs : List BlockId} {z : State} (s : State) (h : eventFrame bs z s) (hre : .re ∈ bs)
    (htu : .tu ∈ bs) :
    eventFrame bs z (laneClockTick s) := by
  unfold laneClockTick
  dsimp only
  repeat' (first | (with_reducible apply arriveAll_frame)
                 | (with_reducible assumption) | (with_reducible apply eventFrame_setRe)
                 | (with_reducible apply eventFrame_setTu) | split | rfl)

theorem rawLevelChange_frame {bs : List BlockId} {z : State} (s : State) (input : InputId) (level : Bool) (h :
    eventFrame bs z s) (htu : .tu ∈ bs) :
    eventFrame bs z (rawLevelChange s input level) := by
  unfold rawLevelChange
  dsimp only
  repeat' (first | (with_reducible assumption) | (with_reducible apply eventFrame_setTu) | split | rfl)

theorem beginKick_frame {bs : List BlockId} {z : State} (s : State) (cause : KickCause) (ofRequest : Bool) (h :
    eventFrame bs z s) (htu : .tu ∈ bs) :
    eventFrame bs z (beginKick s cause ofRequest) := by
  unfold beginKick
  repeat' (first | (with_reducible assumption) | (with_reducible apply askTuStatus_frame)
                 | (with_reducible apply eventFrame_setTu) | split | rfl)

theorem kickWidthExpired_frame {bs : List BlockId} {z : State} (s : State) (h : eventFrame bs z s) (htu : .tu ∈ bs) :
    eventFrame bs z (kickWidthExpired s) := by
  unfold kickWidthExpired
  repeat' (first | (with_reducible assumption) | (with_reducible apply eventFrame_setTu) | split | rfl)

theorem kickConfirmExpired_frame {bs : List BlockId} {z : State} (s : State) (h : eventFrame bs z s) (htu : .tu ∈
    bs) :
    eventFrame bs z (kickConfirmExpired s) := by
  unfold kickConfirmExpired
  repeat' (first | (with_reducible assumption) | (with_reducible apply askTuStatus_frame)
                 | (with_reducible apply raise_frame) | (with_reducible apply eventFrame_setTu) | split | rfl)

theorem askTuEvent_frame {bs : List BlockId} {z : State} (s : State) (h : eventFrame bs z s) :
    eventFrame bs z (askTuEvent s) := by
  unfold askTuEvent
  repeat' (first | (with_reducible assumption) | (with_reducible apply askTuStatus_frame) | split | rfl)

theorem enterOpen_frame {bs : List BlockId} {z : State} (s : State) (forced : Bool) (h : eventFrame bs z s) (htu :
    .tu ∈ bs) :
    eventFrame bs z (enterOpen s forced) := by
  unfold enterOpen
  repeat' (first | (with_reducible assumption) | (with_reducible apply raise_frame)
                 | (with_reducible apply eventFrame_setTu) | split | rfl)

theorem forcedOpening_frame {bs : List BlockId} {z : State} (s : State) (h : eventFrame bs z s) (htu : .tu ∈ bs)
    (hju : .ju ∈ bs) :
    eventFrame bs z (forcedOpening s) := by
  unfold forcedOpening
  dsimp only
  repeat' (first | (with_reducible assumption) | (with_reducible apply raise_frame)
                 | (with_reducible apply enterOpen_frame) | (with_reducible apply eventFrame_setTu)
                 | (with_reducible apply eventFrame_setJu) | split | rfl)

theorem drawerShut_frame {bs : List BlockId} {z : State} (s : State) (h : eventFrame bs z s) (htu : .tu ∈ bs) :
    eventFrame bs z (drawerShut s) := by
  unfold drawerShut
  repeat' (first | (with_reducible assumption) | (with_reducible apply raise_frame)
                 | (with_reducible apply eventFrame_setTu) | split | rfl)

theorem sensorReady_frame {bs : List BlockId} {z : State} (s : State) (level : Bool) (h : eventFrame bs z s) (htu :
    .tu ∈ bs) (hju : .ju ∈ bs) :
    eventFrame bs z (sensorReady s level) := by
  unfold sensorReady
  repeat' (first | (with_reducible assumption) | (with_reducible apply enterOpen_frame)
                 | (with_reducible apply forcedOpening_frame) | (with_reducible apply drawerShut_frame) | split | rfl)

theorem followSensor_frame {bs : List BlockId} {z : State} (s : State) (level : Bool) (h : eventFrame bs z s) (htu :
    .tu ∈ bs) :
    eventFrame bs z (followSensor s level) := by
  unfold followSensor
  repeat' (first | (with_reducible assumption) | (with_reducible apply eventFrame_setTu) | split | rfl)

theorem sensorEdge_frame {bs : List BlockId} {z : State} (s : State) (e : Edge) (h : eventFrame bs z s) (htu : .tu ∈
    bs) (hju : .ju ∈ bs) :
    eventFrame bs z (sensorEdge s e) := by
  unfold sensorEdge
  dsimp only
  repeat' (first | (with_reducible assumption) | (with_reducible apply askTuEvent_frame)
                 | (with_reducible apply sensorReady_frame) | (with_reducible apply followSensor_frame)
                 | (with_reducible apply eventFrame_setTu) | split | rfl)

theorem keyEdge_frame {bs : List BlockId} {z : State} (s : State) (e : Edge) (h : eventFrame bs z s) (htu : .tu ∈
    bs) :
    eventFrame bs z (keyEdge s e) := by
  unfold keyEdge
  dsimp only
  repeat' (first | (with_reducible assumption) | (with_reducible apply askTuEvent_frame)
                 | (with_reducible apply eventFrame_setTu) | split | rfl)

theorem drawerLimitExpired_frame {bs : List BlockId} {z : State} (s : State) (h : eventFrame bs z s) (htu : .tu ∈
    bs) :
    eventFrame bs z (drawerLimitExpired s) := by
  unfold drawerLimitExpired
  repeat' (first | (with_reducible assumption) | (with_reducible apply raise_frame)
                 | (with_reducible apply eventFrame_setTu) | split | rfl)

theorem forcedOpeningTold_frame {bs : List BlockId} {z : State} (s : State) (h : eventFrame bs z s) (hju : .ju ∈ bs) :
    eventFrame bs z (forcedOpeningTold s) := by
  unfold forcedOpeningTold
  repeat' (first | (with_reducible assumption) | (with_reducible apply eventFrame_setJu) | split | rfl)

theorem cashTendered_frame {bs : List BlockId} {z : State} (s : State) (h : eventFrame bs z s) (hre : .re ∈ bs) (hsu
    : .su ∈ bs) :
    eventFrame bs z (cashTendered s) := by
  unfold cashTendered
  dsimp only
  repeat' (first | (with_reducible assumption) | (with_reducible apply finishRequest_frame)
                 | (with_reducible apply suWrite_frame) | split | rfl)

theorem cashTender_frame {bs : List BlockId} {z : State} (s : State) (h : eventFrame bs z s) (hre : .re ∈ bs) (hsu :
    .su ∈ bs) :
    eventFrame bs z (cashTender s) := by
  unfold cashTender
  repeat' (first | (with_reducible assumption) | (with_reducible apply failRequest_frame)
                 | (with_reducible apply cashTendered_frame) | split | rfl)

theorem writeNosale_frame {bs : List BlockId} {z : State} (s : State) (h : eventFrame bs z s) (hju : .ju ∈ bs) :
    eventFrame bs z (writeNosale s) := by
  unfold writeNosale
  dsimp only
  repeat' (first | (with_reducible assumption) | (with_reducible apply askFixed_frame)
                 | (with_reducible apply eventFrame_setJu) | split | rfl)

theorem nosaleOpened_frame {bs : List BlockId} {z : State} (s : State) (h : eventFrame bs z s) (hre : .re ∈ bs) (htu
    : .tu ∈ bs) (hju : .ju ∈ bs) :
    eventFrame bs z (nosaleOpened s) := by
  unfold nosaleOpened
  dsimp only
  repeat' (first | (with_reducible assumption) | (with_reducible apply finishRequest_frame)
                 | (with_reducible apply beginKick_frame) | (with_reducible apply writeNosale_frame)
                 | (with_reducible apply eventFrame_setTu) | split | rfl)

theorem drawerNosale_frame {bs : List BlockId} {z : State} (s : State) (h : eventFrame bs z s) (hre : .re ∈ bs) (htu
    : .tu ∈ bs) (hju : .ju ∈ bs) :
    eventFrame bs z (drawerNosale s) := by
  unfold drawerNosale
  repeat' (first | (with_reducible assumption) | (with_reducible apply failRequest_frame)
                 | (with_reducible apply nosaleOpened_frame) | split | rfl)

theorem beginFetch_frame {bs : List BlockId} {z : State} (s : State) (slot : Nat) (flight : FlightKind) (h :
    eventFrame bs z s) (hbi : .bi ∈ bs) (hpu : .pu ∈ bs) :
    eventFrame bs z (beginFetch s slot flight) := by
  unfold beginFetch
  repeat' (first | (with_reducible assumption) | (with_reducible apply eventFrame_setBi)
                 | (with_reducible apply eventFrame_setPu) | split | rfl)

theorem offerPrint_frame {bs : List BlockId} {z : State} (s : State) (f : ReadyFrame) (h : eventFrame bs z s) (hlu :
    .lu ∈ bs) (hpu : .pu ∈ bs) :
    eventFrame bs z (offerPrint s f) := by
  unfold offerPrint
  dsimp only
  repeat' (first | (with_reducible assumption) | (with_reducible apply askPu_frame)
                 | (with_reducible apply linkSend_frame) | (with_reducible apply eventFrame_setPu) | split | rfl)

theorem printOffers_frame {bs : List BlockId} {z : State} (s : State) (h : eventFrame bs z s) (hlu : .lu ∈ bs) (hpu
    : .pu ∈ bs) :
    eventFrame bs z (printOffers s) := by
  unfold printOffers
  repeat' (first | (with_reducible assumption) | (with_reducible apply offerPrint_frame)
                 | (with_reducible apply eventFrame_setPu) | split | rfl)

theorem takeSent_frame {bs : List BlockId} {z : State} (s : State) (h : eventFrame bs z s)
    (hlu : .lu ∈ bs) (hpu : .pu ∈ bs) :
    eventFrame bs z (takeSent s) := by
  unfold takeSent
  repeat' (first | (with_reducible assumption)
                 | (with_reducible apply printOffers_frame)
                 | (with_reducible apply eventFrame_setPu) | split | rfl)

theorem printNotice_frame {bs : List BlockId} {z : State} (s : State) (h : eventFrame bs z s)
    (hlu : .lu ∈ bs) (hpu : .pu ∈ bs) :
    eventFrame bs z (printNotice s) := by
  unfold printNotice
  repeat' (first | (with_reducible assumption)
                 | (with_reducible apply takeSent_frame)
                 | (with_reducible apply eventFrame_setPu)
                 | (with_reducible apply arrive_frame) | split | rfl)

theorem takePrintNotices_frame {bs : List BlockId} {z : State} (n : Nat) (s : State) (h : eventFrame bs z s)
    (hlu : .lu ∈ bs) (hpu : .pu ∈ bs) :
    eventFrame bs z (takePrintNotices n s) := by
  induction n generalizing s with
  | zero => exact h
  | succ n ih =>
    simp only [takePrintNotices]
    split
    · exact ih _ (takeSent_frame _ (eventFrame_setPu h hpu) hlu hpu)
    · exact h

theorem printNotices_frame {bs : List BlockId} {z : State} (s : State) (h : eventFrame bs z s)
    (hlu : .lu ∈ bs) (hpu : .pu ∈ bs) :
    eventFrame bs z (printNotices s) := by
  exact takePrintNotices_frame _ s h hlu hpu

theorem unitNotices_frame {bs : List BlockId} {z : State} (s : State) (b : BlockId) (h : eventFrame bs z s)
    (hlu : .lu ∈ bs) (hctu : .ctu ∈ bs) (hpu : .pu ∈ bs) :
    eventFrame bs z (unitNotices s b) := by
  unfold unitNotices
  repeat' (first | (with_reducible assumption)
                 | (with_reducible apply cardNotices_frame)
                 | (with_reducible apply printNotices_frame) | split | rfl)

theorem makeFrame_frame {bs : List BlockId} {z : State} (s : State) (f : NextFrame) (h : eventFrame bs z s) (hbi :
    .bi ∈ bs) (hlu : .lu ∈ bs) (hpu : .pu ∈ bs) :
    eventFrame bs z (makeFrame s f) := by
  unfold makeFrame
  repeat' (first | (with_reducible assumption) | (with_reducible apply beginFetch_frame)
                 | (with_reducible apply offerPrint_frame) | (with_reducible apply eventFrame_setPu) | split | rfl)

theorem printFrameOffer_frame {bs : List BlockId} {z : State} (s : State) (h : eventFrame bs z s) (hbi : .bi ∈ bs)
    (hlu : .lu ∈ bs) (hpu : .pu ∈ bs) :
    eventFrame bs z (printFrameOffer s) := by
  unfold printFrameOffer
  repeat' (first | (with_reducible assumption) | (with_reducible apply printOffers_frame)
                 | (with_reducible apply makeFrame_frame) | split | rfl)

theorem arbitrate_frame {bs : List BlockId} {z : State} (s : State) (h : eventFrame bs z s) (hpu : .pu ∈ bs) :
    eventFrame bs z (arbitrate s) := by
  unfold arbitrate
  repeat' (first | (with_reducible assumption) | (with_reducible apply eventFrame_setPu) | split | rfl)

theorem composeBlock_frame {bs : List BlockId} {z : State} (s : State) (h : eventFrame bs z s) (hpu : .pu ∈ bs) :
    eventFrame bs z (composeBlock s) := by
  unfold composeBlock
  repeat' (first | (with_reducible assumption) | (with_reducible apply eventFrame_setPu) | split | rfl)

theorem endReceipt_frame {bs : List BlockId} {z : State} (s : State) (h : eventFrame bs z s) (hpu : .pu ∈ bs) :
    eventFrame bs z (endReceipt s) := by
  unfold endReceipt
  repeat' (first | (with_reducible assumption) | (with_reducible apply suSend_frame)
                 | (with_reducible apply arbitrate_frame) | (with_reducible apply eventFrame_setPu) | split | rfl)

theorem endJob_frame {bs : List BlockId} {z : State} (s : State) (j : Nat) (h : eventFrame bs z s) (hpu : .pu ∈ bs) :
    eventFrame bs z (endJob s j) := by
  unfold endJob
  dsimp only
  repeat' (first | (with_reducible assumption) | (with_reducible apply raise_frame)
                 | (with_reducible apply arbitrate_frame) | (with_reducible apply eventFrame_setPu) | split | rfl)

theorem acknowledge_frame {bs : List BlockId} {z : State} (s : State) (kind : FlightKind) (h : eventFrame bs z s)
    (hpu : .pu ∈ bs) :
    eventFrame bs z (acknowledge s kind) := by
  unfold acknowledge
  repeat' (first | (with_reducible assumption) | (with_reducible apply composeBlock_frame)
                 | (with_reducible apply endReceipt_frame) | (with_reducible apply endJob_frame)
                 | (with_reducible apply eventFrame_setPu) | split | rfl)

theorem takeLineDone_frame {bs : List BlockId} {z : State} (s : State) (seq : Half) (h : eventFrame bs z s) (hpu :
    .pu ∈ bs) :
    eventFrame bs z (takeLineDone s seq) := by
  unfold takeLineDone
  repeat' (first | (with_reducible assumption) | (with_reducible apply acknowledge_frame)
                 | (with_reducible apply eventFrame_setPu) | split | rfl)

theorem lineDone_frame {bs : List BlockId} {z : State} (s : State) (p : List Byte) (h : eventFrame bs z s) (hlu :
    .lu ∈ bs) (hpu : .pu ∈ bs) :
    eventFrame bs z (lineDone s p) := by
  unfold lineDone
  repeat' (first | (with_reducible assumption) | (with_reducible apply askPu_frame)
                 | (with_reducible apply popPath_frame) | (with_reducible apply takeLineDone_frame) | split | rfl)

theorem printSuspend_frame {bs : List BlockId} {z : State} (s : State) (h : eventFrame bs z s) (hpu : .pu ∈ bs) :
    eventFrame bs z (printSuspend s) := by
  unfold printSuspend
  repeat' (first | (with_reducible assumption) | (with_reducible apply raise_frame)
                 | (with_reducible apply eventFrame_setPu) | split | rfl)

theorem printResume_frame {bs : List BlockId} {z : State} (s : State) (h : eventFrame bs z s) (hpu : .pu ∈ bs) :
    eventFrame bs z (printResume s) := by
  unfold printResume
  dsimp only
  repeat' (first | (with_reducible assumption) | (with_reducible apply raise_frame)
                 | (with_reducible apply arbitrate_frame) | (with_reducible apply eventFrame_setPu) | split | rfl)

theorem printerStatus_frame {bs : List BlockId} {z : State} (s : State) (p : List Byte) (h : eventFrame bs z s) (hlu
    : .lu ∈ bs) (hpu : .pu ∈ bs) :
    eventFrame bs z (printerStatus s p) := by
  unfold printerStatus
  dsimp only
  repeat' (first | (with_reducible assumption) | (with_reducible apply askPu_frame)
                 | (with_reducible apply raise_frame) | (with_reducible apply popPath_frame)
                 | (with_reducible apply printSuspend_frame) | (with_reducible apply printResume_frame)
                 | (with_reducible apply eventFrame_setPu) | split | rfl)

theorem printerLinkChange_frame {bs : List BlockId} {z : State} (s : State) (old new : LinkState) (h : eventFrame bs
    z s) (hlu : .lu ∈ bs) (hpu : .pu ∈ bs) :
    eventFrame bs z (printerLinkChange s old new) := by
  unfold printerLinkChange
  dsimp only
  repeat' (first | (with_reducible assumption) | (with_reducible apply askPu_frame)
                 | (with_reducible apply popPath_frame) | (with_reducible apply printSuspend_frame)
                 | (with_reducible apply eventFrame_setPu) | split | rfl)

theorem receiptBegin_frame {bs : List BlockId} {z : State} (s : State) (h : eventFrame bs z s) (hpu : .pu ∈ bs) :
    eventFrame bs z (receiptBegin s) := by
  unfold receiptBegin
  repeat' (first | (with_reducible assumption) | (with_reducible apply askPu_frame)
                 | (with_reducible apply arbitrate_frame) | (with_reducible apply eventFrame_setPu) | split | rfl)

theorem receiptCloseMark_frame {bs : List BlockId} {z : State} (s : State) (mark : Half) (kind : BlockKind) (h :
    eventFrame bs z s) (hpu : .pu ∈ bs) :
    eventFrame bs z (receiptCloseMark s mark kind) := by
  unfold receiptCloseMark
  repeat' (first | (with_reducible assumption) | (with_reducible apply askPu_frame)
                 | (with_reducible apply composeBlock_frame) | (with_reducible apply eventFrame_setPu) | split | rfl)

theorem saleIdleTold_frame {bs : List BlockId} {z : State} (s : State) (h : eventFrame bs z s) (hpu : .pu ∈ bs) :
    eventFrame bs z (saleIdleTold s) := by
  unfold saleIdleTold
  repeat' (first | (with_reducible assumption) | (with_reducible apply askPu_frame)
                 | (with_reducible apply arbitrate_frame) | (with_reducible apply eventFrame_setPu) | split | rfl)

theorem jobSubmitted_frame {bs : List BlockId} {z : State} (s : State) (j : Nat) (h : eventFrame bs z s) (hre : .re
    ∈ bs) (hpu : .pu ∈ bs) :
    eventFrame bs z (jobSubmitted s j) := by
  unfold jobSubmitted
  dsimp only
  repeat' (first | (with_reducible assumption) | (with_reducible apply askPu_frame)
                 | (with_reducible apply finishRequest_frame) | (with_reducible apply arbitrate_frame)
                 | (with_reducible apply eventFrame_setPu) | split | rfl)

theorem printSubmit_frame {bs : List BlockId} {z : State} (s : State) (h : eventFrame bs z s) (hre : .re ∈ bs) (hpu
    : .pu ∈ bs) :
    eventFrame bs z (printSubmit s) := by
  unfold printSubmit
  dsimp only
  repeat' (first | (with_reducible assumption) | (with_reducible apply failRequest_frame)
                 | (with_reducible apply jobSubmitted_frame) | split | rfl)

theorem receiptAbandoned_frame {bs : List BlockId} {z : State} (s : State) (h : eventFrame bs z s) (hre : .re ∈ bs)
    (hpu : .pu ∈ bs) :
    eventFrame bs z (receiptAbandoned s) := by
  unfold receiptAbandoned
  dsimp only
  repeat' (first | (with_reducible assumption) | (with_reducible apply askPu_frame)
                 | (with_reducible apply finishRequest_frame) | (with_reducible apply suSend_frame)
                 | (with_reducible apply arbitrate_frame) | (with_reducible apply eventFrame_setPu) | split | rfl)

theorem receiptAbandon_frame {bs : List BlockId} {z : State} (s : State) (h : eventFrame bs z s) (hre : .re ∈ bs)
    (hpu : .pu ∈ bs) :
    eventFrame bs z (receiptAbandon s) := by
  unfold receiptAbandon
  repeat' (first | (with_reducible assumption) | (with_reducible apply failRequest_frame)
                 | (with_reducible apply receiptAbandoned_frame) | split | rfl)

theorem enterClosing_frame {bs : List BlockId} {z : State} (s : State) (outcome : SaleOutcome) (kind : JournalKind)
    (block : BlockKind) (h : eventFrame bs z s) (hre : .re ∈ bs) (hsu : .su ∈ bs) (hju : .ju ∈ bs) :
    eventFrame bs z (enterClosing s outcome kind block) := by
  unfold enterClosing
  dsimp only
  repeat' (first | (with_reducible assumption) | (with_reducible apply finishRequest_frame)
                 | (with_reducible apply suWrite_frame) | (with_reducible apply eventFrame_setJu) | split | rfl)

theorem saleClose_frame {bs : List BlockId} {z : State} (s : State) (h : eventFrame bs z s) (hre : .re ∈ bs) (hsu :
    .su ∈ bs) (hju : .ju ∈ bs) :
    eventFrame bs z (saleClose s) := by
  unfold saleClose
  repeat' (first | (with_reducible assumption) | (with_reducible apply suFail_frame)
                 | (with_reducible apply enterClosing_frame) | split | rfl)

theorem saleAbort_frame {bs : List BlockId} {z : State} (s : State) (h : eventFrame bs z s) (hre : .re ∈ bs) (hsu :
    .su ∈ bs) (htu : .tu ∈ bs) (hju : .ju ∈ bs) :
    eventFrame bs z (saleAbort s) := by
  unfold saleAbort
  repeat' (first | (with_reducible assumption) | (with_reducible apply suFail_frame)
                 | (with_reducible apply beginKick_frame) | (with_reducible apply enterClosing_frame) | split | rfl)

theorem receiptEnded_frame {bs : List BlockId} {z : State} (s : State) (incomplete ofRequest : Bool) (h : eventFrame
    bs z s) (hsu : .su ∈ bs) (hju : .ju ∈ bs) :
    eventFrame bs z (receiptEnded s incomplete ofRequest) := by
  unfold receiptEnded
  dsimp only
  repeat' (first | (with_reducible assumption) | (with_reducible apply askFixed_frame)
                 | (with_reducible apply suDecide_frame) | (with_reducible apply eventFrame_setJu) | split | rfl)

theorem deliverWatched_frame {bs : List BlockId} {z : State} (s : State) (k : Watched) (old : Word) (h : eventFrame
    bs z s) (hbi : .bi ∈ bs) (hre : .re ∈ bs) (hnu : .nu ∈ bs) :
    eventFrame bs z (deliverWatched s k old) := by
  unfold deliverWatched
  repeat' (first | (with_reducible assumption) | (with_reducible apply askJuStatus_frame)
                 | (with_reducible apply askPu_frame) | (with_reducible apply look_frame)
                 | (with_reducible apply nextRequest_frame) | (with_reducible apply consumerAdvance_frame)
                 | split | rfl)

theorem refuseWord_frame {bs : List BlockId} {z : State} (s : State) (addr : Nat) (unmapped : Bool) (h : eventFrame
    bs z s) (hbi : .bi ∈ bs) :
    eventFrame bs z (refuseWord s addr unmapped) := by
  unfold refuseWord
  repeat' (first | (with_reducible assumption) | (with_reducible apply raise_frame)
                 | (with_reducible apply eventFrame_setBi) | split | rfl)

theorem grantBurst_frame {bs : List BlockId} {z : State} (s : State) (h : eventFrame bs z s) (hbi : .bi ∈ bs) :
    eventFrame bs z (grantBurst s) := by
  unfold grantBurst
  dsimp only
  repeat' (first | (with_reducible assumption) | (with_reducible apply hostGrant_frame)
                 | (with_reducible apply eventFrame_setBi) | split | rfl)

theorem endBurst_frame {bs : List BlockId} {z : State} (s : State) (h : eventFrame bs z s) (hbi : .bi ∈ bs) :
    eventFrame bs z (endBurst s) := by
  unfold endBurst
  dsimp only
  repeat' (first | (with_reducible assumption) | (with_reducible apply askBiStatus_frame)
                 | (with_reducible apply eventFrame_setBi) | split | rfl)

theorem askFill_frame {bs : List BlockId} {z : State} (s : State) (w : HostWord) (h : eventFrame bs z s) (hbi : .bi
    ∈ bs) :
    eventFrame bs z (askFill s w) := by
  unfold askFill
  repeat' (first | (with_reducible assumption) | (with_reducible apply eventFrame_setBi)
                 | (with_reducible apply eventFrame_list) | split | rfl)

theorem presentRead_frame {bs : List BlockId} {z : State} (s : State) (addr len : Nat) (h : eventFrame bs z s) (hbi
    : .bi ∈ bs) :
    eventFrame bs z (presentRead s addr len) := by
  unfold presentRead
  repeat' (first | (with_reducible assumption) | (with_reducible apply serveRead_frame)
                 | (with_reducible apply eventFrame_setBi) | split | rfl)

theorem askPuFree_frame {bs : List BlockId} {z : State} (s : State) (ofRequest : Bool) (h : eventFrame bs z s) :
    eventFrame bs z (askPuFree s ofRequest) := by
  unfold askPuFree
  repeat' (first | (with_reducible assumption) | (with_reducible apply askFixed_frame) | split | rfl)

theorem resetLatches_frame {bs : List BlockId} {z : State} (s : State) (h : eventFrame bs z s) :
    eventFrame bs z (resetLatches s) := by
  unfold resetLatches
  repeat' (first | (with_reducible assumption) | (with_reducible apply eventFrame_notices) | split | rfl)

theorem resetSale_frame {bs : List BlockId} {z : State} (s : State) (h : eventFrame bs z s) (hsu : .su ∈ bs) :
    eventFrame bs z (resetSale s) := by
  unfold resetSale
  dsimp only
  repeat' (first | (with_reducible assumption) | (with_reducible apply askFixed_frame)
                 | (with_reducible apply eventFrame_setSu) | split | rfl)

theorem resetPlatter_frame {bs : List BlockId} {z : State} (s : State) (h : eventFrame bs z s) (hpwu : .pwu ∈ bs) :
    eventFrame bs z (resetPlatter s) := by
  unfold resetPlatter
  repeat' (first | (with_reducible assumption) | (with_reducible apply askLive_frame)
                 | (with_reducible apply freezeWaiting_frame) | (with_reducible apply eventFrame_setPwu) | split
                 | rfl)

theorem resetBag_frame {bs : List BlockId} {z : State} (s : State) (h : eventFrame bs z s) (hbwu : .bwu ∈ bs) :
    eventFrame bs z (resetBag s) := by
  unfold resetBag
  repeat' (first | (with_reducible assumption) | (with_reducible apply askBwuStatus_frame)
                 | (with_reducible apply eventFrame_setBwu) | split | rfl)

theorem resetCard_frame {bs : List BlockId} {z : State} (s : State) (h : eventFrame bs z s) (hctu : .ctu ∈ bs) :
    eventFrame bs z (resetCard s) := by
  unfold resetCard
  repeat' (first | (with_reducible assumption) | (with_reducible apply askCardSession_frame)
                 | (with_reducible apply eventFrame_setCtu) | split | rfl)

theorem resetTill_frame {bs : List BlockId} {z : State} (s : State) (h : eventFrame bs z s) (htu : .tu ∈ bs) :
    eventFrame bs z (resetTill s) := by
  unfold resetTill
  repeat' (first | (with_reducible assumption) | (with_reducible apply askTuStatus_frame)
                 | (with_reducible apply eventFrame_setTu) | split | rfl)

theorem resetPrinter_frame {bs : List BlockId} {z : State} (s : State) (h : eventFrame bs z s) (hpu : .pu ∈ bs) :
    eventFrame bs z (resetPrinter s) := by
  unfold resetPrinter
  repeat' (first | (with_reducible assumption) | (with_reducible apply askPuFree_frame)
                 | (with_reducible apply eventFrame_setPu) | split | rfl)

theorem resetJournal_frame {bs : List BlockId} {z : State} (s : State) (h : eventFrame bs z s) (hju : .ju ∈ bs) :
    eventFrame bs z (resetJournal s) := by
  unfold resetJournal
  repeat' (first | (with_reducible assumption) | (with_reducible apply eventFrame_setJu) | split | rfl)

theorem quietLink_frame {bs : List BlockId} {z : State} (s : State) (l : LinkId) (h : eventFrame bs z s) (hlu : .lu
    ∈ bs) :
    eventFrame bs z (quietLink s l) := by
  unfold quietLink
  dsimp only
  repeat' (first | (with_reducible apply forgetPath_frame)
                 | (with_reducible assumption) | (with_reducible apply changeLink_frame)
                 | (with_reducible apply eventFrame_setLink) | split | rfl)

theorem resetLinks_frame {bs : List BlockId} {z : State} (s : State) (h : eventFrame bs z s) (hlu : .lu ∈ bs) :
    eventFrame bs z (resetLinks s) := by
  unfold resetLinks
  simp only [List.foldl]
  repeat' (first | (with_reducible assumption) | (with_reducible apply quietLink_frame) | split | rfl)

theorem resetEngine_frame {bs : List BlockId} {z : State} (s : State) (h : eventFrame bs z s) (hre : .re ∈ bs) :
    eventFrame bs z (resetEngine s) := by
  unfold resetEngine
  repeat' (first | (with_reducible assumption) | (with_reducible apply askReStatus_frame)
                 | (with_reducible apply eventFrame_setRe) | split | rfl)

theorem cutPulse_frame {bs : List BlockId} {z : State} (s : State) (h : eventFrame bs z s) (htu : .tu ∈ bs) :
    eventFrame bs z (cutPulse s) := by
  unfold cutPulse
  repeat' (first | (with_reducible assumption) | (with_reducible apply eventFrame_setTu) | split | rfl)

theorem runAfter_frame {bs : List BlockId} {z : State} (s : State) (a : After) (h : eventFrame bs z s) (hlu : .lu ∈
    bs) (hbwu : .bwu ∈ bs) (hsu : .su ∈ bs) (hctu : .ctu ∈ bs) (htu : .tu ∈ bs) (hpu : .pu ∈ bs) (hju : .ju ∈ bs) :
    eventFrame bs z (runAfter s a) := by
  unfold runAfter
  repeat' (first | (with_reducible apply arrive_frame)
                 | (with_reducible assumption) | (with_reducible apply raise_frame)
                 | (with_reducible apply suAskWindow_frame) | (with_reducible apply cardAsks_frame)
                 | (with_reducible apply beginKick_frame) | (with_reducible apply eventFrame_setBwu)
                 | (with_reducible apply eventFrame_setSu) | (with_reducible apply eventFrame_setPu)
                 | (with_reducible apply eventFrame_setJu) | split | rfl)

theorem removeWindow_frame {bs : List BlockId} {z : State} (s : State) (id : Nat) (h : eventFrame bs z s) (hbi : .bi
    ∈ bs) :
    eventFrame bs z (removeWindow s id) := by
  unfold removeWindow
  repeat' (first | (with_reducible assumption) | (with_reducible apply releaseHeld_frame)
                 | (with_reducible apply eventFrame_setBi) | split | rfl)

theorem rxCharacter_frame {bs : List BlockId} {z : State} (s : State) (l : LinkId) (char : Byte) (stopHigh : Bool)
    (h : eventFrame bs z s) (hlu : .lu ∈ bs) :
    eventFrame bs z (rxCharacter s l char stopHigh) := by
  unfold rxCharacter
  dsimp only
  repeat' (first | (with_reducible assumption) | (with_reducible apply scan_frame)
                 | (with_reducible apply eventFrame_setLink) | split | rfl)

theorem failAttempt_frame {bs : List BlockId} {z : State} (s : State) (l : LinkId) (kind : ErrorKind) (held : List
    Byte) (h : eventFrame bs z s) (hlu : .lu ∈ bs) :
    eventFrame bs z (failAttempt s l kind held) := by
  unfold failAttempt
  repeat' (first | (with_reducible assumption) | (with_reducible apply badAttempt_frame)
                 | (with_reducible apply scan_frame) | split | rfl)

theorem lineRise_frame {bs : List BlockId} {z : State} (s : State) (l : LinkId) (h : eventFrame bs z s) (hlu : .lu ∈
    bs) :
    eventFrame bs z (lineRise s l) := by
  unfold lineRise
  dsimp only
  repeat' (first | (with_reducible assumption) | (with_reducible apply linkError_frame)
                 | (with_reducible apply failAttempt_frame) | (with_reducible apply eventFrame_setLink) | split | rfl)

theorem gapTimeout_frame {bs : List BlockId} {z : State} (s : State) (l : LinkId) (h : eventFrame bs z s) (hlu : .lu
    ∈ bs) :
    eventFrame bs z (gapTimeout s l) := by
  unfold gapTimeout
  repeat' (first | (with_reducible assumption) | (with_reducible apply failAttempt_frame) | split | rfl)

theorem breakDetected_frame {bs : List BlockId} {z : State} (s : State) (l : LinkId) (h : eventFrame bs z s) (hlu :
    .lu ∈ bs) :
    eventFrame bs z (breakDetected s l) := by
  unfold breakDetected
  dsimp only
  repeat' (first | (with_reducible assumption) | (with_reducible apply linkError_frame)
                 | (with_reducible apply enterDown_frame) | (with_reducible apply eventFrame_setLink) | split | rfl)

theorem breakLineHigh_frame {bs : List BlockId} {z : State} (s : State) (l : LinkId) (h : eventFrame bs z s) (hlu :
    .lu ∈ bs) :
    eventFrame bs z (breakLineHigh s l) := by
  unfold breakLineHigh
  repeat' (first | (with_reducible assumption) | (with_reducible apply eventFrame_setLink) | split | rfl)

theorem silenceExpired_frame {bs : List BlockId} {z : State} (s : State) (l : LinkId) (h : eventFrame bs z s) (hlu :
    .lu ∈ bs) :
    eventFrame bs z (silenceExpired s l) := by
  unfold silenceExpired
  repeat' (first | (with_reducible assumption) | (with_reducible apply queueHello_frame)
                 | (with_reducible apply startSilence_frame) | (with_reducible apply enterDown_frame) | split | rfl)

theorem sentNotice_frame {bs : List BlockId} {z : State} (s : State) (l : LinkId) (h : eventFrame bs z s) (hlu : .lu
    ∈ bs) (hctu : .ctu ∈ bs) (hpu : .pu ∈ bs) :
    eventFrame bs z (sentNotice s l) := by
  unfold sentNotice
  repeat' (first | (with_reducible assumption) | (with_reducible apply cardNotice_frame)
                 | (with_reducible apply printNotice_frame) | split | rfl)

theorem frameSent_frame {bs : List BlockId} {z : State} (s : State) (l : LinkId) (h : eventFrame bs z s) (hlu : .lu
    ∈ bs) (hctu : .ctu ∈ bs) (hpu : .pu ∈ bs) :
    eventFrame bs z (frameSent s l) := by
  unfold frameSent
  dsimp only
  repeat' (first | (with_reducible assumption) | (with_reducible apply sentNotice_frame)
                 | (with_reducible apply eventFrame_setLink) | split | rfl)

theorem decodeRequest_frame {bs : List BlockId} {z : State} (s : State) (h : eventFrame bs z s) (hre : .re ∈ bs) :
    eventFrame bs z (decodeRequest s) := by
  unfold decodeRequest
  repeat' (first | (with_reducible assumption) | (with_reducible apply failRequest_frame)
                 | (with_reducible apply suSend_frame) | split | rfl)

theorem requestFetched_frame {bs : List BlockId} {z : State} (s : State) (h : eventFrame bs z s) (hre : .re ∈ bs) :
    eventFrame bs z (requestFetched s) := by
  unfold requestFetched
  repeat' (first | (with_reducible assumption) | (with_reducible apply askReConsumer_frame)
                 | (with_reducible apply decodeRequest_frame) | (with_reducible apply eventFrame_setRe) | split | rfl)

theorem beginCommit_frame {bs : List BlockId} {z : State} (s : State) (h : eventFrame bs z s) (hbi : .bi ∈ bs) (hre
    : .re ∈ bs) :
    eventFrame bs z (beginCommit s) := by
  unfold beginCommit
  repeat' (first | (with_reducible assumption) | (with_reducible apply failRequest_frame)
                 | (with_reducible apply eventFrame_setBi) | (with_reducible apply eventFrame_setRe) | split | rfl)

theorem takeSetup_frame {bs : List BlockId} {z : State} (s : State) (c : Setup) (h : eventFrame bs z s) (hre : .re ∈
    bs) :
    eventFrame bs z (takeSetup s c) := by
  unfold takeSetup
  repeat' (first | (with_reducible assumption) | (with_reducible apply eventFrame_setRe) | split | rfl)

theorem initSale_frame {bs : List BlockId} {z : State} (s : State) (c : Setup) (h : eventFrame bs z s) (hsu : .su ∈
    bs) :
    eventFrame bs z (initSale s c) := by
  unfold initSale
  dsimp only
  repeat' (first | (with_reducible assumption) | (with_reducible apply askFixed_frame)
                 | (with_reducible apply eventFrame_setSu) | split | rfl)

theorem initPlatter_frame {bs : List BlockId} {z : State} (s : State) (h : eventFrame bs z s) (hpwu : .pwu ∈ bs) :
    eventFrame bs z (initPlatter s) := by
  unfold initPlatter
  repeat' (first | (with_reducible assumption) | (with_reducible apply askPwuLive_frame)
                 | (with_reducible apply eventFrame_setPwu) | split | rfl)

theorem initBag_frame {bs : List BlockId} {z : State} (s : State) (h : eventFrame bs z s) (hbwu : .bwu ∈ bs) :
    eventFrame bs z (initBag s) := by
  unfold initBag
  repeat' (first | (with_reducible assumption) | (with_reducible apply askBwuStatus_frame)
                 | (with_reducible apply eventFrame_setBwu) | split | rfl)

theorem initCard_frame {bs : List BlockId} {z : State} (s : State) (h : eventFrame bs z s) (hctu : .ctu ∈ bs) :
    eventFrame bs z (initCard s) := by
  unfold initCard
  repeat' (first | (with_reducible assumption) | (with_reducible apply askCardSession_frame)
                 | (with_reducible apply eventFrame_setCtu) | split | rfl)

theorem initTill_frame {bs : List BlockId} {z : State} (s : State) (h : eventFrame bs z s) (htu : .tu ∈ bs) :
    eventFrame bs z (initTill s) := by
  unfold initTill
  repeat' (first | (with_reducible assumption) | (with_reducible apply askTuStatus_frame)
                 | (with_reducible apply eventFrame_setTu) | split | rfl)

theorem initPrinter_frame {bs : List BlockId} {z : State} (s : State) (h : eventFrame bs z s) (hpu : .pu ∈ bs) :
    eventFrame bs z (initPrinter s) := by
  unfold initPrinter
  repeat' (first | (with_reducible assumption) | (with_reducible apply askPuFree_frame)
                 | (with_reducible apply eventFrame_setPu) | split | rfl)

theorem initLinks_frame {bs : List BlockId} {z : State} (s : State) (h : eventFrame bs z s) (hlu : .lu ∈ bs) :
    eventFrame bs z (initLinks s) := by
  unfold initLinks
  simp only [List.foldl]
  repeat' (first | (with_reducible assumption) | (with_reducible apply enterUnseen_frame) | split | rfl)

theorem markCommit_frame {bs : List BlockId} {z : State} (s : State) (start : Nat) (h : eventFrame bs z s) :
    eventFrame bs z (markCommit s start) := by
  unfold markCommit
  repeat' (first | (with_reducible assumption) | (with_reducible apply eventFrame_asks) | split | rfl)

theorem relink_frame {bs : List BlockId} {z : State} (old : Setup) (s : State) (l : LinkId) (h : eventFrame bs z s)
    (hlu : .lu ∈ bs) :
    eventFrame bs z (relink old s l) := by
  unfold relink
  repeat' (first | (with_reducible assumption) | (with_reducible apply enterUnseen_frame) | split | rfl)

theorem recommitPlatter_frame {bs : List BlockId} {z : State} (old s : State) (h : eventFrame bs z s) (hpwu : .pwu ∈
    bs) :
    eventFrame bs z (recommitPlatter old s) := by
  unfold recommitPlatter
  dsimp only
  repeat' (first | (with_reducible assumption) | (with_reducible apply staleCurrent_frame)
                 | (with_reducible apply eventFrame_setPwu) | split | rfl)

theorem laneReset_frame {bs : List BlockId} {z : State} (s : State) (h : eventFrame bs z s) (hre : .re ∈ bs) :
    eventFrame bs z (laneReset s) := by
  unfold laneReset
  repeat' (first | (with_reducible assumption) | (with_reducible apply finishRequest_frame) | split | rfl)

theorem recordWritten_frame {bs : List BlockId} {z : State} (s : State) (o : OpenWindow) (reserved : Nat) (h :
    eventFrame bs z s) (hbi : .bi ∈ bs) (hnu : .nu ∈ bs) :
    eventFrame bs z (recordWritten s o reserved) := by
  unfold recordWritten
  dsimp only
  repeat' (first | (with_reducible assumption) | (with_reducible apply updateAttn_frame)
                 | (with_reducible apply removeWindow_frame) | (with_reducible apply eventFrame_setNu) | split | rfl)

theorem leaveCompleting_frame {bs : List BlockId} {z : State} (s : State) (h : eventFrame bs z s) (hre : .re ∈ bs) :
    eventFrame bs z (leaveCompleting s) := by
  unfold leaveCompleting
  repeat' (first | (with_reducible assumption) | (with_reducible apply eventFrame_setRe) | split | rfl)

theorem freedNotices_frame {bs : List BlockId} {z : State} (s t : State) (h : eventFrame bs z t)
    (hlu : .lu ∈ bs) (hctu : .ctu ∈ bs) (hpu : .pu ∈ bs) :
    eventFrame bs z (freedNotices s t) := by
  unfold freedNotices
  dsimp only
  repeat' (first | (with_reducible assumption) | (with_reducible apply cardNotices_frame)
                 | (with_reducible apply printNotices_frame) | split | rfl)

theorem afterCompletion_frame {bs : List BlockId} {z : State} (s : State) (askFirst : Bool) (h : eventFrame bs z s)
    (hbi : .bi ∈ bs) (hre : .re ∈ bs) (hnu : .nu ∈ bs) :
    eventFrame bs z (afterCompletion s askFirst) := by
  unfold afterCompletion
  repeat' (first | (with_reducible assumption) | (with_reducible apply look_frame)
                 | (with_reducible apply nextRequest_frame) | split | rfl)

theorem takeAsk_frame {bs : List BlockId} {z : State} (s : State) (b : BlockId) (h : eventFrame bs z s) :
    eventFrame bs z (takeAsk s b) := by
  unfold takeAsk
  repeat' (first | (with_reducible assumption) | (with_reducible apply suPop_frame) | split | rfl)

theorem answered_frame {bs : List BlockId} {z : State} (s : State) (kind : CondKind) (count : Nat) (stamp : Word)
    (source : Nat) (rest : List BlockId) (payload : List Byte) (h : eventFrame bs z s) :
    eventFrame bs z (answered s kind count stamp source rest payload) := by
  unfold answered
  repeat' (first | (with_reducible assumption) | (with_reducible apply askRecord_frame)
                 | (with_reducible apply eventFrame_notices) | split | rfl)

theorem conditionWritten_frame {bs : List BlockId} {z : State} (s : State) (o : OpenWindow) (h : eventFrame bs z s)
    (hbi : .bi ∈ bs) (hnu : .nu ∈ bs) :
    eventFrame bs z (conditionWritten s o) := by
  unfold conditionWritten
  repeat' (first | (with_reducible assumption) | (with_reducible apply look_frame)
                 | (with_reducible apply recordWritten_frame) | split | rfl)

end Sys2Proof.Machine
end

