-- ==== Sys2Proof/Laws/Memory.lean ====
section
/-! SUPPORT. The memory operations keep the canonical form, and a read gives what the last write at its address gave. -/

namespace Sys2Proof.Machine

theorem Memory.wf_tail {c : Host.Cell} {m : List Host.Cell} (h : Memory.wf (c :: m) = true) : Memory.wf m = true := by
  cases m with
  | nil => rfl
  | cons d rest => simp [Memory.wf] at h; exact h.2

/-- Every address of a canonical list after its head lies above the head. -/
theorem Memory.wf_head_lt {k : Nat} {w : Byte} {m : List Host.Cell} (h : Memory.wf ((k, w) :: m) = true) :
    ∀ c ∈ m, k < c.1 := by
  induction m generalizing k w with
  | nil => simp
  | cons d rest ih =>
    obtain ⟨j, v⟩ := d
    simp only [Memory.wf, Bool.and_eq_true, decide_eq_true_eq] at h
    intro c hc
    rcases List.mem_cons.mp hc with rfl | hc
    · exact h.1.2
    · exact Nat.lt_trans h.1.2 (ih h.2 c hc)

theorem Memory.wf_cons {k : Nat} {w : Byte} {m : List Host.Cell} (hw : w ≠ Memory.unlisted) (hm : Memory.wf m = true)
    (hlt : ∀ c ∈ m, k < c.1) : Memory.wf ((k, w) :: m) = true := by
  cases m with
  | nil => simpa [Memory.wf] using hw
  | cons d rest =>
    obtain ⟨j, v⟩ := d
    simp only [Memory.wf, Bool.and_eq_true, decide_eq_true_eq, bne_iff_ne]
    exact ⟨⟨hw, hlt (j, v) (by simp)⟩, hm⟩

theorem Memory.wf_head_ne {k : Nat} {w : Byte} {m : List Host.Cell} (h : Memory.wf ((k, w) :: m) = true) :
    w ≠ Memory.unlisted := by
  cases m with
  | nil => simpa [Memory.wf] using h
  | cons d rest => simp only [Memory.wf, Bool.and_eq_true, bne_iff_ne] at h; exact h.1.1

/-- A byte write lists only addresses listed before, and its own. -/
theorem Memory.mem_writeByte {m : List Host.Cell} {a : Nat} {v : Byte} {c : Host.Cell}
    (h : c ∈ Memory.writeByte m a v) : c ∈ m ∨ c.1 = a := by
  induction m with
  | nil =>
    simp only [Memory.writeByte] at h
    split at h <;> simp_all
  | cons d rest ih =>
    obtain ⟨k, w⟩ := d
    simp only [Memory.writeByte] at h
    split at h
    · split at h <;> simp_all
      rcases h with rfl | h | h <;> simp_all
    · split at h
      · split at h <;> simp_all
        rcases h with rfl | h <;> simp_all
      · simp only [List.mem_cons] at h ⊢
        rcases h with rfl | h
        · simp
        · rcases ih h with h | h <;> simp_all

/-- A byte write keeps the canonical form. -/
theorem Memory.wf_writeByte {m : List Host.Cell} (a : Nat) (v : Byte) (h : Memory.wf m = true) :
    Memory.wf (Memory.writeByte m a v) = true := by
  induction m with
  | nil =>
    simp only [Memory.writeByte]
    split
    · rfl
    · simpa [Memory.wf] using ‹_›
  | cons d rest ih =>
    obtain ⟨k, w⟩ := d
    have hlt := Memory.wf_head_lt h
    simp only [Memory.writeByte]
    split
    · split
      · exact h
      · refine Memory.wf_cons ‹_› h ?_
        intro c hc
        rcases List.mem_cons.mp hc with rfl | hc
        · assumption
        · exact Nat.lt_trans ‹_› (hlt c hc)
    · split
      · subst_vars
        split
        · exact Memory.wf_tail h
        · exact Memory.wf_cons ‹_› (Memory.wf_tail h) hlt
      · refine Memory.wf_cons (Memory.wf_head_ne h) (ih (Memory.wf_tail h)) ?_
        intro c hc
        rcases Memory.mem_writeByte hc with hc | hc
        · exact hlt c hc
        · rw [hc]; omega

theorem Memory.readByte_below {m : List Host.Cell} {a : Nat} (h : ∀ c ∈ m, a < c.1) :
    Memory.readByte m a = Memory.unlisted := by
  cases m with
  | nil => rfl
  | cons d rest =>
    obtain ⟨k, w⟩ := d
    have hk : a < k := h (k, w) (by simp)
    simp [Memory.readByte, Nat.ne_of_gt hk, hk]

/-- What a byte reads as after a byte write. -/
theorem Memory.readByte_writeByte {m : List Host.Cell} (a : Nat) (v : Byte) (b : Nat) (h : Memory.wf m = true) :
    Memory.readByte (Memory.writeByte m a v) b = if b = a then v else Memory.readByte m b := by
  induction m with
  | nil =>
    by_cases hv : v = Memory.unlisted
    · simp [Memory.writeByte, Memory.readByte, hv]
    · simp only [Memory.writeByte, hv, if_false, Memory.readByte]
      by_cases hb : a = b
      · simp [hb]
      · simp [hb, Ne.symm hb]
  | cons d rest ih =>
    obtain ⟨k, w⟩ := d
    have hlt := Memory.wf_head_lt h
    have ih := ih (Memory.wf_tail h)
    rcases Nat.lt_trichotomy a k with hak | hak | hak
    · by_cases hv : v = Memory.unlisted
      · simp only [Memory.writeByte, hak, hv, if_true]
        by_cases hb : b = a
        · subst hb; simp [Memory.readByte, Nat.ne_of_gt hak, hak]
        · simp [hb]
      · simp only [Memory.writeByte, hak, hv, if_true, if_false, Memory.readByte]
        by_cases hb : b = a
        · subst hb; simp
        · simp only [Ne.symm hb, hb, if_false]
          by_cases hba : b < a
          · have h1 : k ≠ b := by omega
            have h2 : b < k := by omega
            simp [hba, h1, h2]
          · simp [hba]
    · subst hak
      by_cases hv : v = Memory.unlisted
      · simp only [Memory.writeByte, Nat.lt_irrefl, hv, if_true, if_false]
        by_cases hb : b = a
        · subst hb; simp [Memory.readByte_below hlt]
        · simp only [hb, if_false, Memory.readByte, Ne.symm hb]
          by_cases hba : b < a
          · simp [hba, Memory.readByte_below (fun c hc => Nat.lt_trans hba (hlt c hc))]
          · simp [hba]
      · simp only [Memory.writeByte, Nat.lt_irrefl, hv, if_true, if_false, Memory.readByte]
        by_cases hb : b = a
        · subst hb; simp
        · simp [hb, Ne.symm hb]
    · have h1 : ¬ a < k := by omega
      have h2 : a ≠ k := by omega
      simp only [Memory.writeByte, h1, h2, if_false, Memory.readByte, ih]
      by_cases hb : b = a
      · subst hb; simp [Ne.symm h2, h1]
      · by_cases hkb : k = b
        · subst hkb; simp [hb]
        · simp [hb, hkb]

theorem Memory.wf_writeLane {m : List Host.Cell} (a : Nat) (be : BitVec 4) (w : Word) (k : Nat)
    (h : Memory.wf m = true) : Memory.wf (Memory.writeLane m a be w k) = true := by
  unfold Memory.writeLane
  split
  · exact Memory.wf_writeByte _ _ h
  · exact h

/-- A word write keeps the canonical form. -/
theorem Memory.wf_writeWord {m : List Host.Cell} (a : Nat) (be : BitVec 4) (w : Word) (h : Memory.wf m = true) :
    Memory.wf (Memory.writeWord m a be w) = true :=
  Memory.wf_writeLane _ _ _ _ (Memory.wf_writeLane _ _ _ _ (Memory.wf_writeLane _ _ _ _ (Memory.wf_writeLane _ _ _ _ h)))

/-- The writes of an engine access keep the canonical form. -/
theorem Memory.wf_writeWords {m : List Host.Cell} (ws : List (Nat × Word)) (h : Memory.wf m = true) :
    Memory.wf (Memory.writeWords m ws) = true := by
  induction ws generalizing m with
  | nil => exact h
  | cons x rest ih =>
    obtain ⟨a, w⟩ := x
    exact ih (Memory.wf_writeWord a allBytes w h)

theorem Memory.readByte_writeLane {m : List Host.Cell} (a : Nat) (be : BitVec 4) (w : Word) (k b : Nat)
    (h : Memory.wf m = true) :
    Memory.readByte (Memory.writeLane m a be w k) b
      = if be.getLsbD k = true ∧ b = a + k then byteOfWord w k else Memory.readByte m b := by
  unfold Memory.writeLane
  split
  · simp_all [Memory.readByte_writeByte]
  · simp_all

/-- Outside its four bytes a word write changes nothing. -/
theorem Memory.readByte_writeWord_outside {m : List Host.Cell} (a : Nat) (be : BitVec 4) (w : Word) (b : Nat)
    (h : Memory.wf m = true) (hb : b < a ∨ a + 4 ≤ b) :
    Memory.readByte (Memory.writeWord m a be w) b = Memory.readByte m b := by
  have h0 := Memory.wf_writeLane a be w 0 h
  have h1 := Memory.wf_writeLane a be w 1 h0
  have h2 := Memory.wf_writeLane a be w 2 h1
  unfold Memory.writeWord
  rw [Memory.readByte_writeLane _ _ _ _ _ h2, Memory.readByte_writeLane _ _ _ _ _ h1,
    Memory.readByte_writeLane _ _ _ _ _ h0, Memory.readByte_writeLane _ _ _ _ _ h]
  have e0 : b ≠ a := by omega
  have e1 : b ≠ a + 1 := by omega
  have e2 : b ≠ a + 2 := by omega
  have e3 : b ≠ a + 3 := by omega
  simp [e0, e1, e2, e3]

/-- Byte `k` of a written word: from the write where its enable is set, else as before. -/
theorem Memory.readByte_writeWord_inside {m : List Host.Cell} (a : Nat) (be : BitVec 4) (w : Word) (k : Nat)
    (h : Memory.wf m = true) (hk : k < 4) :
    Memory.readByte (Memory.writeWord m a be w) (a + k)
      = if be.getLsbD k then byteOfWord w k else Memory.readByte m (a + k) := by
  have h0 := Memory.wf_writeLane a be w 0 h
  have h1 := Memory.wf_writeLane a be w 1 h0
  have h2 := Memory.wf_writeLane a be w 2 h1
  unfold Memory.writeWord
  rw [Memory.readByte_writeLane _ _ _ _ _ h2, Memory.readByte_writeLane _ _ _ _ _ h1,
    Memory.readByte_writeLane _ _ _ _ _ h0, Memory.readByte_writeLane _ _ _ _ _ h]
  have : k = 0 ∨ k = 1 ∨ k = 2 ∨ k = 3 := by omega
  rcases this with rfl | rfl | rfl | rfl <;> simp

end Sys2Proof.Machine
end

