-- ==== Sys2Proof/Laws/PerInstr.lean ====
section
/-! SUPPORT. For each command, which operands it is well formed with (log 2): one lemma per constructor. -/

namespace Sys2Proof.Laws.Operands

/-- The operands a command is well formed with. -/
def Statement : Instr → Prop
  | .hostWriteWord addr be data last =>
      (Instr.hostWriteWord addr be data last).wellFormed = true ↔ addr.toNat % 4 = 0
  | .hostReadBurst addr len =>
      (Instr.hostReadBurst addr len).wellFormed = true
        ↔ addr.toNat % 4 = 0 ∧ 1 ≤ len ∧ len ≤ 8 ∧ addr.toNat + 4 * len ≤ 4294967296
  | .printPageTableWrite word be data last =>
      (Instr.printPageTableWrite word be data last).wellFormed = true ↔ word < 128
  | .apertureWrite word be data last => (Instr.apertureWrite word be data last).wellFormed = true ↔ word < 65536
  | .apertureRead word => (Instr.apertureRead word).wellFormed = true ↔ word < 65536
  | i => i.wellFormed = true

theorem hostWriteWord (addr : Word) (be : BitVec 4) (data : Word) (last : Bool) : Statement (.hostWriteWord addr be data last) := by
  simp [Statement, Instr.wellFormed]
theorem hostReadBurst (addr : Word) (len : Nat) : Statement (.hostReadBurst addr len) := by
  simp [Statement, Instr.wellFormed, and_assoc]
theorem reqProducerWrite (be : BitVec 4) (data : Word) (last : Bool) : Statement (.reqProducerWrite be data last) := rfl
theorem evtConsumerWrite (be : BitVec 4) (data : Word) (last : Bool) : Statement (.evtConsumerWrite be data last) := rfl
theorem journalExportWrite (be : BitVec 4) (data : Word) (last : Bool) : Statement (.journalExportWrite be data last) := rfl
theorem noticeMaskWrite (be : BitVec 4) (data : Word) (last : Bool) : Statement (.noticeMaskWrite be data last) := rfl
theorem receiptFillWrite (be : BitVec 4) (data : Word) (last : Bool) : Statement (.receiptFillWrite be data last) := rfl
theorem printPageTableWrite (word : Nat) (be : BitVec 4) (data : Word) (last : Bool) : Statement (.printPageTableWrite word be data last) := by
  simp [Statement, Instr.wellFormed]
theorem apertureWrite (word : Nat) (be : BitVec 4) (data : Word) (last : Bool) : Statement (.apertureWrite word be data last) := by
  simp [Statement, Instr.wellFormed]
theorem apertureRead (word : Nat) : Statement (.apertureRead word) := by
  simp [Statement, Instr.wellFormed]
theorem updateWindowOpen (index : Nat) : Statement (.updateWindowOpen index) := rfl
theorem updateWindowClose (index : Nat) : Statement (.updateWindowClose index) := rfl
theorem memoryPortGrant : Statement .memoryPortGrant := rfl
theorem requestFetched : Statement .requestFetched := rfl
theorem setupCommit : Statement .setupCommit := rfl
theorem laneReset : Statement .laneReset := rfl
theorem completionWritten (askFirst : Bool) : Statement (.completionWritten askFirst) := rfl
theorem payloadAnswer (block : BlockId) : Statement (.payloadAnswer block) := rfl
theorem conditionRecordWritten : Statement .conditionRecordWritten := rfl
theorem resetNAssert : Statement .resetNAssert := rfl
theorem resetNRelease (laSel : BitVec 4) (bagFit : Bool) : Statement (.resetNRelease laSel bagFit) := rfl
theorem rxCharacter (link : LinkId) (char : Byte) (stopHigh : Bool) : Statement (.rxCharacter link char stopHigh) := rfl
theorem gapTimeout (link : LinkId) : Statement (.gapTimeout link) := rfl
theorem breakDetected (link : LinkId) : Statement (.breakDetected link) := rfl
theorem breakLineHigh (link : LinkId) : Statement (.breakLineHigh link) := rfl
theorem silenceExpiry (link : LinkId) : Statement (.silenceExpiry link) := rfl
theorem frameSent (link : LinkId) : Statement (.frameSent link) := rfl
theorem platterSample : Statement .platterSample := rfl
theorem zeroTrackExpiry : Statement .zeroTrackExpiry := rfl
theorem platterLinkChange : Statement .platterLinkChange := rfl
theorem scaleZero : Statement .scaleZero := rfl
theorem scaleTare : Statement .scaleTare := rfl
theorem tareClear : Statement .tareClear := rfl
theorem saleOpen : Statement .saleOpen := rfl
theorem itemAdd : Statement .itemAdd := rfl
theorem itemWeigh : Statement .itemWeigh := rfl
theorem lineVoid : Statement .lineVoid := rfl
theorem bagSample : Statement .bagSample := rfl
theorem bagWaitExpiry : Statement .bagWaitExpiry := rfl
theorem bagLinkChange : Statement .bagLinkChange := rfl
theorem bagSaleOpened : Statement .bagSaleOpened := rfl
theorem bagSaleClosing : Statement .bagSaleClosing := rfl
theorem bagSaleEnded : Statement .bagSaleEnded := rfl
theorem holdRelease : Statement .holdRelease := rfl
theorem bagSettlementClaim : Statement .bagSettlementClaim := rfl
theorem bagHoldClaim : Statement .bagHoldClaim := rfl
theorem bagClearClaim : Statement .bagClearClaim := rfl
theorem tenderClaim : Statement .tenderClaim := rfl
theorem cardTender : Statement .cardTender := rfl
theorem cardCancel : Statement .cardCancel := rfl
theorem tenderVerdict : Statement .tenderVerdict := rfl
theorem cardIn : Statement .cardIn := rfl
theorem cardOut : Statement .cardOut := rfl
theorem moduleStatus : Statement .moduleStatus := rfl
theorem authResult : Statement .authResult := rfl
theorem noRecord : Statement .noRecord := rfl
theorem cardWaitExpiry : Statement .cardWaitExpiry := rfl
theorem cancelWaitExpiry : Statement .cancelWaitExpiry := rfl
theorem cardLinkChange : Statement .cardLinkChange := rfl
theorem sensorEdge : Statement .sensorEdge := rfl
theorem forcedOpeningTell : Statement .forcedOpeningTell := rfl
theorem keyEdge : Statement .keyEdge := rfl
theorem kickWidthExpiry : Statement .kickWidthExpiry := rfl
theorem kickConfirmExpiry : Statement .kickConfirmExpiry := rfl
theorem drawerLimitExpiry : Statement .drawerLimitExpiry := rfl
theorem cashTender : Statement .cashTender := rfl
theorem drawerNosale : Statement .drawerNosale := rfl
theorem printerStatus : Statement .printerStatus := rfl
theorem lineDone : Statement .lineDone := rfl
theorem printerLinkChange : Statement .printerLinkChange := rfl
theorem printFrameOffer : Statement .printFrameOffer := rfl
theorem printSubmit : Statement .printSubmit := rfl
theorem receiptBegin : Statement .receiptBegin := rfl
theorem receiptCloseMark : Statement .receiptCloseMark := rfl
theorem saleIdleTell : Statement .saleIdleTell := rfl
theorem receiptAbandon : Statement .receiptAbandon := rfl
theorem saleClose : Statement .saleClose := rfl
theorem saleAbort : Statement .saleAbort := rfl
theorem receiptEndedClaim : Statement .receiptEndedClaim := rfl
theorem laneClockTick : Statement .laneClockTick := rfl
theorem rawLevelChange (input : InputId) (level : Bool) : Statement (.rawLevelChange input level) := rfl
theorem lineRiseFraming (link : LinkId) : Statement (.lineRiseFraming link) := rfl

end Sys2Proof.Laws.Operands
end

