-- ==== Sys2Proof/Laws/Port.lean ====
section
/-! SUPPORT. Words at the memory port: the watched words' checks in the rules' arithmetic, the words that are written through the
port, a word of RECEIPT_FILL at its turn, and what a raise leaves of the Bus Interface. -/

namespace Sys2Proof.Machine

/-- The machine's check of a watched word is the rules' (R11-R14). -/
theorem watchedPasses_iff (s : State) (k : Watched) (w : Word) : watchedPasses s k w = true ↔ watchedRule s w k := by
  cases k <;> simp only [watchedPasses, Bool.and_eq_true, decide_eq_true_eq, Bool.or_eq_true, ne_eq, and_assoc]
  case receiptFill =>
    by_cases e : s.su.header.state = .closing <;> simp [e, watchedRule, ahead]
  all_goals exact Iff.rfl

/-- Each watched word lies among the control words at its own offset (R10). -/
theorem watchedAt_offset (k : Watched) : sectionAt k.offset = some .controlWords ∧ watchedAt k.offset = some k := by
  cases k <;> exact ⟨rfl, rfl⟩

/-- A word with a byte enabled inside the served memory is not passed over (R1). -/
theorem served_word {w : HostWord} (hbe : w.be ≠ 0) (hs : w.addr < Config.servedBytes) :
    (decide (w.be = 0) || decide (Config.servedBytes ≤ w.addr)) = false := by
  rw [Bool.or_eq_false_iff]
  exact ⟨decide_eq_false hbe, decide_eq_false (Nat.not_le.mpr hs)⟩

/-- A word outside the lane area is written unless a protected slot lies there (R1, R10). -/
theorem decideWrite_outside {s : State} {w : HostWord} (hbe : w.be ≠ 0) (hs : w.addr < Config.servedBytes)
    (h : laneOffset s w.addr = none) :
    decideWrite s w = if addrProtected s w.addr then .refused false else .plain w.addr := by
  unfold decideWrite
  rw [served_word hbe hs, if_neg Bool.false_ne_true, h]

/-- A word of a gap of the lane area is written (R3). -/
theorem decideWrite_gap {s : State} {w : HostWord} {o : Nat} (hbe : w.be ≠ 0) (hs : w.addr < Config.servedBytes)
    (h : laneOffset s w.addr = some o) (hx : sectionAt o = none) : decideWrite s w = .plain w.addr := by
  unfold decideWrite
  rw [served_word hbe hs, if_neg Bool.false_ne_true, h]
  dsimp only
  rw [hx]

/-- A word of a section of the lane area is decided by the section's rule (R3). -/
theorem decideWrite_section {s : State} {w : HostWord} {o : Nat} {x : LaneSection} (hbe : w.be ≠ 0)
    (hs : w.addr < Config.servedBytes) (h : laneOffset s w.addr = some o) (hx : sectionAt o = some x) :
    decideWrite s w = decideSection s w o x := by
  unfold decideWrite
  rw [served_word hbe hs, if_neg Bool.false_ne_true, h]
  dsimp only
  rw [hx]

/-- A word of `portPlace` is passed on to the port. -/
theorem forwarded_portPlace {s : State} {a : Nat} {be : BitVec 4} {data : Word} {last : Bool} (hbe : be ≠ 0)
    (hs : a < Config.servedBytes) (hp : portPlace s a be data) :
    (decideWrite s (hostWord a be data last)).forwarded = true := by
  rcases hp with (⟨h1, h2⟩ | ⟨o, h1, h2 | ⟨h2, h3⟩ | ⟨h2, h3⟩ | ⟨h2, h3⟩⟩) | ⟨k, h1, h2, h3⟩ | ⟨o, h1, h2, h3⟩ | ⟨o, m, h1, h2, h3, h4⟩
  · rw [decideWrite_outside hbe hs h1]
    rw [show addrProtected s (hostWord a be data last).addr = false from h2]; rfl
  · rw [decideWrite_gap hbe hs h1 h2]; rfl
  · rw [decideWrite_section hbe hs h1 h2]; unfold decideSection; rw [h3]; rfl
  · rw [decideWrite_section hbe hs h1 h2]; unfold decideSection; rw [h3]; rfl
  · rw [decideWrite_section hbe hs h1 h2]; unfold decideSection
    rw [show slotSubmitted s ((o - Config.queueOff) / 64) = false from h3]; rfl
  · rw [decideWrite_section hbe hs h1 (watchedAt_offset k).1]; unfold decideSection
    rw [(watchedAt_offset k).2]
    dsimp only [hostWord]
    rw [if_pos ((watchedPasses_iff s k _).mpr h2)]; rfl
  · rw [decideWrite_section hbe hs h1 h2]; unfold decideSection
    rw [show entryInUse s ((o - Config.pageTableOff) / 8) = false from h3]; rfl
  · rw [decideWrite_section hbe hs h1 h2]; unfold decideSection
    rw [h3]
    dsimp only
    rw [h4]; rfl

/-- A word of `portPlace` asks nothing of the Sale Unit that it cannot answer at once (R14, R108). -/
theorem asksSale_portPlace {s : State} {a : Nat} {be : BitVec 4} {data : Word} {last : Bool} (hp : portPlace s a be data) :
    (asksSale s (hostWord a be data last) && !saleReady s) = false := by
  have key : laneOffset s a = some 0x1010 → saleReady s = true := by
    intro e
    rcases hp with (⟨h1, _⟩ | ⟨o, h1, h2⟩) | ⟨k, h1, _, h3⟩ | ⟨o, h1, h2, _⟩ | ⟨o, _, h1, h2, _⟩
    · exact absurd (h1.symm.trans e) nofun
    · obtain rfl : o = 0x1010 := Option.some.inj (h1.symm.trans e)
      rcases h2 with h2 | ⟨h2, _⟩ | ⟨_, h2⟩ | ⟨h2, _⟩
      · exact absurd h2 (by decide)
      · exact absurd h2 (by decide)
      · exact absurd h2 (by decide)
      · exact absurd h2 (by decide)
    · exact h3 (by cases k <;> first | rfl | exact absurd (Option.some.inj (h1.symm.trans e)) (by decide))
    · obtain rfl : o = 0x1010 := Option.some.inj (h1.symm.trans e)
      exact absurd h2 (by decide)
    · obtain rfl : o = 0x1010 := Option.some.inj (h1.symm.trans e)
      exact absurd h2 (by decide)
  unfold asksSale hostWord
  by_cases e : laneOffset s a = some 0x1010
  · rw [key e, Bool.not_true, Bool.and_false]
  · rw [decide_eq_false e, Bool.and_false, Bool.false_and]

/-- A word of RECEIPT_FILL is decided when the Sale Unit takes its ask (R14, R108). -/
theorem memoryPortGrant_fillAsk {s : State} {w : HostWord} (hr : s.bi.inReset = false) (hst : s.bi.hostStall = some (.fillAsk w))
    (hf : suFront s = some .fillAsk) :
    exec .memoryPortGrant s = .next (offerWord (suPop (s.setBi { s.bi with hostStall := none })) w) := by
  show execMemoryPortGrant s = _
  have en : (!s.bi.inReset && (!s.bi.burstGranted || fillWaits s)) = true := by simp [hr, fillWaits, hst]
  unfold execMemoryPortGrant stepIf
  rw [if_pos en]
  unfold portGrant
  rw [hst]
  simp only [show fillAnswered s = true by simp [fillAnswered, hf], if_true]

/-- The decision on a word of RECEIPT_FILL is its check's. -/
theorem decideWrite_fill (s : State) {be : BitVec 4} (data : Word) (last : Bool) (hbe : be ≠ 0) :
    decideWrite s { addr := laneBase s + 0x1010, be := be, data := data, last := last }
      = if watchedPasses s .receiptFill (mergeWord be s.bi.receiptFill data) then
          .control .receiptFill (mergeWord be s.bi.receiptFill data) else .refused false := by
  have off : laneOffset s (laneBase s + 0x1010) = some 0x1010 := by simp [laneOffset, Config.laneBytes]
  have served : laneBase s + 0x1010 < Config.servedBytes := by
    have := s.bi.laSel.isLt
    simp [laneBase, Config.servedBytes]; omega
  rw [decideWrite_section hbe served off (x := .controlWords) rfl]
  rfl

/-- The Notice Unit's look changes nothing of the Bus Interface but the windows asked. -/
theorem look_bi (s : State) :
    (look s).bi = { s.bi with
      waiting := (look s).bi.waiting, nextWindow := (look s).bi.nextWindow, nextGroup := (look s).bi.nextGroup } := by
  have := look_fields s
  cases h : (look s).bi; cases g : s.bi
  simp_all

/-- The Notice Unit's look changes nothing of the Sale Unit but that it may ask it for a payload (R108). -/
theorem look_su (s : State) : ∃ asks, (look s).su = { s.su with inbox := s.su.inbox ++ asks } ∧ ∀ x ∈ asks, x = .payloadAsk := by
  have same : ∃ asks, s.su = { s.su with inbox := s.su.inbox ++ asks } ∧ ∀ x ∈ asks, x = SaleItem.payloadAsk :=
    ⟨[], by simp, by simp⟩
  unfold look
  split
  · split
    · simpa [beginCompletion] using same
    · split
      · split
        · unfold takeLatch askSalePayload
          dsimp only
          split
          · exact ⟨[.payloadAsk], by simp [arriveAll, arriveAfter], by simp⟩
          · simpa [arriveAll, arriveAfter] using same
        · exact same
      · exact same
  · exact same

/-- A refused word is counted and remembered, and the burst it lies in is marked (R4). -/
theorem refuseWord_bi (s : State) (a : Nat) (unmapped : Bool) :
    (refuseWord s a unmapped).bi = { s.bi with
      refusedCount := sat s.bi.refusedCount, lastRefused := BitVec.ofNat 32 a, burstRefused := true
      waiting := (refuseWord s a unmapped).bi.waiting, nextWindow := (refuseWord s a unmapped).bi.nextWindow
      nextGroup := (refuseWord s a unmapped).bi.nextGroup } := by
  unfold refuseWord raise
  exact look_bi _

/-- A refused word changes nothing of the Sale Unit but that it may be asked for a payload. -/
theorem refuseWord_su (s : State) (a : Nat) (unmapped : Bool) :
    ∃ asks, (refuseWord s a unmapped).su = { s.su with inbox := s.su.inbox ++ asks } ∧ ∀ x ∈ asks, x = .payloadAsk := by
  unfold refuseWord raise
  exact look_su _

/-- The last word of a burst leaves the marks of the burst clear. -/
theorem endBurst_bi (s : State) :
    (endBurst s).bi = { s.bi with
      burstGranted := false, burstRefused := false, waiting := (endBurst s).bi.waiting
      nextWindow := (endBurst s).bi.nextWindow, nextGroup := (endBurst s).bi.nextGroup } := by
  have asked : ∀ u : State, (askBiStatus u).bi = { u.bi with
      waiting := (askBiStatus u).bi.waiting, nextWindow := (askBiStatus u).bi.nextWindow
      nextGroup := (askBiStatus u).bi.nextGroup } := fun u => by
    unfold askBiStatus askLive askLiveAfter
    split <;> rfl
  unfold endBurst
  dsimp only
  split
  · rw [asked]; rfl
  · rfl

/-- The addresses of a burst. -/
theorem mem_burstAddrs (n : Nat) : ∀ a b : Nat, b ∈ burstAddrs a n ↔ ∃ i < n, b = a + 4 * i := by
  induction n with
  | zero => intro a b; exact ⟨nofun, fun ⟨i, hi, _⟩ => absurd hi (Nat.not_lt_zero i)⟩
  | succ n ih =>
    intro a b
    rw [burstAddrs, List.mem_cons, ih]
    constructor
    · rintro (rfl | ⟨i, hi, rfl⟩)
      · exact ⟨0, Nat.succ_pos n, rfl⟩
      · exact ⟨i + 1, Nat.succ_lt_succ hi, by omega⟩
    · rintro ⟨i, hi, rfl⟩
      cases i with
      | zero => exact .inl rfl
      | succ i => exact .inr ⟨i, Nat.lt_of_succ_lt_succ hi, by omega⟩

/-- A burst touches the sections its words lie in. -/
theorem burstTouches_iff (s : State) (a n : Nat) (l : List LaneSection) :
    burstTouches s a n l = true ↔ ∃ i < n, ∃ x, sectionOf s (a + 4 * i) = some x ∧ x ∈ l := by
  unfold burstTouches
  rw [List.any_eq_true]
  constructor
  · rintro ⟨b, hb, h⟩
    obtain ⟨i, hi, rfl⟩ := (mem_burstAddrs n a b).mp hb
    cases e : sectionOf s (a + 4 * i) with
    | none => rw [e] at h; exact absurd h Bool.false_ne_true
    | some x => rw [e] at h; exact ⟨i, hi, x, e, List.contains_iff_mem.mp h⟩
  · rintro ⟨i, hi, x, hx, hm⟩
    refine ⟨_, (mem_burstAddrs n a _).mpr ⟨i, hi, rfl⟩, ?_⟩
    rw [hx]; exact List.contains_iff_mem.mpr hm

/-- What holds a read burst: a window open on a section it touches (R17), or the BI's write of R4 to come. -/
theorem burstHeld_iff (s : State) (a n : Nat) : burstHeld s a n = true ↔
    ∃ i < n, ∃ x : LaneSection, sectionOf s (a + 4 * i) = some x
      ∧ ((∃ o ∈ s.bi.opened, x ∈ o.sections) ∨ (x = .statusPage ∧ ∃ w ∈ s.bi.waiting, w.owner = .bi)) := by
  unfold burstHeld windowHeld statusOwed
  rw [Bool.or_eq_true, Bool.and_eq_true, List.any_eq_true, List.any_eq_true, burstTouches_iff]
  constructor
  · rintro (⟨o, ho, h⟩ | ⟨⟨w, hw, h⟩, i, hi, x, hx, hm⟩)
    · obtain ⟨i, hi, x, hx, hm⟩ := (burstTouches_iff s a n _).mp h
      exact ⟨i, hi, x, hx, .inl ⟨o, ho, hm⟩⟩
    · exact ⟨i, hi, x, hx, .inr ⟨List.mem_singleton.mp hm, w, hw, of_decide_eq_true h⟩⟩
  · rintro ⟨i, hi, x, hx, ⟨o, ho, hm⟩ | ⟨rfl, w, hw, h⟩⟩
    · exact .inl ⟨o, ho, (burstTouches_iff s a n _).mpr ⟨i, hi, x, hx, hm⟩⟩
    · exact .inr ⟨⟨w, hw, decide_eq_true h⟩, i, hi, _, hx, List.mem_singleton.mpr rfl⟩

end Sys2Proof.Machine
end

