-- ==== Sys2Proof/Laws/Requests.lean ====
section
/-! SUPPORT. What a result, a raise and an ask for a window leave for the statements to read: the outcome given, the notice
reported, the window asked. -/

namespace Sys2Proof.Machine

/-! ### The result of a request -/

@[simp] theorem requestProgress_outcome (s : State) : (requestProgress s).re.outcome = s.re.outcome := by
  unfold requestProgress
  split
  · rfl
  · split
    · rfl
    · split <;> simp

/-- The owner's result stands until the completion has been written. -/
@[simp] theorem finishRequest_outcome (s : State) (r : ResultCode) (d1 d2 : Word) :
    (finishRequest s r d1 d2).re.outcome = some { result := r, detail1 := d1, detail2 := d2 } := by
  simp [finishRequest]

theorem finishRequest_answered (s : State) (r : ResultCode) (d1 d2 : Word) :
    answeredWith (finishRequest s r d1 d2) r d1 d2 := finishRequest_outcome s r d1 d2

theorem courseOnly.refl (s : State) : courseOnly s s := rfl

/-- Blocks other than the Request Engine leave the course of a request alone. -/
theorem courseOnly_of_re {z s t : State} (h : courseOnly z s) (hre : t.re = s.re) : courseOnly z t := by
  unfold courseOnly at *
  rw [hre]
  exact h

/-- The course is all that differs exactly where every other field of the Request Engine is as before. -/
theorem courseOnly_iff (z t : State) : courseOnly z t ↔
    t.re.device = z.re.device ∧ t.re.consumer = z.re.consumer ∧ t.re.fetched = z.re.fetched ∧ t.re.record = z.re.record
      ∧ t.re.setupRead = z.re.setupRead ∧ t.re.setup = z.re.setup ∧ t.re.laneNumber = z.re.laneNumber
      ∧ t.re.clock = z.re.clock ∧ t.re.lastCommit = z.re.lastCommit ∧ t.re.failField = z.re.failField
      ∧ t.re.resetDue = z.re.resetDue ∧ t.re.resetting = z.re.resetting := by
  unfold courseOnly
  cases ht : t.re
  cases hz : z.re
  simp

theorem courseOnly_requestProgress {z s : State} (h : courseOnly z s) : courseOnly z (requestProgress s) := by
  rw [courseOnly_iff] at h ⊢
  unfold requestProgress
  split
  · exact h
  · split
    · exact h
    · split <;> simpa [passCompletion] using h

/-- Giving a result changes only the course of the request. -/
theorem courseOnly_finishRequest {z s : State} (r : ResultCode) (d1 d2 : Word) (h : courseOnly z s) :
    courseOnly z (finishRequest s r d1 d2) := by
  unfold finishRequest
  apply courseOnly_requestProgress
  rw [courseOnly_iff] at h ⊢
  simpa using h

/-! ### Notices -/

/-- A change that keeps the latches and the writer keeps what has been reported. -/
theorem reported_of_nu {s t : State} {k : CondKind} {source : Nat} (h : reported s k source)
    (hl : t.nu.latches = s.nu.latches) (hw : t.nu.writer = s.nu.writer) : reported t k source := by
  unfold reported latchAt at *
  rw [hl, hw]
  exact h

/-- Only the links have a latch for each source (R46). -/
def sourceFits (k : CondKind) (source : Nat) : Prop := k = .linkChange → source < 4

theorem latchIndex_lt (k : CondKind) (source : Nat) (h : sourceFits k source) : latchIndex k source < 24 := by
  cases k <;> simp [latchIndex, CondKind.code]
  have := h rfl
  omega

theorem latchKind_latchIndex (k : CondKind) (source : Nat) (h : sourceFits k source) :
    latchKind (latchIndex k source) = k := by
  cases k <;> simp [latchIndex, CondKind.code, latchKind]
  have hs := h rfl
  have : source = 0 ∨ source = 1 ∨ source = 2 ∨ source = 3 := by omega
  rcases this with rfl | rfl | rfl | rfl <;> rfl

@[simp] theorem takeLatch_latches (s : State) (i : Nat) :
    (takeLatch s i).nu.latches = s.nu.latches.set i { latchAt s i with pending := false, count := 0 } := by
  simp [takeLatch]

@[simp] theorem takeLatch_writer (s : State) (i : Nat) :
    (takeLatch s i).nu.writer = .asking (latchKind i) (latchAt s i).count (latchAt s i).stamp (latchAt s i).source
      (askedUnits (latchKind i)) (zeros 16) := by
  simp [takeLatch]

/-- A look leaves a latch as it is, or takes it. -/
theorem look_latch (s : State) (i : Nat) :
    latchAt (look s) i = latchAt s i
      ∨ ((look s).nu.writer = .asking (latchKind i) (latchAt s i).count (latchAt s i).stamp (latchAt s i).source
          (askedUnits (latchKind i)) (zeros 16)) := by
  unfold look
  split
  · split
    · left; simp [beginCompletion, latchAt]
    · split
      · rename_i j _
        split
        · by_cases hij : j = i
          · subst hij; right; exact takeLatch_writer s j
          · left; simp [latchAt, hij]
        · left; rfl
      · left; rfl
  · left; rfl

/-- While the writer is busy a look changes nothing. -/
theorem look_busy (s : State) (h : s.nu.writer ≠ .free) : look s = s := by
  unfold look
  split
  · exact absurd ‹_› h
  · rfl

/-- What has been reported stays reported when the Notice Unit looks. -/
theorem reported_look {s : State} {k : CondKind} {source : Nat} (hs : sourceFits k source) (h : reported s k source) :
    reported (look s) k source := by
  rcases h with ⟨hp, hsrc⟩ | ⟨n, stamp, w, p, h⟩
  · rcases look_latch s (latchIndex k source) with hl | hl
    · exact .inl (by rw [hl]; exact ⟨hp, hsrc⟩)
    · rw [latchKind_latchIndex k source hs, hsrc] at hl
      exact .inr ⟨_, _, _, _, hl⟩
  · right
    rw [look_busy s (by rw [h]; simp)]
    exact ⟨_, _, _, _, h⟩

/-- A raise is reported. -/
theorem reported_raise {s : State} {k : CondKind} {source : Nat} (hlen : s.nu.latches.length = 24)
    (hs : sourceFits k source) : reported (raise s k source) k source := by
  have hlt := latchIndex_lt k source hs
  apply reported_look hs
  left
  simp [latchAt, hlen, hlt, Latch.raised]
  split <;> simp_all

/-- A raise of another latch keeps what has been reported. -/
theorem reported_raise_other {s : State} {k k' : CondKind} {source source' : Nat} (hs : sourceFits k source)
    (hne : latchIndex k' source' ≠ latchIndex k source) (h : reported s k source) :
    reported (raise s k' source') k source := by
  apply reported_look hs
  rcases h with ⟨hp, hsrc⟩ | h
  · left
    simp [latchAt, hne]
    exact ⟨hp, hsrc⟩
  · exact .inr h

/-- Giving the result of a request keeps what has been reported. -/
theorem reported_requestProgress {s : State} {k : CondKind} {source : Nat} (hs : sourceFits k source)
    (h : reported s k source) : reported (requestProgress s) k source := by
  unfold requestProgress
  split
  · exact h
  · split
    · exact h
    · split
      · exact reported_of_nu h (by simp) (by simp)
      · exact reported_look hs (reported_of_nu h (by simp) (by simp))

theorem reported_finishRequest {s : State} {k : CondKind} {source : Nat} {r : ResultCode} {d1 d2 : Word}
    (hs : sourceFits k source) (h : reported s k source) : reported (finishRequest s r d1 d2) k source :=
  reported_requestProgress hs (reported_of_nu h rfl rfl)

/-! ### Windows asked -/

/-- A change that keeps the waiting list keeps what has been asked. -/
theorem askedFor_of_bi {s t : State} {owner : BlockId} {x : LaneSection} (h : askedFor s owner x)
    (hw : t.bi.waiting = s.bi.waiting) : askedFor t owner x := by
  unfold askedFor at *
  rw [hw]
  exact h

theorem askedFor_askWindow {s : State} {owner : BlockId} {sections : List LaneSection} {fixed : List (Nat × Word)}
    {live : List LiveBlock} {after : List After} {ofRequest : Bool} {x : LaneSection} (hx : x ∈ sections) :
    askedFor (askWindow s owner sections fixed live after ofRequest) owner x :=
  ⟨{ id := s.bi.nextWindow, group := s.bi.nextGroup, owner := owner, sections := sections, fixed := fixed, live := live,
     after := after, ofRequest := ofRequest }, by simp [askWindow], rfl, hx⟩

theorem askedFor_askWindow_of {s : State} {owner o : BlockId} {sections : List LaneSection} {fixed : List (Nat × Word)}
    {live : List LiveBlock} {after : List After} {ofRequest : Bool} {x : LaneSection} (h : askedFor s o x) :
    askedFor (askWindow s owner sections fixed live after ofRequest) o x := by
  obtain ⟨w, hw, h1, h2⟩ := h
  exact ⟨w, by simp [askWindow, hw], h1, h2⟩

theorem mem_unionOf_left {α : Type} [DecidableEq α] {a b : List α} {x : α} (h : x ∈ a) : x ∈ unionOf a b :=
  List.mem_append_left _ h

theorem mem_unionOf_right {α : Type} [DecidableEq α] {a b : List α} {x : α} (h : x ∈ b) : x ∈ unionOf a b := by
  by_cases hx : x ∈ a
  · exact List.mem_append_left _ hx
  · exact List.mem_append_right _ (by simp [hx, h])

/-- Gathering only adds to a waiting request. -/
theorem gatherInto_of {owner : BlockId} {sections : List LaneSection} {live : List LiveBlock} {after : List After}
    {ofRequest : Bool} : ∀ {ws : List WindowAsk} {w : WindowAsk}, w ∈ ws →
      ∃ v ∈ gatherInto owner sections live after ofRequest ws, v.owner = w.owner ∧ ∀ x ∈ w.sections, x ∈ v.sections := by
  intro ws
  induction ws with
  | nil => intro w h; simp at h
  | cons a rest ih =>
      intro w h
      unfold gatherInto
      split
      · rcases List.mem_cons.mp h with rfl | h
        · exact ⟨_, List.mem_cons_self .., rfl, fun x hx => mem_unionOf_left hx⟩
        · exact ⟨w, List.mem_cons_of_mem _ h, rfl, fun x hx => hx⟩
      · rcases List.mem_cons.mp h with rfl | h
        · exact ⟨_, List.mem_cons_self .., rfl, fun x hx => hx⟩
        · obtain ⟨v, hv, h1, h2⟩ := ih h
          exact ⟨v, List.mem_cons_of_mem _ hv, h1, h2⟩

/-- The request gathered into covers what was asked. -/
theorem gatherInto_self {owner : BlockId} {sections : List LaneSection} {live : List LiveBlock} {after : List After}
    {ofRequest : Bool} : ∀ {ws : List WindowAsk}, ws.any (gathers owner live) = true →
      ∃ v ∈ gatherInto owner sections live after ofRequest ws, v.owner = owner ∧ ∀ x ∈ sections, x ∈ v.sections := by
  intro ws
  induction ws with
  | nil => intro h; simp at h
  | cons a rest ih =>
      intro h
      unfold gatherInto
      split
      · rename_i hg
        refine ⟨_, List.mem_cons_self .., ?_, fun x hx => mem_unionOf_right hx⟩
        unfold gathers at hg
        simp at hg
        exact hg.1.1.1.1
      · rename_i hg
        simp [hg] at h
        obtain ⟨v, hv, h1, h2⟩ := ih (by simpa using h)
        exact ⟨v, List.mem_cons_of_mem _ hv, h1, h2⟩

/-- An ask for a live write is asked for. -/
theorem askedFor_askLiveAfter {s : State} {owner : BlockId} {sections : List LaneSection} {live : List LiveBlock}
    {after : List After} {ofRequest : Bool} {x : LaneSection} (hx : x ∈ sections) :
    askedFor (askLiveAfter s owner sections live after ofRequest) owner x := by
  unfold askLiveAfter
  split
  · rename_i h
    obtain ⟨v, hv, h1, h2⟩ := gatherInto_self (sections := sections) (after := after) (ofRequest := ofRequest) h
    exact ⟨v, by simpa using hv, h1, h2 x hx⟩
  · exact askedFor_askWindow hx

theorem askedFor_askLiveAfter_of {s : State} {owner o : BlockId} {sections : List LaneSection} {live : List LiveBlock}
    {after : List After} {ofRequest : Bool} {x : LaneSection} (h : askedFor s o x) :
    askedFor (askLiveAfter s owner sections live after ofRequest) o x := by
  unfold askLiveAfter
  split
  · obtain ⟨w, hw, h1, h2⟩ := h
    obtain ⟨v, hv, h3, h4⟩ := gatherInto_of (owner := owner) (sections := sections) (live := live) (after := after)
      (ofRequest := ofRequest) hw
    exact ⟨v, by simpa using hv, h3.trans h1, h4 x h2⟩
  · exact askedFor_askWindow_of h

theorem askedFor_askFixed {s : State} {owner : BlockId} {sections : List LaneSection} {fixed : List (Nat × Word)}
    {after : List After} {ofRequest : Bool} {x : LaneSection} (hx : x ∈ sections) :
    askedFor (askFixed s owner sections fixed after ofRequest) owner x := askedFor_askWindow hx

/-- Windows that keep the values of an earlier state are still asked for. -/
theorem askedFor_freezeWaiting {old s : State} {owner o : BlockId} {x : LaneSection} (h : askedFor s o x) :
    askedFor (freezeWaiting old s owner) o x := by
  obtain ⟨w, hw, h1, h2⟩ := h
  refine ⟨if w.owner = owner then w.freeze old else w, ?_, ?_, ?_⟩
  · simp only [freezeWaiting, State.setBi_bi, List.mem_map]
    exact ⟨w, hw, rfl⟩
  · split
    · exact h1
    · exact h1
  · split
    · exact h2
    · exact h2

theorem askedFor_askPwuLive {old s : State} {sections : List LaneSection} {live : List LiveBlock} {after : List After}
    {ofRequest : Bool} {x : LaneSection} (hx : x ∈ sections) :
    askedFor (askPwuLive old s sections live after ofRequest) .pwu x := askedFor_askLiveAfter hx

theorem askedFor_askPwuLive_of {old s : State} {sections : List LaneSection} {live : List LiveBlock} {after : List After}
    {ofRequest : Bool} {o : BlockId} {x : LaneSection} (h : askedFor s o x) :
    askedFor (askPwuLive old s sections live after ofRequest) o x := by
  refine askedFor_askLiveAfter_of ?_
  split
  · exact h
  · exact askedFor_freezeWaiting h

/-- The PU's window covers the Status Page, and the job table where an entry changed. -/
theorem askedFor_askPu {old : Pu} {s : State} {ofRequest : Bool} : askedFor (askPu old s ofRequest) .pu .statusPage := by
  refine askedFor_askFixed ?_
  split <;> simp

theorem askedFor_askPu_jobs {old : Pu} {s : State} {ofRequest : Bool} (h : changedJobs old s.pu ≠ []) :
    askedFor (askPu old s ofRequest) .pu .jobTable := by
  refine askedFor_askFixed ?_
  have hne : (changedJobs old s.pu).isEmpty = false := by simpa using h
  simp [hne]

theorem askedFor_tieAsks {s : State} {start : Nat} {o : BlockId} {x : LaneSection} (h : askedFor s o x) :
    askedFor (tieAsks s start) o x := by
  obtain ⟨w, hw, h1, h2⟩ := h
  refine ⟨if start ≤ w.id then { w with group := s.bi.nextGroup } else w, ?_, ?_, ?_⟩
  · simp only [tieAsks, State.setBi_bi, List.mem_map]
    exact ⟨w, hw, rfl⟩
  · split
    · exact h1
    · exact h1
  · split
    · exact h2
    · exact h2

/-- A look keeps what has been asked. -/
theorem askedFor_look {s : State} {o : BlockId} {x : LaneSection} (h : askedFor s o x) : askedFor (look s) o x := by
  unfold look
  split
  · split
    · exact askedFor_askWindow_of (askedFor_of_bi h rfl)
    · split
      · split
        · exact askedFor_of_bi h (by simp [takeLatch, askSalePayload]; split <;> simp)
        · exact h
      · exact h
  · exact h

theorem askedFor_raise {s : State} {o : BlockId} {x : LaneSection} {k : CondKind} {source : Nat} (h : askedFor s o x) :
    askedFor (raise s k source) o x := askedFor_look (askedFor_of_bi h rfl)

theorem askedFor_requestProgress {s : State} {o : BlockId} {x : LaneSection} (h : askedFor s o x) :
    askedFor (requestProgress s) o x := by
  unfold requestProgress
  split
  · exact h
  · split
    · exact h
    · split
      · exact askedFor_askWindow_of (askedFor_of_bi h rfl)
      · exact askedFor_look (askedFor_of_bi h (by simp))

theorem askedFor_finishRequest {s : State} {o : BlockId} {x : LaneSection} {r : ResultCode} {d1 d2 : Word}
    (h : askedFor s o x) : askedFor (finishRequest s r d1 d2) o x := askedFor_requestProgress (askedFor_of_bi h rfl)

/-! ### Resets -/

/-- No unit is told to reset: an event or a window that ends has nothing to resume. -/
theorem resumeResets_none {s : State} (h : s.re.resetting = []) : resumeResets s = s := by
  simp [resumeResets, h]

/-- The last unit still told to reset takes the reset with the RE, and the RE goes on (R38; log 16). -/
theorem takeResets_last {s : State} {b : BlockId} (hb : b ≠ .re) (hr : s.re.resetting = [b, .re]) (ho : s.bi.opened = [])
    (hu : unitReady s b = true) :
    takeResets s = nextRequest ((tieAsks (resetLinks (resetEngine (resetUnit s b))) s.bi.nextWindow).setRe
      { (tieAsks (resetLinks (resetEngine (resetUnit s b))) s.bi.nextWindow).re with resetting := [] }) := by
  have h1 : resetReady s b = true := by simp [resetReady, hb, hu]
  have h2 : resetReady s .re = true := by simp [resetReady, hasOpenWindow, ho, hr, hu]
  simp [takeResets, hr, h1, h2, resetUnit]

/-- A window that is the only one open leaves none; no held read is released (R17). -/
theorem removeWindow_only {s : State} {o : OpenWindow} (ho : s.bi.opened = [o])
    (hs : ∀ a n, s.bi.hostStall ≠ some (.readHeld a n)) : removeWindow s o.id = s.setBi { s.bi with opened := [] } := by
  have he : (s.bi.opened.filter fun x => x.id != o.id) = [] := by simp [ho]
  unfold removeWindow releaseHeld
  rw [he]
  dsimp only [State.setBi]
  split
  · rename_i a n h; exact absurd h (hs a n)
  · rfl

/-- A request without a result has nothing to pass on. -/
theorem requestProgress_none {s : State} (h : s.re.outcome = none) : requestProgress s = s := by
  simp [requestProgress, h]

/-- A unit whose request goes on has no notices freed. -/
theorem freedNotices_same {s t : State} (hc : unitBusy t .ctu = unitBusy s .ctu) (hp : unitBusy t .pu = unitBusy s .pu) :
    freedNotices s t = t := by
  have takes : ∀ b e, unitBusy t b = true → unitTakes t b e = false := fun b e h => by simp [unitTakes, h]
  have card : ∀ n, unitBusy t .ctu = true → takeCardNotices n t = t := fun n h => by
    cases n <;> simp [takeCardNotices, takes _ _ h]
  have print : ∀ n, unitBusy t .pu = true → takePrintNotices n t = t := fun n h => by
    cases n <;> simp [takePrintNotices, takes _ _ h]
  unfold freedNotices
  rw [show (if unitBusy s .ctu then cardNotices t else t) = t by
    split
    · exact card _ (hc.trans ‹_›)
    · rfl]
  dsimp only
  split
  · exact print _ (hp.trans ‹_›)
  · rfl

/-- A window with nothing to follow its close only leaves the open windows. -/
theorem closeWindow_plain {s : State} {o : OpenWindow} (ha : o.after = [])
    (ho : (removeWindow s o.id).re.outcome = none) (hr : (removeWindow s o.id).re.resetting = []) :
    closeWindow s o = removeWindow s o.id := by
  simp [closeWindow, ha, requestProgress_none ho, resumeResets_none hr]

end Sys2Proof.Machine
end

