-- ==== Sys2Proof/Laws/Printing.lean ====
section
/-! SUPPORT. What the Print Unit's shared operations move: the arbiter, an acknowledgement, a suspension, a printer status,
the SU's tells and a submitted job. -/

namespace Sys2Proof.Machine

/-- The arbiter moves the owner and the jobs alone (R162). -/
theorem arbitrate_only (s : State) :
    arbitrate s = s.setPu { s.pu with owner := (arbitrate s).pu.owner, jobs := (arbitrate s).pu.jobs } := by
  unfold arbitrate
  split
  · split
    · split <;> rfl
    · split
      · split <;> rfl
      · rfl
  · rfl

/-- What an acknowledgement moves, kind by kind (R154). -/
structure acknowledgedOnly (s t : State) (k : FlightKind) : Prop where
  fields : t.pu = { s.pu with
    printIndex := t.pu.printIndex, receipt := t.pu.receipt, block := t.pu.block, blockNext := t.pu.blockNext
    blockAcked := t.pu.blockAcked, owner := t.pu.owner, jobs := t.pu.jobs, jobsDone := t.pu.jobsDone
    lastDone := t.pu.lastDone, lastDoneFirst := t.pu.lastDoneFirst }
  running : k ≠ .cut → t.pu.owner = s.pu.owner ∧ t.nu = s.nu ∧ t.su = s.su
  stream : k ≠ .stream → t.pu.printIndex = s.pu.printIndex ∧ t.pu.block = s.pu.block ∧ t.pu.blockNext = s.pu.blockNext
  block : k ≠ .stream → k ≠ .blockFrame → t.pu.blockAcked = s.pu.blockAcked
  jobs : k = .stream ∨ k = .blockFrame ∨ (∀ j, k = .jobLine → s.pu.owner ≠ .job j) → k ≠ .cut → t.pu.jobs = s.pu.jobs
  done : k ≠ .cut ∨ (∀ j, s.pu.owner ≠ .job j) →
    t.pu.jobsDone = s.pu.jobsDone ∧ t.pu.lastDone = s.pu.lastDone ∧ t.pu.lastDoneFirst = s.pu.lastDoneFirst
  receipt : k ≠ .stream → ¬ (k = .cut ∧ s.pu.owner = .receipt) → t.pu.receipt = s.pu.receipt
  unowned : k = .cut → s.pu.owner = .none → t = s
  ended : ∀ j, k = .cut → s.pu.owner = .job j →
    t.pu.jobsDone = s.pu.jobsDone + 1 ∧ t.pu.lastDone = j ∧ t.pu.lastDoneFirst = (jobAt s j).first

theorem acknowledge_only (s : State) (k : FlightKind) : acknowledgedOnly s (acknowledge s k) k := by
  cases k
  case stream =>
    show acknowledgedOnly s (composeBlock (s.setPu { s.pu with printIndex := s.pu.printIndex + 1 })) _
    unfold composeBlock
    split <;> constructor <;> simp [State.setPu]
  case blockFrame => constructor <;> simp [acknowledge]
  case jobLine =>
    unfold acknowledge
    rcases h : s.pu.owner with _ | _ | j <;> constructor <;> simp [setJob, h] <;> rw [← h]
  case cut =>
    unfold acknowledge
    rcases h : s.pu.owner with _ | _ | j
    · constructor <;> simp [h]
      rw [← h]
    · dsimp only [endReceipt]
      rw [arbitrate_only]
      constructor <;> simp [suSend, State.setSu, State.setPu, h]
    · dsimp only [endJob]
      rw [arbitrate_only]
      constructor <;> simp [State.setPu, setJob, h]

/-- A suspension keeps the owner and the receipt's print index, and of the jobs moves the owner's alone (R156). -/
theorem suspend_only (u : Pu) :
    u.suspend = { u with
        suspOwner := u.owner, suspCount := u.flight.length, flight := [], ready := none, fetch := u.dropFetch, reported := true
        nextUnsent := u.printIndex, blockNext := u.blockAcked, jobs := u.suspend.jobs }
      ∧ (∀ j, u.owner = .job j → u.suspend.jobs = u.jobs.set j { u.jobs.getD j Job.free with
          state := .suspended, next := (u.jobs.getD j Job.free).first + (u.jobs.getD j Job.free).acked, cutSent := false })
      ∧ ((∀ j, u.owner ≠ .job j) → u.suspend.jobs = u.jobs) := by
  unfold Pu.suspend
  rcases h : u.owner with _ | _ | j <;> simp [setJob]

/-- A printer that becomes READY (R156). -/
theorem printResume_pu (s : State) :
    (printResume s).pu = { s.pu with reported := false, owner := (printResume s).pu.owner, jobs := (printResume s).pu.jobs } := by
  unfold printResume
  rw [arbitrate_only]
  rcases h : s.pu.owner with _ | _ | j
  case' job => by_cases hj : (jobAt s j).state = .suspended
  all_goals
    simp only [*, if_true, if_false]
    split <;> simp_all [setJob, State.setPu]

/-- What a PRINTER_STATUS moves (R155, R156). -/
theorem printerStatus_pu (s : State) (p : List Byte) : ∃ t : State, t.pu = s.pu.takeStatus p ∧
    (printerStatus s p).pu
      = if s.pu.cond = .ready ∧ t.pu.cond ≠ .ready then t.pu.suspend
        else if s.pu.cond ≠ .ready ∧ t.pu.cond = .ready then (printResume t).pu else t.pu := by
  obtain ⟨x, hx, hp⟩ : ∃ x : State, x.pu = s.pu.takeStatus p ∧ x
      = if paperOf p = .low && decide (s.pu.prevPaper ≠ some .low) then
          raise ((popPath s .printer).setPu (s.pu.takeStatus p)) .paperLow 0
        else (popPath s .printer).setPu (s.pu.takeStatus p) := by
    refine ⟨_, ?_, rfl⟩
    split <;> simp
  refine ⟨x, hx, ?_⟩
  unfold printerStatus
  dsimp only
  rw [← hp]
  simp only [askPu_keeps, Bool.and_eq_true, decide_eq_true_eq]
  split
  · simp [printSuspend]
  · split <;> rfl

/-- A job whose state an event changes has its entry written (R163). -/
theorem changedJobs_of_state {old new : Pu} {k : Nat} (hk : k < 8)
    (h : (old.jobs.getD k Job.free).state ≠ (new.jobs.getD k Job.free).state) : changedJobs old new ≠ [] :=
  List.ne_nil_of_mem (List.mem_filter.mpr ⟨List.mem_range.mpr hk, by rw [Bool.or_eq_true]; exact .inl (decide_eq_true h)⟩)

/-- What a receipt's beginning moves (R157). -/
theorem receiptBegin_pu (s : State) :
    (receiptBegin s).pu
      = { s.pu with tells := s.pu.tells.tail, bound := true, receipt := .printing, owner := (receiptBegin s).pu.owner } := by
  unfold receiptBegin arbitrate
  simp only [askPu_keeps]
  split <;> simp [*]

/-- What a close mark moves (R158). -/
theorem receiptCloseMark_pu (s : State) (mark : Half) (kind : BlockKind) :
    (receiptCloseMark s mark kind).pu
      = if s.pu.printIndex = mark then
          { s.pu with
            tells := s.pu.tells.tail, closeMark := mark, blockKind := kind, receipt := .block, block := blockFrames s kind
            blockNext := 0, blockAcked := 0 }
        else { s.pu with tells := s.pu.tells.tail, closeMark := mark, blockKind := kind, receipt := .closing } := by
  unfold receiptCloseMark composeBlock
  simp only [askPu_keeps]
  by_cases h : s.pu.printIndex = mark
  · simp [h]
    rfl
  · simp [h]

/-- What the sale's becoming IDLE moves (R160, R162). -/
theorem saleIdleTold_pu (s : State) :
    (saleIdleTold s).pu
      = { s.pu with
          tells := s.pu.tells.tail, bound := false, receipt := .none, owner := (saleIdleTold s).pu.owner
          jobs := (saleIdleTold s).pu.jobs } := by
  unfold saleIdleTold
  simp only [askPu_keeps]
  rw [arbitrate_only]
  simp

/-- What a submitted job moves (R161, R162). -/
theorem jobSubmitted_pu (s : State) (j : Nat) :
    (jobSubmitted s j).pu
      = { s.pu with
          submissions := s.pu.submissions + 1, owner := (jobSubmitted s j).pu.owner, jobs := (jobSubmitted s j).pu.jobs }
    ∧ (s.pu.owner ≠ .none ∨ (s.pu.bound = false ∧ s.pu.cond ≠ .ready) → (jobSubmitted s j).pu.owner = s.pu.owner) := by
  unfold jobSubmitted
  dsimp only
  constructor
  · rw [arbitrate_only]
    simp [setJob]
  · intro h
    simp only [finishRequest_keeps, askPu_keeps]
    unfold arbitrate
    rcases ho : s.pu.owner with _ | _ | j
    · rcases h with h | h
      · exact absurd ho h
      · simp [setJob, ho, h]
    · simp [setJob, ho]
    · simp [setJob, ho]
end Sys2Proof.Machine
end

