-- ==== Sys2Proof/Laws/Receiver.lean ====
section
/-! SUPPORT. The receiver's scan: it looks neither at the attempt in hand nor at the line nor at the fresh-start mark, and the
bytes it takes may as well arrive one after another (R58, R59). -/

namespace Sys2Proof.Machine

/-- The state with the fresh-start mark, the line and the attempt in hand of a link's receiver set so. -/
def withReceiver (b : Bool × RxLine × Option (List Byte)) (l : LinkId) (s : State) : State :=
  s.setLink l { s.link l with freshStart := b.1, line := b.2.1, attempt := b.2.2 }

variable (b : Bool × RxLine × Option (List Byte)) (l : LinkId) (s : State)

/-! ### The operations of the Link Unit keep these three, and read none of them -/

theorem withReceiver_link :
    (withReceiver b l s).link l = { s.link l with freshStart := b.1, line := b.2.1, attempt := b.2.2 } := by cases l <;> rfl

theorem withReceiver_twice (c : Bool × RxLine × Option (List Byte)) : withReceiver c l (withReceiver b l s) = withReceiver c l s := by
  cases l <;> rfl

/-- A receiver that has these three is as it is. -/
theorem withReceiver_self (hf : (s.link l).freshStart = b.1) (hl : (s.link l).line = b.2.1) (ha : (s.link l).attempt = b.2.2) :
    withReceiver b l s = s := by
  obtain ⟨f, line, a⟩ := b
  subst hf hl ha
  cases l <;> rfl

theorem withReceiver_waits (u : BlockId) (e : UnitEvent) : waitsAt (withReceiver b l s) u e = waitsAt s u e := by
  cases l <;> cases u <;> cases e <;> rfl

theorem withReceiver_live (xs : List Arrival) : liveArrivals (withReceiver b l s) xs = liveArrivals s xs := by
  induction xs with
  | nil => rfl
  | cons a rest ih => simp only [liveArrivals, ih, withReceiver_waits]

theorem withReceiver_busy (u : BlockId) : unitBusy (withReceiver b l s) u = unitBusy s u := by cases l <;> rfl

theorem withReceiver_arriveAfter (old : List Arrival) (es : List (BlockId × UnitEvent)) :
    arriveAfter (withReceiver b l s) old es
    = withReceiver b l (arriveAfter s old es) := by
  have : (Arrival.waits (withReceiver b l s)) = Arrival.waits s := by funext a; simp only [Arrival.waits, withReceiver_busy]
  unfold arriveAfter
  rw [this]
  cases l <;> rfl

theorem withReceiver_arriveAll (es : List (BlockId × UnitEvent)) : arriveAll (withReceiver b l s) es
    = withReceiver b l (arriveAll s es) := by
  unfold arriveAll
  rw [show (withReceiver b l s).arrivals = s.arrivals by cases l <;> rfl, withReceiver_live, withReceiver_arriveAfter]

theorem withReceiver_takeLatch (i : Nat) : takeLatch (withReceiver b l s) i = withReceiver b l (takeLatch s i) := by
  unfold takeLatch
  dsimp only
  rw [withReceiver_arriveAll]
  rw [show latchAt (withReceiver b l s) i = latchAt s i by cases l <;> rfl]
  rw [show (withReceiver b l s).nu = s.nu by cases l <;> rfl]
  unfold askSalePayload
  split
  · cases l <;> rfl
  · cases l <;> rfl

theorem withReceiver_look : look (withReceiver b l s) = withReceiver b l (look s) := by
  unfold look
  rw [show (withReceiver b l s).nu = s.nu by cases l <;> rfl,
    show firstEligible (withReceiver b l s) = firstEligible s by cases l <;> rfl,
    show freeSlots (withReceiver b l s) = freeSlots s by cases l <;> rfl]
  split
  · split
    · cases l <;> rfl
    · split
      · split
        · exact withReceiver_takeLatch _ _ _ _
        · rfl
      · rfl
  · rfl

theorem withReceiver_raise (k : CondKind) (n : Nat) : raise (withReceiver b l s) k n
    = withReceiver b l (raise s k n) := by
  unfold raise
  dsimp only
  rw [← withReceiver_look]
  rw [show latchAt (withReceiver b l s) (latchIndex k n) = latchAt s (latchIndex k n) by cases l <;> rfl]
  cases l <;> rfl

theorem withReceiver_askLive (o : BlockId) (x : List LaneSection) (y : List LiveBlock) (q : Bool) :
    askLive (withReceiver b l s) o x y q
    = withReceiver b l (askLive s o x y q) := by
  unfold askLive askLiveAfter
  rw [show (withReceiver b l s).bi = s.bi by cases l <;> rfl]
  split <;> cases l <;> rfl

theorem withReceiver_linkError (k : ErrorKind) (p : RxField × Nat) : linkError (withReceiver b l s) l k p
    = withReceiver b l (linkError s l k p) := by
  unfold linkError askLinkStatus
  dsimp only
  rw [← withReceiver_askLive]
  cases l <;> rfl

theorem withReceiver_changeLink (n : LinkState) (r : LinkReason) : changeLink (withReceiver b l s) l n r
    = withReceiver b l (changeLink s l n r) := by
  unfold changeLink askLinkStatus arrive
  dsimp only
  rw [← withReceiver_askLive, ← withReceiver_raise, withReceiver_arriveAll]
  cases l <;> rfl

theorem withReceiver_queueHello : queueHello (withReceiver b l s) l = withReceiver b l (queueHello s l) := by
  unfold queueHello
  simp only [withReceiver_link]
  split
  · rfl
  · have : helloPayload (withReceiver b l s) l = helloPayload s l := by cases l <;> rfl
    rw [this]
    unfold Link.push Link.startTx
    dsimp only
    split
    · cases l <;> rfl
    · split <;> cases l <;> rfl

theorem withReceiver_startSilence : startSilence (withReceiver b l s) l
    = withReceiver b l (startSilence s l) := by cases l <;> rfl

theorem withReceiver_enterDown (r : LinkReason) : enterDown (withReceiver b l s) l r
    = withReceiver b l (enterDown s l r) := by
  unfold enterDown
  rw [← withReceiver_queueHello, ← withReceiver_startSilence, ← withReceiver_changeLink]
  cases l <;> rfl

theorem withReceiver_enterMismatch : enterMismatch (withReceiver b l s) l = withReceiver b l (enterMismatch s l) := by
  unfold enterMismatch
  rw [← withReceiver_changeLink]
  cases l <;> rfl

theorem withReceiver_enterUp (r : LinkReason) : enterUp (withReceiver b l s) l r
    = withReceiver b l (enterUp s l r) := by
  unfold enterUp
  dsimp only
  rw [show ((withReceiver b l s).link l).state = (s.link l).state by cases l <;> rfl, withReceiver_changeLink]
  split
  · exact withReceiver_startSilence _ _ _
  · rfl

theorem withReceiver_badAttempt (k : ErrorKind) (p : RxField × Nat) : badAttempt (withReceiver b l s) l k p
    = withReceiver b l (badAttempt s l k p) := by
  unfold badAttempt
  dsimp only
  rw [withReceiver_linkError]
  generalize linkError s l k p = t
  have h : ∀ run : Nat, (withReceiver b l t).setLink l { (withReceiver b l t).link l with badRun := run }
      = withReceiver b l (t.setLink l { t.link l with badRun := run }) := by intro run; cases l <;> rfl
  rw [h, withReceiver_link, withReceiver_enterDown, ← apply_ite (withReceiver b l)]

theorem withReceiver_deliver (k : Byte) (p : List Byte) (g : Bool) : deliver (withReceiver b l s) l k p g
    = withReceiver b l (deliver s l k p g) := by
  unfold deliver arrive arriveAgain keptArrivals
  dsimp only
  rw [withReceiver_link, withReceiver_live]
  rw [show (withReceiver b l s).arrivals = s.arrivals by cases l <;> rfl]
  rw [withReceiver_arriveAll, withReceiver_arriveAfter]
  dsimp only
  split
  · cases l <;> rfl
  · rw [← withReceiver_linkError]; cases l <;> rfl

theorem withReceiver_takeIdent (d : Byte) : takeIdent (withReceiver b l s) l d
    = withReceiver b l (takeIdent s l d) := by
  unfold takeIdent askLinkStatus
  dsimp only
  rw [withReceiver_link]
  have h : (withReceiver b l s).setLink l
      { ({ s.link l with freshStart := b.1, line := b.2.1, attempt := b.2.2 } : Link) with identKind := d }
      = withReceiver b l (s.setLink l { s.link l with identKind := d }) := by cases l <;> rfl
  dsimp only at h ⊢
  rw [h, withReceiver_askLive]
  generalize askLive (s.setLink l { s.link l with identKind := d }) .lu [.statusPage] [.link l] false = t
  have h2 : (withReceiver b l t).setLink l { (withReceiver b l t).link l with identSeen := true }
      = withReceiver b l (t.setLink l { t.link l with identSeen := true }) := by cases l <;> rfl
  rw [h2]
  split
  · split
    · exact withReceiver_enterUp _ _ _ _
    · rfl
  · split
    · exact withReceiver_enterMismatch _ _ _
    · rfl

theorem withReceiver_takeFrame (k : Byte) (p : List Byte) (g : Bool) : takeFrame (withReceiver b l s) l k p g
    = withReceiver b l (takeFrame s l k p g) := by
  unfold takeFrame
  dsimp only
  rw [withReceiver_link, withReceiver_deliver, withReceiver_enterUp, withReceiver_deliver]
  split
  · rfl
  · split <;> rfl

/-- What `acceptFrame` does after the run of bad frames and the silence timer. -/
theorem withReceiver_accepted (s2 : State) (kind seq d : Byte) (payload : List Byte) (gap : Bool) (g : Nat) :
    (if kind = kIdent then takeIdent
        ((withReceiver b l s2).setLink l { (withReceiver b l s2).link l with tracked := some seq }) l d
      else takeFrame
        (if gap = true then
          askLinkStatus ((withReceiver b l s2).setLink l
            { (withReceiver b l s2).link l with tracked := some seq, seqGaps := g }) l false
        else (withReceiver b l s2).setLink l
          { (withReceiver b l s2).link l with tracked := some seq, seqGaps := g }) l kind payload gap)
    = withReceiver b l (if kind = kIdent then takeIdent (s2.setLink l { s2.link l with tracked := some seq }) l d
      else takeFrame
        (if gap = true then askLinkStatus (s2.setLink l { s2.link l with tracked := some seq, seqGaps := g }) l false
        else s2.setLink l { s2.link l with tracked := some seq, seqGaps := g }) l kind payload gap) := by
  have h1 : (withReceiver b l s2).setLink l { (withReceiver b l s2).link l with tracked := some seq }
      = withReceiver b l (s2.setLink l { s2.link l with tracked := some seq }) := by cases l <;> rfl
  have h2 : (withReceiver b l s2).setLink l { (withReceiver b l s2).link l with tracked := some seq, seqGaps := g }
      = withReceiver b l (s2.setLink l { s2.link l with tracked := some seq, seqGaps := g }) := by cases l <;> rfl
  rw [h1, h2]
  unfold askLinkStatus
  rw [withReceiver_takeIdent, withReceiver_askLive, ← apply_ite (withReceiver b l), withReceiver_takeFrame,
    ← apply_ite (withReceiver b l)]

theorem withReceiver_acceptFrame (k q : Byte) (p : List Byte) : acceptFrame (withReceiver b l s) l k q p
    = withReceiver b l (acceptFrame s l k q p) := by
  unfold acceptFrame
  dsimp only
  rw [withReceiver_link]
  dsimp only
  have h1 : (withReceiver b l s).setLink l { s.link l with freshStart := b.1, line := b.2.1, attempt := b.2.2, badRun := 0 }
      = withReceiver b l (s.setLink l { s.link l with badRun := 0 }) := by cases l <;> rfl
  rw [h1, withReceiver_startSilence]
  rw [← apply_ite (withReceiver b l)]
  exact withReceiver_accepted _ _ _ _ _ _ _ _ _

/-! ### The scan -/

/-- A frame is complete, valid or at fault with the bytes that make it so: the bytes after them change nothing. -/
theorem tryFrame_append (l : LinkId) (bs more : List Byte) :
    (∀ kind field, tryFrame l bs = .error kind field → tryFrame l (bs ++ more) = .error kind field)
    ∧ (∀ kind seq payload, tryFrame l bs = .valid kind seq payload →
        tryFrame l (bs ++ more) = .valid kind seq payload ∧ payload.length + 5 ≤ bs.length) := by
  match bs with
  | [] => simp [tryFrame]
  | [len] =>
    by_cases h : 120 < len.toNat
    · cases more <;> simp [tryFrame, h]
    · simp [tryFrame, h]
  | [len, k] =>
    by_cases h : 120 < len.toNat
    · simp [tryFrame, h]
    · cases hm : allowedMinLen l k with
      | none => simp [tryFrame, h, hm]
      | some m => by_cases h2 : len.toNat < m <;> simp [tryFrame, h, hm, h2]
  | len :: k :: q :: rest =>
    by_cases h : 120 < len.toNat
    · simp [tryFrame, h]
    · cases hm : allowedMinLen l k with
      | none => simp [tryFrame, h, hm]
      | some m =>
        by_cases h2 : len.toNat < m
        · simp [tryFrame, h, hm, h2]
        · by_cases h3 : rest.length < len.toNat + 2
          · simp [tryFrame, h, hm, h2, h3]
          · have h4 : ¬ (rest ++ more).length < len.toNat + 2 := by simp; omega
            have e1 : (rest ++ more).take len.toNat = rest.take len.toNat := List.take_append_of_le_length (by omega)
            have e2 : payHalf (rest ++ more) len.toNat = payHalf rest len.toNat := by
              unfold payHalf payByte
              rw [List.getD_append _ _ _ _ (by omega), List.getD_append _ _ _ _ (by omega)]
            have e3 : (rest.take len.toNat).length = len.toNat := by simp; omega
            simp only [tryFrame, List.cons_append, if_neg h, hm, if_neg h2, if_neg h3, if_neg h4, e1, e2]
            constructor
            · intro kind field e; exact e
            · intro kind seq payload e
              refine ⟨e, ?_⟩
              split at e
              · simp only [Attempt.valid.injEq] at e
                rw [← e.2.2, e3]; simp; omega
              · simp at e

/-- The scan sets the attempt in hand anew, keeps the line and the fresh-start mark, and looks at none of them. -/
theorem scan_withReceiver : ∀ (bs : List Byte) (s : State) (n : Nat), n ≤ bs.length →
    scan (withReceiver b l s) l n bs
      = (scan s l n bs).setLink l { (scan s l n bs).link l with freshStart := b.1, line := b.2.1 } := by
  intro bs
  induction bs with
  | nil => intro s n h; simp only [scan]; cases l <;> rfl
  | cons c rest ih =>
    intro s n h
    cases n with
    | succ k => simp only [scan]; exact ih s k (by simpa using h)
    | zero =>
      simp only [scan]
      split
      · exact ih s 0 (by omega)
      · split
        · cases l <;> rfl
        · rw [withReceiver_badAttempt]; exact ih _ _ (by omega)
        · next kind seq payload e =>
          rw [withReceiver_acceptFrame]
          have := ((tryFrame_append l rest []).2 _ _ _ e).2
          exact ih _ _ this

/-- The last of the bytes may as well arrive by itself, after the scan of the others. -/
theorem scan_snoc (l : LinkId) (c : Byte) : ∀ (bs : List Byte) (s : State) (n : Nat), n ≤ bs.length →
    scan s l n (bs ++ [c]) = scan (scan s l n bs) l 0 (((scan s l n bs).link l).attempt.getD [] ++ [c]) := by
  have idem : ∀ (s : State) (a : Option (List Byte)) (xs : List Byte),
      scan (s.setLink l { s.link l with attempt := a }) l 0 xs = scan s l 0 xs := by
    intro s a xs
    have e : s.setLink l { s.link l with attempt := a }
        = withReceiver ((s.link l).freshStart, (s.link l).line, a) l s := rfl
    have e' : s = withReceiver ((s.link l).freshStart, (s.link l).line, (s.link l).attempt) l s := by cases l <;> rfl
    rw [e, scan_withReceiver _ _ _ _ _ (by omega)]
    conv_rhs => rw [e', scan_withReceiver _ _ _ _ _ (by omega)]
  intro bs
  induction bs with
  | nil =>
    intro s n h
    have : n = 0 := by simpa using h
    subst this
    simp only [scan, List.nil_append]
    rw [State.link_setLink_same]
    simp only [Option.getD_none, List.nil_append]
    rw [idem]
    simp [scan]
  | cons b rest ih =>
    intro s n h
    cases n with
    | succ k => simp only [scan, List.cons_append]; exact ih s k (by simpa using h)
    | zero =>
      simp only [scan, List.cons_append]
      by_cases hb : (b != syncByte) = true
      · simp only [hb, if_true]; exact ih s 0 (by omega)
      · simp only [hb]
        cases ht : tryFrame l rest with
        | incomplete =>
          simp only [State.link_setLink_same, Option.getD_some, Bool.false_eq_true, if_false]
          rw [idem]
          simp only [List.cons_append, scan, hb, Bool.false_eq_true, if_false]
        | error kind field =>
          rw [(tryFrame_append l rest [c]).1 _ _ ht]
          exact ih _ _ (by omega)
        | valid kind seq payload =>
          have := (tryFrame_append l rest [c]).2 _ _ _ ht
          rw [this.1]
          exact ih _ _ this.2

/-- Bytes taken from a receiver that hunts on a running line are the bytes arriving one after another (R59), where it is not
marked as fresh; a fresh one keeps its mark. -/
theorem arrived_scan (l : LinkId) (u : State) (hr : u.bi.inReset = false) (hline : (u.link l).line = .running)
    (hf : (u.link l).freshStart = false) : ∀ (rest done : List Byte),
    arrived l (scan u l 0 done) rest (scan u l 0 (done ++ rest)) := by
  intro rest
  induction rest with
  | nil => intro done; simp [arrived]
  | cons c rest ih =>
    intro done
    refine ⟨scan u l 0 (done ++ [c]), ?_, by simpa using ih (done ++ [c])⟩
    have keep : scan u l 0 done
        = (scan u l 0 done).setLink l { (scan u l 0 done).link l with freshStart := false, line := .running } := by
      have e' : u = withReceiver (false, .running, (u.link l).attempt) l u := (withReceiver_self _ _ _ hf hline rfl).symm
      conv_lhs => rw [e', scan_withReceiver _ _ _ _ _ (by omega)]
    have hl : ((scan u l 0 done).link l).line = .running := by rw [keep, State.link_setLink_same]
    have hfr : (scan u l 0 done).setLink l { (scan u l 0 done).link l with freshStart := false } = scan u l 0 done := by
      have : ((scan u l 0 done).link l).freshStart = false := by rw [keep, State.link_setLink_same]
      rw [← this]; cases l <;> rfl
    show execRxCharacter l c true _ = _
    have en : (!(scan u l 0 done).bi.inReset && decide (((scan u l 0 done).link l).line = .running)) = true := by
      simp [hr, hl]
    unfold execRxCharacter stepIf
    rw [if_pos en]
    unfold rxCharacter
    dsimp only
    rw [hfr, if_pos rfl, scan_snoc l c done u 0 (by omega)]
/-- The rescan of bytes in a receiver that hunts on a running line is their arrival one after another (R59), but for the
fresh-start mark, which the rescan keeps and an arrival clears. -/
theorem scan_arrived (l : LinkId) (u : State) (hr : u.bi.inReset = false) (hline : (u.link l).line = .running)
    (ha : (u.link l).attempt = none) (bs : List Byte) :
    ∃ v, arrived l u bs v ∧ scan u l 0 bs = v.setLink l { v.link l with freshStart := (u.link l).freshStart } := by
  cases bs with
  | nil =>
    refine ⟨u, rfl, ?_⟩
    unfold scan
    rw [← ha]
  | cons c rest =>
    let w := withReceiver (false, .running, none) l u
    have hw : w.link l = { u.link l with freshStart := false, line := .running, attempt := none } := withReceiver_link _ _ _
    refine ⟨scan w l 0 (c :: rest), ⟨scan w l 0 [c], ?_, arrived_scan l w hr (by rw [hw]) (by rw [hw]) rest [c]⟩, ?_⟩
    · show execRxCharacter l c true u = _
      have en : (!u.bi.inReset && decide ((u.link l).line = .running)) = true := by simp [hr, hline]
      have hu : u.setLink l { u.link l with freshStart := false } = w := by
        show _ = u.setLink l _
        rw [← hline, ← ha]
      unfold execRxCharacter stepIf rxCharacter
      rw [if_pos en]
      dsimp only
      rw [hu, if_pos rfl, hw]
      rfl
    · have e : u = withReceiver ((u.link l).freshStart, .running, none) l w := by
        rw [withReceiver_twice, withReceiver_self _ _ _ rfl hline ha]
      conv_lhs => rw [e, scan_withReceiver _ _ _ _ _ (by omega)]
      have hl : ((scan w l 0 (c :: rest)).link l).line = .running := by
        have e' : w = withReceiver (false, .running, none) l w := (withReceiver_twice _ _ _ _).symm
        rw [e', scan_withReceiver _ _ _ _ _ (by omega), State.link_setLink_same]
      rw [← hl]

end Sys2Proof.Machine
end

