-- ==== Sys2Proof/Tests/Slice0.lean ====
section
/-! SUPPORT. The model's own tests: ill-formed commands are refused by the check, each statement's hypotheses are met by a
concrete state at the ends of its ranges, and a few single steps. -/

namespace Sys2Proof.Tests

set_option Elab.async false

open Sys2Proof Sys2Proof.Machine

/-! ### Small states -/

/-- A setup in the middle of every range of R31. -/
def demoSetup : Setup :=
  { Setup.zero with
    lane := 7, saleNumber := 1000, rates := [3, 3, 3, 3], silences := [500, 500, 500, 500]
    platCapacity := 15000, platDivision := 5, platMinNet := 20, platWindow := 4, platBand := 20, platTracking := true
    platTareLimit := 9000, bagCapacity := 30000, bagDivision := 5, bagWindow := 4, bagBand := 20, bagAbsTol := 15
    bagRelTol := 20, bagWait := 20, cardWait := 60, cancelWait := 10, kickWidth := 100, kickConfirm := 500
    drawerLimit := 30, labels := List.replicate 8 (List.replicate 16 0x41) }

/-- A link that is UP, its receiver running. -/
def upLink : Link := { Link.reset with state := .up, line := .running, rate := 3, identSeen := true }

/-- A lane that is READY with its links UP, its scales NORMAL and its printer READY, 1,000 ms after the commit. -/
def lane : State :=
  { State.reset with
    re := { Re.reset with device := .ready, setup := some demoSetup, laneNumber := some 7, clock := 1000, lastCommit := .done }
    lu := { platter := upLink, bag := upLink, card := upLink, printer := upLink }
    pwu := { Pwu.reset with limit := .normal }
    bwu := { Bwu.reset with limit := .normal }
    su := { Su.reset with nextNumber := 1000 }
    ctu := { Ctu.reset with linkUp := true }
    pu := { Pu.reset with cond := .ready, cause := .none, credits := 4 } }

/-- A request record: tag 5, the kind, the optional flag, and the parameter words. -/
def recordOf (kind : Nat) (optional : Bool) (params : List Word) : List Word :=
  (BitVec.ofNat 32 (5 + kind * 65536 + if optional then 16777216 else 0) :: params ++ List.replicate 15 0).take 16

/-- `s` with a request in execution that its owner has not taken. -/
def asking (s : State) (kind : Nat) (optional : Bool) (params : List Word) : State :=
  { s with
    re := { s.re with phase := .executing, record := recordOf kind optional params }
    nu := { s.nu with reserved := 1 } }

/-- The same for a request of the SU, which stands in its list. -/
def askingSu (s : State) (kind : Nat) (optional : Bool) (params : List Word) : State :=
  let t := asking s kind optional params
  { t with su := { t.su with inbox := [.request] } }

/-- `s` with items in the path of a link. -/
def onPath (s : State) (l : LinkId) (items : List PathItem) : State := s.setLink l { s.link l with path := items }

/-- `s` with a sale in this state and mode, number 900. -/
def selling (s : State) (state : SaleState) (mode : SaleMode) : State :=
  { s with su := { s.su with header := { s.su.header with number := 900, state := state, mode := mode, operator := 3 } } }

def lineOf (amount : Nat) (bag : BagStatus) (delta : Option Int) : SaleLine where
  live := true
  kind := .item
  code := 77
  quantity := 1
  weight := 0
  price := amount
  amount := amount
  delta := delta
  captureId := 0
  stamp := 0
  bag := bag

def tenderOf (kind : TenderKind) (state : TenderState) (requested received applied : Nat) : Tender where
  kind := kind
  state := state
  requested := requested
  received := received
  applied := applied
  reference := 4
  entryMethod := 0
  lastFour := [0, 0, 0, 0]
  code := [0, 0, 0, 0, 0, 0]
  byKey := false
  created := 0
  final := 0

/-- `s` with these lines and tenders in its sale. -/
def withSale (s : State) (lines : List SaleLine) (tenders : List Tender) : State :=
  { s with su := { s.su with lines := lines, tenders := tenders } }

/-- `s` with one open window, all of whose writes have reached memory. -/
def opened (s : State) (owner : BlockId) (sections : List LaneSection) (after : List After) : State :=
  { s with bi := { s.bi with opened := [{ id := 0, owner := owner, sections := sections, after := after, ofRequest := false }],
                             nextWindow := 1, nextGroup := 1 } }

/-- The outstanding tender of the tests: entry 0, reference 4, amount 500. -/
def outOf (state : TenderState) : OutTender := { index := 0, reference := 4, amount := 500, state := state }

def withOut (s : State) (o : OutTender) : State := { s with ctu := { s.ctu with out := some o, refCounter := 5 } }

/-- A timer whose limit has just passed at 1,000 ms. -/
def dueTimer : Option Timer := some { start := 500, limit := 500 }

/-- The result of a request in the state a command answers. -/
def resultOf : Host.Outcome State Fault Refusal → Option ReqOutcome
  | .next t => t.re.outcome
  | _ => none

/-- A property of the state a command answers. -/
def after (o : Host.Outcome State Fault Refusal) (p : State → Bool) : Bool :=
  match o with
  | .next t => p t
  | _ => false

/-! ### Well-formedness: one ill-formed command for each check -/

theorem test_wellFormed_refuses_unaligned_write :
    (Instr.hostWriteWord 2 15 0 true).wellFormed = false := by decide
theorem test_wellFormed_refuses_unaligned_read : (Instr.hostReadBurst 1 1).wellFormed = false := by decide
theorem test_wellFormed_refuses_empty_burst : (Instr.hostReadBurst 0 0).wellFormed = false := by decide
theorem test_wellFormed_refuses_long_burst : (Instr.hostReadBurst 0 9).wellFormed = false := by decide
theorem test_wellFormed_refuses_burst_past_the_end : (Instr.hostReadBurst 0xFFFFFFFC 2).wellFormed = false := by decide
theorem test_wellFormed_refuses_table_word_128 : (Instr.printPageTableWrite 128 15 0 true).wellFormed = false := by decide
theorem test_wellFormed_refuses_aperture_word_65536 : (Instr.apertureWrite 65536 15 0 true).wellFormed = false := by decide
theorem test_wellFormed_refuses_aperture_read_65536 : (Instr.apertureRead 65536).wellFormed = false := by decide
theorem test_wellFormed_takes_the_last_burst : (Instr.hostReadBurst 0xFFFFFFE0 8).wellFormed = true := by decide

/-! ### The machine and RESET_N -/

theorem hyps_StepRunsTheFrontCommand :
    ({ lane with pending := [.laneClockTick, .keyEdge] } : State).pending = .laneClockTick :: [.keyEdge] ∧ lane.pending = [] :=
  ⟨rfl, rfl⟩

/-- The part with RESET_N low. -/
def held : State := { State.reset with bi := { Bi.reset with inReset := true } }

theorem hyps_ResetNHoldsThenReleasesTheBlocks :
    lane.bi.inReset = false
      ∧ (held.bi.inReset = true ∧ (∀ la bag, Instr.saleOpen ≠ .resetNRelease la bag) ∧ ∀ i b, Instr.saleOpen ≠ .rawLevelChange i b)
      ∧ (held.bi.inReset = true ∧ memoryCanonical held ∧ held.re = Re.reset ∧ held.lu = Lu.reset ∧ held.nu = Nu.reset) :=
  ⟨rfl, ⟨rfl, nofun, nofun⟩, rfl, rfl, rfl, rfl, rfl⟩

theorem test_release_writes_the_straps :
    after (exec (.resetNRelease 2 true) held) (fun t => t.mem == [(0x2002000, 2), (0x2002001, 1)]) = true := by decide +kernel

/-- The Till Unit keeps nothing but its pins through RESET_N. -/
theorem test_reset_clears_the_till :
    after (exec .resetNAssert { lane with tu := { lane.tu with forced := true, attempts := 2, openStamp := 9, forcedCount := 3 } })
        (fun t => t.tu == tillReset ⟨false, false, none⟩ ⟨false, false, none⟩ false false .shut) = true
      ∧ after (exec (.resetNRelease 0 false) { held with tu := { held.tu with senseFilter := ⟨true, false, none⟩ } })
        (fun t => t.tu == tillReset ⟨true, true, none⟩ ⟨false, false, none⟩ true false .opened) = true
      ∧ exec (.resetNRelease 0 false) lane = .next lane := by
  refine ⟨by decide +kernel, by decide +kernel, rfl⟩

/-! ### The memory path -/

theorem lane_mayWrite : hostMayWrite lane := ⟨rfl, rfl, Or.inr rfl⟩

theorem hyps_PlainWordsAreWrittenAndOthersDropped :
    memoryCanonical lane ∧ hostMayWrite lane ∧ (1 : BitVec 4) ≠ 0
      ∧ plainPlace lane 0x80000 ∧ plainPlace lane 0xFFFFFFC ∧ plainPlace lane 0x7FC ∧ plainPlace lane 0x1014
      ∧ plainPlace lane 0x3FFC ∧ plainPlace lane 0x5FFC
      ∧ (0xFFFFFFC : Word).toNat < Config.servedBytes ∧ Config.servedBytes ≤ (0x10000000 : Word).toNat :=
  ⟨rfl, lane_mayWrite, by decide, Or.inl ⟨by decide, by decide +kernel⟩, Or.inl ⟨by decide, by decide +kernel⟩,
    Or.inr ⟨0x7FC, by decide, Or.inr (Or.inl ⟨by decide, rfl⟩)⟩, Or.inr ⟨0x1014, by decide, Or.inr (Or.inr (Or.inl ⟨by decide, by decide⟩))⟩,
    Or.inr ⟨0x3FFC, by decide, Or.inl (by decide)⟩,
    Or.inr ⟨0x5FFC, by decide, Or.inr (Or.inr (Or.inr ⟨by decide, by decide +kernel⟩))⟩, by decide, by decide⟩

/-- One request submitted, a receipt line unprinted in page 0, the Setup Block protected, and page 3 mapped onto page 0's frame. -/
def spans : State :=
  { lane with
    bi := { lane.bi with
      reqProducer := 1, receiptFill := 1, setupSpan := true, refusedCount := 65535
      pageTable := lane.bi.pageTable.set 0 { frame := 0x80005, valid := 1 } } }

/-- Every page mapped onto the first frame above the lane area. -/
def mapped : State := { lane with bi := { lane.bi with pageTable := List.replicate 64 { frame := 0x80FFF, valid := 0xFFFFFFFF } } }

/-- An earlier word of the burst that runs was refused. -/
def refusedBurst (s : State) : State := { s with bi := { s.bi with burstRefused := true, burstGranted := true } }

/-- The hypotheses of the clauses hold in the middle of such a burst too. -/
theorem hyps_burst_with_a_refused_word :
    (hostMayWrite (refusedBurst lane) ∧ plainPlace (refusedBurst lane) 0x80000 ∧ (refusedBurst lane).bi.burstRefused = true)
      ∧ (hostMayWrite (refusedBurst mapped) ∧ entryInUse (refusedBurst lane) 0 = false
        ∧ addrProtected (refusedBurst mapped) (0x80000 + 4 * 65535 % 4096) = false) :=
  ⟨⟨⟨rfl, rfl, Or.inr rfl⟩, Or.inl ⟨by decide, by decide +kernel⟩, rfl⟩, ⟨rfl, rfl, Or.inr rfl⟩, by decide +kernel, by decide +kernel⟩

theorem test_last_word_after_a_refused_one_asks_the_page :
    after (exec (.hostWriteWord 0x80000 15 9 true) (refusedBurst lane))
      (fun t => (t.bi.waiting.map fun w => (w.owner, w.sections)) == [(.bi, [.statusPage])] && !t.bi.burstRefused) = true := by
  decide +kernel

theorem hyps_RefusedWordsAreCountedAndReported :
    (spans.bi.inReset = false ∧ spans.bi.hostStall = none ∧ spans.nu.latches.length = 24 ∧ spans.bi.refusedCount ≤ 65535)
      ∧ (laneOffset spans 0x1010 = some 0x1010 ∧ saleReady spans = true ∧ refusedPlace spans 0x1010 15 5)
      ∧ refusedPlace spans 0x80000 15 0 ∧ refusedPlace spans 0x2000 15 0 ∧ refusedPlace spans 0xFFC 1 0
      ∧ refusedPlace spans 0x1004 1 1 ∧ refusedPlace spans 0x4000 15 0 ∧ refusedPlace spans 0xD004 15 0
      ∧ refusedPlace spans 0x40000 15 0 ∧ unmappedPlace spans 0x7FFFC :=
  ⟨⟨rfl, rfl, by decide, by decide⟩,
    ⟨by decide, rfl,
      Or.inr ⟨0x1010, .controlWords, by decide, by decide, Or.inr (Or.inr (Or.inl ⟨rfl, .receiptFill, by decide, by decide +kernel⟩))⟩⟩,
    Or.inl ⟨by decide, by decide +kernel⟩, Or.inr ⟨0x2000, .statusPage, by decide, by decide, Or.inl rfl⟩,
    Or.inr ⟨0xFFC, .setupBlock, by decide, by decide, Or.inr (Or.inl ⟨rfl, rfl⟩)⟩,
    Or.inr ⟨0x1004, .controlWords, by decide, by decide, Or.inr (Or.inr (Or.inl ⟨rfl, .evtConsumer, by decide, by decide +kernel⟩))⟩,
    Or.inr ⟨0x4000, .requestQueue, by decide, by decide, Or.inr (Or.inr (Or.inr (Or.inl ⟨rfl, by decide +kernel⟩)))⟩,
    Or.inr ⟨0xD004, .pageTable, by decide, by decide, Or.inr (Or.inr (Or.inr (Or.inr (Or.inl ⟨rfl, by decide +kernel⟩))))⟩,
    Or.inr ⟨0x40000, .aperture, by decide, by decide, Or.inr (Or.inr (Or.inr (Or.inr (Or.inr ⟨rfl, 0x80000, by decide +kernel, by decide +kernel⟩))))⟩,
    ⟨0x7FFFC, by decide, by decide, by decide +kernel⟩⟩

theorem test_refused_word_counts_and_raises :
    after (exec (.hostWriteWord 0x2000 15 9 true) lane)
      (fun t => t.bi.refusedCount == 1 && t.bi.lastRefused == 0x2000 && t.mem == [] && (t.nu.writer != .free)) = true := by
  decide +kernel

theorem hyps_RowsOfTheLaneAreaAreHostAccesses :
    (memoryCanonical lane ∧ hostMayWrite lane ∧ (8 : BitVec 4) ≠ 0 ∧ 127 < 128 ∧ entryInUse lane (127 / 2) = false)
      ∧ (memoryCanonical mapped ∧ hostMayWrite mapped ∧ 65535 < 65536
        ∧ (pageEntry mapped (65535 / 1024)).valid.getLsbD 0 = true
        ∧ 0x80000 = (pageEntry mapped (65535 / 1024)).frame.toNat / 4096 * 4096 ∧ 0x80000 < Config.servedBytes
        ∧ (0x80000 < laneBase mapped ∨ laneBase mapped + 524288 ≤ 0x80000)
        ∧ addrProtected mapped (0x80000 + 4 * 65535 % 4096) = false) :=
  ⟨⟨rfl, lane_mayWrite, by decide, by decide, by decide +kernel⟩, rfl, ⟨rfl, rfl, Or.inr rfl⟩, by decide, by decide, by decide,
    by decide, Or.inr (by decide), by decide +kernel⟩

/-- A sale is open, and the head is one entry beyond the export. -/
def openLane : State := { selling lane .opened .staffed with ju := { lane.ju with head := 1 } }

/-- A sale whose unit is asked for a payload, so that a word of RECEIPT_FILL waits. -/
def askedSale : State := { openLane with su := { openLane.su with inbox := [.payloadAsk] } }
/-- The drawer was forced open three times since its last record, and all kinds are masked. -/
def latched : State :=
  { openLane with
    bi := { openLane.bi with noticeMask := 0xFFFFFFFF }
    nu := { openLane.nu with latches := openLane.nu.latches.set 0 { pending := true, count := 3, stamp := 900, source := 0 } } }

theorem hyps_WatchedWritesThatPassAreTaken :
    (memoryCanonical openLane ∧ hostMayWrite openLane ∧ saleReady openLane = true)
      ∧ (askedSale.bi.inReset = false ∧ askedSale.bi.hostStall = none ∧ saleReady askedSale = false)
      ∧ (memoryCanonical latched ∧ hostMayWrite latched ∧ mergeWord 15 latched.bi.noticeMask 0 ≠ latched.bi.noticeMask
        ∧ latched.nu.writer = .free ∧ latched.nu.owed = none)
      ∧ watchedRule openLane 128 .reqProducer ∧ watchedRule openLane 0 .evtConsumer ∧ watchedRule openLane 1 .journalExport
      ∧ watchedRule openLane 0xFFFFFFFF .noticeMask ∧ watchedRule openLane 2048 .receiptFill :=
  ⟨⟨rfl, ⟨rfl, rfl, Or.inr rfl⟩, rfl⟩, by decide, ⟨rfl, ⟨rfl, rfl, Or.inr rfl⟩, by decide, rfl, rfl⟩,
    And.intro (by decide) (by decide), Nat.le_refl 0, Nat.le_refl 1, trivial,
    And.intro (by decide) (And.intro (by decide) (And.intro (by decide) (by decide)))⟩

theorem test_unmasked_latch_is_taken :
    after (exec (.noticeMaskWrite 15 0 true) latched)
      (fun t => t.nu.writer == .asking .drawerForced 3 900 0 [.tu] (List.replicate 16 0) && !(latchAt t 0).pending) = true := by
  decide +kernel

/-- A stalled engine, 256 records unconsumed, two requests submitted. -/
def stalled : State :=
  { lane with
    bi := { lane.bi with reqProducer := 2 }, re := { lane.re with phase := .stalled, consumer := 1 }
    nu := { lane.nu with producer := 256, attn := true } }

def doneCompletion : Completion := { tag := 5, kind := 9, outcome := { result := .done, detail1 := 0, detail2 := 0 } }
/-- A record is unconsumed, and a completion waits for the writer. -/
def owing : State :=
  { lane with
    nu := { lane.nu with producer := 1, attn := true, reserved := 1, owed := some doneCompletion }
    re := { lane.re with phase := .completing } }

theorem hyps_HostIndicesDriveEngineAndRing :
    (hostMayWrite lane ∧ watchedRule lane (mergeWord 1 lane.bi.reqProducer 1) .reqProducer ∧ lane.re.phase = .idle ∧ lane.resetOwed = false
      ∧ unconsumed lane + lane.nu.reserved + conditionBegun lane.nu.writer < 256)
      ∧ ({ stalled with re := { stalled.re with phase := .idle } } : State).re.phase = .idle
      ∧ 256 ≤ unconsumed stalled + stalled.nu.reserved + conditionBegun stalled.nu.writer
      ∧ (hostMayWrite stalled ∧ watchedRule stalled (mergeWord 3 stalled.bi.evtConsumer 256) .evtConsumer
        ∧ stalled.re.phase = .stalled ∧ stalled.nu.writer = .free ∧ stalled.nu.owed = none)
      ∧ watchedRule stalled (mergeWord 3 stalled.bi.evtConsumer 0) .evtConsumer
      ∧ (hostMayWrite owing ∧ watchedRule owing (mergeWord 3 owing.bi.evtConsumer 1) .evtConsumer
        ∧ owing.nu.owed = some doneCompletion ∧ owing.nu.writer = .free)
      ∧ ({ lane with re := { lane.re with resetDue := true } } : State).resetOwed = true :=
  ⟨⟨lane_mayWrite, And.intro (by decide) (by decide), rfl, rfl, by decide⟩, rfl, by decide,
    ⟨⟨rfl, rfl, Or.inr rfl⟩, Nat.le_refl 256, rfl, rfl, rfl⟩, Nat.zero_le 256,
    ⟨⟨rfl, rfl, Or.inr rfl⟩, Nat.le_refl 1, rfl, rfl⟩, rfl⟩

/-- The Status Page and the event ring are open. -/
def statusOpen : State := opened lane .tu [.statusPage] []
/-- The BI's Status Page write after a refused burst waits for its window. -/
def statusOwing (s : State) : State := askBiStatus s

/-- A Status Page read waits for the BI's write, and one of another section does not (R4). -/
theorem hyps_ReadsWaitForTheRefusedCount :
    (readFree (statusOwing lane) = true ∧ (Instr.hostReadBurst 0x2000 1).wellFormed = true
      ∧ burstHeld (statusOwing lane) (0x2000 : Word).toNat 1 = true)
      ∧ (burstHeld (statusOwing lane) (0x6000 : Word).toNat 1 = false ∧ engineOwed (statusOwing lane) = false) := by
  decide +kernel

theorem test_status_read_returns_the_new_count :
    after (exec (.hostReadBurst 0x2000 1) (statusOwing lane)) (fun t => t.bi.hostStall == some (.readHeld 0x2000 1)) = true := by
  decide +kernel

/-- The engine's port is owed after eight host bursts. -/
def portOwed : State :=
  { lane with bi := { lane.bi with engine := [.setup 31, .fetch 0, .write 1 [(0x2000, 1)]], waitCount := 8 } }

theorem hyps_ReadsAtThePort :
    portWord lane 0x2000 ∧ ¬ portWord lane 0x10000000 ∧ ¬ portWord lane 0x7FFFC ∧ portWord mapped 0x7FFFC :=
  ⟨⟨by decide, by decide +kernel⟩, fun h => absurd h.1 (by decide), fun h => absurd (h.2 (by decide +kernel)) (by decide +kernel),
    ⟨by decide, by decide +kernel⟩⟩

theorem hyps_ReadsReturnMemoryOrWait :
    (readFree mapped = true ∧ (Instr.hostReadBurst 0xFFFFFE0 8).wellFormed = true ∧ engineOwed mapped = false
      ∧ burstHeld mapped 0xFFFFFE0 8 = false)
      ∧ (Instr.hostReadBurst 0x10000000 1).wellFormed = true
      ∧ (sectionOf mapped 0x40000 = some .aperture ∧ translate mapped (0x40000 - laneBase mapped) = some 0x80000
        ∧ translate lane (0x7FFFC - laneBase lane) = none)
      ∧ burstHeld mapped (laneBase mapped + 0x40000 + 4 * 65535) 1 = false
      ∧ (readFree statusOpen = true ∧ (Instr.hostReadBurst 0x1FFC 2).wellFormed = true
        ∧ burstHeld statusOpen (0x1FFC : Word).toNat 2 = true)
      ∧ (readFree portOwed = true ∧ (Instr.hostReadBurst 0x2000 8).wellFormed = true ∧ engineOwed portOwed = true
        ∧ burstHeld portOwed 0x2000 8 = false ∧ burstHeld portOwed 0x10000000 1 = false) := by
  decide +kernel

/-- The eighth host burst that an engine access waits through makes the port the engine's. -/
theorem test_eighth_host_grant_owes_the_port :
    after (exec (.hostReadBurst 0x2000 1) { portOwed with bi := { portOwed.bi with waitCount := 7 } })
        (fun t => engineOwed t && t.bi.readData == [0]) = true
      ∧ after (exec (.hostReadBurst 0x2000 1) portOwed) (fun t => t.bi.hostStall == some (.readServing 0x2000 1)) = true := by
  decide +kernel

def writeWaits : State :=
  { lane with bi := { lane.bi with hostStall := some (.write { addr := 0xFFFFFFFC, be := 15, data := 1, last := true }) } }
def readWaits : State := { lane with bi := { lane.bi with hostStall := some (.readServing 0x2000 8) } }

/-- A slot's words are wanted, and this access of the fetch is the next. -/
def fetching (a : EngineAccess) (wanted : Bool) (left : Nat) : State :=
  { lane with
    bi := { lane.bi with engine := [a] }
    pu := { lane.pu with fetch := some { slot := 2049, flight := .jobLine, wanted := wanted, left := left, words := [] } }
    mem := Memory.writeWords [] [(0xD100, 0x80FFF), (0xD104, 1)] }
/-- A word of RECEIPT_FILL waits for the SU, which is free to take the ask. -/
def fillWaiting (inbox : List SaleItem) : State :=
  { openLane with
    bi := { openLane.bi with
      engine := [.setup 0], hostStall := some (.fillAsk { addr := 0x1010, be := 15, data := 2048, last := true }) }
    su := { openLane.su with inbox := inbox } }

/-- A commit's write of the journal indices waits for the port. -/
def journalWaits : State := { lane with bi := { lane.bi with engine := [.journalWrite 9 7], waitCount := 3 } }

theorem hyps_MemoryPortGrantsInOrder :
    (portOwed.bi.inReset = false ∧ portOwed.bi.burstGranted = false
      ∧ portOwed.bi.engine = .setup 31 :: [.fetch 0, .write 1 [(0x2000, 1)]] ∧ portOwed.bi.hostStall = none ∧ engineOwed portOwed = true)
      ∧ (writeWaits.bi.burstGranted = false ∧ engineOwed writeWaits = false ∧ 0xFFFFFFFC < 4294967296 ∧ 0xFFFFFFFC % 4 = 0)
      ∧ (readWaits.bi.burstGranted = false ∧ readWaits.bi.hostStall = some (.readServing 0x2000 8) ∧ engineOwed readWaits = false)
      ∧ (Memory.readWord (fetching (.pageEntry 32) true 1).mem (laneBase lane + 0xD000 + 8 * 32 + 4)).getLsbD 0 = true
      ∧ ((Memory.readWord (fetching (.pageEntry 32) true 1).mem (laneBase lane + 0xD000 + 8 * 32)).toNat / 4096 * 4096 = 0x80000
        ∧ (fetching (.slot 0x80040 8) true 2).bi.engine = .slot 0x80040 8 :: []
        ∧ (Memory.readWord (fetching (.pageEntry 0) true 1).mem (laneBase lane + 0xD000 + 4)).getLsbD 0 = false
        ∧ (fetching (.slot 0x80060 5) false 1).bi.hostStall = none)
      ∧ ((fillWaiting [.payloadAsk, .fillAsk]).bi.engine = .setup 0 :: [] ∧ suFront (fillWaiting [.payloadAsk, .fillAsk]) ≠ some .fillAsk)
      ∧ (suFront (fillWaiting [.fillAsk]) = some .fillAsk ∧ engineOwed (fillWaiting [.fillAsk]) = false
        ∧ laneBase (fillWaiting [.fillAsk]) + 0x1010 = 0x1010)
      ∧ memoryCanonical (fillWaiting [.fillAsk])
      ∧ (journalWaits.bi.engine = .journalWrite 9 7 :: [] ∧ memoryCanonical journalWaits ∧ headOwed journalWaits = false)
      ∧ watchedRule (fillWaiting [.fillAsk]) (mergeWord 15 (fillWaiting [.fillAsk]).bi.receiptFill 2048) .receiptFill
      ∧ plainPlace portOwed 0x80000 :=
  ⟨by decide, by decide, by decide, by decide +kernel, by decide +kernel, by decide +kernel, by decide +kernel, rfl, ⟨rfl, rfl, rfl⟩,
    And.intro (by decide) (And.intro (by decide) (And.intro (by decide) (by decide))), Or.inl ⟨by decide, by decide +kernel⟩⟩

/-- `s` with the port owed to an engine access. -/
def owed (s : State) : State := { s with bi := { s.bi with engine := [.setup 0], waitCount := 8 } }
/-- The same word of RECEIPT_FILL at its turn, its candidate the bound 2,048 or one beyond it. -/
def fillTurn (data : Word) (last : Bool) : State :=
  { owed (fillWaiting [.fillAsk]) with
    bi := { (owed (fillWaiting [.fillAsk])).bi with hostStall := some (.fillAsk { addr := 0x1010, be := 15, data := data, last := last }) } }

/-- Each kind of word that is written waits for an owed port, at an end of its section; a candidate of RECEIPT_FILL at its turn. -/
theorem hyps_WordsAtAnOwedPort :
    ((owed openLane).bi.hostStall = none ∧ (owed openLane).bi.burstGranted = false ∧ engineOwed (owed openLane) = true
      ∧ engineOwed (owed mapped) = true)
      ∧ portPlace (owed openLane) 0x80000 15 0 ∧ portPlace (owed openLane) 0x1000 15 128 ∧ portPlace (owed openLane) 0x1010 15 2048
      ∧ portPlace (owed lane) 0xD000 15 0 ∧ portPlace (owed lane) 0xD1FC 15 0 ∧ portPlace (owed mapped) 0x40000 15 0
      ∧ portPlace (owed mapped) 0x7FFFC 15 0
      ∧ (suFront (fillTurn 2048 true) = some .fillAsk ∧ (fillTurn 2048 true).bi.burstGranted = false
        ∧ engineOwed (fillTurn 2048 true) = true ∧ (fillTurn 2049 true).nu.latches.length = 24 ∧ laneBase (fillTurn 2049 false) = 0)
      ∧ watchedRule (fillTurn 2048 true) (mergeWord 15 (fillTurn 2048 true).bi.receiptFill 2048) .receiptFill
      ∧ ¬ watchedRule (fillTurn 2049 true) (mergeWord 15 (fillTurn 2049 true).bi.receiptFill 2049) .receiptFill :=
  ⟨by decide, Or.inl (Or.inl ⟨by decide, by decide +kernel⟩),
    Or.inr (Or.inl ⟨.reqProducer, by decide, And.intro (by decide) (by decide), nofun⟩),
    Or.inr (Or.inl ⟨.receiptFill, by decide,
      And.intro (by decide) (And.intro (by decide) (And.intro (by decide) (by decide))), fun _ => rfl⟩),
    Or.inr (Or.inr (Or.inl ⟨0xD000, by decide, by decide, by decide +kernel⟩)),
    Or.inr (Or.inr (Or.inl ⟨0xD1FC, by decide, by decide, by decide +kernel⟩)),
    Or.inr (Or.inr (Or.inr ⟨0x40000, 0x80000, by decide, by decide, by decide +kernel, by decide +kernel⟩)),
    Or.inr (Or.inr (Or.inr ⟨0x7FFFC, 0x80FFC, by decide, by decide, by decide +kernel, by decide +kernel⟩)),
    by decide +kernel, And.intro (by decide) (And.intro (by decide) (And.intro (by decide) (by decide))),
    fun h => absurd h.2.1 (by decide)⟩

/-- At its turn the word of RECEIPT_FILL waits for the owed port, or is refused and reported. -/
theorem test_fill_word_is_decided_at_its_turn :
    after (exec .memoryPortGrant (fillTurn 2048 true))
        (fun t => t.bi.hostStall == some (.write { addr := 0x1010, be := 15, data := 2048, last := true }) && t.su.inbox == []) = true
      ∧ after (exec .memoryPortGrant (fillTurn 2049 true))
        (fun t => t.bi.hostStall == none && t.bi.refusedCount == 1 && t.bi.lastRefused == 0x1010 && t.mem == []
          && (t.nu.writer != .free)) = true := by
  decide +kernel

theorem test_slot_fetch_goes_through_the_port :
    after (exec .memoryPortGrant (fetching (.pageEntry 32) true 1))
        (fun t => t.bi.engine == [.slot 0x80040 8, .slot 0x80060 5] && (t.pu.fetch.map fun f => f.left) == some 2) = true
      ∧ after (exec .memoryPortGrant (fetching (.pageEntry 0) true 1))
        (fun t => t.bi.engine == [] && (t.pu.fetch.map fun f => f.words) == some [0]) = true := by
  decide +kernel

theorem test_journal_write_installs_both_indices :
    after (exec .memoryPortGrant journalWaits)
      (fun t => t.ju.head == 9 && t.bi.journalExport == 7 && t.mem == [(0x1008, 7)] && t.bi.waitCount == 0) = true := by
  decide +kernel

def twoAsks : State := askTuStatus (askBiStatus lane) false
def askOf (s : State) (i : Nat) : WindowAsk := s.bi.waiting.getD i ⟨0, 0, .bi, [], [], [], [], false⟩
def winOf (s : State) : OpenWindow := s.bi.opened.getD 0 ⟨0, .bi, [], [], false⟩
def heldRead : State := { statusOpen with bi := { statusOpen.bi with hostStall := some (.readHeld 0x2000 8) } }
def headWindow : State := opened lane .ju [.journal, .statusPage] [.headAdvance]
/-- An event of the SU whose words are written after the window of another unit. -/
def closingEvent (ofRequest : Bool) : SaleEvent :=
  { words := [(0xA000, 900)], after := [.tellBag .saleClosing, .tellPrint (.closeMark 0 .closing)], ofRequest := ofRequest }
def ownerThenSale (owner : BlockId) (after : List After) (ofRequest : Bool) : State :=
  let s := opened lane owner [.journal, .statusPage] after
  { s with su := { s.su with event := some (closingEvent ofRequest) } }
def tellingBoth (after : List After) : State := opened lane .su [.saleRecord] after

theorem hyps_WindowsThatLetAnotherUnitGoOn :
    (let s := ownerThenSale .ju [.headAdvance, .suWrite] true;
      s.bi.opened[0]? = some (winOf s) ∧ (winOf s).owner ≠ .nu ∧ windowWritten s (winOf s).id = true ∧ s.re.resetting = []
        ∧ s.bi.hostStall = none ∧ s.su.event = some (closingEvent true) ∧ (winOf s).after = [.headAdvance, .suWrite])
      ∧ (let s := ownerThenSale .pwu [.suWrite] false;
        s.re.outcome = none ∧ s.su.event = some (closingEvent false) ∧ (winOf s).after = [.suWrite])
      ∧ (winOf (tellingBoth [.tellBag .saleEnded, .tellPrint .saleIdle, .suDone])).after
          = [.tellBag .saleEnded, .tellPrint .saleIdle, .suDone]
      ∧ ((tellingBoth [.tellPrint .receiptBegins, .tellBag (.saleOpened .self 5), .suDone]).bi.opened[0]?
            = some (winOf (tellingBoth [.tellPrint .receiptBegins, .tellBag (.saleOpened .self 5), .suDone]))
          ∧ windowWritten (tellingBoth [.tellPrint .receiptBegins, .tellBag (.saleOpened .self 5), .suDone]) 0 = true)
      ∧ (lane.pwu.table[15]? = some (lane.pwu.entry 15) ∧ lane.ctu.lastFour.length = 4 ∧ lane.pu.jobs.length = 8) := by
  decide +kernel

theorem test_sale_window_follows_the_journal :
    after (exec (.updateWindowClose 0) (ownerThenSale .ju [.headAdvance, .suWrite] true))
      (fun t => t.ju.head == 1 && (t.bi.waiting.map fun w => w.sections) == [[.saleRecord]]) = true := by
  decide +kernel

/-- A request answered and waiting for its window, with this writer. -/
def answered (w : Writer) : State :=
  let s := opened (asking lane 9 false []) .pwu [.statusPage] []
  { s with re := { s.re with outcome := some { result := .done, detail1 := 0, detail2 := 0 } }, nu := { s.nu with writer := w } }

theorem hyps_WindowsOpenAndClose :
    (twoAsks.bi.inReset = false ∧ twoAsks.bi.waiting[0]? = some (askOf twoAsks 0)
      ∧ (∀ o ∈ twoAsks.bi.opened, sectionsMeet o.sections (askOf twoAsks 0).sections = false)
      ∧ servingTouches twoAsks (askOf twoAsks 0).sections = false
      ∧ ∀ x ∈ twoAsks.bi.waiting, x.group < (askOf twoAsks 0).group → sectionsMeet x.sections (askOf twoAsks 0).sections = false)
      ∧ (statusOpen.bi.opened[0]? = some (winOf statusOpen) ∧ (winOf statusOpen).owner ≠ .nu
        ∧ windowWritten statusOpen (winOf statusOpen).id = true ∧ statusOpen.re.outcome = none
        ∧ statusOpen.re.resetting = [] ∧ (winOf statusOpen).after = []
        ∧ statusOpen.bi.hostStall = none)
      ∧ ((winOf headWindow).after = [.headAdvance] ∧ windowWritten headWindow (winOf headWindow).id = true)
      ∧ (heldRead.bi.opened[0]? = some (winOf heldRead) ∧ engineOwed heldRead = false
        ∧ (∀ x ∈ heldRead.bi.opened, x.id ≠ (winOf heldRead).id → burstTouches heldRead 0x2000 8 x.sections = false)
        ∧ ∀ w ∈ heldRead.bi.waiting, w.owner ≠ .bi)
      ∧ ((statusOwing heldRead).bi.hostStall = some (.readHeld 0x2000 8) ∧ (winOf (statusOwing heldRead)).after = []
        ∧ (statusOwing heldRead).bi.opened[0]? = some (winOf (statusOwing heldRead))
        ∧ (∃ w ∈ (statusOwing heldRead).bi.waiting, w.owner = .bi) ∧ burstTouches (statusOwing heldRead) 0x2000 8 [.statusPage] = true)
      ∧ ((answered .condition).bi.opened[0]? = some (winOf (answered .condition)) ∧ (answered .condition).re.phase = .executing
        ∧ (answered .condition).re.statusDue = false ∧ (answered .condition).nu.owed = none
        ∧ (answered .condition).re.resetting = [] ∧ (answered .condition).nu.writer ≠ .free
        ∧ requestPending ((answered .condition).setBi { (answered .condition).bi with opened := [] }) = false)
      ∧ (answered .free).nu.writer = .free := by
  decide +kernel

/-- The answered request is a commit whose Status Page fields are still to be written. -/
def answeredCommit : State :=
  let s := answered .free
  { s with re := { s.re with record := recordOf 1 false [], statusDue := true, lastCommit := .done } }

theorem hyps_CommitWritesItsStatusBeforeItsCompletion :
    answeredCommit.bi.opened[0]? = some (winOf answeredCommit) ∧ (winOf answeredCommit).owner ≠ .nu
      ∧ windowWritten answeredCommit (winOf answeredCommit).id = true ∧ (winOf answeredCommit).after = []
      ∧ answeredCommit.re.phase = .executing ∧ answeredCommit.re.outcome.isSome = true ∧ answeredCommit.re.statusDue = true
      ∧ answeredCommit.re.resetting = []
      ∧ requestPending (answeredCommit.setBi { answeredCommit.bi with
          opened := answeredCommit.bi.opened.filter fun x => x.id != (winOf answeredCommit).id }) = false := by
  decide +kernel

theorem test_commit_writes_its_status_first :
    after (exec (.updateWindowClose 0) answeredCommit)
      (fun t => (t.bi.waiting.map fun w => (w.owner, w.sections)) == [(.re, [.statusPage])] && t.nu.writer == .free
        && !t.re.statusDue && t.re.phase == .executing) = true := by
  decide +kernel

theorem test_free_writer_takes_the_completion :
    after (exec (.updateWindowClose 0) (answered .free))
      (fun t => t.nu.writer == .completion && (t.bi.waiting.map fun w => w.live) == [[.completion doneCompletion]]) = true := by
  decide +kernel

/-! ### Requests and the setup -/

def fetched (kind : Nat) (device : DeviceState) : State :=
  { lane with re := { lane.re with device := device, phase := .fetching, fetched := recordOf kind false [] }, nu := { lane.nu with reserved := 1 } }

/-- A DRAWER_NOSALE waits for its completion; the drawer's limit falls due at the next millisecond, and so does the key's
twentieth. -/
def nosaleWaits : State :=
  let s := asking lane 15 false []
  { s with
    re := { s.re with outcome := some { result := .done, detail1 := 0, detail2 := 0 } }
    tu := { s.tu with
      drawer := .opened, limitTimer := some { start := 501, limit := 500 }
      keyFilter := { raw := true, level := false, count := some 19 } } }
/-- The same when the request is over: a limit and then an edge were held by it. -/
def heldEvents : State :=
  { lane with
    tu := { lane.tu with drawer := .opened, limitTimer := some { start := 500, limit := 500 }, edges := [{ input := .key, level := true }] }
    arrivals := [{ unit := .tu, event := .timer .drawerLimit, held := true }, { unit := .tu, event := .edge, held := true }] }

theorem hyps_EventsThatWaitedAreOrdered :
    (unitBusy nosaleWaits .tu = true ∧ hearsMany .tu = true)
      ∧ (unitBusy heldEvents .tu = false ∧ unitHolds heldEvents .tu = true
        ∧ (liveArrivals heldEvents heldEvents.arrivals).filter (fun a => decide (a.unit = .tu))
          = { unit := .tu, event := .timer .drawerLimit, held := true } :: [{ unit := .tu, event := .edge, held := true }])
      ∧ (unitTakes heldEvents .tu .edge = false ∧ unitTakes nosaleWaits .tu (.timer .kickWidth) = false
        ∧ RequestKind.owner .drawerNosale = .tu)
      ∧ unitHolds (fetched 19 .ready) .pu = false := by
  decide +kernel

/-- A limit and an edge that fall in one millisecond of a request are held in that order, and taken in it. -/
theorem test_events_of_a_request_keep_their_order :
    after (exec .laneClockTick nosaleWaits) (fun t => t.arrivals == heldEvents.arrivals) = true
      ∧ after (exec .keyEdge heldEvents) (fun t => t.tu.edges.length == 1) = true
      ∧ after (exec .drawerLimitExpiry heldEvents) (fun t => t.tu.limitTimer.isNone && unitTakes t .tu .edge) = true := by
  decide +kernel

theorem hyps_FetchedRequestIsDecoded :
    ((fetched 0 .ready).re.phase = .fetching ∧ (fetched 0 .ready).re.fetched.length = 16)
      ∧ recKind (fetched 0 .ready).re.fetched = none ∧ recKind (fetched 20 .ready).re.fetched = none
      ∧ (recKind (fetched 3 .unconfigured).re.fetched = some .saleOpen ∧ (fetched 3 .unconfigured).re.device = .unconfigured)
      ∧ recKind (fetched 1 .unconfigured).re.fetched = some .setupCommit
      ∧ recKind (fetched 19 .ready).re.fetched = some .receiptAbandon := by
  decide +kernel

theorem hyps_FetchedRequestEndsAtOnce :
    requestPending (fetched 20 .ready) = false ∧ requestPending (fetched 3 .unconfigured) = false := by decide +kernel

/-- The advanced consumer index goes to the Status Page, with the failing field beside it. -/
theorem test_fetched_request_publishes_the_index :
    after (exec .requestFetched (fetched 20 .ready))
        (fun t => t.re.phase == .completing
          && (t.bi.waiting.filter fun w => w.owner == .re).map (fun w => (w.sections, w.fixed))
            == [([LaneSection.statusPage], [(0x2014, ((fetched 20 .ready).re.consumer + 1).setWidth 32)])]) = true
      ∧ after (exec .requestFetched (fetched 19 .ready)) (fun t => t.re.phase == .executing && t.re.outcome.isNone) = true := by
  decide +kernel

theorem test_kind_20_is_bad : resultOf (exec .requestFetched (fetched 20 .ready)) = some ⟨.badKind, 0, 0⟩ := by decide +kernel
theorem test_sale_is_not_ready_before_a_commit :
    resultOf (exec .requestFetched (fetched 3 .unconfigured)) = some ⟨.notReady, 0, 0⟩ := by decide +kernel

/-- A setup block with every field at an end of its range, and the word that makes its sum 0xFFFF. -/
def copyHead : List Word :=
  [0, 1, 999, 1000, 2053, 5, 6, 0, 6, 0, 100, 5000, 100, 5000, 10000, 1, 1, 4, 200, 1, 10000, 60000, 10, 32, 1, 500, 0, 2, 300, 30,
    250, 251, 600]
def copyBody : List Word := copyHead ++ List.replicate 32 0x7E202020 ++ List.replicate 190 0
def copyWith (body : List Word) : List Word := body ++ [BitVec.ofNat 32 (65535 - setupSum body)]
def goodCopy : List Word := copyWith copyBody

theorem goodCopy_passes : setupFailure goodCopy none false = none := by decide +kernel
theorem test_setup_lane_0_fails_field_2 : setupFailure (copyWith (copyBody.set 2 0)) none false = some 2 := by decide +kernel
theorem test_setup_sum_fails_field_0 : setupFailure (goodCopy.set 255 0) none false = some 0 := by decide +kernel

/-- SETUP_COMMIT whose block has been read. -/
def committing (device : DeviceState) (copy : List Word) : State :=
  let s := asking lane 1 false []
  { s with re := { s.re with device := device, setupRead := copy }, bi := { s.bi with setupSpan := true } }
def unread (device : DeviceState) : State := let s := asking lane 1 false []; { s with re := { s.re with device := device } }
def unreadOpen : State := selling (unread .ready) .opened .staffed

theorem hyps_SetupIsReadAndJudged :
    (awaits (unread .unconfigured) .setupCommit = true ∧ (unread .unconfigured).bi.setupSpan = false
      ∧ (unread .unconfigured).re.device = .unconfigured)
      ∧ (awaits (unread .ready) .setupCommit = true ∧ saleReady (unread .ready) = true ∧ (unread .ready).su.header.state = .idle
        ∧ ∀ j ∈ (unread .ready).pu.jobs, j.active = false)
      ∧ (awaits unreadOpen .setupCommit = true ∧ unreadOpen.bi.setupSpan = false ∧ unreadOpen.re.device = .ready
        ∧ saleReady unreadOpen = true ∧ unreadOpen.su.header.state ≠ .idle)
      ∧ (awaits (committing .ready (goodCopy.set 255 0)) .setupCommit = true
        ∧ (committing .ready (goodCopy.set 255 0)).re.setupRead.length = 256
        ∧ headOwed (committing .ready (goodCopy.set 255 0)) = false
        ∧ setupFailure (goodCopy.set 255 0) (some 7) true = some 0) := by
  decide +kernel

/-- The lane number 7 of a recommit, with the journal indices too far apart or not. -/
def recopy (head : Word) : List Word := copyWith ((copyBody.set 2 7).set 4 head)

theorem hyps_FirstCommitStartsTheLane :
    let s := committing .unconfigured (recopy 2053)
    (s.bi.inReset = false ∧ awaits s .setupCommit = true ∧ s.bi.setupSpan = true ∧ s.re.setupRead.length = 256 ∧ headOwed s = false
      ∧ s.re.device = .unconfigured ∧ s.nu.latches.length = 24 ∧ setupFailure s.re.setupRead s.re.laneNumber false = none)
      ∧ memoryCanonical s :=
  ⟨by decide +kernel, rfl⟩

theorem hyps_RecommitKeepsTheSale :
    let s := committing .ready (recopy 2053)
    let u := committing .ready (recopy 2054)
    (awaits s .setupCommit = true ∧ s.bi.setupSpan = true ∧ s.re.setupRead.length = 256 ∧ headOwed s = false ∧ s.re.device = .ready
      ∧ setupFailure s.re.setupRead s.re.laneNumber true = none ∧ (s.re.setupRead.getD 4 0 - s.re.setupRead.getD 5 0).toNat = 2048)
      ∧ (u.re.setupRead.length = 256 ∧ setupFailure u.re.setupRead u.re.laneNumber true = none
        ∧ (u.re.setupRead.getD 4 0 - u.re.setupRead.getD 5 0).toNat = 2049)
      ∧ memoryCanonical s ∧ memoryCanonical u :=
  ⟨by decide +kernel, by decide +kernel, rfl, rfl⟩

/-- A commit that is DONE leaves the engine's own Status Page write due. -/
theorem test_commit_leaves_the_status_due :
    after (exec .setupCommit (committing .unconfigured (recopy 2053))) (fun t => t.re.phase == .executing && t.re.statusDue) = true
      ∧ after (exec .setupCommit (committing .ready (recopy 2054))) (fun t => t.re.phase == .executing && t.re.statusDue) = true := by
  decide +kernel

/-- A platter link whose rate stays and a bag link whose rate changes, and a FRESH capture. -/
def recommitting : State :=
  let s := committing .ready (copyWith ((copyBody.set 2 7).set 6 3))
  { s with pwu := { s.pwu with
      machine := .captured, curSlot := 2
      table := s.pwu.table.set 2 { id := 8, state := .fresh, net := 500, tare := 0, gross := 500, stamp := 7, line := 0 } } }

theorem hyps_RecommitChangesLinksAndCapture :
    setupFailure recommitting.re.setupRead recommitting.re.laneNumber true = none
      ∧ (cfg recommitting).rates.getD (linkNo .platter) 0 = setupField recommitting.re.setupRead (6 + linkNo .platter)
      ∧ (cfg recommitting).rates.getD (linkNo .bag) 0 ≠ setupField recommitting.re.setupRead (6 + linkNo .bag)
      ∧ recommitting.pwu.machine = .captured
      ∧ after (exec .setupCommit recommitting) (fun t => (t.pwu.entry 2).state == .stale && (t.link .bag).state == .unseen
          && (t.link .platter).state == .up && t.bi.engine.length == 1) = true := by
  decide +kernel

/-- A tare stands, with the link UP or not. -/
def recommitTare (limit : LimitState) : State :=
  { recommitting with pwu := { recommitting.pwu with tare := 500, gross := 7500, limit := limit, zeroTimer := dueTimer } }

theorem hyps_RecommitClearsATare :
    (setupFailure (recommitTare .normal).re.setupRead (recommitTare .normal).re.laneNumber true = none
      ∧ awaits (recommitTare .normal) .setupCommit = true ∧ (recommitTare .normal).pwu.tare ≠ 0
      ∧ (recommitTare .normal).pwu.limit ≠ .offline)
      ∧ (recommitTare .offline).pwu.limit = .offline
      ∧ after (exec .setupCommit (recommitTare .normal)) (fun t => t.pwu.weight == 750 && t.pwu.zone == .loaded && t.pwu.tare == 0
          && t.pwu.zeroTimer.isNone) = true := by
  decide +kernel

theorem test_recommit_without_indices :
    resultOf (exec .setupCommit (committing .ready (recopy 2054))) = some ⟨.done, 7, 0⟩ := by decide +kernel

/-- A completion has been written, for a request of this kind. -/
def completed (kind : Nat) : State :=
  let s := opened (asking lane kind false []) .nu [.eventRing, .statusPage] []
  { s with re := { s.re with phase := .completing }, nu := { s.nu with writer := .completion } }
def completedMore : State := { completed 9 with bi := { (completed 9).bi with reqProducer := 1 } }

/-- A LANE_RESET is owed; this window is open. -/
def resetOwing (owner : BlockId) : State :=
  let s := opened lane owner [.statusPage] []
  { s with re := { s.re with resetDue := true } }
def resetCalm : State := { lane with re := { lane.re with resetDue := true } }
/-- All but the PWU and the RE have been reset. -/
def resetLast : State :=
  let s := opened lane .pwu [.statusPage] []
  { s with re := { s.re with resetting := [.pwu, .re] } }
/-- The same for a window of this unit, with what follows its close; the units still told are these. -/
def resetLastOf (owner : BlockId) (after : List After) (told : List BlockId) : State :=
  let s := opened lane owner [.statusPage] after
  { s with
    re := { s.re with resetting := told }
    su := { s.su with
      inbox := [.holdSet .timeout, .payloadAsk]
      event := if .su ∈ told then some { words := [], after := [.saleFinished], ofRequest := false } else none }
    ju := { s.ju with head := 8, forcedCarry := 2 }
    tu := { s.tu with drawer := .fault, attempts := 2, forcedCount := 3 }
    pu := { s.pu with owner := .receipt, lineSeq := 7 } }
def completedUnready : State := { completed 2 with re := { (completed 2).re with device := .unconfigured } }
def suMidEvent : State :=
  { resetCalm with su := { resetCalm.su with event := some { words := [], after := [.suDone], ofRequest := false } } }

theorem hyps_LaneResetAnswersThenResets :
    (awaits (asking lane 2 false []) .laneReset = true ∧ saleReady (asking lane 2 false []) = true
      ∧ (asking lane 2 false []).re.resetDue = false)
      ∧ (writtenRecord (completed 2) = some (winOf (completed 2)) ∧ (completed 2).nu.writer = .completion
        ∧ recKind (completed 2).re.record = some .laneReset ∧ (completed 2).nu.latches.length = 24
        ∧ (completed 2).re.device = .ready ∧ (∀ w ∈ (completed 2).bi.opened, w.owner = .nu) ∧ (completed 2).su.event = none
        ∧ headOwed (completed 2) = false ∧ producerCopy (completed 2) = (completed 2).re.consumer)
      ∧ (completed 2).nu.owed = none
      ∧ (resetCalm.re.resetDue = true ∧ resetCalm.bi.opened = [] ∧ resetCalm.su.event = none ∧ headOwed resetCalm = false)
      ∧ ((resetOwing .tu).re.resetDue = true ∧ unitReady (resetOwing .tu) .tu = false ∧ unitReady (resetOwing .ju) .ju = false
        ∧ unitReady suMidEvent .su = false)
      ∧ (resetLast.bi.opened = [winOf resetLast] ∧ (winOf resetLast).owner = .pwu ∧ (winOf resetLast).after = []
        ∧ windowWritten resetLast (winOf resetLast).id = true ∧ resetLast.re.resetting = [.pwu, .re]
        ∧ resetLast.re.phase = .idle ∧ resetLast.re.outcome = none ∧ resetLast.bi.hostStall = none)
      ∧ (writtenRecord completedUnready = some (winOf completedUnready) ∧ completedUnready.re.device = .unconfigured) := by
  decide +kernel

theorem test_reset_waits_for_an_open_window :
    after (exec .laneReset (resetOwing .tu)) (fun t => t.re.resetting == [.tu, .re] && t.re.device == .ready) = true
      ∧ after (exec (.updateWindowClose 0) resetLast) (fun t => t.re.resetting == [] && t.re.device == .unconfigured) = true := by
  decide +kernel

theorem hyps_LastUnitTakesItsReset :
    (let s := resetLastOf .tu [] [.tu, .re];
      s.bi.opened = [winOf s] ∧ windowWritten s (winOf s).id = true ∧ s.re.phase = .idle ∧ s.re.outcome = none
        ∧ s.re.device = .ready ∧ s.bi.hostStall = none ∧ s.nu.latches.length = 24)
      ∧ (winOf (resetLastOf .pu [] [.pu, .re])).owner = .pu
      ∧ (let s := resetLastOf .su [.suDone] [.su, .re];
        s.bi.opened = [winOf s] ∧ (winOf s).owner = .su ∧ (winOf s).after = [.suDone] ∧ windowWritten s (winOf s).id = true)
      ∧ (winOf (resetLastOf .su [.saleFinished, .tellBag .saleEnded, .tellPrint .saleIdle, .suDone] [.su, .re])).after
          = [.saleFinished, .tellBag .saleEnded, .tellPrint .saleIdle, .suDone]
      ∧ (let s := resetLastOf .ju [.headAdvance] [.ju, .re];
        s.bi.opened = [winOf s] ∧ (winOf s).owner = .ju ∧ windowWritten s (winOf s).id = true ∧ s.bi.waiting = [])
      ∧ (let s := resetLastOf .ju [.headAdvance, .suWrite] [.su, .ju, .re];
        s.su.event = some { words := [], after := [.saleFinished], ofRequest := false }
          ∧ (winOf s).after = [.headAdvance, .suWrite] ∧ s.re.resetting = [.su, .ju, .re]) := by
  decide +kernel

theorem test_last_unit_takes_its_reset :
    after (exec (.updateWindowClose 0) (resetLastOf .tu [] [.tu, .re]))
        (fun t => t.tu.drawer == .shut && t.tu.attempts == 0 && t.tu.forcedCount == 0) = true
      ∧ after (exec (.updateWindowClose 0) (resetLastOf .pu [] [.pu, .re]))
        (fun t => t.pu.owner == .none && t.pu.lineSeq == 7 && t.pu.cond == .offline) = true
      ∧ after (exec (.updateWindowClose 0) (resetLastOf .su [.suDone] [.su, .re]))
        (fun t => t.su.event.isNone && t.su.inbox == [.payloadAsk] && t.re.resetting == []) = true := by
  decide +kernel

theorem test_journal_entry_goes_before_the_reset :
    after (exec (.updateWindowClose 0) (resetLastOf .ju [.headAdvance, .suWrite] [.su, .ju, .re]))
      (fun t => t.ju.head == 9 && t.ju.forcedCarry == 0 && t.re.resetting == [.su, .re] && t.su.event.isSome
        && (t.bi.waiting.map fun w => w.after) == [[.saleFinished, .suDone]]) = true := by
  decide +kernel

theorem hyps_WrittenCompletionFreesTheEngine :
    (writtenRecord (completed 9) = some (winOf (completed 9)) ∧ (completed 9).nu.writer = .completion ∧ (completed 9).nu.owed = none
      ∧ recKind (completed 9).re.record ≠ some .laneReset ∧ (completed 9).re.resetting = []
      ∧ producerCopy (completed 9) = (completed 9).re.consumer)
      ∧ (writtenRecord completedMore = some (winOf completedMore) ∧ producerCopy completedMore ≠ completedMore.re.consumer) := by
  decide +kernel

theorem test_completion_advances_the_ring :
    after (exec (.completionWritten true) (completed 9)) (fun t => t.nu.producer == 1 && t.nu.attn && t.re.phase == .idle) = true := by
  decide +kernel

/-! ### Notices -/

/-- A record for which these units are asked. -/
def askingUnits (kind : CondKind) (waiting : List BlockId) : State :=
  { lane with nu := { lane.nu with writer := .asking kind 1 5 0 waiting (List.replicate 20 0) } }
def conditionDone : State := let s := opened lane .nu [.eventRing, .statusPage] []; { s with nu := { s.nu with writer := .condition } }
def owedDone : State :=
  { conditionDone with
    re := { conditionDone.re with phase := .completing }
    nu := { conditionDone.nu with owed := some { tag := 5, kind := 9, outcome := { result := .done, detail1 := 0, detail2 := 0 } } } }

/-- The drawer is open past its limit while a record is written; DRAWER_LONG stands raised `count` times. -/
def longAgain (count : Nat) : State :=
  { conditionDone with
    tu := { lane.tu with drawer := .opened, limitTimer := dueTimer }
    nu := { conditionDone.nu with
      latches := conditionDone.nu.latches.set (latchIndex .drawerLong 0)
        { pending := decide (0 < count), count := count, stamp := 900, source := 0 } } }

theorem hyps_ConditionRecordsAreFilledAndWritten :
    ((longAgain 255).nu.writer ≠ .free ∧ (longAgain 255).nu.latches.length = 24
      ∧ (latchAt (longAgain 255) (latchIndex .drawerLong 0)).pending = true
      ∧ (latchAt (longAgain 0) (latchIndex .drawerLong 0)).pending = false)
      ∧ ((longAgain 1).tu.drawer = .opened ∧ timerDue (longAgain 1) (longAgain 1).tu.limitTimer = true
        ∧ unitTakes (longAgain 1) .tu (.timer .drawerLimit) = true)
      ∧ (List.replicate 16 (0 : Byte)).length = 16
      ∧ (BlockId.ctu ∈ [BlockId.ctu, .su] ∧ answerReady (askingUnits .tenderOutcome [.ctu, .su]) .tenderOutcome .ctu = true
        ∧ ([BlockId.ctu, .su].filter fun y => y != BlockId.ctu) ≠ [])
      ∧ (answerReady (askingUnits .drawerShut [.tu]) .drawerShut .tu = true ∧ ([BlockId.tu].filter fun y => y != BlockId.tu) = [])
      ∧ (writtenRecord conditionDone = some (winOf conditionDone) ∧ conditionDone.nu.owed = none
        ∧ ∀ i < 24, latchEligible conditionDone i = false)
      ∧ (writtenRecord (longAgain 1) = some (winOf (longAgain 1)) ∧ latchEligible (longAgain 1) (latchIndex .drawerLong 0) = true)
      ∧ (writtenRecord owedDone = some (winOf owedDone) ∧ owedDone.nu.owed ≠ none) := by
  decide +kernel

/-- The module's result contradicted the verdict of reference 4. -/
def conflicted : State :=
  { lane with ctu := { lane.ctu with conflict := some { verdict := .approved, outcome := 2, amount := 0, reference := 4 } } }

theorem hyps_PayloadOfTheConflict :
    conflicted.ctu.conflict = some { verdict := .approved, outcome := 2, amount := 0, reference := 4 }
      ∧ conflicted.ctu.lastFour.length = 4
      ∧ packPayload (payloadFields conflicted .tenderConflict 0 .ctu)
          = [BitVec.ofNat 8 TenderState.approved.code, 2, 0, 0, 0, 0, 0, 0, 4, 0] ++ List.replicate 6 0 := by
  decide +kernel

theorem test_latch_counts_to_255 :
    after (exec .drawerLimitExpiry (longAgain 1)) (fun t => latchAt t (latchIndex .drawerLong 0) == ⟨true, 2, 900, 0⟩) = true
      ∧ after (exec .drawerLimitExpiry (longAgain 255)) (fun t => (latchAt t (latchIndex .drawerLong 0)).count == 255) = true := by
  decide +kernel

/-! ### Time and pins -/

def filtering (n : Nat) : State :=
  { lane with tu := { lane.tu with senseFilter := { raw := true, level := false, count := some n } } }

theorem hyps_TicksAndPins :
    (filtering 18).bi.inReset = false ∧ (filtering 18).tu.senseFilter.count = some 18 ∧ (filtering 19).tu.senseFilter.count = some 19
      ∧ lane.tu.keyFilter.count = none ∧ held.bi.inReset = true := by decide

theorem test_twentieth_millisecond_turns_the_reading :
    after (exec .laneClockTick (filtering 19)) (fun t => t.tu.senseFilter.level && t.tu.edges.length == 1 && t.re.clock == 1001) = true := by
  decide +kernel

/-! ### The links -/

def withAttempt (l : LinkId) (state : LinkState) (line : RxLine) (attempt : Option (List Byte)) (badRun : Nat) : State :=
  lane.setLink l { upLink with state := state, line := line, attempt := attempt, badRun := badRun, freshStart := true }
/-- The bytes after SYNC of a frame but its last, and that last byte. -/
def frameHead (kind seq : Byte) (payload : List Byte) : List Byte :=
  let b := BitVec.ofNat 8 payload.length :: kind :: seq :: payload
  b ++ [(crc16 b).extractLsb' 0 8]
def frameLast (kind seq : Byte) (payload : List Byte) : Byte :=
  (crc16 (BitVec.ofNat 8 payload.length :: kind :: seq :: payload)).extractLsb' 8 8

/-- The body of a SAMPLE, and a platter link that has received it, in this state and with this path. -/
def sampleBody : List Byte := frameHead kSample 9 [1, 2, 3, 4, 5]
def sampleEnd : Byte := frameLast kSample 9 [1, 2, 3, 4, 5]
def sampling (state : LinkState) (seen : Bool) (path : List PathItem) : State :=
  lane.setLink .platter { upLink with state := state, identSeen := seen, attempt := some (syncByte :: sampleBody), path := path }
def someFrame (b : Byte) : PathItem := .frame kSample [b] false

theorem hyps_CharactersMakeFrames :
    ((withAttempt .platter .up .running none 0).link .platter).line = .running
      ∧ tryFrame .platter ([] ++ [120]) = .incomplete
      ∧ ([] : List Byte).length ≤ 120 ∧ allowedMinLen .card kCardOut = some 0 ∧ allowedMinLen .platter kSample = some 5
      ∧ (120 < (121 : Byte).toNat ∧ (120 : Byte).toNat ≤ 120 ∧ allowedMinLen .platter kCardIn = none ∧ (4 : Byte).toNat < 5)
      ∧ (let s := sampling .up true [.change .down .up, someFrame 1];
        (s.link .platter).line = .running ∧ (s.link .platter).attempt = some (syncByte :: sampleBody)
          ∧ tryFrame .platter (sampleBody ++ [sampleEnd]) = .valid kSample 9 [1, 2, 3, 4, 5]
          ∧ sampleBody.length = [1, 2, 3, 4, 5].length + 4 ∧ kSample ≠ kIdent ∧ (s.link .platter).state = .up
          ∧ ((s.link .platter).path.filter PathItem.isFrame).length < 2)
      ∧ (let s := sampling .up true [someFrame 1, someFrame 2, .change .up .up];
        (s.link .platter).path = [someFrame 1] ++ .frame kSample [2] false :: [.change .up .up]
          ∧ ([someFrame 1].filter PathItem.isFrame).length = 1 ∧ ∀ x ∈ [PathItem.change .up .up], x.isFrame = false)
      ∧ (((sampling .down true []).link .platter).state = .down ∧ ((sampling .down true []).link .platter).identSeen = true
        ∧ ((sampling .down false []).link .platter).identSeen = false
        ∧ (((sampling .down true []).link .platter).path.filter PathItem.isFrame).length < 2)
      ∧ (let s := sampling .down true [someFrame 1, someFrame 2, .change .up .down];
        (s.link .platter).path = [someFrame 1] ++ .frame kSample [2] false :: [.change .up .down] ∧ s.nu.latches.length = 24
          ∧ (s.link .platter).line = .running ∧ ∀ x ∈ [PathItem.change .up .down], x.isFrame = false)
      ∧ (let body := frameHead kIdent 9 [2]
        let s := withAttempt .bag .unseen .running (some (syncByte :: body)) 7
        tryFrame .bag (body ++ [frameLast kIdent 9 [2]]) = .valid kIdent 9 [2] ∧ body.length = [(2 : Byte)].length + 4
          ∧ (s.link .bag).state = .unseen)
      ∧ (payByte [expectedDevice .bag] 0 = expectedDevice .bag ∧ payByte [0] 0 ≠ expectedDevice .bag)
      ∧ (let body := frameHead kIdent 9 [1]
        tryFrame .bag (body ++ [frameLast kIdent 9 [1] + 1]) = .error .check .check
          ∧ (∀ b ∈ body ++ [frameLast kIdent 9 [1] + 1], b ≠ syncByte)
          ∧ ((withAttempt .bag .up .running (some (syncByte :: body)) 7).link .bag).badRun = 7)
      ∧ (tryFrame .bag ([] ++ [121]) = .error .length .length ∧ tryFrame .bag ([5] ++ [kCardIn]) = .error .kind .header
        ∧ tryFrame .bag ([4] ++ [kSample]) = .error .length .header) := by
  decide +kernel

/-- A link whose attempt, ended by a wrong check code, holds the SYNC of a further frame. -/
def rescanned : List Byte := [6, kSample, syncByte, 5, kSample, 9, 1, 2]
def rescanning : State :=
  lane.setLink .platter { upLink with attempt := some (syncByte :: rescanned), badRun := 8, state := .down }

theorem hyps_CharactersOnOtherLinks :
    (let s := sampling .unseen false [];
      (s.link .platter).line = .running ∧ (s.link .platter).attempt = some (syncByte :: sampleBody)
        ∧ tryFrame .platter (sampleBody ++ [sampleEnd]) = .valid kSample 9 [1, 2, 3, 4, 5]
        ∧ sampleBody.length = [1, 2, 3, 4, 5].length + 4 ∧ kSample ≠ kIdent ∧ (s.link .platter).state = .unseen
        ∧ (s.link .platter).tracked = none)
      ∧ ((sampling .mismatch true []).link .platter).state = .mismatch
      ∧ (State.reset.link .card).line = .stopped
      ∧ ((rescanning.link .platter).line = .running ∧ (rescanning.link .platter).attempt = some (syncByte :: rescanned)
        ∧ rescanning.nu.latches.length = 24
        ∧ ((withAttempt .platter .up .running (some [syncByte, 9]) 0).link .platter).attempt = some (syncByte :: [9])
        ∧ tryFrame .platter ([9] ++ [syncByte]) = .error .kind .header) := by
  decide +kernel

/-- The bytes of an attempt after its SYNC are looked at again: a SYNC that ends a bad attempt begins the next one. -/
theorem test_rescan_begins_at_the_next_sync :
    after (exec (.rxCharacter .platter syncByte true) (withAttempt .platter .up .running (some [syncByte, 9]) 0))
        (fun t => (t.link .platter).attempt == some [syncByte] && (t.link .platter).errors.kind == 1) = true
      ∧ after (exec (.gapTimeout .platter) rescanning)
        (fun t => (t.link .platter).attempt == some [syncByte, 5, kSample, 9, 1, 2] && (t.link .platter).errors.gap == 1) = true := by
  decide +kernel

/-- The eighth bad frame takes the link DOWN, an IDENT of another device takes it to MISMATCH, and a frame brings it UP again. -/
theorem test_link_states_follow_frames :
    after (exec (.rxCharacter .bag (frameLast kIdent 9 [1] + 1) true)
        (withAttempt .bag .up .running (some (syncByte :: frameHead kIdent 9 [1])) 7)) (fun t => (t.link .bag).state == .down) = true
      ∧ after (exec (.rxCharacter .bag (frameLast kIdent 9 [9]) true)
        (withAttempt .bag .up .running (some (syncByte :: frameHead kIdent 9 [9])) 0)) (fun t => (t.link .bag).state == .mismatch) = true
      ∧ after (exec (.rxCharacter .platter sampleEnd true) (sampling .down true [])) (fun t => (t.link .platter).state == .up) = true
      ∧ after (exec (.rxCharacter .platter sampleEnd true) (sampling .down true [someFrame 1, someFrame 2, .change .up .down]))
        (fun t => (t.link .platter).path == [someFrame 1, .change .up .down, .change .down .up, .frame kSample [1, 2, 3, 4, 5] true]
          && (t.link .platter).errors.overrun == 1) = true := by
  decide +kernel

/-- A receiver that kept its attempt across a change of rate. -/
def rescanningFresh (line : RxLine) : State :=
  rescanning.setLink .platter { rescanning.link .platter with freshStart := true, line := line }

theorem hyps_RescanInAFreshReceiver :
    (((rescanningFresh .running).link .platter).line = .running ∧ ((rescanningFresh .lowStop).link .platter).line = .lowStop
      ∧ ((rescanningFresh .running).link .platter).attempt = some (syncByte :: rescanned)
      ∧ ((rescanningFresh .running).link .platter).freshStart = true)
      ∧ after (exec (.gapTimeout .platter) (rescanningFresh .running))
        (fun t => (t.link .platter).attempt == some [syncByte, 5, kSample, 9, 1, 2] && (t.link .platter).freshStart) = true := by
  decide +kernel

theorem hyps_LineErrorsAreCounted :
    (let s := withAttempt .card .up .running (some [syncByte]) 7;
      (s.link .card).line = .running ∧ (s.link .card).attempt = some (syncByte :: []) ∧ s.nu.latches.length = 24)
      ∧ (let s := withAttempt .card .up .lowStop (some [syncByte, 5]) 6;
        (s.link .card).line = .lowStop ∧ (s.link .card).attempt = some (syncByte :: [5]) ∧ ∀ b ∈ [(5 : Byte)], b ≠ syncByte)
      ∧ (((withAttempt .card .up .lowStop none 8).link .card).line = .lowStop
        ∧ ((withAttempt .card .up .lowStop none 8).link .card).attempt = none)
      ∧ ((withAttempt .card .unseen .running none 0).link .card).freshStart = true
      ∧ (rescanned ≠ [] ∧ (rescanning.link .platter).freshStart = false)
      ∧ ((withAttempt .card .quiet .lowStop none 0).link .card).line = .lowStop
      ∧ ((withAttempt .card .up .breakWait none 0).link .card).line = .breakWait := by
  decide +kernel

def silent (state : LinkState) : State := lane.setLink .bag { upLink with state := state, silence := dueTimer }

def txFrame (seq : Option Byte) : TxFrame := { kind := kHello, payload := [7, 0, 2, 3], seq := seq }
def silentWith (tx : List TxFrame) : State :=
  (silent .down).setLink .bag { (silent .down).link .bag with tx := tx, txSeq := 10 }

theorem hyps_SilenceTakesTheLinkDown :
    (timerDue (silent .up) ((silent .up).link .bag).silence = true ∧ ((silent .up).link .bag).state = .up)
      ∧ ((silent .unseen).link .bag).state = .unseen
      ∧ (timerDue (silent .down) ((silent .down).link .bag).silence = true ∧ ((silent .down).link .bag).state = .down)
      ∧ (∀ f ∈ ((silent .down).link .bag).tx, f.kind = kHello → f.seq ≠ none) ∧ ((silent .down).link .bag).tx = []
      ∧ ((∃ f ∈ ((silentWith [txFrame (some 9), txFrame none]).link .bag).tx, f.kind = kHello ∧ f.seq = none)
        ∧ timerDue (silentWith [txFrame (some 9), txFrame none]) ((silentWith [txFrame (some 9), txFrame none]).link .bag).silence = true)
      ∧ ((∀ f ∈ ((silentWith [txFrame (some 9)]).link .bag).tx, f.kind = kHello → f.seq ≠ none)
        ∧ ((silentWith [txFrame (some 9)]).link .bag).tx = txFrame (some 9) :: []
        ∧ ((silentWith [txFrame (some 9)]).link .bag).state = .down) := by
  decide +kernel

theorem test_one_hello_waits_while_down :
    after (exec (.silenceExpiry .bag) (silentWith [txFrame (some 9), txFrame none])) (fun t => (t.link .bag).tx.length == 2) = true
      ∧ after (exec (.silenceExpiry .bag) (silentWith [txFrame (some 9)])) (fun t => (t.link .bag).tx.length == 2) = true
      ∧ after (exec (.silenceExpiry .bag) (silentWith []))
        (fun t => ((t.link .bag).tx.map fun f => f.seq) == [some 10] && (t.link .bag).txSeq == 11) = true := by
  decide +kernel

def sendingCard : State :=
  let s := lane.setLink .card { upLink with tx := [txFrame (some 9), txFrame none, txFrame none, txFrame none] }
  { s with ctu := { s.ctu with sendList := [(kCancelReq, [4, 0]), (kStatusQuery, [4, 0])] } }
def sendingBag : State := lane.setLink .bag { upLink with tx := [txFrame (some 9)], rateNext := some 6 }

/-- The link came UP again, but the CTU has not been told that it was down. -/
def sendingLeft : State :=
  sendingCard.setLink .card { sendingCard.link .card with path := [.change .up .down, .change .down .up] }
def waitingLine : ReadyFrame := { kind := kPrintLine, payload := [0, 0, 0], flight := .jobLine }
def sendingPrint (credits : Nat) (lost : Bool) : State :=
  let s := lane.setLink .printer { upLink with tx := [txFrame (some 9), txFrame none, txFrame none, txFrame none] }
  { s with pu := { s.pu with ready := some waitingLine, credits := credits, lost := lost } }

theorem hyps_SentFramesMakeRoom :
    ((sendingBag.link .bag).tx = txFrame (some 9) :: [] ∧ (txFrame (some 9)).seq.isSome = true)
      ∧ ((sendingCard.link .card).tx = txFrame (some 9) :: [txFrame none, txFrame none, txFrame none]
        ∧ unitBusy sendingCard .ctu = false ∧ unitHolds sendingCard .ctu = false ∧ (sendingCard.link .card).state = .up ∧ cardLeft sendingCard = false)
      ∧ cardLeft sendingLeft = true
      ∧ ((sendingPrint 4 false).pu.ready = some waitingLine ∧ ((sendingPrint 4 false).link .printer).state = .up
        ∧ unitBusy (sendingPrint 4 false) .pu = false ∧ unitHolds (sendingPrint 4 false) .pu = false
        ∧ (sendingPrint 4 false).pu.cond = .ready
        ∧ ((sendingPrint 4 false).link .printer).tx = txFrame (some 9) :: [txFrame none, txFrame none, txFrame none])
      ∧ (sendingPrint 0 false).pu.credits = 0 ∧ (sendingPrint 1 true).pu.lost = true := by
  decide +kernel

/-- A CARD_CANCEL waits for its window; a frame of the CTU waits for its link, whose notice of a frame sent has come behind the
request. -/
def noticedRequest : State :=
  let s := opened (asking lane 12 false []) .ctu [.cardSession] []
  let u := s.setLink .card { upLink with tx := [txFrame (some 9)] }
  { u with
    re := { u.re with outcome := some { result := .done, detail1 := 0, detail2 := 0 } }
    ctu := { u.ctu with sendList := [(kCancelReq, [4, 0])], notices := 1 }
    arrivals := [{ unit := .ctu, event := .sent, held := true }] }
/-- After a request, a frame of the card module that it held stands before the link's notice. -/
def heldCard : State :=
  let s := onPath lane .card [.frame kCardOut [] false]
  { s with
    ctu := { s.ctu with sendList := [(kCancelReq, [4, 0])], notices := 1 }
    arrivals := [{ unit := .ctu, event := .link, held := true }, { unit := .ctu, event := .sent, held := true }] }
/-- The same at the printer, with a PRINTER_STATUS of this paper. -/
def heldNotice (paper : Byte) : State :=
  let s := lane.setLink .printer
    { upLink with tx := [txFrame (some 9), txFrame none], path := [.frame kPrinterStatus [paper, 0, 16] false] }
  { s with
    pu := { s.pu with ready := some waitingLine, notices := 1 }
    arrivals := [{ unit := .pu, event := .link, held := true }, { unit := .pu, event := .sent, held := true }] }

theorem hyps_NoticesWaitTheirTurn :
    (unitBusy noticedRequest .ctu = true ∧ unitTakes noticedRequest .ctu .sent = false ∧ noticedRequest.ctu.notices ≠ 0
      ∧ (noticedRequest.link .card).tx = txFrame (some 9) :: [])
      ∧ (unitBusy heldCard .ctu = false ∧ unitHolds heldCard .ctu = true ∧ cardFrame heldCard = some (kCardOut, [])
        ∧ unitTakes heldCard .ctu .sent = false ∧ unitTakes heldCard .ctu .link = true)
      ∧ (unitBusy (heldNotice 2) .pu = false ∧ unitHolds (heldNotice 2) .pu = true
        ∧ printerFrame (heldNotice 2) = some (kPrinterStatus, [2, 0, 16]) ∧ unitTakes (heldNotice 2) .pu .sent = false
        ∧ ((heldNotice 2).link .printer).tx = txFrame (some 9) :: [txFrame none] ∧ (heldNotice 2).pu.ready = some waitingLine) := by
  decide +kernel

/-- The end of the request, or the event before it, lets the notice be taken; a status that stops the printer comes first. -/
theorem test_notices_are_taken_in_their_turn :
    after (exec (.updateWindowClose 0) noticedRequest)
        (fun t => t.ctu.notices == 0 && t.ctu.sendList == [] && (t.link .card).tx.length == 2) = true
      ∧ after (exec (.frameSent .card) noticedRequest) (fun t => t.ctu.notices == 2 && t.arrivals.length == 2) = true
      ∧ after (exec .cardOut heldCard) (fun t => t.ctu.notices == 0 && t.ctu.sendList == [] && (t.link .card).tx.length == 1) = true
      ∧ after (exec .printFrameOffer (heldNotice 2)) (fun t => t.pu.ready.isSome && t.pu.notices == 1) = true
      ∧ after (exec (.frameSent .printer) (heldNotice 2)) (fun t => t.pu.ready.isSome && t.pu.notices == 2) = true
      ∧ after (exec .printerStatus (heldNotice 2)) (fun t => t.pu.notices == 0 && t.pu.ready.isNone && t.pu.flight == []) = true
      ∧ after (exec .printerStatus (heldNotice 0)) (fun t => t.pu.notices == 0 && t.pu.ready.isNone && t.pu.flight.length == 1) = true := by
  decide +kernel

theorem test_frame_waits_for_credit :
    after (exec (.frameSent .printer) (sendingPrint 0 false)) (fun t => t.pu.ready.isSome && t.pu.flight == []) = true
      ∧ after (exec (.frameSent .printer) (sendingPrint 1 false)) (fun t => t.pu.ready.isNone && t.pu.credits == 0) = true := by
  decide +kernel

/-! ### The platter scale -/

def sample (gross : Int) (flags : Byte) : List Byte := le4 (BitVec.ofInt 32 gross) ++ [flags]
/-- A sample at the front of a link's path. -/
def sampled (s : State) (l : LinkId) (gross : Int) (flags : Byte) (gap : Bool) : State :=
  onPath s l [.frame kSample (sample gross flags) gap]
def platterAt (machine : CaptureMachine) (window : List Int) : State :=
  { lane with
    pwu := { lane.pwu with
      machine := machine, window := window, gross := window.getLastD 0, refGross := window.getLastD 0, curSlot := 3
      table := lane.pwu.table.set 3 { id := 8, state := .fresh, net := 500, tare := 0, gross := 500, stamp := 7, line := 0 } } }
/-- Three equal samples stand in the window of four. -/
def armedAt : State := platterAt .armed [5000, 5000, 5000]

theorem hyps_PlatterSampleIsWeighed :
    (let s := sampled armedAt .platter 5000 0 false;
      frontFrame s .platter = some (kSample, sample 5000 0, false) ∧ unitTakes s .pwu .link = true ∧ 0 < (cfg s).platDivision
        ∧ 4 ≤ (cfg s).platWindow ∧ s.nu.latches.length = 24 ∧ sampleGross (sample 5000 0) = 5000)
      ∧ after (exec .platterSample (sampled armedAt .platter 5000 0 false))
          (fun t => t.pwu.machine == .captured && t.pwu.window.length == 4 && t.pwu.zone == .loaded && t.pwu.weight == 500) = true
      ∧ after (exec .platterSample (sampled (platterAt .captured [5000]) .platter 5021 0 false)) (fun t => t.pwu.machine == .armed) = true
      ∧ after (exec .platterSample (sampled (platterAt .captured [5000]) .platter 5020 0 false)) (fun t => t.pwu.machine == .captured && t.pwu.window == [5000, 5020]) = true
      ∧ after (exec .platterSample (sampled (platterAt .spent [0, 0, 0]) .platter 0 0 false)) (fun t => t.pwu.machine == .armed) = true
      ∧ after (exec .platterSample (sampled armedAt .platter 150451 0 false)) (fun t => t.pwu.limit == .over) = true
      ∧ after (exec .platterSample (sampled armedAt .platter 150450 0 true)) (fun t => t.pwu.limit == .normal) = true := by
  decide +kernel

def changed (s : State) (l : LinkId) (old new : LinkState) : State := onPath s l [.change old new]
/-- Changes from before a LANE_RESET: the link came UP again, and then it went QUIET. -/
def leftover (s : State) (l : LinkId) : State := onPath s l [.change .down .up, .change .up .quiet]
def tracking (gross : Int) : State := { lane with pwu := { lane.pwu with zeroTimer := dueTimer, gross := gross } }

theorem hyps_PlatterLinkAndTracking :
    (frontChange (changed armedAt .platter .up .down) .platter = some (.up, .down)
      ∧ unitTakes (changed armedAt .platter .up .down) .pwu .link = true ∧ wentQuiet (changed armedAt .platter .up .down) .platter = false
      ∧ armedAt.pwu.machine ≠ .captured)
      ∧ (frontChange (leftover armedAt .platter) .platter = some (.down, .up) ∧ unitTakes (leftover armedAt .platter) .pwu .link = true
        ∧ wentQuiet (leftover armedAt .platter) .platter = true)
      ∧ (platterAt .captured [5000]).pwu.machine = .captured
      ∧ frontChange (changed armedAt .platter .down .up) .platter = some (.down, .up)
      ∧ frontChange (changed armedAt .platter .quiet .unseen) .platter = some (.quiet, .unseen)
      ∧ (timerDue (tracking 3001) (tracking 3001).pwu.zeroTimer = true ∧ unitTakes (tracking 3001) .pwu (.timer .zeroTrack) = true
        ∧ (tracking 3001).pwu.limit ≠ .offline ∧ 0 < (cfg (tracking 3001)).platDivision) := by
  decide +kernel

theorem test_tracking_stops_at_the_end_of_the_zero_range :
    after (exec .zeroTrackExpiry (tracking 3001)) (fun t => t.pwu.zero == 3000 && t.pwu.zone == .empty) = true := by decide +kernel

/-- The platter stands still at this gross value with this tare. -/
def still (s : State) (gross tare : Int) : State :=
  { s with pwu := { s.pwu with window := [gross, gross, gross, gross], gross := gross, tare := tare } }

theorem hyps_ScaleRequests :
    (awaits (still (asking lane 7 false []) 3000 0) .scaleZero = true ∧ 0 < (cfg (still (asking lane 7 false []) 3000 0)).platDivision
      ∧ isStable (still lane 3000 0).pwu.window (cfg lane).platWindow = true)
      ∧ (awaits (asking lane 8 false []) .scaleTare = true ∧ recTare (asking lane 8 false []).re.record = none)
      ∧ (awaits (asking lane 8 true [9000]) .scaleTare = true ∧ recTare (asking lane 8 true [9000]).re.record = some 9000)
      ∧ awaits (asking lane 9 false []) .tareClear = true := by
  decide +kernel

/-- A request that changes tare or zero, or finds them as they are; and with a capture on the platter. -/
def standing (machine : CaptureMachine) (kind : Nat) (optional : Bool) (params : List Word) (tare : Int) : State :=
  asking (still (platterAt machine []) 5000 tare) kind optional params

theorem hyps_ScaleRequestsChangeOrKeep :
    ((standing .armed 8 true [500] 500).pwu.tare = 500 ∧ recTare (standing .armed 8 true [500] 500).re.record = some 500
      ∧ isStable (standing .armed 8 true [500] 500).pwu.window (cfg lane).platWindow = true)
      ∧ ((standing .captured 8 true [505] 500).pwu.machine = .captured ∧ (standing .captured 8 true [505] 500).pwu.limit = .normal)
      ∧ (standing .spent 9 false [] 0).pwu.tare = 0 ∧ (standing .spent 9 false [] 500).pwu.tare ≠ 0
      ∧ (roundDivision ((standing .armed 8 false [] 0).pwu.gross - (standing .armed 8 false [] 0).pwu.zero) 5 = 500)
      ∧ (cfg (standing .armed 7 false [] 0)).platTracking = true := by
  decide +kernel

theorem test_changed_tare_weighs_anew :
    after (exec .scaleTare (standing .captured 8 true [505] 0)) (fun t => t.pwu.weight == -5 && (t.pwu.entry 3).state == .stale
        && t.pwu.window == []) = true
      ∧ after (exec .scaleTare (standing .captured 8 true [500] 500)) (fun t => (t.pwu.entry 3).state == .fresh) = true
      ∧ after (exec .scaleZero (still (asking lane 7 false []) 0 0)) (fun t => t.pwu.zeroTimer == some ⟨1000, 1000⟩) = true := by
  decide +kernel

theorem test_scale_zero_at_the_limit :
    resultOf (exec .scaleZero (still (asking lane 7 false []) 3000 0)) = some ⟨.done, 3000, 0⟩
      ∧ resultOf (exec .scaleZero (still (asking lane 7 false []) 3001 0)) = some ⟨.limit, 0, 0⟩ := by decide +kernel
theorem test_scale_tare_takes_the_weight :
    resultOf (exec .scaleTare (still (asking lane 8 false []) 5024 0)) = some ⟨.done, 500, 0⟩
      ∧ resultOf (exec .scaleTare (still (asking lane 8 true [9005]) 0 0)) = some ⟨.badParam, 0, 0⟩ := by decide +kernel

/-! ### The sale -/

/-- SALE_OPEN of a SELF sale, with a journal one entry short of full. -/
def opening (mode : Word) : State :=
  let s := askingSu lane 3 false [mode]
  { s with bi := { s.bi with bagFit := true }, ju := { s.ju with head := 2047 } }

theorem hyps_SaleOpenChecksInOrder :
    (opening 2).bi.inReset = false ∧ suTakes (opening 2) .saleOpen = true ∧ (opening 2).bwu.tells = [] ∧ (opening 2).pu.tells = [] := by
  decide +kernel

theorem hyps_SaleOpenWritesTheHeader :
    let s := opening 2;
    (suTakes s .saleOpen = true ∧ s.bwu.tells = [] ∧ s.pu.tells = [] ∧ recMode s.re.record = some .self ∧ s.su.header.state = .idle
      ∧ (s.ju.head - s.bi.journalExport).toNat < 2048 ∧ s.tu.drawer = .shut ∧ s.bi.bagFit = true ∧ s.bwu.limit ≠ .offline
      ∧ (∀ j ∈ s.pu.jobs, j.state ≠ .printing) ∧ s.su.nextNumber ≠ 0)
      ∧ recMode (opening 1).re.record = some .staffed := by
  decide +kernel

theorem test_sale_open_answers_the_number :
    resultOf (exec .saleOpen (opening 2)) = some ⟨.done, 1000, 0⟩
      ∧ resultOf (exec .saleOpen (opening 3)) = some ⟨.badParam, 0, 0⟩ := by decide +kernel

/-- A SELF sale with one line, and a capture of 500 g in slot 2. -/
def selfSale : State :=
  let s := withSale (selling lane .opened .self) [lineOf 250 .bagged (some 90)] []
  { s with pwu := { s.pwu with
      machine := .captured, curSlot := 2
      table := s.pwu.table.set 2 { id := 8, state := .fresh, net := 500, tare := 0, gross := 500, stamp := 7, line := 0 } } }
def adding (quantity price weight : Word) : State := askingSu selfSale 4 true [0, 77, 0, quantity, price, weight]
def weighing (price : Word) (id : Word) : State := askingSu selfSale 5 true [0, 77, 0, price, id]
def voiding (s : State) (line : Word) : State := askingSu s 6 false [line]

theorem hyps_ItemAddAddsALine :
    let s := adding 3 100 30;
    s.bi.inReset = false ∧ suTakes s .itemAdd = true ∧ bagReady s = true ∧ recQuantity s.re.record = 3
      ∧ recUnitPrice s.re.record = 100 ∧ recUnitWeight s.re.record = some 30 ∧ s.su.header.state = .opened := by
  decide +kernel

theorem test_item_add_amount_and_limits :
    resultOf (exec .itemAdd (adding 3 100 30)) = some ⟨.done, 2, 300⟩
      ∧ resultOf (exec .itemAdd (adding 999 10010 30)) = some ⟨.done, 2, 9999990⟩
      ∧ resultOf (exec .itemAdd (adding 999 10011 30)) = some ⟨.limit, 0, 0⟩
      ∧ resultOf (exec .itemAdd (adding 1 1 30001)) = some ⟨.badParam, 0, 0⟩ := by decide +kernel

/-- The claim of an ITEM_WEIGH has reached the PWU: it names this capture, and the SU can charge this many grams. -/
def weighClaim (capture : Option Half) (largest : Nat) : State :=
  let s := weighing 1999 8
  { s with su := { s.su with claim := some { capture := capture, largest := largest, line := 2, stamp := 900 } } }

/-- The same where the capture it names has become STALE. -/
def staleClaim : State :=
  let s := weighClaim (some 8) 500
  { s with pwu := { s.pwu with table := s.pwu.table.set 2 { s.pwu.entry 2 with state := .stale } } }

theorem hyps_ItemWeighChargesACapture :
    (let s := weighing 1999 8;
      s.bi.inReset = false ∧ suTakes s .itemWeigh = true ∧ bagReady s = true ∧ s.su.claim = none
        ∧ recKiloPrice s.re.record = 1999 ∧ recCaptureId s.re.record = some 8)
      ∧ (let s := weighClaim (some 8) 500;
        suTakes s .itemWeigh = true ∧ s.su.claim = some { capture := some 8, largest := 500, line := 2, stamp := 900 }
          ∧ (s.pwu.table.findIdx? fun x => decide (x.id = 8) && decide (x.state ≠ .free)) = some 2 ∧ (s.pwu.entry 2).state = .fresh
          ∧ (s.pwu.entry 2).net = 500 ∧ s.su.lines.length < 96 ∧ 2 = s.su.lines.length + 1)
      ∧ (suTakes staleClaim .itemWeigh = true ∧ (staleClaim.pwu.entry 2).state = .stale
        ∧ (staleClaim.pwu.table.findIdx? fun x => decide (x.id = 8) && decide (x.state ≠ .free)) = some 2)
      ∧ (weighClaim (some 8) 499).su.claim = some { capture := some 8, largest := 499, line := 2, stamp := 900 }
      ∧ ((weighClaim none 500).pwu.table.findIdx? fun x => decide (x.state = .fresh)) = some 2
      ∧ ((weighClaim (some 9) 500).pwu.table.findIdx? fun x => decide (x.id = 9) && decide (x.state ≠ .free)) = none := by
  decide +kernel

theorem test_item_weigh_rounds_the_amount :
    after (exec .itemWeigh (weighing 1999 8)) (fun t => t.su.claim.isSome && t.re.outcome.isNone) = true
      ∧ resultOf (exec .itemWeigh (weighClaim (some 8) 500)) = some ⟨.done, 2, 8⟩
      ∧ after (exec .itemWeigh (weighClaim (some 8) 500)) (fun t => t.su.subtotal == 1250 && (t.pwu.entry 2).state == .used
        && (t.su.lines.map fun x => x.stamp) == [0, 900]) = true
      ∧ resultOf (exec .itemWeigh (weighClaim (some 9) 500)) = some ⟨.noCapture, 0, 9⟩
      ∧ resultOf (exec .itemWeigh staleClaim) = some ⟨.staleCapture, 0, 8⟩
      ∧ resultOf (exec .itemWeigh (weighClaim (some 8) 499)) = some ⟨.limit, 0, 8⟩ := by decide +kernel

/-- The line is pending and still expected, pending and withdrawn, or bagged. -/
def pendingSale (expected : Bool) : State :=
  let s := withSale (selling lane .opened .self) [lineOf 250 .pending (some 90)] []
  { s with bwu := { s.bwu with
      verif := .self, pend := if expected then [{ line := 1, delta := 90, tolerance := 15 }] else [], matched := if expected then [] else [1] } }

theorem hyps_LineVoidVoidsALine :
    (suTakes (voiding selfSale 1) .lineVoid = true ∧ bagReady (voiding selfSale 1) = true
      ∧ recLineNumber (voiding selfSale 1).re.record = 1 ∧ (voiding selfSale 1).su.lines[1 - 1]? = some (lineOf 250 .bagged (some 90)))
      ∧ (recLineNumber (voiding selfSale 2).re.record = 2 ∧ (voiding selfSale 2).su.lines.length < 2)
      ∧ ((voiding (pendingSale true) 1).bwu.pend.any fun e => decide (e.line = 1)) = true
      ∧ (voiding (pendingSale false) 1).bwu.matched.contains 1 = true := by
  decide +kernel

/-- An item at the front of the SU's list. -/
def claiming (s : State) (item : SaleItem) : State := { s with su := { s.su with inbox := [item] } }
def cardSale : State := withSale (selling lane .tendering .self) [lineOf 500 .pending (some 90)] [tenderOf .card .requested 500 0 0]
def approval : TenderMove :=
  { index := 0, state := .approved, amount := 500, entryMethod := 1, lastFour := [1, 2, 3, 4], code := [1, 2, 3, 4, 5, 6], byKey := false }

theorem hyps_ClaimsMoveTheSale :
    (suFront (claiming cardSale (.settlement [⟨1, false⟩] 590)) = some (.settlement [⟨1, false⟩] 590) ∧ cardSale.su.header.state.active = true)
      ∧ lane.su.header.state.active = false
      ∧ suFront (claiming lane (.holdSet .timeout)) = some (.holdSet .timeout)
      ∧ suFront (claiming cardSale (.holdClear .matched 590 [])) = some (.holdClear .matched 590 [])
      ∧ (suFront (claiming cardSale (.tender approval false)) = some (.tender approval false)
        ∧ cardSale.su.tenders[approval.index]? = some (tenderOf .card .requested 500 0 0)
        ∧ approval.lastFour.length = 4 ∧ approval.code.length = 6 ∧ cardSale.su.balance = 500)
      ∧ cardSale.su.lines[1 - 1]? = some (lineOf 500 .pending (some 90)) := by
  decide +kernel

/-- A settlement names several lines: one twice, one by a removal, one that stands at another status, and one stays unnamed. -/
theorem test_settlement_moves_the_named_lines :
    (moveNamed [lineOf 1 .pending none, lineOf 1 .removalPending none, lineOf 1 .pending none, lineOf 1 .removalPending none
        , lineOf 1 .exempt none, lineOf 1 .pending none]
        [⟨1, false⟩, ⟨2, true⟩, ⟨1, true⟩, ⟨4, false⟩, ⟨5, false⟩, ⟨6, false⟩] .overridden).map SaleLine.bag
      = [.overridden, .removed, .pending, .removalPending, .exempt, .overridden] := by decide +kernel

theorem test_approval_settles_the_sale :
    after (exec .tenderClaim (claiming cardSale (.tender approval false)))
      (fun t => t.su.header.state == .settled && t.su.balance == 0) = true := by decide +kernel

/-! ### The bagging area -/

/-- Three equal samples at `gross` stand in the bagging window of four in a SELF sale; the baseline is 100 g. -/
def bagging (hold : Bool) (reason : HoldReason) (gross : Int) (pend : List Expectation) : State :=
  { selling lane .opened .self with
    bwu := { lane.bwu with
      window := [gross, gross, gross], gross := gross, baseline := 100, verif := .self, hold := hold, holdReason := reason, pend := pend } }
def bagged (hold : Bool) (reason : HoldReason) (gross : Int) (pend : List Expectation) : State :=
  sampled (bagging hold reason gross pend) .bag gross 0 false
def expected : List Expectation := [{ line := 1, delta := 90, tolerance := 15 }, { line := 2, delta := -40, tolerance := 15 }]

theorem hyps_BagSampleIsJudged :
    (let s := bagged false .none 2050 expected;
      frontFrame s .bag = some (kSample, sample 2050 0, false) ∧ unitTakes s .bwu .link = true ∧ 0 < (cfg s).bagDivision ∧ 4 ≤ (cfg s).bagWindow
        ∧ isStable s.bwu.window (cfg s).bagWindow = false)
      ∧ after (exec .bagSample (bagged false .none 2050 expected)) (fun t => t.bwu.pend.length == 1 && t.bwu.baseline == 190) = true
      ∧ after (exec .bagSample (bagged false .none 1650 expected)) (fun t => t.bwu.pend.length == 0 && t.bwu.baseline == 150) = true
      ∧ after (exec .bagSample (bagged false .none 1180 [])) (fun t => t.bwu.hold && t.bwu.holdReason == .unexpectedAdd) = true
      ∧ after (exec .bagSample (bagged false .none 1150 [])) (fun t => !t.bwu.hold && t.bwu.lastDelta == 15) = true
      ∧ after (exec .bagSample (bagged true .mismatch 1150 expected)) (fun t => !t.bwu.hold && t.bwu.clearReason == .restored) = true
      ∧ after (exec .bagSample (bagged true .mismatch 820 [])) (fun t => t.bwu.hold && t.bwu.holdReason == .unexpectedRemoval) = true
      ∧ after (exec .bagSample (bagged true .timeout 2050 expected)) (fun t => !t.bwu.hold && t.bwu.clearReason == .matched) = true
      ∧ after (exec .bagSample (bagged true .timeout 3000 expected)) (fun t => t.bwu.hold && t.bwu.holdReason == .mismatch) = true := by
  decide +kernel

/-- The sale has entered CLOSING, and the BWU has yet to take the tell. -/
def bagClosing : State := selling (bagged false .none 1180 expected) .closing .self
/-- A claim of another unit waits at the SU. -/
def bagWaits (s : State) : State := { s with su := { s.su with inbox := [.tender approval false] } }
/-- An ITEM_WEIGH waits for the PWU's answer. -/
def bagWeighs (s : State) : State :=
  { s with su := { s.su with inbox := [.request], claim := some { capture := none, largest := 500, line := 1, stamp := 900 } } }

theorem hyps_SettlementAsksTheSale :
    (let s := bagged false .none 2050 expected;
      s.bwu.verif = .self ∧ s.su.header.mode = .self ∧ s.su.header.state = .opened ∧ saleAnswers s = true
        ∧ (sampledBag s (sample 2050 0) false).atRest (cfg s) = true)
      ∧ (bagClosing.bwu.verif = .self ∧ saleAnswers bagClosing = true ∧ bagClosing.su.header.state = .closing)
      ∧ (let s := bagWaits (bagged false .none 2050 expected);
        saleAnswers s = false ∧ (sampledBag s (sample 2050 0) false).atRest (cfg s) = true
          ∧ (isStable s.bwu.window (cfg s).bagWindow && decide (s.bwu.limit = .normal) && !false) = false) := by
  decide +kernel

theorem test_settlement_waits_for_an_item_weigh :
    saleAnswers (bagWeighs (bagged false .none 2050 expected)) = false
      ∧ saleAnswers { bagged false .none 2050 expected with su := { (bagged false .none 2050 expected).su with inbox := [.request] } }
        = true
      ∧ after (exec .bagSample (bagWeighs (bagged false .none 2050 expected)))
        (fun t => decide (t = bagWeighs (bagged false .none 2050 expected))) = true := by
  decide +kernel

theorem test_settlement_in_closing_only_settles :
    after (exec .bagSample bagClosing) (fun t => t.bwu.settled == 120 && !t.bwu.hold && t.bwu.pend.length == 2) = true := by
  decide +kernel

def bagLate (pend : List Expectation) : State :=
  { bagging false .none 1000 pend with bwu := { (bagging false .none 1000 pend).bwu with waitTimer := dueTimer } }
def bagTold (tells : List BagTell) : State := { lane with bwu := { lane.bwu with tells := tells } }

theorem hyps_BagTimerLinkAndTells :
    (timerDue (bagLate expected) (bagLate expected).bwu.waitTimer = true ∧ unitTakes (bagLate expected) .bwu (.timer .bagWait) = true
      ∧ (bagLate expected).bwu.verif = .self ∧ (bagLate expected).bwu.pend ≠ [])
      ∧ (bagLate []).bwu.pend = []
      ∧ (frontChange (changed (bagLate []) .bag .up .down) .bag = some (.up, .down) ∧ unitTakes (changed (bagLate []) .bag .up .down) .bwu .link = true
        ∧ wentQuiet (changed (bagLate []) .bag .up .down) .bag = false)
      ∧ (frontChange (leftover (bagLate []) .bag) .bag = some (.down, .up) ∧ unitTakes (leftover (bagLate []) .bag) .bwu .link = true
        ∧ wentQuiet (leftover (bagLate []) .bag) .bag = true)
      ∧ (frontChange (changed lane .bag .up .down) .bag = some (.up, .down) ∧ lane.bwu.verif ≠ .self)
      ∧ (saleAnswers (changed (bagLate []) .bag .up .down) = true ∧ (bagLate []).su.header.mode = .self
        ∧ (bagLate []).su.header.state = .opened)
      ∧ (saleAnswers (bagWaits (changed (bagLate []) .bag .up .down)) = false
        ∧ frontChange (bagWaits (changed (bagLate []) .bag .up .down)) .bag = some (.up, .down)
        ∧ wentQuiet (bagWaits (changed (bagLate []) .bag .up .down)) .bag = false)
      ∧ frontChange (changed lane .bag .unseen .up) .bag = some (.unseen, .up)
      ∧ frontChange (changed lane .bag .quiet .unseen) .bag = some (.quiet, .unseen)
      ∧ (bagTold [.saleOpened .self 5, .saleClosing]).bwu.tells = .saleOpened .self 5 :: [.saleClosing]
      ∧ (bagTold [.saleClosing]).bwu.tells = .saleClosing :: [] ∧ (bagTold [.saleEnded]).bwu.tells = .saleEnded :: []
      ∧ unitTakes (bagTold [.saleEnded]) .bwu .tell = true := by
  decide +kernel

def releasing (state : SaleState) : State :=
  let s := selling (asking (bagging true .timeout 1000 expected) 10 false []) state .self
  { s with tu := { s.tu with key := true } }

theorem hyps_HoldReleaseClearsTheHold :
    (awaits (releasing .opened) .holdRelease = true ∧ saleReady (releasing .opened) = true ∧ (releasing .opened).bwu.tells = []
      ∧ (releasing .opened).tu.key = true ∧ (releasing .opened).su.header.state.active = true)
      ∧ (releasing .closing).su.header.state.active = false := by
  decide +kernel

theorem test_hold_release_answers_the_lines :
    resultOf (exec .holdRelease (releasing .opened)) = some ⟨.done, 2, 0⟩
      ∧ after (exec .holdRelease (releasing .opened)) (fun t => !t.bwu.hold && t.bwu.holdReason == .timeout) = true := by
  decide +kernel

/-! ### Cards -/

def paying (s : State) (kind : Nat) (optional : Bool) (params : List Word) : State :=
  asking (withSale (selling s .opened .staffed) [lineOf 500 .none none] []) kind optional params

theorem hyps_CardTenderChecksInOrder :
    (awaits (paying lane 11 true [500]) .cardTender = true ∧ saleReady (paying lane 11 true [500]) = true
      ∧ recCardAmount (paying lane 11 true [500]).re.record = some 500)
      ∧ recCardAmount (paying lane 11 false []).re.record = none := by
  decide +kernel

theorem test_card_tender_takes_the_balance :
    resultOf (exec .cardTender (paying lane 11 false [])) = some ⟨.done, 0, 500⟩
      ∧ resultOf (exec .cardTender (paying lane 11 true [501])) = some ⟨.badParam, 0, 0⟩ := by decide +kernel

def askWindowOpen : State := opened cardSale .su [.saleRecord] [.cardAsk 0 500, .suDone]
/-- The same where an earlier frame waits and the link has left UP without the CTU having been told. -/
def askWindowBehind : State :=
  let s := askWindowOpen.setLink .card { upLink with path := [.change .up .down] }
  { s with ctu := { s.ctu with sendList := [(kStatusQuery, [3, 0])] } }
def cancelling (o : OutTender) : State := withOut (asking cardSale 12 false []) o

theorem hyps_CardAskAndCancel :
    (askWindowOpen.bi.opened[0]? = some (winOf askWindowOpen) ∧ (winOf askWindowOpen).owner ≠ .nu
      ∧ windowWritten askWindowOpen (winOf askWindowOpen).id = true ∧ (winOf askWindowOpen).after = [.cardAsk 0 500, .suDone]
      ∧ askWindowOpen.bi.hostStall = none ∧ askWindowOpen.re.resetting = [] ∧ askWindowOpen.ctu.sendList = []
      ∧ (askWindowOpen.link .card).state = .up)
      ∧ ((askWindowBehind.ctu.sendList ≠ [] ∧ cardLeft askWindowBehind = true)
        ∧ (winOf askWindowBehind).after = [.cardAsk 0 500, .suDone])
      ∧ (awaits (cancelling (outOf .requested)) .cardCancel = true ∧ (cancelling (outOf .requested)).ctu.out = some (outOf .requested))
      ∧ (saleReady (cancelling (outOf .requested)) = true
        ∧ saleReady (claiming (cancelling (outOf .requested)) .payloadAsk) = false)
      ∧ (asking cardSale 12 false []).ctu.out = none ∧ (cancelling (outOf .unresolved)).ctu.out = some (outOf .unresolved) := by
  decide +kernel

def cardLate (o : OutTender) : State :=
  let s := withOut cardSale o
  { s with ctu := { s.ctu with cardWait := dueTimer, cancelWait := dueTimer } }

theorem hyps_CardWaitExpiryCancels :
    let s := cardLate (outOf .requested);
    s.bi.inReset = false ∧ timerDue s s.ctu.cardWait = true ∧ unitTakes s .ctu (.timer .cardWait) = true ∧ s.ctu.out = some (outOf .requested)
      ∧ s.ctu.notices = 0 := by
  decide +kernel

theorem hyps_CardTimersAndLink :
    (let s := { cardLate (outOf .requested) with ctu := { (cardLate (outOf .requested)).ctu with notices := 1 } };
      timerDue s s.ctu.cardWait = true ∧ unitTakes s .ctu (.timer .cardWait) = true ∧ s.ctu.out = some (outOf .requested)
        ∧ s.ctu.notices ≠ 0)
      ∧ (timerDue (cardLate (outOf .cancelling)) (cardLate (outOf .cancelling)).ctu.cancelWait = true
      ∧ unitTakes (cardLate (outOf .cancelling)) .ctu (.timer .cancelWait) = true ∧ (cardLate (outOf .cancelling)).ctu.out = some (outOf .cancelling))
      ∧ (frontChange (changed (cardLate (outOf .requested)) .card .up .down) .card = some (.up, .down)
        ∧ unitTakes (changed (cardLate (outOf .requested)) .card .up .down) .ctu .link = true
        ∧ wentQuiet (changed (cardLate (outOf .requested)) .card .up .down) .card = false)
      ∧ (frontChange (leftover (cardLate (outOf .unresolved)) .card) .card = some (.down, .up)
        ∧ unitTakes (leftover (cardLate (outOf .unresolved)) .card) .ctu .link = true
        ∧ wentQuiet (leftover (cardLate (outOf .unresolved)) .card) .card = true)
      ∧ (cardLate (outOf .unresolved)).ctu.out = some (outOf .unresolved) ∧ lane.ctu.out = none
      ∧ (frontChange (changed (cardLate (outOf .unresolved)) .card .down .up) .card = some (.down, .up)
        ∧ (cardLate (outOf .unresolved)).ctu.queryAsked = false)
      ∧ frontChange (changed lane .card .unseen .down) .card = some (.unseen, .down) := by
  decide +kernel

/-- A frame at the front of the card link's path. -/
def cardSends (s : State) (kind : Byte) (payload : List Byte) : State := onPath s .card [.frame kind payload false]
def withCard : State := { lane with ctu := { lane.ctu with present := true } }

theorem hyps_CardSessionFollowsTheModule :
    cardFrame (cardSends lane kCardIn [1, 0, 2, 4, 4, 4, 4]) = some (kCardIn, [1, 0, 2, 4, 4, 4, 4])
      ∧ (cardFrame (cardSends withCard kCardOut []) = some (kCardOut, []) ∧ withCard.ctu.present = true)
      ∧ (cardFrame (cardSends lane kCardOut []) = some (kCardOut, []) ∧ lane.ctu.present = false)
      ∧ cardFrame (cardSends lane kModuleStatus [4]) = some (kModuleStatus, [4]) := by
  decide +kernel

def authResult (reference outcome amount : Nat) : List Byte :=
  le2 (BitVec.ofNat 16 reference) ++ [BitVec.ofNat 8 outcome] ++ le4 (BitVec.ofNat 32 amount) ++ [0x41, 0x42, 0x43, 0x44, 0x45, 0x46]
def verdictOf : VerdictEntry := { reference := 4, index := 0, verdict := .approved, amount := 500 }
def judged : State := { cardSale with ctu := { cardSale.ctu with verdicts := [verdictOf] } }

theorem hyps_CardResultsEndTheTender :
    (let s := cardSends (withOut cardSale (outOf .requested)) kAuthResult (authResult 4 1 500);
      cardFrame s = some (kAuthResult, authResult 4 1 500) ∧ s.ctu.out = some (outOf .requested)
        ∧ payHalf (authResult 4 1 500) 0 = (outOf .requested).reference ∧ (payWord (authResult 4 1 500) 3).toNat = 500
        ∧ payByte (authResult 4 1 500) 2 = 1)
      ∧ (payWord (authResult 4 1 501) 3).toNat = 501 ∧ payByte (authResult 4 2 0) 2 = 2 ∧ payByte (authResult 4 3 0) 2 = 3
      ∧ (let s := cardSends judged kAuthResult (authResult 5 1 500);
        cardFrame s = some (kAuthResult, authResult 5 1 500) ∧ s.ctu.out = none ∧ ∀ v ∈ s.ctu.verdicts, v.reference ≠ payHalf (authResult 5 1 500) 0)
      ∧ (let s := cardSends judged kAuthResult (authResult 4 1 500);
        (s.ctu.verdicts.find? fun x => decide (x.reference = payHalf (authResult 4 1 500) 0)) = some verdictOf ∧ s.ctu.out = none)
      ∧ (let s := cardSends (withOut cardSale (outOf .unresolved)) kNoRecord [4, 0];
        cardFrame s = some (kNoRecord, [4, 0]) ∧ s.ctu.out = some (outOf .unresolved) ∧ payHalf [4, 0] 0 = (outOf .unresolved).reference)
      ∧ (outOf .cancelling).state ≠ .unresolved := by
  decide +kernel

theorem hyps_CardResultsWithoutAnOutcome :
    (let s := cardSends (withOut cardSale (outOf .unresolved)) kAuthResult (authResult 4 0 500);
      cardFrame s = some (kAuthResult, authResult 4 0 500) ∧ s.ctu.out = some (outOf .unresolved)
        ∧ payHalf (authResult 4 0 500) 0 = (outOf .unresolved).reference
        ∧ payByte (authResult 4 0 500) 2 ≠ 1 ∧ payByte (authResult 4 0 500) 2 ≠ 2 ∧ payByte (authResult 4 0 500) 2 ≠ 3)
      ∧ (let s := cardSends judged kAuthResult (authResult 4 4 500);
        cardFrame s = some (kAuthResult, authResult 4 4 500) ∧ s.ctu.out = none
          ∧ (s.ctu.verdicts.any fun v => decide (v.reference = payHalf (authResult 4 4 500) 0)) = true
          ∧ payByte (authResult 4 4 500) 2 ≠ 1 ∧ payByte (authResult 4 4 500) 2 ≠ 2 ∧ payByte (authResult 4 4 500) 2 ≠ 3)
      ∧ (let s := cardSends judged kNoRecord [4, 0];
        cardFrame s = some (kNoRecord, [4, 0]) ∧ s.ctu.out = none
          ∧ (s.ctu.verdicts.find? fun x => decide (x.reference = payHalf [4, 0] 0)) = some verdictOf)
      ∧ (let s := cardSends judged kNoRecord [5, 0];
        cardFrame s = some (kNoRecord, [5, 0]) ∧ s.ctu.out = none ∧ ∀ v ∈ s.ctu.verdicts, v.reference ≠ payHalf [5, 0] 0) := by
  decide +kernel

/-- Against the verdict APPROVED of 500: the same is late, and any other outcome or amount is a conflict. -/
theorem test_results_after_a_verdict :
    after (exec .authResult (cardSends judged kAuthResult (authResult 4 1 500))) (fun t => t.ctu.late == 1 && t.ctu.conflicts == 0) = true
      ∧ after (exec .authResult (cardSends judged kAuthResult (authResult 4 1 501))) (fun t => t.ctu.conflicts == 1) = true
      ∧ after (exec .authResult (cardSends judged kAuthResult (authResult 4 3 0)))
        (fun t => (t.ctu.conflict.map fun c => c.outcome) == some 3) = true
      ∧ after (exec .noRecord (cardSends judged kNoRecord [4, 0])) (fun t => t.ctu.late == 1 && t.ctu.conflicts == 1) = true := by
  decide +kernel

def deciding (verdict : Nat) : State :=
  let s := withOut (asking cardSale 13 false [BitVec.ofNat 32 (verdict * 256)]) (outOf .unresolved)
  { s with tu := { s.tu with key := true } }

theorem hyps_TenderVerdictSettles :
    (awaits (deciding 1) .tenderVerdict = true ∧ saleReady (deciding 1) = true ∧ recTenderIndex (deciding 1).re.record = 0
      ∧ recVerdict (deciding 1).re.record = some .approved ∧ (deciding 1).su.tenders[0]? = some (tenderOf .card .requested 500 0 0))
      ∧ recVerdict (deciding 2).re.record = some .declined ∧ recVerdict (deciding 3).re.record = none := by
  decide +kernel

theorem test_verdict_applies_the_amount :
    resultOf (exec .tenderVerdict (deciding 1)) = some ⟨.done, 0, 500⟩
      ∧ resultOf (exec .tenderVerdict (deciding 3)) = some ⟨.badParam, 0, 0⟩ := by decide +kernel

/-- A verdict that approves all of the balance settles the sale, and a declined one leaves it TENDERING. -/
theorem test_verdict_settles_the_sale :
    after (exec .tenderVerdict (deciding 1)) (fun t => t.su.header.state == .settled && t.su.balance == 0) = true
      ∧ after (exec .tenderVerdict (deciding 2)) (fun t => t.su.header.state == .tendering && t.su.balance == 500
        && (t.su.tenders.map fun x => (x.state, x.applied, x.final)) == [(.declined, 0, 1000)]) = true := by
  decide +kernel

/-! ### The till -/

def edged (drawer : DrawerState) (input : InputId) (level : Bool) : State :=
  { lane with tu := { lane.tu with drawer := drawer, edges := [{ input := input, level := level }] } }

theorem hyps_DrawerFollowsTheSensor :
    ((edged .kicking .sense true).tu.edges = { input := .sense, level := true } :: [] ∧ (edged .kicking .sense true).re.device = .ready
      ∧ unitTakes (edged .kicking .sense true) .tu .edge = true)
      ∧ (edged .shut .sense true).tu.drawer = .shut ∧ (edged .opened .sense false).tu.drawer = .opened
      ∧ ({ edged .shut .sense true with re := Re.reset } : State).re.device = .unconfigured
      ∧ (edged .fault .key true).tu.edges = { input := .key, level := true } :: [] ∧ unitTakes (edged .fault .key true) .tu .edge = true
      ∧ 0 < ({ lane with ju := { lane.ju with tells := 1 } } : State).ju.tells := by
  decide +kernel

theorem test_forced_opening_is_told :
    after (exec .sensorEdge (edged .shut .sense true)) (fun t => t.tu.forced && t.ju.tells == 1 && t.tu.forcedCount == 1 && t.tu.openStamp == 1000) = true := by
  decide +kernel

def kicking (attempts : Nat) (pulse : Bool) : State :=
  { lane with
    tu := { lane.tu with
      drawer := .kicking, attempts := attempts, solenoid := pulse, width := if pulse then dueTimer else none, confirm := dueTimer } }
def openLong : State := { lane with tu := { lane.tu with drawer := .opened, limitTimer := dueTimer } }

theorem hyps_TillTimers :
    (timerDue (kicking 1 true) (kicking 1 true).tu.width = true ∧ unitTakes (kicking 1 true) .tu (.timer .kickWidth) = true
        ∧ unitTakes (kicking 1 false) .tu (.timer .kickConfirm) = true)
      ∧ (timerDue (kicking 1 false) (kicking 1 false).tu.confirm = true ∧ (kicking 1 false).tu.width = none ∧ (kicking 1 false).tu.attempts = 1)
      ∧ (kicking 2 false).tu.attempts ≠ 1
      ∧ (openLong.tu.drawer = .opened ∧ timerDue openLong openLong.tu.limitTimer = true ∧ unitTakes openLong .tu (.timer .drawerLimit) = true) := by
  decide +kernel

/-- The window of a cash tender's claim, with the drawer in this state. -/
def cashWindow (drawer : DrawerState) : State :=
  let s := opened lane .su [.saleRecord] [.kick .cash, .suDone]
  { s with tu := { s.tu with drawer := drawer } }

theorem test_cash_window_kicks_a_shut_drawer :
    after (exec (.updateWindowClose 0) (cashWindow .shut))
        (fun t => t.tu.solenoid && t.tu.cause == .cash && t.tu.drawer == .kicking) = true
      ∧ after (exec (.updateWindowClose 0) (cashWindow .opened)) (fun t => !t.tu.solenoid && t.tu.drawer == .opened) = true := by
  decide +kernel

theorem hyps_CashTenderChecksInOrder :
    ((cashWindow .shut).bi.opened[0]? = some (winOf (cashWindow .shut)) ∧ (winOf (cashWindow .shut)).owner ≠ .nu
      ∧ windowWritten (cashWindow .shut) (winOf (cashWindow .shut)).id = true
      ∧ (winOf (cashWindow .shut)).after = [.kick .cash, .suDone] ∧ (cashWindow .shut).re.resetting = []
      ∧ (cashWindow .shut).bi.hostStall = none ∧ (cashWindow .opened).tu.drawer ≠ .shut)
      ∧ awaits (paying lane 14 false [1000]) .cashTender = true ∧ saleReady (paying lane 14 false [1000]) = true
      ∧ recCashAmount (paying lane 14 false [1000]).re.record = 1000 := by
  decide +kernel

theorem test_cash_tender_gives_the_applied_amount :
    resultOf (exec .cashTender (paying lane 14 false [1000])) = some ⟨.done, 0, 500⟩
      ∧ resultOf (exec .cashTender (paying lane 14 false [0])) = some ⟨.badParam, 0, 0⟩
      ∧ resultOf (exec .cashTender (paying lane 14 false [100000000])) = some ⟨.badParam, 0, 0⟩ := by decide +kernel

def nosale : State :=
  let s := asking lane 15 false []
  { s with tu := { s.tu with key := true }, ju := { s.ju with head := 2047, forcedCarry := 2 } }

theorem hyps_DrawerNosaleOpensAndRecords :
    awaits nosale .drawerNosale = true ∧ saleReady nosale = true ∧ nosale.ju.tells = 0 := by decide +kernel

theorem test_nosale_answers_its_entry :
    resultOf (exec .drawerNosale nosale) = some ⟨.done, 2047, 0⟩
      ∧ resultOf (exec .drawerNosale { nosale with ju := { nosale.ju with head := 2048 } }) = some ⟨.journalFull, 0, 0⟩ := by
  decide +kernel

/-! ### The printer -/

def printerSends (s : State) (kind : Byte) (payload : List Byte) : State := onPath s .printer [.frame kind payload false]
/-- Job 1 prints; a line of it is in flight. -/
def printing (cond : PrinterCond) (kind : FlightKind) : State :=
  { lane with
    pu := { lane.pu with
      cond := cond, owner := .job 1, flight := [{ seq := 9, kind := kind }], lineSeq := 10, reported := decide (cond ≠ .ready)
      jobs := lane.pu.jobs.set 1 { Job.free with state := .printing, first := 2048, count := 2, next := 2049 } } }
/-- The receipt prints; its last line before the close mark is in flight. -/
def closingReceipt (mark : Half) (kind : FlightKind) : State :=
  { lane with
    pu := { lane.pu with
      owner := .receipt, bound := true, receipt := if kind = .cut then .block else .closing, closeMark := mark
      flight := [{ seq := 9, kind := kind }], lineSeq := 10, nextUnsent := 1 } }

/-- Jobs 2 and 5 are QUEUED and nothing is owned; job 5 was submitted first, before the counter turned over. -/
def queuedJobs (cond : PrinterCond) : State :=
  { lane with
    pu := { lane.pu with
      cond := cond, submissions := 1, reported := decide (cond ≠ .ready)
      jobs := (lane.pu.jobs.set 2 { Job.free with state := .queued, first := 2048, count := 1, next := 2048, submission := 0 }).set 5
        { Job.free with state := .queued, first := 3000, count := 1, next := 3000, submission := 65535 } } }
def suspended : State :=
  let s := printing .stopped .jobLine
  { s with pu := { s.pu with flight := [], jobs := s.pu.jobs.set 1 { jobAt s 1 with state := .suspended, next := 2048 } } }

theorem hyps_TheArbiterLooks :
    ((queuedJobs .stopped).pu.cond ≠ .ready ∧ (queuedJobs .stopped).pu.owner = .none ∧ (queuedJobs .stopped).pu.bound = false
      ∧ ((queuedJobs .stopped).pu.jobs.getD 5 Job.free).state = .queued
      ∧ printerFrame (printerSends (queuedJobs .stopped) kPrinterStatus [0, 0, 16]) = some (kPrinterStatus, [0, 0, 16]))
      ∧ (suspended.pu.owner = .job 1 ∧ (jobAt suspended 1).state = .suspended ∧ suspended.pu.cond ≠ .ready)
      ∧ earliestQueued (queuedJobs .stopped).pu 5 := by
  refine ⟨by decide +kernel, by decide +kernel, by decide, rfl, ?_⟩
  intro j hj
  match j, hj with
  | 0, _ | 1, _ | 3, _ | 4, _ | 6, _ | 7, _ => nofun
  | 2, _ | 5, _ => intro _; decide +kernel

theorem test_the_printer_goes_on_when_ready :
    after (exec .printerStatus (printerSends (queuedJobs .stopped) kPrinterStatus [0, 0, 16]))
        (fun t => t.pu.owner == .job 5 && (jobAt t 5).state == .printing && (jobAt t 2).state == .queued) = true
      ∧ after (exec .printerStatus (printerSends suspended kPrinterStatus [0, 0, 16]))
        (fun t => t.pu.owner == .job 1 && (jobAt t 1).state == .printing && (jobAt t 1).next == 2048
          && (t.bi.waiting.map fun w => w.sections) == [[.statusPage, .jobTable]]) = true := by
  decide +kernel

theorem hyps_PrinterConditionFollows :
    (printerFrame (printerSends (printing .ready .jobLine) kPrinterStatus [2, 0, 16]) = some (kPrinterStatus, [2, 0, 16])
      ∧ (printing .ready .jobLine).pu.cond = .ready ∧ (printing .ready .jobLine).pu.owner = .job 1
      ∧ 1 < (printing .ready .jobLine).pu.jobs.length)
      ∧ (printerFrame (printerSends (printing .stopped .jobLine) kPrinterStatus [1, 0, 17]) = some (kPrinterStatus, [1, 0, 17])
        ∧ (printing .stopped .jobLine).pu.cond ≠ .ready ∧ (printing .stopped .jobLine).pu.reported = true
        ∧ (printing .stopped .jobLine).pu.prevPaper ≠ some .low)
      ∧ (frontChange (changed lane .printer .up .down) .printer = some (.up, .down) ∧ unitTakes (changed lane .printer .up .down) .pu .link = true
        ∧ wentQuiet (changed lane .printer .up .down) .printer = false)
      ∧ (frontChange (leftover lane .printer) .printer = some (.down, .up) ∧ unitTakes (leftover lane .printer) .pu .link = true
        ∧ wentQuiet (leftover lane .printer) .printer = true)
      ∧ (let s := changed (printing .ready .jobLine) .printer .up .down;
        frontChange s .printer = some (.up, .down) ∧ wentQuiet s .printer = false ∧ s.pu.cond = .ready ∧ s.pu.owner = .job 1
          ∧ 1 < s.pu.jobs.length ∧ (jobAt s 1).state ≠ .suspended)
      ∧ frontChange (changed lane .printer .down .up) .printer = some (.down, .up)
      ∧ frontChange (changed lane .printer .quiet .unseen) .printer = some (.quiet, .unseen) := by
  decide +kernel

/-- The last status said LOW, and the Notice Unit is writing. -/
def lowAlready : State :=
  let s := printerSends (printing .ready .jobLine) kPrinterStatus [1, 0, 16]
  { s with pu := { s.pu with prevPaper := some .low }, nu := { s.nu with writer := .condition } }

theorem hyps_SecondLowIsNotReported :
    printerFrame lowAlready = some (kPrinterStatus, [1, 0, 16]) ∧ lowAlready.pu.prevPaper = some .low
      ∧ lowAlready.nu.writer ≠ .free ∧ lowAlready.pu.cond = .ready := by decide +kernel

theorem test_second_low_raises_nothing :
    after (exec .printerStatus lowAlready) (fun t => t.nu == lowAlready.nu && t.pu.prevPaper == some .low) = true := by
  decide +kernel

theorem hyps_LineDoneAcknowledges :
    (printerFrame (printerSends (printing .ready .jobLine) kLineDone [8, 0]) = some (kLineDone, [8, 0]) ∧ (9 : Half) ≠ payHalf [8, 0] 0)
      ∧ (printerFrame (printerSends (printing .ready .jobLine) kLineDone [9, 0]) = some (kLineDone, [9, 0])
        ∧ (printing .ready .jobLine).pu.flight = { seq := 9, kind := .jobLine } :: [] ∧ (9 : Half) = payHalf [9, 0] 0)
      ∧ (closingReceipt 1 .stream).pu.printIndex + 1 = (closingReceipt 1 .stream).pu.closeMark
      ∧ (closingReceipt 2 .stream).pu.printIndex + 1 ≠ (closingReceipt 2 .stream).pu.closeMark
      ∧ (closingReceipt 1 .cut).pu.owner = .receipt ∧ (printing .ready .cut).pu.owner = .job 1
      ∧ (closingReceipt 1 .blockFrame).pu.flight = { seq := 9, kind := .blockFrame } :: []
      ∧ { lane with pu := { lane.pu with flight := [{ seq := 9, kind := .cut }] } }.pu.owner = .none := by
  decide +kernel

theorem test_block_of_an_abort :
    decimal 0 = [48] ∧ decimal 9999999 = List.replicate 7 57 ∧ 4294967295 < 10 ^ 24
      ∧ (blockFrames lane .void).length = 6 ∧ (blockFrames lane .void).getLast? = some .cut := by decide +kernel

theorem test_cut_ends_the_job :
    after (exec .lineDone (printerSends (printing .ready .cut) kLineDone [9, 0]))
      (fun t => (jobAt t 1).state == .done && t.pu.jobsDone == 1 && t.pu.credits == 5 && t.pu.lastDone == 1
        && t.pu.lastDoneFirst == 2048) = true := by decide +kernel

/-- A receipt line is filled and waits, with so many frames queued and this fetch of its slot. -/
def offering (queued : Nat) (fetch : Option SlotFetch) : State :=
  let s := lane.setLink .printer { upLink with tx := List.replicate queued (txFrame (some 9)) }
  { s with
    bi := { s.bi with receiptFill := 1 }, pu := { s.pu with owner := .receipt, bound := true, receipt := .printing, fetch := fetch } }
/-- The words of the slot are there: attribute 1 and two bytes of text. -/
def fetchOf (slot left : Nat) (wanted : Bool) : SlotFetch :=
  { slot := slot, flight := .stream, wanted := wanted, left := left, words := [0x41410201, 0, 0, 0, 0, 0, 0, 0, 0, 0, 0, 0, 0] }
def blockTurn : State :=
  let s := offering 3 none
  { s with pu := { s.pu with receipt := .block, block := [.feed 3, .cut], blockNext := 1 } }
def jobTurn (next : Nat) (cutSent : Bool) : State :=
  { lane with
    pu := { lane.pu with
      owner := .job 1
      jobs := lane.pu.jobs.set 1 { Job.free with state := .printing, first := 2048, count := 2, next := next, cutSent := cutSent } } }
def printTold (tells : List PrintTell) : State := { lane with pu := { lane.pu with tells := tells } }

theorem hyps_PrintFramesAndReceiptTells :
    (let s := offering 3 (some (fetchOf 0 0 true));
      nextFrame s = some (.slot 0 .stream) ∧ s.pu.cond = .ready ∧ 0 < s.pu.credits ∧ s.pu.lost = false ∧ s.pu.ready = none
        ∧ unitBusy s .pu = false ∧ unitHolds s .pu = false ∧ (s.link .printer).state = .up ∧ (s.link .printer).tx.length < 4)
      ∧ 4 ≤ ((offering 4 (some (fetchOf 0 0 true))).link .printer).tx.length
      ∧ (((offering 4 (some (fetchOf 0 0 true))).setLink .printer { upLink with state := .down }).link .printer).state ≠ .up
      ∧ nextFrame blockTurn = some (.made (blockFrame blockTurn .cut))
      ∧ (nextFrame (offering 0 none) = some (.slot 0 .stream) ∧ (fetchOf 0 2 true).left ≠ 0 ∧ (fetchOf 5 0 true).slot ≠ 0
        ∧ (fetchOf 0 1 false).wanted = false)
      ∧ ((jobTurn 2049 false).pu.owner = .job 1 ∧ nextFrame (jobTurn 2049 false) = some (.slot 2049 .jobLine)
        ∧ nextFrame (jobTurn 2050 false) = some (.made (cutFrame (jobTurn 2050 false))) ∧ nextFrame (jobTurn 2050 true) = none)
      ∧ (jobTurn 2049 false).pu.jobs.length = 8
      ∧ (min (Memory.readByte (Memory.writeWords [] [(0x80000, 0x4141FF01)]) (0x80000 + 1)).toNat 48 = 48)
      ∧ (printTold [.receiptBegins]).pu.tells = .receiptBegins :: [] ∧ (printTold [.closeMark 0 .void]).pu.tells = .closeMark 0 .void :: []
      ∧ (printTold [.closeMark 0 .void]).pu.printIndex = 0 ∧ (printTold [.closeMark 1 .closing]).pu.printIndex ≠ 1
      ∧ (printTold [.saleIdle]).pu.tells = .saleIdle :: [] ∧ unitTakes (printTold [.saleIdle]) .pu .tell = true := by
  decide +kernel

theorem hyps_TellsWithNoOwner :
    (let s := queuedJobs .ready; s.pu.owner = .none ∧ s.pu.cond = .ready ∧ (jobAt s 5).state = .queued)
      ∧ (printTold [.receiptBegins]).pu.owner = .none ∧ (printTold [.saleIdle]).pu.owner = .none
      ∧ unitTakes (printTold [.receiptBegins]) .pu .tell = true := by
  decide +kernel

theorem test_idle_tell_starts_the_earliest_job :
    after (exec .saleIdleTell { queuedJobs .ready with pu := { (queuedJobs .ready).pu with tells := [.saleIdle], bound := true } })
      (fun t => t.pu.owner == .job 5 && (jobAt t 5).started == 1000
        && (t.bi.waiting.map fun w => w.sections) == [[.statusPage, .jobTable]]) = true := by
  decide +kernel

theorem test_slot_is_fetched_then_offered :
    after (exec .printFrameOffer (offering 0 none)) (fun t => t.bi.engine == [.pageEntry 0] && t.pu.flight == []) = true
      ∧ after (exec .printFrameOffer (offering 0 (some (fetchOf 0 0 true))))
          (fun t => ((t.link .printer).tx.map fun f => f.payload) == [[0, 0, 1, 0x41, 0x41]] && t.pu.credits == 3) = true := by
  decide +kernel

def submitting (first count : Word) : State := asking mapped 16 false [first + 65536 * count]
/-- The same while the receipt owns the printer, or the printer is STOPPED. -/
def submittingLate (owner : Owner) (cond : PrinterCond) : State :=
  let s := submitting 2048 1
  { s with pu := { s.pu with owner := owner, cond := cond } }

theorem hyps_PrintSubmitQueuesAJob :
    awaits (submitting 2048 2048) .printSubmit = true ∧ (submitting 2048 2048).pu.tells = [] ∧ (submitting 2048 2048).pu.jobs.length = 8
      ∧ recFirstSlot (submitting 2048 2048).re.record = 2048 ∧ recLineCount (submitting 2048 2048).re.record = 2048
      ∧ (awaits (submittingLate .receipt .ready) .printSubmit = true ∧ (submittingLate .receipt .ready).pu.owner ≠ .none)
      ∧ ((submittingLate .none .stopped).pu.bound = false ∧ (submittingLate .none .stopped).pu.cond ≠ .ready) := by
  decide +kernel

theorem test_print_submit_ranges :
    resultOf (exec .printSubmit (submitting 2048 2048)) = some ⟨.done, 0, 2048⟩
      ∧ resultOf (exec .printSubmit (submitting 2049 2048)) = some ⟨.badParam, 0, 0⟩
      ∧ resultOf (exec .printSubmit (submitting 2047 1)) = some ⟨.badParam, 0, 0⟩ := by decide +kernel

def abandoning : State :=
  let s := asking (selling (closingReceipt 2 .stream) .closing .staffed) 19 false []
  { s with tu := { s.tu with key := true }, pu := { s.pu with cond := .stopped, cause := .paperOut, flight := [], nextUnsent := 0 } }

theorem hyps_ReceiptAbandonEndsTheReceipt :
    awaits abandoning .receiptAbandon = true ∧ abandoning.pu.tells = [] ∧ abandoning.pu.receipt = .closing
      ∧ abandoning.pu.owner = .receipt := by decide +kernel

theorem test_abandon_answers_the_sale : resultOf (exec .receiptAbandon abandoning) = some ⟨.done, 900, 0⟩ := by decide +kernel

/-! ### Closing -/

def closing : State :=
  askingSu (withSale (selling lane .settled .staffed) [lineOf 500 .none none] [tenderOf .cash .taken 500 500 500]) 17 false []
def aborting (drawer : DrawerState) (tenders : List Tender) : State :=
  let s := askingSu (withSale (selling lane .tendering .staffed) [lineOf 900 .none none] tenders) 18 false []
  { s with tu := { s.tu with key := true, drawer := drawer } }

theorem hyps_CloseAndAbortEnterClosing :
    (suTakes closing .saleClose = true ∧ closing.ju.tells = 0 ∧ closing.su.header.state = .settled)
      ∧ (suTakes (aborting .shut [tenderOf .cash .taken 500 500 500]) .saleAbort = true
        ∧ ((aborting .shut [tenderOf .cash .taken 500 500 500]).su.tenders.any fun x => decide (x.state = .taken)) = true)
      ∧ ((aborting .opened []).su.tenders.any fun x => decide (x.state = .taken)) = false := by
  decide +kernel

theorem test_abort_kicks_for_the_refund :
    after (exec .saleAbort (aborting .shut [tenderOf .cash .taken 500 500 500]))
      (fun t => t.tu.solenoid && t.tu.cause == .refund && t.su.header.state == .closing) = true := by decide +kernel

def fixedEntry : JournalEntry := saleEntry closing closing.su .sale
def ended : State :=
  let s := claiming (selling closing .closing .staffed) (.receiptEnded false false)
  { s with ju := { s.ju with fixed := some fixedEntry } }
def finishing : State := opened lane .su [.saleRecord] [.saleFinished, .tellBag .saleEnded, .tellPrint .saleIdle, .suDone]

theorem hyps_EndedReceiptFinishesTheSale :
    (suFront ended = some (.receiptEnded false false) ∧ ended.ju.fixed = some fixedEntry)
      ∧ (finishing.bi.opened[0]? = some (winOf finishing) ∧ (winOf finishing).owner ≠ .nu
        ∧ windowWritten finishing (winOf finishing).id = true
        ∧ (winOf finishing).after = [.saleFinished, .tellBag .saleEnded, .tellPrint .saleIdle, .suDone]
        ∧ finishing.re.resetting = [] ∧ finishing.nu.latches.length = 24 ∧ finishing.bi.hostStall = none) :=
  ⟨⟨rfl, rfl⟩, by decide +kernel⟩

/-! ### The laws: a state that meets them, and a command that answers next on it -/

/-- A lane at work: a request in hand and its slot reserved, one record unconsumed, a frame in flight, and a kick in progress. -/
def working (c : Instr) : State :=
  { lane with
    re := { lane.re with phase := .executing, record := recordOf 9 false [] }
    nu := { lane.nu with producer := 1, reserved := 1, attn := true }
    tu := (kicking 1 true).tu, pu := (printing .ready .jobLine).pu, bi := statusOpen.bi, pending := [c] }

theorem hyps_laws_of_the_ring : ringLaw (working .tareClear) ∧ lineLaw (working .tareClear) :=
  ⟨⟨rfl, by decide, rfl, nofun, fun h => absurd rfl h, nofun, nofun, nofun⟩, by decide, nofun⟩

theorem hyps_laws_of_the_rest :
    memoryCanonical (working .kickWidthExpiry) ∧ flightLaw (working .kickWidthExpiry) ∧ windowLaw (working .kickWidthExpiry)
      ∧ bufferLaw (working .kickWidthExpiry) ∧ tableLaw (working .kickWidthExpiry) ∧ solenoidLaw (working .kickWidthExpiry) :=
  ⟨rfl, ⟨by decide, by decide⟩, ⟨List.pairwise_singleton _ _, nofun⟩, fun l => by cases l <;> decide,
    ⟨rfl, fun j h => by cases h; decide, by decide, fun h => absurd rfl h, by decide, by decide⟩,
    ⟨by decide, by decide, ⟨nofun, fun o ho c hc => absurd hc (by rw [List.mem_singleton.mp ho]; nofun), nofun⟩, fun h => absurd rfl h, fun h => absurd rfl h, nofun⟩⟩

theorem test_working_steps :
    after (step (working .tareClear)) (fun t => t.re.outcome.isSome && t.pending == []) = true
      ∧ after (step (working .kickWidthExpiry)) (fun t => !t.tu.solenoid && t.tu.width.isNone) = true := by decide +kernel

end Sys2Proof.Tests
end

section
/-! The attention line (R50, O57). `lineLaw` speaks of three values: the producer index, the consumer copy and the line. Nearly
every operation keeps all three (`lineKept`); the two events that move an index, a record written and a new EVT_CONSUMER, end in
`updateAttn`, which sets the line anew. -/

namespace Sys2Proof.Machine

/-! ### Operations that keep the line and the indices -/

/-- RESET_N and the three values R50 speaks of are the same in both states. -/
structure lineKept (s t : State) : Prop where
  reset : t.bi.inReset = s.bi.inReset
  copy : consumerCopy t = consumerCopy s
  producer : t.nu.producer = s.nu.producer
  attn : t.nu.attn = s.nu.attn

theorem lineKept.refl (s : State) : lineKept s s := ⟨rfl, rfl, rfl, rfl⟩

theorem lineKept.trans {s t u : State} (h : lineKept s t) (k : lineKept t u) : lineKept s u :=
  ⟨k.reset.trans h.reset, k.copy.trans h.copy, k.producer.trans h.producer, k.attn.trans h.attn⟩

/-- The blocks other than the two that hold the line and the indices. -/
def unitBlocks : List BlockId := [.re, .lu, .pwu, .bwu, .su, .ctu, .tu, .pu, .ju]

/-- In the BI an event of the other blocks only asks for windows, and in the NU it only moves latches and the writer. -/
theorem lineKept_of_frame {s t : State} (h : eventFrame unitBlocks s t) : lineKept s t := by
  have hbi : windowsAskedOnly s t := h.bi.resolve_left (by decide)
  have hnu : noticesOnly s t := h.nu.resolve_left (by decide)
  exact
    { reset := (congrArg Bi.inReset hbi :)
      copy := congrArg lowHalf (congrArg Bi.evtConsumer hbi :)
      producer := (congrArg Nu.producer hnu :)
      attn := (congrArg Nu.attn hnu :) }

theorem lineKept.frame {s t u : State} (h : lineKept s t) (k : eventFrame unitBlocks t u) : lineKept s u :=
  h.trans (lineKept_of_frame k)

/-! ### The line while RESET_N is high -/

/-- RESET_N is high and the line is as R50 says. -/
structure lineLive (s : State) : Prop where
  high : s.bi.inReset = false
  line : s.nu.attn = true ↔ s.nu.producer ≠ consumerCopy s

theorem lineLive.kept {s t : State} (hs : lineLive s) (h : lineKept s t) : lineLive t :=
  ⟨h.reset.trans hs.high, by rw [h.attn, h.producer, h.copy]; exact hs.line⟩

theorem lineLive.frame {s t : State} (hs : lineLive s) (h : eventFrame unitBlocks s t) : lineLive t :=
  hs.kept (lineKept_of_frame h)

theorem updateAttn_live {s : State} (high : s.bi.inReset = false) : lineLive (updateAttn s) :=
  ⟨high, bne_iff_ne⟩

/-! ### What a command answers -/

/-- The law of the line holds of the state a command answers, when it holds of the state before. -/
def keepsLine (s : State) (o : Host.Outcome State Fault Refusal) : Prop := ∀ t, lineLaw s → o = .next t → lineLaw t

theorem keepsLine_next {s t : State} (hbi : t.bi = s.bi) (hnu : t.nu = s.nu) : keepsLine s (.next t) := by
  rintro _ ⟨line, held⟩ ⟨⟩
  exact ⟨by rw [hnu, consumerCopy, hbi]; exact line, by rw [hbi, hnu]; exact held⟩

theorem keepsLine_idle (s : State) : keepsLine s (.next s) := keepsLine_next rfl rfl

theorem stepIf_cases {s t u : State} {enabled : Bool} (h : stepIf s enabled u = .next t) :
    t = s ∨ s.bi.inReset = false ∧ t = u := by
  unfold stepIf at h
  cases h
  split
  case isTrue go => exact .inr ⟨by simpa using (Bool.and_eq_true_iff.mp go).1, rfl⟩
  case isFalse => exact .inl rfl

/-- While RESET_N is low nothing happens, so a step has to keep the line only while it is high. -/
theorem keepsLine_stepIf {s u : State} {enabled : Bool} (h : lineLive s → lineLive u) :
    keepsLine s (stepIf s enabled u) := by
  intro t hs ht
  obtain rfl | ⟨high, rfl⟩ := stepIf_cases ht
  · exact hs
  · have live : lineLive t := h ⟨high, hs.line⟩
    exact ⟨live.line, fun low => absurd low (by rw [live.high]; decide)⟩

theorem keepsLine_kept {s u : State} {enabled : Bool} (h : lineKept s u) : keepsLine s (stepIf s enabled u) :=
  keepsLine_stepIf fun hs => hs.kept h

theorem keepsLine_frame {s u : State} {enabled : Bool} (h : eventFrame unitBlocks s u) :
    keepsLine s (stepIf s enabled u) := keepsLine_kept (lineKept_of_frame h)

/-! ### Shared operations of the Request Engine, the Notice Unit and the memory port -/

theorem look_lineKept (s : State) : lineKept s (look s) := lineKept_of_frame (look_frame s (.refl _ s))

theorem nextRequest_lineKept (s : State) : lineKept s (nextRequest s) := by
  constructor <;> simp [consumerCopy]

theorem engineGrant_lineKept (s : State) : lineKept s (engineGrant s) := by
  constructor <;> simp [consumerCopy]

theorem serveRead_lineKept (s : State) (addr len : Nat) : lineKept s (serveRead s addr len) := by
  constructor <;> simp [consumerCopy]

theorem removeWindow_lineKept (s : State) (id : Nat) : lineKept s (removeWindow s id) := by
  constructor <;> simp [consumerCopy]

/-- A fold of operations that stay within a frame stays within it. -/
theorem foldl_frame {α : Type} {bs : List BlockId} {z : State} {f : State → α → State}
    (hf : ∀ t a, eventFrame bs z t → eventFrame bs z (f t a)) (as : List α) (s : State) (h : eventFrame bs z s) :
    eventFrame bs z (as.foldl f s) := by
  induction as generalizing s with
  | nil => exact h
  | cons a rest ih => exact ih (f s a) (hf s a h)

/-! ### Host accesses -/

/-- An advance of the consumer copy sets the line anew (R42, R50). -/
theorem consumerAdvance_live {s : State} (high : s.bi.inReset = false) : lineLive (consumerAdvance s) := by
  unfold consumerAdvance
  exact updateAttn_live (by split <;> simpa using high)

theorem setWatched_live {s : State} {k : Watched} {w : Word} (m : List Host.Cell) (hs : lineLive s)
    (hk : k ≠ .evtConsumer) :
    lineLive ((setWatched s k w).setMem m) := by
  cases k with
  | evtConsumer => exact absurd rfl hk
  | _ => exact hs.kept ⟨rfl, rfl, rfl, rfl⟩

/-- What a block does with its watched word, other than EVT_CONSUMER, keeps the line. -/
theorem deliverWatched_lineKept (s : State) {k : Watched} (old : Word) (hk : k ≠ .evtConsumer) :
    lineKept s (deliverWatched s k old) := by
  unfold deliverWatched
  cases k with
  | evtConsumer => exact absurd rfl hk
  | reqProducer =>
    dsimp only
    split
    · exact nextRequest_lineKept s
    · exact .refl s
  | journalExport =>
    dsimp only
    split
    · exact .refl s
    · exact lineKept_of_frame (askJuStatus_frame s false (.refl _ s))
  | noticeMask =>
    dsimp only
    split
    · exact .refl s
    · exact look_lineKept s
  | receiptFill =>
    dsimp only
    split
    · exact .refl s
    · exact lineKept_of_frame (askPu_frame s.pu s false (.refl _ s))

/-- A new EVT_CONSUMER either leaves the consumer copy as it is or is an advance of it. -/
theorem storeWatched_live {s : State} (k : Watched) (w : Word) (hs : lineLive s) : lineLive (storeWatched s k w) := by
  by_cases hk : k = .evtConsumer
  · subst hk
    unfold storeWatched deliverWatched
    dsimp only
    split
    case isTrue same => exact hs.kept ⟨rfl, same, rfl, rfl⟩
    case isFalse => exact consumerAdvance_live hs.high
  · exact (setWatched_live _ hs hk).kept (deliverWatched_lineKept _ _ hk)

theorem grantBurst_lineKept (s : State) : lineKept s (grantBurst s) := by
  unfold grantBurst
  dsimp only
  split
  · exact .refl s
  · constructor <;> simp [consumerCopy]

theorem refuseWord_lineKept (s : State) (addr : Nat) (unmapped : Bool) : lineKept s (refuseWord s addr unmapped) := by
  unfold refuseWord
  constructor <;> simp [consumerCopy]

theorem applyDecision_live {s : State} (w : HostWord) (d : Decision) (hs : lineLive s) : lineLive (applyDecision s w d) := by
  have granted : lineLive (grantBurst s) := hs.kept (grantBurst_lineKept s)
  cases d with
  | ignored => exact hs
  | refused unmapped => exact hs.kept (refuseWord_lineKept s w.addr unmapped)
  | plain a => exact granted.kept ⟨rfl, rfl, rfl, rfl⟩
  | control k c => exact storeWatched_live k c granted
  | page word => exact granted.kept ⟨rfl, rfl, rfl, rfl⟩

theorem endBurst_lineKept (s : State) : lineKept s (endBurst s) := by
  unfold endBurst
  dsimp only
  split <;> constructor <;> simp [consumerCopy]

theorem takeWord_live {s : State} (w : HostWord) (hs : lineLive s) : lineLive (takeWord s w) := by
  have applied : lineLive (applyDecision s w (decideWrite s w)) := applyDecision_live w _ hs
  unfold takeWord
  dsimp only
  split
  · exact applied.kept (endBurst_lineKept _)
  · exact applied

theorem offerWord_live {s : State} (w : HostWord) (hs : lineLive s) : lineLive (offerWord s w) := by
  unfold offerWord
  split
  · exact hs.kept ⟨rfl, rfl, rfl, rfl⟩
  · exact takeWord_live w hs

theorem presentWord_live {s : State} (w : HostWord) (hs : lineLive s) : lineLive (presentWord s w) := by
  unfold presentWord
  split
  · exact hs.kept ⟨rfl, rfl, rfl, rfl⟩
  · exact offerWord_live w hs

theorem presentRead_lineKept (s : State) (addr len : Nat) : lineKept s (presentRead s addr len) := by
  unfold presentRead
  split
  · exact ⟨rfl, rfl, rfl, rfl⟩
  · exact serveRead_lineKept s addr len

/-- A grant serves the word or the read that waits, or an engine access. -/
theorem portGrant_live {s : State} (hs : lineLive s) : lineLive (portGrant s) := by
  have engine : lineLive (engineGrant s) := hs.kept (engineGrant_lineKept s)
  have cleared : lineLive (s.setBi { s.bi with hostStall := none }) := hs.kept ⟨rfl, rfl, rfl, rfl⟩
  unfold portGrant
  split
  next w _ =>
    split
    · exact offerWord_live w (cleared.frame (suPop_frame _ (.refl _ _)))
    · exact engine
  next w _ =>
    split
    · exact engine
    · exact presentWord_live w cleared
  next a n _ =>
    split
    · exact engine
    · exact hs.kept (serveRead_lineKept s a n)
  next => exact engine

/-! ### LANE_RESET and SETUP_COMMIT -/

theorem resetUnit_frame {z : State} (s : State) (b : BlockId) (h : eventFrame unitBlocks z s) :
    eventFrame unitBlocks z (resetUnit s b) := by
  cases b with
  | su => exact resetSale_frame s h (by decide)
  | pwu => exact resetPlatter_frame s h (by decide)
  | bwu => exact resetBag_frame s h (by decide)
  | ctu => exact resetCard_frame s h (by decide)
  | tu => exact resetTill_frame s h (by decide)
  | pu => exact resetPrinter_frame s h (by decide)
  | ju => exact resetJournal_frame s h (by decide)
  | re => exact resetLinks_frame _ (resetEngine_frame s h (by decide)) (by decide)
  | lu => exact h
  | bi => exact h
  | nu => exact h

theorem takeResets_lineKept (s : State) : lineKept s (takeResets s) := by
  have reset : eventFrame unitBlocks s ((s.re.resetting.filter (resetReady s)).foldl resetUnit s) :=
    foldl_frame resetUnit_frame _ s (.refl _ s)
  have told (x : Re) := lineKept_of_frame (eventFrame_setRe (x := x) (tieAsks_frame _ s.bi.nextWindow reset) (by decide))
  unfold takeResets
  dsimp only
  split
  · exact (told _).trans (nextRequest_lineKept _)
  · exact told _

theorem resumeResets_lineKept (s : State) : lineKept s (resumeResets s) := by
  unfold resumeResets
  split
  · exact .refl s
  · exact takeResets_lineKept s

/-- The reset of the Notice Unit clears its latches only; indices and line stay (R52). -/
theorem applyLaneReset_lineKept (s : State) : lineKept s (applyLaneReset s) := by
  unfold applyLaneReset
  dsimp only
  split
  · refine .trans ?_ (nextRequest_lineKept _)
    exact ⟨rfl, rfl, rfl, rfl⟩
  · refine .trans ?_ (takeResets_lineKept _)
    exact ⟨rfl, rfl, rfl, rfl⟩

theorem takeJournal_lineKept (s : State) (c : Setup) : lineKept s (takeJournal s c) := ⟨rfl, rfl, rfl, rfl⟩

theorem applyFirst_lineKept (s : State) (c : Setup) : lineKept s (applyFirst s c) := by
  have clock : eventFrame unitBlocks s ((takeSetup s c).setRe { (takeSetup s c).re with clock := 0 }) :=
    eventFrame_setRe (takeSetup_frame s c (.refl _ s) (by decide)) (by decide)
  have scales := initBag_frame _ (initPlatter_frame _ (initSale_frame _ c clock (by decide)) (by decide)) (by decide)
  have units := initPrinter_frame _ (initTill_frame _ (initCard_frame _ scales (by decide)) (by decide)) (by decide)
  have journal (x : Ju) :=
    (lineKept_of_frame (eventFrame_setJu (x := x) units (by decide))).trans (takeJournal_lineKept _ c)
  exact (journal _).frame
    (markCommit_frame _ _ (tieAsks_frame _ _ (initLinks_frame _ (.refl _ _) (by decide))))

theorem applyRecommit_lineKept (s : State) (c : Setup) (journal : Bool) : lineKept s (applyRecommit s c journal) := by
  have links : eventFrame unitBlocks s ([LinkId.platter, .bag, .card, .printer].foldl (relink (cfg s)) (takeSetup s c)) :=
    foldl_frame (fun t l h => relink_frame (cfg s) t l h (by decide)) _ _ (takeSetup_frame s c (.refl _ s) (by decide))
  have platter := recommitPlatter_frame s _ links (by decide)
  have units (b : Bwu) (x : Su) :=
    eventFrame_setSu (x := x) (askBwuStatus_frame _ true (eventFrame_setBwu (x := b) platter (by decide))) (by decide)
  unfold applyRecommit
  dsimp only
  split
  · exact ((lineKept_of_frame (units _ _)).trans (takeJournal_lineKept _ c)).frame
      (markCommit_frame _ _ (tieAsks_frame _ _ (.refl _ _)))
  · exact lineKept_of_frame (markCommit_frame _ _ (tieAsks_frame _ _ (units _ _)))

theorem finishRequest_lineKept (s : State) (r : ResultCode) (d1 d2 : Word) : lineKept s (finishRequest s r d1 d2) :=
  lineKept_of_frame (finishRequest_frame s r d1 d2 (.refl _ s) (by decide))

theorem decideCommit_lineKept (s : State) : lineKept s (decideCommit s) := by
  have spanEnded (x : Re) : lineKept s ((s.setBi { s.bi with setupSpan := false }).setRe x) := ⟨rfl, rfl, rfl, rfl⟩
  unfold decideCommit
  dsimp only
  split
  · exact ((spanEnded _).frame (askReStatus_frame _ true (eventFrame_setRe (.refl _ _) (by decide)))).trans
      (finishRequest_lineKept _ _ _ _)
  · refine .trans ?_ (finishRequest_lineKept _ _ _ _)
    split
    · exact (spanEnded _).trans (applyRecommit_lineKept _ _ _)
    · exact (spanEnded _).trans (applyFirst_lineKept _ _)

theorem setupCommit_lineKept (s : State) : lineKept s (setupCommit s) := by
  unfold setupCommit
  split
  · exact decideCommit_lineKept s
  · unfold beginCommit
    split
    · exact finishRequest_lineKept s .wrongState 0 0
    · exact ⟨rfl, rfl, rfl, rfl⟩

/-! ### Windows and records -/

theorem runAfters_frame {z : State} (s : State) (as : List After) (h : eventFrame unitBlocks z s) :
    eventFrame unitBlocks z (as.foldl runAfter s) :=
  foldl_frame
    (fun t a ht => runAfter_frame t a ht (by decide) (by decide) (by decide) (by decide) (by decide) (by decide) (by decide))
    as s h

theorem closeWindow_lineKept (s : State) (o : OpenWindow) : lineKept s (closeWindow s o) :=
  ((removeWindow_lineKept s o.id).frame
    (requestProgress_frame _ (runAfters_frame _ o.after (.refl _ _)) (by decide))).trans (resumeResets_lineKept _)

/-- A record written sets the line anew (R44, R47, R50). -/
theorem recordWritten_live {s : State} (o : OpenWindow) (reserved : Nat) (high : s.bi.inReset = false) :
    lineLive (recordWritten s o reserved) :=
  updateAttn_live ((removeWindow_lineKept s o.id).reset.trans high)

theorem afterLaneReset_lineKept (s : State) (askFirst : Bool) : lineKept s (afterLaneReset s askFirst) := by
  unfold afterLaneReset
  split
  · exact (applyLaneReset_lineKept s).trans (look_lineKept _)
  · refine .trans ?_ (look_lineKept _)
    exact ⟨rfl, rfl, rfl, rfl⟩

theorem afterCompletion_lineKept (s : State) (askFirst : Bool) : lineKept s (afterCompletion s askFirst) := by
  unfold afterCompletion
  split
  · exact (nextRequest_lineKept s).trans (look_lineKept _)
  · exact (look_lineKept s).trans (nextRequest_lineKept _)

theorem completionWritten_live {s : State} (o : OpenWindow) (askFirst : Bool) (high : s.bi.inReset = false) :
    lineLive (completionWritten s o askFirst) := by
  have left : lineLive (leaveCompleting (recordWritten s o 0)) :=
    (recordWritten_live o 0 high).frame (leaveCompleting_frame _ (.refl _ _) (by decide))
  unfold completionWritten
  dsimp only
  split
  · exact left.kept (afterLaneReset_lineKept _ askFirst)
  · exact left.kept (afterCompletion_lineKept _ askFirst)

theorem printFrameOffer_lineKept (s : State) : lineKept s (printFrameOffer s) := by
  constructor <;> simp [consumerCopy]

/-- An event of the CTU, and the notices whose turn it lets come (R24). -/
theorem cardNotices_unitFrame {s u : State} (h : eventFrame unitBlocks s u) : eventFrame unitBlocks s (cardNotices u) :=
  cardNotices_frame u h (by decide) (by decide)

/-- An event of the PU, and the notices whose turn it lets come (R24). -/
theorem printNotices_unitFrame {s u : State} (h : eventFrame unitBlocks s u) : eventFrame unitBlocks s (printNotices u) :=
  printNotices_frame u h (by decide) (by decide)

theorem openWindow_lineKept (s : State) (w : WindowAsk) : lineKept s (openWindow s w) := by
  constructor <;> simp [consumerCopy]

/-! ### The commands that act by cases on what waits -/

theorem execPlatterSample_keepsLine (s : State) : keepsLine s (execPlatterSample s) := by
  unfold execPlatterSample
  split
  · exact keepsLine_frame (platterSample_frame _ _ _ (.refl _ s) (by decide) (by decide))
  · exact keepsLine_idle s

theorem execPlatterLinkChange_keepsLine (s : State) : keepsLine s (execPlatterLinkChange s) := by
  unfold execPlatterLinkChange
  split
  · exact keepsLine_frame (platterLinkChange_frame _ _ _ (.refl _ s) (by decide) (by decide))
  · exact keepsLine_idle s

theorem execBagSample_keepsLine (s : State) : keepsLine s (execBagSample s) := by
  unfold execBagSample
  split
  · exact keepsLine_frame (bagSample_frame _ _ _ (.refl _ s) (by decide) (by decide))
  · exact keepsLine_idle s

theorem execBagLinkChange_keepsLine (s : State) : keepsLine s (execBagLinkChange s) := by
  unfold execBagLinkChange
  split
  · exact keepsLine_frame (bagLinkChange_frame _ _ _ (.refl _ s) (by decide) (by decide))
  · exact keepsLine_idle s

theorem execBagSaleOpened_keepsLine (s : State) : keepsLine s (execBagSaleOpened s) := by
  unfold execBagSaleOpened
  split
  · exact keepsLine_frame (bagSaleOpened_frame _ _ _ (.refl _ s) (by decide))
  · exact keepsLine_idle s

theorem execBagSaleClosing_keepsLine (s : State) : keepsLine s (execBagSaleClosing s) := by
  unfold execBagSaleClosing
  split
  · exact keepsLine_frame (bagSaleClosing_frame _ (.refl _ s) (by decide))
  · exact keepsLine_idle s

theorem execBagSaleEnded_keepsLine (s : State) : keepsLine s (execBagSaleEnded s) := by
  unfold execBagSaleEnded
  split
  · exact keepsLine_frame (bagSaleEnded_frame _ (.refl _ s) (by decide))
  · exact keepsLine_idle s

theorem execBagSettlementClaim_keepsLine (s : State) : keepsLine s (execBagSettlementClaim s) := by
  unfold execBagSettlementClaim
  split
  · exact keepsLine_frame (suBagClaim_frame _ _ _ (suPop_frame s (.refl _ s)) (by decide))
  · exact keepsLine_idle s

theorem execBagHoldClaim_keepsLine (s : State) : keepsLine s (execBagHoldClaim s) := by
  unfold execBagHoldClaim
  split
  · exact keepsLine_frame (suBagClaim_frame _ _ _ (suPop_frame s (.refl _ s)) (by decide))
  · exact keepsLine_idle s

theorem execBagClearClaim_keepsLine (s : State) : keepsLine s (execBagClearClaim s) := by
  unfold execBagClearClaim
  split
  · exact keepsLine_frame (suBagClaim_frame _ _ _ (suPop_frame s (.refl _ s)) (by decide))
  · exact keepsLine_idle s

theorem execTenderClaim_keepsLine (s : State) : keepsLine s (execTenderClaim s) := by
  unfold execTenderClaim
  split
  · exact keepsLine_frame (suMoveTender_frame _ _ _ (suPop_frame s (.refl _ s)) (by decide))
  · exact keepsLine_idle s

theorem execReceiptEndedClaim_keepsLine (s : State) : keepsLine s (execReceiptEndedClaim s) := by
  unfold execReceiptEndedClaim
  split
  · exact keepsLine_frame (receiptEnded_frame _ _ _ (suPop_frame s (.refl _ s)) (by decide) (by decide))
  · exact keepsLine_idle s

theorem execCardIn_keepsLine (s : State) : keepsLine s (execCardIn s) := by
  unfold execCardIn
  split
  · exact keepsLine_frame (cardNotices_unitFrame (cardInTaken_frame _ _ (.refl _ s) (by decide) (by decide)))
  · exact keepsLine_idle s

theorem execCardOut_keepsLine (s : State) : keepsLine s (execCardOut s) := by
  unfold execCardOut
  split
  · exact keepsLine_frame (cardNotices_unitFrame (cardOutTaken_frame _ (.refl _ s) (by decide) (by decide)))
  · exact keepsLine_idle s

theorem execModuleStatus_keepsLine (s : State) : keepsLine s (execModuleStatus s) := by
  unfold execModuleStatus
  split
  · exact keepsLine_frame (cardNotices_unitFrame (moduleStatusTaken_frame _ _ (.refl _ s) (by decide) (by decide)))
  · exact keepsLine_idle s

theorem execAuthResult_keepsLine (s : State) : keepsLine s (execAuthResult s) := by
  unfold execAuthResult
  split
  · exact keepsLine_frame (cardNotices_unitFrame (authResult_frame _ _ (.refl _ s) (by decide) (by decide)))
  · exact keepsLine_idle s

theorem execNoRecord_keepsLine (s : State) : keepsLine s (execNoRecord s) := by
  unfold execNoRecord
  split
  · exact keepsLine_frame (cardNotices_unitFrame (noRecord_frame _ _ (.refl _ s) (by decide) (by decide)))
  · exact keepsLine_idle s

theorem execCardLinkChange_keepsLine (s : State) : keepsLine s (execCardLinkChange s) := by
  unfold execCardLinkChange
  split
  · exact keepsLine_frame (cardNotices_unitFrame (cardLinkChange_frame _ _ _ (.refl _ s) (by decide) (by decide)))
  · exact keepsLine_idle s

theorem execSensorEdge_keepsLine (s : State) : keepsLine s (execSensorEdge s) := by
  unfold execSensorEdge
  split
  · exact keepsLine_frame (sensorEdge_frame _ _ (.refl _ s) (by decide) (by decide))
  · exact keepsLine_idle s

theorem execKeyEdge_keepsLine (s : State) : keepsLine s (execKeyEdge s) := by
  unfold execKeyEdge
  split
  · exact keepsLine_frame (keyEdge_frame _ _ (.refl _ s) (by decide))
  · exact keepsLine_idle s

theorem execLineDone_keepsLine (s : State) : keepsLine s (execLineDone s) := by
  unfold execLineDone
  split
  · exact keepsLine_frame (printNotices_unitFrame (lineDone_frame _ _ (.refl _ s) (by decide) (by decide)))
  · exact keepsLine_idle s

theorem execPrinterStatus_keepsLine (s : State) : keepsLine s (execPrinterStatus s) := by
  unfold execPrinterStatus
  split
  · exact keepsLine_frame (printNotices_unitFrame (printerStatus_frame _ _ (.refl _ s) (by decide) (by decide)))
  · exact keepsLine_idle s

theorem execPrinterLinkChange_keepsLine (s : State) : keepsLine s (execPrinterLinkChange s) := by
  unfold execPrinterLinkChange
  split
  · exact keepsLine_frame (printNotices_unitFrame (printerLinkChange_frame _ _ _ (.refl _ s) (by decide) (by decide)))
  · exact keepsLine_idle s

theorem execReceiptBegin_keepsLine (s : State) : keepsLine s (execReceiptBegin s) := by
  unfold execReceiptBegin
  split
  · exact keepsLine_frame (printNotices_unitFrame (receiptBegin_frame _ (.refl _ s) (by decide)))
  · exact keepsLine_idle s

theorem execReceiptCloseMark_keepsLine (s : State) : keepsLine s (execReceiptCloseMark s) := by
  unfold execReceiptCloseMark
  split
  · exact keepsLine_frame (printNotices_unitFrame (receiptCloseMark_frame _ _ _ (.refl _ s) (by decide)))
  · exact keepsLine_idle s

theorem execSaleIdleTell_keepsLine (s : State) : keepsLine s (execSaleIdleTell s) := by
  unfold execSaleIdleTell
  split
  · exact keepsLine_frame (printNotices_unitFrame (saleIdleTold_frame _ (.refl _ s) (by decide)))
  · exact keepsLine_idle s

theorem execFrameSent_keepsLine (l : LinkId) (s : State) : keepsLine s (execFrameSent l s) := by
  unfold execFrameSent
  split
  · exact keepsLine_frame (frameSent_frame _ _ (.refl _ s) (by decide) (by decide) (by decide))
  · exact keepsLine_idle s

theorem execUpdateWindowOpen_keepsLine (index : Nat) (s : State) : keepsLine s (execUpdateWindowOpen index s) := by
  unfold execUpdateWindowOpen
  split
  · exact keepsLine_kept (openWindow_lineKept s _)
  · exact keepsLine_idle s

theorem execUpdateWindowClose_keepsLine (index : Nat) (s : State) : keepsLine s (execUpdateWindowClose index s) := by
  unfold execUpdateWindowClose
  split
  · exact keepsLine_kept
      ((closeWindow_lineKept s _).frame (freedNotices_frame s _ (.refl _ _) (by decide) (by decide) (by decide)))
  · exact keepsLine_idle s

theorem execPayloadAnswer_keepsLine (block : BlockId) (s : State) : keepsLine s (execPayloadAnswer block s) := by
  unfold execPayloadAnswer
  split
  · exact keepsLine_frame
      (unitNotices_frame _ block (answered_frame _ _ _ _ _ _ _ (takeAsk_frame s block (.refl _ s)))
        (by decide) (by decide) (by decide))
  · exact keepsLine_idle s

theorem execCompletionWritten_keepsLine (askFirst : Bool) (s : State) : keepsLine s (execCompletionWritten askFirst s) := by
  unfold execCompletionWritten
  split
  · exact keepsLine_stepIf (fun hs => completionWritten_live _ askFirst hs.high)
  · exact keepsLine_idle s

theorem execConditionRecordWritten_keepsLine (s : State) : keepsLine s (execConditionRecordWritten s) := by
  unfold execConditionRecordWritten
  split
  · exact keepsLine_stepIf (fun hs => (recordWritten_live _ _ hs.high).kept (look_lineKept _))
  · exact keepsLine_idle s

theorem execLaneReset_keepsLine (s : State) : keepsLine s (execLaneReset s) := by
  refine keepsLine_kept ?_
  split
  · exact applyLaneReset_lineKept s
  · exact finishRequest_lineKept _ _ _ _

/-! ### RESET_N -/

/-- With the Notice Unit and the consumer copy at their reset values, both indices are 0 and the line is low (R53). -/
theorem lineLaw_reset {s : State} (nu : s.nu = Nu.reset) (copy : consumerCopy s = 0) : lineLaw s :=
  ⟨by rw [nu, copy]; decide, fun _ => nu⟩

theorem execResetNAssert_keepsLine (s : State) : keepsLine s (execResetNAssert s) := by
  rintro _ hs ⟨⟩
  split
  · exact hs
  · exact lineLaw_reset rfl rfl

/-- The release gives the consumer copy its reset value and leaves the Notice Unit, which has its reset values already. -/
theorem execResetNRelease_keepsLine (laSel : BitVec 4) (bagFit : Bool) (s : State) :
    keepsLine s (execResetNRelease laSel bagFit s) := by
  rintro _ hs ⟨⟩
  split
  case isTrue low => exact lineLaw_reset (hs.held low) rfl
  case isFalse => exact hs

/-! ### Every command -/

theorem exec_keepsLine (c : Instr) (s : State) : keepsLine s (exec c s) :=
  match c with
  | .hostWriteWord _ _ _ _ => keepsLine_stepIf (presentWord_live _)
  | .hostReadBurst _ _ => keepsLine_kept (presentRead_lineKept s _ _)
  | .reqProducerWrite _ _ _ => keepsLine_stepIf (presentWord_live _)
  | .evtConsumerWrite _ _ _ => keepsLine_stepIf (presentWord_live _)
  | .journalExportWrite _ _ _ => keepsLine_stepIf (presentWord_live _)
  | .noticeMaskWrite _ _ _ => keepsLine_stepIf (presentWord_live _)
  | .receiptFillWrite _ _ _ => keepsLine_stepIf (presentWord_live _)
  | .printPageTableWrite _ _ _ _ => keepsLine_stepIf (presentWord_live _)
  | .apertureWrite _ _ _ _ => keepsLine_stepIf (presentWord_live _)
  | .apertureRead _ => keepsLine_kept (presentRead_lineKept s _ _)
  | .updateWindowOpen index => execUpdateWindowOpen_keepsLine index s
  | .updateWindowClose index => execUpdateWindowClose_keepsLine index s
  | .memoryPortGrant => keepsLine_stepIf portGrant_live
  | .requestFetched => keepsLine_frame (requestFetched_frame _ (.refl _ s) (by decide))
  | .setupCommit => keepsLine_kept (setupCommit_lineKept s)
  | .laneReset => execLaneReset_keepsLine s
  | .completionWritten askFirst => execCompletionWritten_keepsLine askFirst s
  | .payloadAnswer block => execPayloadAnswer_keepsLine block s
  | .conditionRecordWritten => execConditionRecordWritten_keepsLine s
  | .resetNAssert => execResetNAssert_keepsLine s
  | .resetNRelease laSel bagFit => execResetNRelease_keepsLine laSel bagFit s
  | .rxCharacter _ _ _ => keepsLine_frame (rxCharacter_frame _ _ _ _ (.refl _ s) (by decide))
  | .gapTimeout _ => keepsLine_frame (gapTimeout_frame _ _ (.refl _ s) (by decide))
  | .breakDetected _ => keepsLine_frame (breakDetected_frame _ _ (.refl _ s) (by decide))
  | .breakLineHigh _ => keepsLine_frame (breakLineHigh_frame _ _ (.refl _ s) (by decide))
  | .silenceExpiry _ => keepsLine_frame (silenceExpired_frame _ _ (.refl _ s) (by decide))
  | .frameSent link => execFrameSent_keepsLine link s
  | .platterSample => execPlatterSample_keepsLine s
  | .zeroTrackExpiry => keepsLine_frame (zeroTracked_frame _ (.refl _ s) (by decide))
  | .platterLinkChange => execPlatterLinkChange_keepsLine s
  | .scaleZero => keepsLine_frame (scaleZero_frame _ (.refl _ s) (by decide) (by decide))
  | .scaleTare => keepsLine_frame (scaleTare_frame _ (.refl _ s) (by decide) (by decide))
  | .tareClear => keepsLine_frame (tareClear_frame _ (.refl _ s) (by decide) (by decide))
  | .saleOpen => keepsLine_frame (saleOpen_frame _ (.refl _ s) (by decide) (by decide))
  | .itemAdd => keepsLine_frame (itemAdd_frame _ (.refl _ s) (by decide) (by decide) (by decide))
  | .itemWeigh => keepsLine_frame (itemWeigh_frame _ (.refl _ s) (by decide) (by decide) (by decide) (by decide))
  | .lineVoid => keepsLine_frame (lineVoid_frame _ (.refl _ s) (by decide) (by decide) (by decide))
  | .bagSample => execBagSample_keepsLine s
  | .bagWaitExpiry => keepsLine_frame (bagWaitExpired_frame _ (.refl _ s) (by decide))
  | .bagLinkChange => execBagLinkChange_keepsLine s
  | .bagSaleOpened => execBagSaleOpened_keepsLine s
  | .bagSaleClosing => execBagSaleClosing_keepsLine s
  | .bagSaleEnded => execBagSaleEnded_keepsLine s
  | .holdRelease => keepsLine_frame (holdRelease_frame _ (.refl _ s) (by decide) (by decide) (by decide))
  | .bagSettlementClaim => execBagSettlementClaim_keepsLine s
  | .bagHoldClaim => execBagHoldClaim_keepsLine s
  | .bagClearClaim => execBagClearClaim_keepsLine s
  | .tenderClaim => execTenderClaim_keepsLine s
  | .cardTender => keepsLine_frame (cardTender_frame _ (.refl _ s) (by decide) (by decide))
  | .cardCancel => keepsLine_frame (cardCancel_frame _ (.refl _ s) (by decide) (by decide) (by decide))
  | .tenderVerdict => keepsLine_frame (tenderVerdict_frame _ (.refl _ s) (by decide) (by decide) (by decide))
  | .cardIn => execCardIn_keepsLine s
  | .cardOut => execCardOut_keepsLine s
  | .moduleStatus => execModuleStatus_keepsLine s
  | .authResult => execAuthResult_keepsLine s
  | .noRecord => execNoRecord_keepsLine s
  | .cardWaitExpiry => keepsLine_frame (cardNotices_unitFrame (cardWaitExpired_frame _ (.refl _ s) (by decide) (by decide)))
  | .cancelWaitExpiry =>
    keepsLine_frame (cardNotices_unitFrame (cancelWaitExpired_frame _ (.refl _ s) (by decide) (by decide)))
  | .cardLinkChange => execCardLinkChange_keepsLine s
  | .sensorEdge => execSensorEdge_keepsLine s
  | .forcedOpeningTell => keepsLine_frame (forcedOpeningTold_frame _ (.refl _ s) (by decide))
  | .keyEdge => execKeyEdge_keepsLine s
  | .kickWidthExpiry => keepsLine_frame (kickWidthExpired_frame _ (.refl _ s) (by decide))
  | .kickConfirmExpiry => keepsLine_frame (kickConfirmExpired_frame _ (.refl _ s) (by decide))
  | .drawerLimitExpiry => keepsLine_frame (drawerLimitExpired_frame _ (.refl _ s) (by decide))
  | .cashTender => keepsLine_frame (cashTender_frame _ (.refl _ s) (by decide) (by decide))
  | .drawerNosale => keepsLine_frame (drawerNosale_frame _ (.refl _ s) (by decide) (by decide) (by decide))
  | .printerStatus => execPrinterStatus_keepsLine s
  | .lineDone => execLineDone_keepsLine s
  | .printerLinkChange => execPrinterLinkChange_keepsLine s
  | .printFrameOffer => keepsLine_kept (printFrameOffer_lineKept s)
  | .printSubmit => keepsLine_frame (printSubmit_frame _ (.refl _ s) (by decide) (by decide))
  | .receiptBegin => execReceiptBegin_keepsLine s
  | .receiptCloseMark => execReceiptCloseMark_keepsLine s
  | .saleIdleTell => execSaleIdleTell_keepsLine s
  | .receiptAbandon => keepsLine_frame (receiptAbandon_frame _ (.refl _ s) (by decide) (by decide))
  | .saleClose => keepsLine_frame (saleClose_frame _ (.refl _ s) (by decide) (by decide) (by decide))
  | .saleAbort => keepsLine_frame (saleAbort_frame _ (.refl _ s) (by decide) (by decide) (by decide) (by decide))
  | .receiptEndedClaim => execReceiptEndedClaim_keepsLine s
  | .laneClockTick => keepsLine_frame (laneClockTick_frame _ (.refl _ s) (by decide) (by decide))
  | .rawLevelChange _ _ => keepsLine_next (by simp) (by simp)
  | .lineRiseFraming _ => keepsLine_frame (lineRise_frame _ _ (.refl _ s) (by decide))

theorem step_keepsLine (s : State) : keepsLine s (step s) := by
  intro t hs ht
  unfold step at ht
  split at ht
  next => exact keepsLine_idle s t hs ht
  next c rest _ => exact exec_keepsLine c { s with pending := rest } t ⟨hs.line, hs.held⟩ ht

/-- Settles O57: nearly every command keeps index, copy and line, and the others set the line anew. The law of the ring is not
needed for it. -/
theorem attentionLineFollowsTheIndices : Obligations.AttentionLineFollowsTheIndices := by
  unfold Obligations.AttentionLineFollowsTheIndices
  intro s t _ hs ht
  exact step_keepsLine s t hs ht

end Sys2Proof.Machine
end

section
/-! The card wait timer (R131, O39). What a frame made by the CTU does to the send list and to the link's queue is said once, by
`cardMoved`: a list of frames stands before the link, the first of them enter its queue, and the others are the send list. -/

namespace Sys2Proof.Machine

/-! ### The transmitter's queue -/

/-- A frame's kind and payload, as a unit makes them. -/
def TxFrame.made (f : TxFrame) : Byte × List Byte := (f.kind, f.payload)

/-- Starting the oldest frame gives it its SEQ and moves nothing in the queue (R64). -/
theorem Link.startTx_made (x : Link) : x.startTx.tx.map TxFrame.made = x.tx.map TxFrame.made := by
  unfold Link.startTx
  split
  next => rfl
  next f rest queue =>
    rw [queue]
    split
    next => rw [queue]
    next => rfl

theorem Link.startTx_state (x : Link) : x.startTx.state = x.state := by
  unfold Link.startTx
  split
  next => rfl
  next => split <;> rfl

theorem Link.push_made (x : Link) (kind : Byte) (payload : List Byte) :
    (x.push kind payload).tx.map TxFrame.made = x.tx.map TxFrame.made ++ [(kind, payload)] := by
  simp [Link.push, Link.startTx_made, TxFrame.made]

theorem Link.push_length (x : Link) (kind : Byte) (payload : List Byte) :
    (x.push kind payload).tx.length = x.tx.length + 1 := by
  simpa using congrArg List.length (x.push_made kind payload)

theorem Link.push_state (x : Link) (kind : Byte) (payload : List Byte) : (x.push kind payload).state = x.state :=
  Link.startTx_state _

/-! ### Frames before the card link -/

/-- How many more frames the card link takes: it takes them while it is UP and holds fewer than four (R64). -/
def cardRoom (s : State) : Nat := if (s.link .card).state = .up then 4 - (s.link .card).tx.length else 0

theorem linkTakes_card_iff (s : State) : linkTakes s .card = true ↔ cardRoom s ≠ 0 := by
  by_cases up : (s.link .card).state = .up
  · simp [linkTakes, cardRoom, up, Nat.sub_eq_zero_iff_le]
  · simp [linkTakes, cardRoom, up]

theorem cardRoom_linkSend {s : State} (kind : Byte) (payload : List Byte) :
    cardRoom (linkSend s .card kind payload) = cardRoom s - 1 := by
  simp only [cardRoom, linkSend_eq, State.link_setLink_same, Link.push_state, Link.push_length]
  split <;> omega

/-- Of the frames `fs` the first `n` have entered the card link's queue, and the send list holds the others; nothing else of the
CTU and of the other links has changed. -/
structure cardMoved (s t : State) (fs : List (Byte × List Byte)) (n : Nat) : Prop where
  queue : (t.link .card).tx.map TxFrame.made = (s.link .card).tx.map TxFrame.made ++ fs.take n
  ctu : t.ctu = { s.ctu with sendList := fs.drop n }
  links : ∀ l, l ≠ .card → t.link l = s.link l

/-- No frame enters the queue. -/
theorem cardMoved_none (s : State) (fs : List (Byte × List Byte)) :
    cardMoved s (s.setCtu { s.ctu with sendList := fs }) fs 0 :=
  ⟨(List.append_nil _).symm, rfl, fun _ _ => rfl⟩

/-- The link takes the oldest frame, and then others of the rest. -/
theorem cardMoved_next {s t : State} {f : Byte × List Byte} {fs : List (Byte × List Byte)} {n : Nat}
    (h : cardMoved (linkSend s .card f.1 f.2) t fs n) : cardMoved s t (f :: fs) (n + 1) where
  queue := by
    rw [h.queue, linkSend_eq, State.link_setLink_same, Link.push_made]
    simp
  ctu := h.ctu
  links := fun l hl => (h.links l hl).trans (State.link_setLink_other _ _ _ l hl)

/-- An offer of frames hands the link as many as it takes (R64, R128). -/
theorem offerCard_moves (s : State) (fs : List (Byte × List Byte)) : cardMoved s (offerCard s fs) fs (cardRoom s) := by
  induction fs generalizing s with
  | nil => exact ⟨by simp [offerCard, State.link], by simp [offerCard], fun _ _ => rfl⟩
  | cons f rest ih =>
    by_cases takes : linkTakes s .card = true
    · have room : cardRoom s = cardRoom (linkSend s .card f.1 f.2) + 1 := by
        have := (linkTakes_card_iff s).mp takes
        rw [cardRoom_linkSend]
        omega
      rw [room, offerCard, if_pos takes]
      exact cardMoved_next (ih (linkSend s .card f.1 f.2))
    · have full : cardRoom s = 0 := not_not.mp (mt (linkTakes_card_iff s).mpr takes)
      rw [full, offerCard, if_neg takes]
      exact cardMoved_none s (f :: rest)

/-- The frames that wait are offered, but not while the link has left UP without the CTU having been told (R128). -/
theorem cardOffers_moves (s : State) :
    cardMoved s (cardOffers s) s.ctu.sendList (if cardLeft s = true then 0 else cardRoom s) := by
  unfold cardOffers
  split
  next => exact cardMoved_none s s.ctu.sendList
  next => exact offerCard_moves s s.ctu.sendList

/-- A frame the CTU has made stands behind the send list; one that is alone there meets the link as it stands (R63, R64). -/
theorem cardSend_moves (s : State) (kind : Byte) (payload : List Byte) :
    cardMoved s (cardSend s kind payload) (s.ctu.sendList ++ [(kind, payload)])
      (if s.ctu.sendList ≠ [] ∧ cardLeft s = true then 0 else cardRoom s) := by
  by_cases alone : s.ctu.sendList = []
  · simpa [cardSend, alone] using offerCard_moves s [(kind, payload)]
  · have moved := cardOffers_moves (s.setCtu { s.ctu with sendList := s.ctu.sendList ++ [(kind, payload)] })
    simp only [cardSend, List.isEmpty_iff, alone, ne_eq, not_false_eq_true, true_and, if_false]
    exact ⟨moved.queue, moved.ctu, moved.links⟩

/-- A move of the made frame and those before it is what `cardHanded` says. -/
theorem cardHanded_of_moved {s t : State} {frame : Byte × List Byte}
    (h : cardMoved s t (s.ctu.sendList ++ [frame])
      (if s.ctu.sendList ≠ [] ∧ cardLeft s = true then 0 else cardRoom s)) : cardHanded s t frame := by
  refine ⟨_, ?room, h.queue, congrArg Ctu.sendList h.ctu⟩
  by_cases up : (s.link .card).state = .up
  · simp [cardRoom, up]
  · simp [cardRoom, up]

/-! ### Cancelling (R130, R131) -/

/-- The session record is asked for. -/
theorem askedFor_askCardSession (s : State) (ofRequest : Bool) : askedFor (askCardSession s ofRequest) .ctu .cardSession :=
  askedFor_of_bi (askedFor_askFixed (List.mem_singleton_self _)) rfl

/-- After the CANCEL_REQ only the CTU's timers and tender, the claim and the ask for a window follow: the links are as the frame
left them. -/
theorem cancelTender_link (s : State) (o : OutTender) (ofRequest : Bool) (l : LinkId) :
    (cancelTender s o ofRequest).link l = (cardSend s kCancelReq (le2 o.reference)).link l := rfl

theorem cancelTender_ctu (s : State) (o : OutTender) (ofRequest : Bool) :
    (cancelTender s o ofRequest).ctu = { s.ctu with
      cardWait := none, cancelWait := startTimer s ((cfg s).cancelWait * 1000)
      out := some { o with state := .cancelling }, sendList := (cardSend s kCancelReq (le2 o.reference)).ctu.sendList } := by
  have sent := (cardSend_moves s kCancelReq (le2 o.reference)).ctu
  simp [cancelTender, sent, startTimer, cfg]

theorem cancelTender_su (s : State) (o : OutTender) (ofRequest : Bool) :
    (cancelTender s o ofRequest).su
      = { s.su with inbox := s.su.inbox ++ [.tender (stateMove o .cancelling) ofRequest] } := by
  simp [cancelTender, suSend]

theorem cancelTender_links_other (s : State) (o : OutTender) (ofRequest : Bool) (l : LinkId) (hl : l ≠ .card) :
    (cancelTender s o ofRequest).link l = s.link l :=
  (cancelTender_link s o ofRequest l).trans ((cardSend_moves s kCancelReq (le2 o.reference)).links l hl)

theorem cancelTender_handed (s : State) (o : OutTender) (ofRequest : Bool) :
    cardHanded s (cancelTender s o ofRequest) (kCancelReq, le2 o.reference) := by
  obtain ⟨n, room, queue, waits⟩ := cardHanded_of_moved (cardSend_moves s kCancelReq (le2 o.reference))
  exact ⟨n, room, by rw [cancelTender_link]; exact queue, by rw [cancelTender_ctu]; exact waits⟩

theorem cancelTender_asked (s : State) (o : OutTender) (ofRequest : Bool) :
    askedFor (cancelTender s o ofRequest) .ctu .cardSession := askedFor_askCardSession _ _

/-! ### The expiry -/

theorem outIn_of_state {s : State} {o : OutTender} {st : TenderState} (out : s.ctu.out = some o) (state : o.state = st) :
    outIn s st = some o := by
  simp [outIn, out, state]

theorem cardWaitExpired_requested {s : State} {o : OutTender} (out : s.ctu.out = some o) (state : o.state = .requested) :
    cardWaitExpired s = cancelTender s o false := by
  simp [cardWaitExpired, outIn_of_state out state]

/-- A step that is enabled while RESET_N is high happens. -/
theorem stepIf_enabled {s t : State} {enabled : Bool} (high : s.bi.inReset = false) (h : enabled = true) :
    stepIf s enabled t = .next t := by
  simp [stepIf, high, h]

/-- The expiry on a REQUESTED tender cancels it, and then the notices whose turn has come are taken (R131, R128). -/
theorem exec_cardWaitExpiry_requested {s : State} {o : OutTender} (high : s.bi.inReset = false)
    (due : timerDue s s.ctu.cardWait = true) (turn : unitTakes s .ctu (.timer .cardWait) = true)
    (out : s.ctu.out = some o) (state : o.state = .requested) :
    exec .cardWaitExpiry s = .next (cardNotices (cancelTender s o false)) := by
  rw [← cardWaitExpired_requested out state]
  exact stepIf_enabled high (by simp [due, turn])

/-- Settles O39: the expiry is `cancelTender` with a claim of no request, and no notice waits to be taken after it. -/
theorem cardWaitExpiryCancels : Obligations.CardWaitExpiryCancels := by
  unfold Obligations.CardWaitExpiryCancels
  intro s o high due turn out state noNotice
  refine ⟨cancelTender s o false, ?step, ?ctu, cancelTender_su s o false, cancelTender_handed s o false,
    cancelTender_links_other s o false, cancelTender_asked s o false, by simp, by simp,
    cancelTender_frame s o false (.refl _ s) (by decide) (by decide)⟩
  case step =>
    have none_waits : (cancelTender s o false).ctu.notices = 0 := by rw [cancelTender_ctu]; exact noNotice
    rw [exec_cardWaitExpiry_requested high due turn out state, cardNotices_none _ (.inl none_waits)]
  case ctu => rw [cancelTender_ctu]

end Sys2Proof.Machine
end

section
/-! What every event of a unit keeps (O2, O55-O60). A law of the part is a predicate `P` on states; `Stable bs P` says that the
primitive moves of an event keep it: windows asked, a raise, a claim sent, a frame queued or taken, the end of a request, and a
change of one of the blocks `bs`. Each operation of the units is composed of these moves, which is said once for every `P`
(`_stable`); each law is then settled by the primitive moves alone. -/

namespace Sys2Proof.Machine

/-! ### The primitive moves -/

/-- No kick follows. -/
def noKick (as : List After) : Prop := ∀ c, After.kick c ∉ as

/-- The windows `new` owe no kick that those of `old` do not owe, and one of a request stays one of a request. -/
def kicksKept (old new : List WindowAsk) : Prop :=
  ∀ w ∈ new, ∀ c, After.kick c ∈ w.after → ∃ v ∈ old, After.kick c ∈ v.after ∧ (v.ofRequest = true → w.ofRequest = true)

/-- How many frames wait in a link's receive buffer (R63). -/
def Link.buffered (x : Link) : Nat := (x.path.filter PathItem.isFrame).length

/-- The till has not come nearer to a kick: the pulse and its timer agree, KICKING and a pulse stand only where they stood, and a
pulse goes on only with its drawer (R28, R140, R141). -/
structure tillCalmer (s : State) (v : Tu) : Prop where
  pulse : (s.tu.solenoid = true ↔ s.tu.width ≠ none) → (v.solenoid = true ↔ v.width ≠ none)
  drawer : v.drawer = .kicking → s.tu.drawer = .kicking
  solenoid : v.solenoid = true → s.tu.solenoid = true ∧
    (v.drawer = s.tu.drawer ∨ s.tu.drawer ≠ .kicking ∨ s.re.device = .unconfigured)

/-- A pulse may start: a request other than the Request Engine's own is in execution, or a kick is in progress and no reset is being
applied (R141, R147-R149). -/
def kickAllowed (s : State) : Prop :=
  (s.re.phase = .executing ∧ s.re.outcome = none ∧ recKind s.re.record ≠ some .setupCommit
      ∧ recKind s.re.record ≠ some .laneReset)
    ∨ (s.tu.drawer = .kicking ∧ s.re.resetting = [])

/-- The tables of the sale keep their sizes, and a consume claim stands only where it stood, with no line added (R95, R97, R103). -/
structure suOrderly (u v : Su) : Prop where
  lines : u.lines.length ≤ 96 → v.lines.length ≤ 96
  tenders : u.tenders.length ≤ 8 → v.tenders.length ≤ 8
  claim : v.claim ≠ none → v.claim = u.claim ∧ v.lines.length ≤ u.lines.length

theorem suOrderly_of_eq {u v : Su} (lines : v.lines = u.lines) (tenders : v.tenders = u.tenders) (claim : v.claim = u.claim) :
    suOrderly u v where
  lines := by simp [lines]
  tenders := by simp [tenders]
  claim _ := ⟨claim, by simp [lines]⟩

/-- A line joins: ITEM_ADD has found an entry free, or ITEM_WEIGH takes the one its claim has kept free (R101, R103). -/
structure lineJoins (s : State) (v : Su) : Prop where
  lines : v.lines.length = s.su.lines.length + 1
  tenders : v.tenders = s.su.tenders
  claim : (s.su.lines.length < 96 ∧ recKind s.re.record = some .itemAdd ∧ v.claim = s.su.claim)
    ∨ (s.su.claim ≠ none ∧ v.claim = none)

/-- The list of verdicts keeps its size (R124). -/
def verdictsKept (u v : Ctu) : Prop := u.verdicts.length ≤ 8 → v.verdicts.length ≤ 8

/-- Credits and frames in flight keep within 16, and a frame made finds a place on the flight list (R153). -/
def Pu.flightFits (u : Pu) : Prop := u.credits + u.flight.length ≤ 16 ∧ (u.ready ≠ none → u.flight.length < 16)

/-- There are 8 job entries, and the owner is none beyond them (R161, R162). -/
def Pu.jobsFit (u : Pu) : Prop := u.jobs.length = 8 ∧ ∀ j, u.owner = .job j → j < 8

/-- The Print Unit keeps within its sizes. -/
structure puOrderly (u v : Pu) : Prop where
  flight : u.flightFits → v.flightFits
  jobs : u.jobsFit → v.jobsFit

/-- The primitive moves of an event that changes at most the blocks `bs` as a whole keep `P`. -/
structure Stable (bs : List BlockId) (P : State → Prop) : Prop where
  setFree : ∀ {s} x, P s → P (s.setFree x)
  setArrivals : ∀ {s} x, P s → P (s.setArrivals x)
  asks : ∀ {s} x, P s → kicksKept s.bi.waiting x.waiting →
    x = { s.bi with waiting := x.waiting, nextWindow := x.nextWindow, nextGroup := x.nextGroup } → P (s.setBi x)
  raise : ∀ {s} k n, P s → P (raise s k n)
  inbox : ∀ {s} x, P s → P (s.setSu { s.su with inbox := x })
  link : ∀ {s} l x, P s → x.buffered ≤ (s.link l).buffered → P (s.setLink l x)
  deliver : ∀ {s} l kind payload gap, P s → P (deliver s l kind payload gap)
  finish : .re ∈ bs → ∀ {s} r d1 d2, P s → P (finishRequest s r d1 d2)
  clock : .re ∈ bs → ∀ {s} x, P s → P (s.setRe { s.re with clock := x })
  engine : .bi ∈ bs → ∀ {s} x, P s → P (s.setBi { s.bi with engine := x })
  pwu : .pwu ∈ bs → ∀ {s} x, P s → P (s.setPwu x)
  bwu : .bwu ∈ bs → ∀ {s} x, P s → P (s.setBwu x)
  su : .su ∈ bs → ∀ {s} x, P s → (∀ e, x.event = some e → s.su.event = some e ∨ noKick e.after) →
    suOrderly s.su x → P (s.setSu x)
  grow : .re ∈ bs → .su ∈ bs → ∀ {s} x, P s → (∀ e, x.event = some e → s.su.event = some e ∨ noKick e.after) →
    lineJoins s x → P (s.setSu x)
  claim : .re ∈ bs → .su ∈ bs → ∀ {s} a, P s → s.su.lines.length < 96 → recKind s.re.record = some .itemWeigh →
    P (s.setSu { s.su with claim := some a })
  ctu : .ctu ∈ bs → ∀ {s} x, P s → verdictsKept s.ctu x → P (s.setCtu x)
  till : .tu ∈ bs → ∀ {s} x, P s → tillCalmer s x → P (s.setTu x)
  kick : .tu ∈ bs → ∀ {s} cause n, P s → kickAllowed s →
    P (s.setTu (startPulse s { s.tu with drawer := .kicking, cause := cause, attempts := n }))
  cash : .su ∈ bs → ∀ {s} new words, P s → s.re.phase = .executing → s.re.outcome = none →
    recKind s.re.record = some .cashTender → new.event = s.su.event → suOrderly s.su new →
    P (suWrite s new words [.kick .cash] true)
  pu : .pu ∈ bs → ∀ {s} x, P s → puOrderly s.pu x → P (s.setPu x)
  ju : .ju ∈ bs → ∀ {s} x, P s → P (s.setJu x)

theorem noKick_nil : noKick [] := fun _ => List.not_mem_nil

theorem kicksKept_refl (ws : List WindowAsk) : kicksKept ws ws := fun w hw _ hk => ⟨w, hw, hk, id⟩

theorem kicksKept_append {ws : List WindowAsk} {w : WindowAsk} (h : noKick w.after) : kicksKept ws (ws ++ [w]) := by
  intro v hv c hk
  obtain old | rfl := List.mem_append.mp hv |>.imp_right List.mem_singleton.mp
  · exact ⟨v, old, hk, id⟩
  · exact absurd hk (h c)

/-- Windows rewritten one by one, with what follows them as before. -/
theorem kicksKept_map {ws : List WindowAsk} {f : WindowAsk → WindowAsk}
    (h : ∀ w, (f w).after = w.after ∧ (w.ofRequest = true → (f w).ofRequest = true)) : kicksKept ws (ws.map f) := by
  intro v hv c hk
  obtain ⟨w, hw, rfl⟩ := List.mem_map.mp hv
  exact ⟨w, hw, (h w).1 ▸ hk, (h w).2⟩

theorem kicksKept_gatherInto {ws : List WindowAsk} {owner : BlockId} {sections : List LaneSection} {live : List LiveBlock}
    {after : List After} {ofRequest : Bool} (h : noKick after) :
    kicksKept ws (gatherInto owner sections live after ofRequest ws) := by
  induction ws with
  | nil => exact kicksKept_refl []
  | cons w rest ih =>
    intro v hv c hk
    unfold gatherInto at hv
    split at hv
    · obtain rfl | old := List.mem_cons.mp hv
      · have kept : After.kick c ∈ w.after := (List.mem_append.mp hk).resolve_right (h c)
        exact ⟨w, List.mem_cons_self, kept, fun q => by simp [q]⟩
      · exact ⟨v, List.mem_cons_of_mem _ old, hk, id⟩
    · obtain rfl | old := List.mem_cons.mp hv
      · exact ⟨v, List.mem_cons_self, hk, id⟩
      · obtain ⟨u, hu, kept, ofReq⟩ := ih v old c hk
        exact ⟨u, List.mem_cons_of_mem _ hu, kept, ofReq⟩

theorem if_keeps {P : State → Prop} {c : Prop} [Decidable c] {s t : State} (hs : P s) (ht : P t) : P (if c then s else t) := by
  split
  · exact hs
  · exact ht

section
variable {bs : List BlockId} {P : State → Prop} {s : State}

/-! ### Windows asked -/

theorem askWindow_stable (hP : Stable bs P) {owner : BlockId} {sections : List LaneSection} {fixed : List (Nat × Word)}
    {live : List LiveBlock} {after : List After} {ofRequest : Bool} (calm : noKick after) (h : P s) :
    P (askWindow s owner sections fixed live after ofRequest) :=
  hP.asks _ h (kicksKept_append calm) rfl

theorem askFixed_stable (hP : Stable bs P) {owner : BlockId} {sections : List LaneSection} {fixed : List (Nat × Word)}
    {after : List After} {ofRequest : Bool} (calm : noKick after) (h : P s) :
    P (askFixed s owner sections fixed after ofRequest) := askWindow_stable hP calm h

theorem askLiveAfter_stable (hP : Stable bs P) {owner : BlockId} {sections : List LaneSection} {live : List LiveBlock}
    {after : List After} {ofRequest : Bool} (calm : noKick after) (h : P s) :
    P (askLiveAfter s owner sections live after ofRequest) := by
  unfold askLiveAfter
  split
  · exact hP.asks _ h (kicksKept_gatherInto calm) rfl
  · exact askWindow_stable hP calm h

theorem askLive_stable (hP : Stable bs P) {owner : BlockId} {sections : List LaneSection} {live : List LiveBlock}
    {ofRequest : Bool} (h : P s) : P (askLive s owner sections live ofRequest) := askLiveAfter_stable hP noKick_nil h

theorem freezeWaiting_stable (hP : Stable bs P) {old : State} {owner : BlockId} (h : P s) : P (freezeWaiting old s owner) :=
  hP.asks _ h (kicksKept_map fun w => by split <;> exact ⟨rfl, id⟩) rfl

theorem askPwuLive_stable (hP : Stable bs P) {old : State} {sections : List LaneSection} {live : List LiveBlock}
    {after : List After} {ofRequest : Bool} (calm : noKick after) (h : P s) :
    P (askPwuLive old s sections live after ofRequest) := by
  unfold askPwuLive
  split
  · exact askLiveAfter_stable hP calm h
  · exact askLiveAfter_stable hP calm (freezeWaiting_stable hP h)

theorem tieAsks_stable (hP : Stable bs P) {start : Nat} (h : P s) : P (tieAsks s start) :=
  hP.asks _ h (kicksKept_map fun w => by split <;> exact ⟨rfl, id⟩) rfl

theorem markCommit_stable (hP : Stable bs P) {start : Nat} (h : P s) : P (markCommit s start) :=
  hP.asks _ h (kicksKept_map fun w => by split <;> simp) rfl

theorem askJuStatus_stable (hP : Stable bs P) {ofRequest : Bool} (h : P s) : P (askJuStatus s ofRequest) :=
  askFixed_stable hP noKick_nil h

theorem askPu_stable (hP : Stable bs P) {old : Pu} {ofRequest : Bool} (h : P s) : P (askPu old s ofRequest) :=
  askFixed_stable hP noKick_nil h

theorem askCardSession_stable (hP : Stable bs P) {ofRequest : Bool} (h : P s) : P (askCardSession s ofRequest) :=
  hP.setFree _ (askFixed_stable hP noKick_nil h)

/-! ### Arrivals -/

theorem arriveAll_stable (hP : Stable bs P) {es : List (BlockId × UnitEvent)} (h : P s) : P (arriveAll s es) :=
  hP.setArrivals _ h

theorem arrive_stable (hP : Stable bs P) {b : BlockId} {e : UnitEvent} (h : P s) : P (arrive s b e) := hP.setArrivals _ h

/-! ### Links -/

/-- A change of a link that leaves its path alone. -/
theorem setLink_stable (hP : Stable bs P) {l : LinkId} {x : Link} (path : x.path = (s.link l).path) (h : P s) :
    P (s.setLink l x) := hP.link l x h (by simp [Link.buffered, path])

theorem linkError_stable (hP : Stable bs P) {l : LinkId} {kind : ErrorKind} {place : RxField × Nat} (h : P s) :
    P (linkError s l kind place) := askLive_stable hP (setLink_stable hP rfl h)

theorem Link.startTx_path (x : Link) : x.startTx.path = x.path := by
  unfold Link.startTx
  split
  next => rfl
  next => split <;> rfl

theorem linkSend_stable (hP : Stable bs P) {l : LinkId} {kind : Byte} {payload : List Byte} (h : P s) :
    P (linkSend s l kind payload) := setLink_stable hP (Link.startTx_path _) h

theorem queueHello_stable (hP : Stable bs P) {l : LinkId} (h : P s) : P (queueHello s l) := by
  unfold queueHello
  dsimp only
  split
  · exact h
  · exact setLink_stable hP (Link.startTx_path _) h

theorem startSilence_stable (hP : Stable bs P) {l : LinkId} (h : P s) : P (startSilence s l) := setLink_stable hP rfl h

theorem changeLink_stable (hP : Stable bs P) {l : LinkId} {new : LinkState} {reason : LinkReason} (h : P s) :
    P (changeLink s l new reason) :=
  askLive_stable hP (hP.raise _ _ (hP.link _ _ (arrive_stable hP h) (by simp [Link.buffered, PathItem.isFrame])))

theorem enterUnseen_stable (hP : Stable bs P) {l : LinkId} {reason : LinkReason} (h : P s) : P (enterUnseen s l reason) :=
  queueHello_stable hP (startSilence_stable hP (changeLink_stable hP (setLink_stable hP rfl h)))

theorem enterDown_stable (hP : Stable bs P) {l : LinkId} {reason : LinkReason} (h : P s) : P (enterDown s l reason) :=
  queueHello_stable hP (startSilence_stable hP (changeLink_stable hP (setLink_stable hP rfl h)))

theorem enterMismatch_stable (hP : Stable bs P) {l : LinkId} (h : P s) : P (enterMismatch s l) :=
  changeLink_stable hP (setLink_stable hP rfl h)

theorem enterUp_stable (hP : Stable bs P) {l : LinkId} {reason : LinkReason} (h : P s) : P (enterUp s l reason) := by
  unfold enterUp
  dsimp only
  split
  · exact startSilence_stable hP (changeLink_stable hP h)
  · exact changeLink_stable hP h

theorem badAttempt_stable (hP : Stable bs P) {l : LinkId} {kind : ErrorKind} {place : RxField × Nat} (h : P s) :
    P (badAttempt s l kind place) :=
  if_keeps (enterDown_stable hP (setLink_stable hP rfl (linkError_stable hP h)))
    (setLink_stable hP rfl (linkError_stable hP h))

theorem takeIdent_stable (hP : Stable bs P) {l : LinkId} {device : Byte} (h : P s) : P (takeIdent s l device) := by
  have known : P (askLinkStatus (s.setLink l { s.link l with identKind := device }) l false) :=
    askLive_stable hP (setLink_stable hP rfl h)
  exact if_keeps (if_keeps (enterUp_stable hP (setLink_stable hP rfl known)) (setLink_stable hP rfl known))
    (if_keeps (enterMismatch_stable hP known) known)

theorem takeFrame_stable (hP : Stable bs P) {l : LinkId} {kind : Byte} {payload : List Byte} {gap : Bool} (h : P s) :
    P (takeFrame s l kind payload gap) :=
  if_keeps (hP.deliver _ _ _ _ h) (if_keeps (hP.deliver _ _ _ _ (enterUp_stable hP h)) h)

theorem acceptFrame_stable (hP : Stable bs P) {l : LinkId} {kind seq : Byte} {payload : List Byte} (h : P s) :
    P (acceptFrame s l kind seq payload) := by
  have fresh : P (s.setLink l { s.link l with badRun := 0 }) := setLink_stable hP rfl h
  exact if_keeps (takeIdent_stable hP (setLink_stable hP rfl (if_keeps (startSilence_stable hP fresh) fresh)))
    (takeFrame_stable hP (if_keeps
      (askLive_stable hP (setLink_stable hP rfl (if_keeps (startSilence_stable hP fresh) fresh)))
      (setLink_stable hP rfl (if_keeps (startSilence_stable hP fresh) fresh))))

theorem scan_stable (hP : Stable bs P) {l : LinkId} (held : List Byte) (skip : Nat) {s : State} (h : P s) :
    P (scan s l skip held) := by
  induction held generalizing s skip with
  | nil => exact setLink_stable hP rfl h
  | cons b rest ih =>
    unfold scan
    split
    · exact ih _ h
    · split
      · exact ih _ h
      · split
        · exact setLink_stable hP rfl h
        · exact ih _ (badAttempt_stable hP h)
        · exact ih _ (acceptFrame_stable hP h)

theorem popPath_stable (hP : Stable bs P) {l : LinkId} (h : P s) : P (popPath s l) := by
  refine hP.link _ _ h ?_
  exact (((s.link l).path.tail_sublist).filter _).length_le

theorem rxCharacter_stable (hP : Stable bs P) {l : LinkId} {char : Byte} {stopHigh : Bool} (h : P s) :
    P (rxCharacter s l char stopHigh) := by
  unfold rxCharacter
  dsimp only
  split
  · exact scan_stable hP _ _ (setLink_stable hP rfl h)
  · exact setLink_stable hP rfl (setLink_stable hP rfl h)

theorem failAttempt_stable (hP : Stable bs P) {l : LinkId} {kind : ErrorKind} {held : List Byte} (h : P s) :
    P (failAttempt s l kind held) := scan_stable hP _ _ (badAttempt_stable hP h)

theorem lineRise_stable (hP : Stable bs P) {l : LinkId} (h : P s) : P (lineRise s l) := by
  unfold lineRise
  dsimp only
  split
  · exact failAttempt_stable hP (setLink_stable hP rfl h)
  · exact linkError_stable hP (setLink_stable hP rfl h)

theorem gapTimeout_stable (hP : Stable bs P) {l : LinkId} (h : P s) : P (gapTimeout s l) := by
  unfold gapTimeout
  split
  · exact failAttempt_stable hP h
  · exact h

theorem breakDetected_stable (hP : Stable bs P) {l : LinkId} (h : P s) : P (breakDetected s l) := by
  unfold breakDetected
  dsimp only
  split
  · exact enterDown_stable hP (setLink_stable hP rfl (linkError_stable hP h))
  · exact setLink_stable hP rfl (linkError_stable hP h)

theorem breakLineHigh_stable (hP : Stable bs P) {l : LinkId} (h : P s) : P (breakLineHigh s l) := setLink_stable hP rfl h

theorem silenceExpired_stable (hP : Stable bs P) {l : LinkId} (h : P s) : P (silenceExpired s l) := by
  unfold silenceExpired
  split
  · exact enterDown_stable hP h
  · exact enterDown_stable hP h
  · exact startSilence_stable hP (queueHello_stable hP h)
  · exact h

end

end Sys2Proof.Machine
end

section
/-! Events of the weigh units and of the Sale Unit, as compositions of the primitive moves. -/

namespace Sys2Proof.Machine

section
variable {bs : List BlockId} {P : State → Prop} {s : State}

/-! ### The platter -/

theorem askPwu_stable (hP : Stable bs P) {old : State} {slot : Option Nat} {ofRequest : Bool} (h : P s) :
    P (askPwu old s slot ofRequest) := by
  cases slot with
  | none => exact askPwuLive_stable hP noKick_nil h
  | some k => exact askPwuLive_stable hP noKick_nil h

theorem staleCurrent_stable (hP : Stable bs P) {old : State} {u : Pwu} {ofRequest : Bool} (hb : .pwu ∈ bs) (h : P s) :
    P (staleCurrent old s u ofRequest) :=
  if_keeps (askPwu_stable hP (hP.raise _ _ (hP.pwu hb _ h))) (askPwu_stable hP (hP.pwu hb _ h))

theorem offsetChanged_stable (hP : Stable bs P) {u : Pwu} {ofRequest : Bool} (hb : .pwu ∈ bs) (h : P s) :
    P (offsetChanged s u ofRequest) := hP.pwu hb _ (staleCurrent_stable hP hb h)

theorem platterSample_stable (hP : Stable bs P) {payload : List Byte} {gap : Bool} (hb : .pwu ∈ bs) (h : P s) :
    P (platterSample s payload gap) := by
  have sampled (u : Pwu) : P ((popPath s .platter).setPwu u) := hP.pwu hb u (popPath_stable hP h)
  unfold platterSample
  dsimp only
  split
  · exact askPwu_stable hP (hP.raise _ _ (if_keeps (hP.raise _ _ (sampled _)) (sampled _)))
  · exact askPwu_stable hP (hP.raise _ _ (if_keeps (hP.raise _ _ (sampled _)) (sampled _)))
  · exact askPwu_stable hP (if_keeps (hP.raise _ _ (sampled _)) (sampled _))

theorem platterLinkChange_stable (hP : Stable bs P) {old new : LinkState} (hb : .pwu ∈ bs) (h : P s) :
    P (platterLinkChange s old new) :=
  have popped := popPath_stable (l := .platter) hP h
  if_keeps popped (if_keeps (askPwu_stable hP (hP.pwu hb _ popped)) (if_keeps (staleCurrent_stable hP hb popped) popped))

theorem zeroTracked_stable (hP : Stable bs P) (hb : .pwu ∈ bs) (h : P s) : P (zeroTracked s) := by
  unfold zeroTracked
  exact askPwu_stable hP (hP.pwu hb _ h)

theorem failRequest_stable (hP : Stable bs P) {r : ResultCode} (hr : .re ∈ bs) (h : P s) : P (failRequest s r) :=
  hP.finish hr _ _ _ h

theorem scaleZero_stable (hP : Stable bs P) (hr : .re ∈ bs) (hb : .pwu ∈ bs) (h : P s) : P (scaleZero s) :=
  have failed (r : ResultCode) : P (failRequest s r) := failRequest_stable hP hr h
  if_keeps (failed _) (if_keeps (failed _) (if_keeps (failed _) (if_keeps (failed _) (if_keeps (failed _)
    (hP.finish hr _ _ _ (offsetChanged_stable hP hb h))))))

theorem setTare_stable (hP : Stable bs P) {tare : Int} (hr : .re ∈ bs) (hb : .pwu ∈ bs) (h : P s) : P (setTare s tare) :=
  hP.finish hr _ _ _ (if_keeps (askPwu_stable hP h) (offsetChanged_stable hP hb h))

theorem scaleTare_stable (hP : Stable bs P) (hr : .re ∈ bs) (hb : .pwu ∈ bs) (h : P s) : P (scaleTare s) := by
  have failed (r : ResultCode) : P (failRequest s r) := failRequest_stable hP hr h
  unfold scaleTare
  dsimp only
  split
  · exact if_keeps (failed _) (if_keeps (failed _) (if_keeps (failed _) (if_keeps (failed _) (setTare_stable hP hr hb h))))
  · exact if_keeps (failed _) (if_keeps (failed _) (if_keeps (failed _) (if_keeps (failed _) (setTare_stable hP hr hb h))))

theorem tareClear_stable (hP : Stable bs P) (hr : .re ∈ bs) (hb : .pwu ∈ bs) (h : P s) : P (tareClear s) :=
  if_keeps (failRequest_stable hP hr h)
    (if_keeps (hP.finish hr _ _ _ h) (hP.finish hr _ _ _ (offsetChanged_stable hP hb h)))

/-! ### The window of an event of the SU -/

/-- The event of the SU in hand owes no kick. -/
def eventCalm (s : State) : Prop := ∀ e, s.su.event = some e → noKick e.after

theorem noKick_append {as : List After} {a : After} (h : noKick as) (ha : ∀ c, a ≠ .kick c) : noKick (as ++ [a]) := by
  intro c hc
  obtain old | new := List.mem_append.mp hc
  · exact h c old
  · exact ha c (List.mem_singleton.mp new).symm

theorem suAskWindow_stable (hP : Stable bs P) (calm : eventCalm s) (h : P s) : P (suAskWindow s) := by
  unfold suAskWindow
  split
  next e he => exact askFixed_stable hP (noKick_append (calm e he) (fun _ => nofun)) h
  next => exact h

theorem suDecide_stable (hP : Stable bs P) {new : Su} {words : List (Nat × Word)} {after : List After} {ofRequest : Bool}
    (hb : .su ∈ bs) (calm : noKick after) (h : P s) (orderly : suOrderly s.su new) :
    P (suDecide s new words after ofRequest) :=
  hP.su hb _ h (by rintro e ⟨⟩; exact .inr calm) { orderly with }

/-- An event that adds a line. -/
theorem suDecide_grows (hP : Stable bs P) {new : Su} {words : List (Nat × Word)} {after : List After} {ofRequest : Bool}
    (hr : .re ∈ bs) (hb : .su ∈ bs) (calm : noKick after) (joins : lineJoins s new) (h : P s) :
    P (suDecide s new words after ofRequest) :=
  hP.grow hr hb _ h (by rintro e ⟨⟩; exact .inr calm) { joins with }

theorem lineJoins_congr {s t : State} {v : Su} (su : t.su = s.su) (re : t.re = s.re) (h : lineJoins s v) : lineJoins t v := by
  constructor
  · rw [su]
    exact h.lines
  · rw [su]
    exact h.tenders
  · rw [su, re]
    exact h.claim

theorem suDecide_calm {new : Su} {words : List (Nat × Word)} {after : List After} {ofRequest : Bool}
    (calm : noKick after) : eventCalm (suDecide s new words after ofRequest) := by
  rintro e ⟨⟩
  exact calm

theorem suWrite_stable (hP : Stable bs P) {new : Su} {words : List (Nat × Word)} {after : List After} {ofRequest : Bool}
    (hb : .su ∈ bs) (calm : noKick after) (h : P s) (orderly : suOrderly s.su new) :
    P (suWrite s new words after ofRequest) :=
  suAskWindow_stable hP (suDecide_calm calm) (suDecide_stable hP hb calm h orderly)

theorem moveTender_orderly (u : Su) (m : TenderMove) (clock : Word) : suOrderly u (u.moveTender m clock) := by
  unfold Su.moveTender
  split
  next => exact ⟨id, fun fits => by simpa [Su.afterTender] using fits, fun _ => ⟨rfl, Nat.le_refl _⟩⟩
  next => exact ⟨id, id, fun _ => ⟨rfl, Nat.le_refl _⟩⟩

theorem suMoveTender_stable (hP : Stable bs P) {m : TenderMove} {ofRequest : Bool} (hb : .su ∈ bs) (h : P s) :
    P (suMoveTender s m ofRequest) := suWrite_stable hP hb noKick_nil h (moveTender_orderly _ _ _)

/-- The lines named by a claim move one by one. -/
theorem length_moveNamed (lines : List SaleLine) (named : List NamedLine) (item : BagStatus) :
    (moveNamed lines named item).length = lines.length := by
  unfold moveNamed
  induction named generalizing lines with
  | nil => rfl
  | cons n rest ih =>
    rw [List.foldl_cons, ih]
    split
    · split <;> simp
    · rfl

/-- A change of the lines one by one. -/
theorem suOrderly_lines {u v : Su} (lines : v.lines.length = u.lines.length) (tenders : v.tenders = u.tenders)
    (claim : v.claim = u.claim) : suOrderly u v where
  lines := lines ▸ id
  tenders := tenders ▸ id
  claim _ := ⟨claim, lines.le⟩

theorem suBagClaim_stable (hP : Stable bs P) {new : Su} {ofRequest : Bool} (hb : .su ∈ bs) (h : P s)
    (orderly : suOrderly s.su new) : P (suBagClaim s new ofRequest) :=
  if_keeps (suWrite_stable hP hb noKick_nil h orderly) h

theorem suPop_stable (hP : Stable bs P) (h : P s) : P (suPop s) := hP.inbox _ h

theorem suSend_stable (hP : Stable bs P) {x : SaleItem} (h : P s) : P (suSend s x) := hP.inbox _ h

theorem suFail_stable (hP : Stable bs P) {r : ResultCode} (hr : .re ∈ bs) (h : P s) : P (suFail s r) :=
  failRequest_stable hP hr (suPop_stable hP h)

/-! ### The bag -/

theorem setHold_stable (hP : Stable bs P) {reason : HoldReason} (hb : .bwu ∈ bs) (h : P s) : P (setHold s reason) :=
  suSend_stable hP (hP.raise _ _ (hP.bwu hb _ h))

theorem clearHold_stable (hP : Stable bs P) {reason : ClearReason} {named : List NamedLine} (hb : .bwu ∈ bs) (h : P s) :
    P (clearHold s reason named) := suSend_stable hP (hP.raise _ _ (hP.bwu hb _ h))

theorem judgeClear_stable (hP : Stable bs P) {d : Int} (hb : .bwu ∈ bs) (h : P s) : P (judgeClear s d) := by
  unfold judgeClear
  dsimp only
  split
  · exact suSend_stable hP (hP.bwu hb _ h)
  · exact if_keeps h (setHold_stable hP hb h)

theorem judgeHeld_stable (hP : Stable bs P) {d : Int} (hb : .bwu ∈ bs) (h : P s) : P (judgeHeld s d) := by
  unfold judgeHeld
  dsimp only
  split
  · exact clearHold_stable hP hb h
  · split
    · exact clearHold_stable hP hb (hP.bwu hb _ h)
    · exact setHold_stable hP hb h

theorem judgeSettlement_stable (hP : Stable bs P) (hb : .bwu ∈ bs) (h : P s) : P (judgeSettlement s) :=
  if_keeps (if_keeps (judgeHeld_stable hP hb (hP.bwu hb _ h)) (judgeClear_stable hP hb (hP.bwu hb _ h))) h

theorem askBwuStatus_stable (hP : Stable bs P) {ofRequest : Bool} (h : P s) : P (askBwuStatus s ofRequest) :=
  askLive_stable hP h

theorem bagSample_stable (hP : Stable bs P) {payload : List Byte} {gap : Bool} (hb : .bwu ∈ bs) (h : P s) :
    P (bagSample s payload gap) := by
  have sampled (u : Bwu) : P ((popPath s .bag).setBwu u) := hP.bwu hb u (popPath_stable hP h)
  exact askBwuStatus_stable hP (if_keeps
    (judgeSettlement_stable hP hb (if_keeps (hP.raise _ _ (sampled _)) (sampled _)))
    (if_keeps (hP.raise _ _ (sampled _)) (sampled _)))

theorem bagLinkChange_stable (hP : Stable bs P) {old new : LinkState} (hb : .bwu ∈ bs) (h : P s) :
    P (bagLinkChange s old new) := by
  have popped : P (popPath s .bag) := popPath_stable hP h
  exact if_keeps
    (askBwuStatus_stable hP (if_keeps (setHold_stable hP hb (hP.bwu hb _ popped)) (hP.bwu hb _ popped)))
    (if_keeps (askBwuStatus_stable hP (hP.bwu hb _ popped)) popped)

theorem bagWaitExpired_stable (hP : Stable bs P) (hb : .bwu ∈ bs) (h : P s) : P (bagWaitExpired s) :=
  askBwuStatus_stable hP (if_keeps (setHold_stable hP hb (hP.bwu hb _ h)) (hP.bwu hb _ h))

theorem bagSaleOpened_stable (hP : Stable bs P) {mode : SaleMode} {baseline : Int} (hb : .bwu ∈ bs) (h : P s) :
    P (bagSaleOpened s mode baseline) := askBwuStatus_stable hP (hP.bwu hb _ h)

theorem bagSaleClosing_stable (hP : Stable bs P) (hb : .bwu ∈ bs) (h : P s) : P (bagSaleClosing s) :=
  askBwuStatus_stable hP (hP.bwu hb _ h)

theorem bagSaleEnded_stable (hP : Stable bs P) (hb : .bwu ∈ bs) (h : P s) : P (bagSaleEnded s) :=
  askBwuStatus_stable hP (hP.bwu hb _ h)

theorem holdRelease_stable (hP : Stable bs P) (hr : .re ∈ bs) (hb : .bwu ∈ bs) (hs : .su ∈ bs) (h : P s) :
    P (holdRelease s) :=
  if_keeps (failRequest_stable hP hr h) (if_keeps (failRequest_stable hP hr h)
    (hP.finish hr _ _ _ (suBagClaim_stable hP hs (askBwuStatus_stable hP (hP.raise _ _ (hP.bwu hb _ h)))
      (suOrderly_lines (by simp [Su.release, length_moveNamed]) (by simp [Su.release]) (by simp [Su.release])))))

/-! ### The sale -/

theorem noKick_of_all {as : List After} (h : as.all (fun a => !(a matches .kick _)) = true) : noKick as := by
  intro c hc
  simpa using List.all_eq_true.mp h _ hc

theorem saleOpen_stable (hP : Stable bs P) (hr : .re ∈ bs) (hs : .su ∈ bs) (h : P s) : P (saleOpen s) := by
  unfold saleOpen
  split
  · exact suFail_stable hP hr h
  · exact hP.finish hr _ _ _ (suWrite_stable hP hs (noKick_of_all rfl) h
      ⟨fun _ => Nat.zero_le _, fun _ => Nat.zero_le _, fun _ => ⟨rfl, Nat.zero_le _⟩⟩)

theorem handExpectation_stable (hP : Stable bs P) {line : Nat} {delta : Option Int} (hb : .bwu ∈ bs) (h : P s) :
    P (handExpectation s line delta) := by
  cases delta with
  | none => exact h
  | some d => exact askBwuStatus_stable hP (hP.bwu hb _ h)

theorem lines_lt_of_itemAdd (h : itemAddCheck s = none) : s.su.lines.length < 96 := by
  simp only [itemAddCheck, Su.entriesUsed] at h
  grind

theorem lines_lt_of_itemWeigh (h : itemWeighCheck s = none) : s.su.lines.length < 96 := by
  simp only [itemWeighCheck, Su.entriesUsed] at h
  grind

/-- What `awaits` says of the request in hand. -/
theorem inHand_of_awaits {k : RequestKind} (h : awaits s k = true) :
    s.re.phase = .executing ∧ s.re.outcome = none ∧ recKind s.re.record = some k := by
  simp only [awaits, Bool.and_eq_true, decide_eq_true_eq, Option.isNone_iff_eq_none] at h
  obtain ⟨⟨⟨executing, waits⟩, kind⟩, -⟩ := h
  exact ⟨executing, waits, kind⟩

theorem itemAdd_stable (hP : Stable bs P) (hr : .re ∈ bs) (hs : .su ∈ bs) (hb : .bwu ∈ bs) (inHand : awaits s .itemAdd = true)
    (h : P s) : P (itemAdd s) := by
  obtain ⟨-, -, kind⟩ := inHand_of_awaits inHand
  unfold itemAdd
  split
  · exact suFail_stable hP hr h
  next free =>
    have joins : lineJoins s (s.su.itemsChanged (s.su.lines ++ [itemLine s])) :=
      ⟨List.length_append, rfl, .inl ⟨lines_lt_of_itemAdd free, kind, rfl⟩⟩
    exact hP.finish hr _ _ _ (suAskWindow_stable hP (suDecide_calm noKick_nil)
      (suDecide_grows hP hr hs noKick_nil (lineJoins_congr (by simp) (by simp) joins) (handExpectation_stable hP hb h)))

theorem itemWeighed_stable (hP : Stable bs P) {a : ConsumeClaim} {slot : Nat} (hr : .re ∈ bs) (hs : .su ∈ bs)
    (hb : .bwu ∈ bs) (hp : .pwu ∈ bs) (claimed : s.su.claim ≠ none) (h : P s) : P (itemWeighed s a slot) := by
  have joins : lineJoins s
      { s.su.itemsChanged (s.su.lines ++ [weighedLine s (s.pwu.entry slot) a.stamp]) with claim := none } :=
    ⟨List.length_append, rfl, .inr ⟨claimed, rfl⟩⟩
  exact hP.finish hr _ _ _ (suDecide_grows hP hr hs noKick_nil (lineJoins_congr (by simp) (by simp) joins)
    (handExpectation_stable hP hb (askPwuLive_stable hP (noKick_of_all rfl) (hP.pwu hp _ h))))

theorem weighRefused_stable (hP : Stable bs P) {a : ConsumeClaim} {r : ResultCode} (hr : .re ∈ bs) (hs : .su ∈ bs)
    (h : P s) : P (weighRefused s a r) :=
  hP.finish hr _ _ _ (hP.su hs _ h (fun _ he => .inl he) ⟨id, id, fun no => absurd rfl no⟩)

theorem itemWeigh_stable (hP : Stable bs P) (hr : .re ∈ bs) (hs : .su ∈ bs) (hb : .bwu ∈ bs) (hp : .pwu ∈ bs)
    (inHand : awaits s .itemWeigh = true) (h : P s) : P (itemWeigh s) := by
  obtain ⟨-, -, kind⟩ := inHand_of_awaits inHand
  unfold itemWeigh
  split
  next a claimed =>
    unfold consumeAnswered
    split
    · exact weighRefused_stable hP hr hs h
    · exact weighRefused_stable hP hr hs h
    · exact weighRefused_stable hP hr hs h
    · exact itemWeighed_stable hP hr hs hb hp (by simp [claimed]) h
  next =>
    split
    next => exact suFail_stable hP hr h
    next free => exact hP.claim hr hs _ h (lines_lt_of_itemWeigh free) kind

theorem lineVoided_stable (hP : Stable bs P) {n : Nat} {l : SaleLine} (hr : .re ∈ bs) (hs : .su ∈ bs) (hb : .bwu ∈ bs)
    (h : P s) : P (lineVoided s n l) := by
  have marked (l' : SaleLine) : suOrderly s.su (s.su.itemsChanged (s.su.lines.set (n - 1) l')) :=
    suOrderly_lines List.length_set rfl rfl
  refine hP.finish hr _ _ _ (suWrite_stable hP hs noKick_nil (if_keeps h (askBwuStatus_stable hP (hP.bwu hb _ h))) ?_)
  have same (t : State) (su : t.su = s.su) (v : Su) (orderly : suOrderly s.su v) : suOrderly t.su v := su ▸ orderly
  exact same _ (by split <;> simp) _ (marked _)

theorem lineVoid_stable (hP : Stable bs P) (hr : .re ∈ bs) (hs : .su ∈ bs) (hb : .bwu ∈ bs) (h : P s) : P (lineVoid s) := by
  have failed (r : ResultCode) : P (suFail s r) := suFail_stable hP hr h
  unfold lineVoid
  split
  · exact failed _
  · dsimp only
    split
    · exact if_keeps (lineVoided_stable hP hr hs hb h) (failed _)
    · exact failed _

/-! ### The end of a sale -/

theorem enterClosing_stable (hP : Stable bs P) {outcome : SaleOutcome} {kind : JournalKind} {block : BlockKind}
    (hr : .re ∈ bs) (hs : .su ∈ bs) (hj : .ju ∈ bs) (h : P s) : P (enterClosing s outcome kind block) :=
  hP.finish hr _ _ _ (suWrite_stable hP hs (noKick_of_all rfl) (hP.ju hj _ h) (suOrderly_of_eq rfl rfl rfl))

theorem saleClose_stable (hP : Stable bs P) (hr : .re ∈ bs) (hs : .su ∈ bs) (hj : .ju ∈ bs) (h : P s) : P (saleClose s) := by
  unfold saleClose
  split
  · exact suFail_stable hP hr h
  · exact enterClosing_stable hP hr hs hj h

theorem receiptEnded_stable (hP : Stable bs P) {incomplete ofRequest : Bool} (hs : .su ∈ bs) (hj : .ju ∈ bs) (h : P s) :
    P (receiptEnded s incomplete ofRequest) := by
  unfold receiptEnded
  split
  · exact h
  · exact suDecide_stable hP hs (noKick_of_all rfl) (askFixed_stable hP (noKick_of_all rfl) (hP.ju hj _ h))
      (suOrderly_of_eq rfl rfl rfl)

end

end Sys2Proof.Machine
end

section
/-! Events of the Card Tender Unit, the Till Unit and the Print Unit, as compositions of the primitive moves. -/

namespace Sys2Proof.Machine

section
variable {bs : List BlockId} {P : State → Prop} {s : State}

/-! ### The card tenders -/

theorem offerCard_stable (hP : Stable bs P) (hc : .ctu ∈ bs) (fs : List (Byte × List Byte)) {s : State} (h : P s) :
    P (offerCard s fs) := by
  induction fs generalizing s with
  | nil => exact hP.ctu hc _ h id
  | cons f rest ih => exact if_keeps (ih (linkSend_stable hP h)) (hP.ctu hc _ h id)

theorem cardOffers_stable (hP : Stable bs P) (hc : .ctu ∈ bs) (h : P s) : P (cardOffers s) :=
  if_keeps h (offerCard_stable hP hc _ h)

theorem cardSend_stable (hP : Stable bs P) {kind : Byte} {payload : List Byte} (hc : .ctu ∈ bs) (h : P s) :
    P (cardSend s kind payload) := if_keeps (offerCard_stable hP hc _ h) (cardOffers_stable hP hc (hP.ctu hc _ h id))

theorem cardNotice_stable (hP : Stable bs P) (hc : .ctu ∈ bs) (h : P s) : P (cardNotice s) :=
  if_keeps (hP.ctu hc _ (arrive_stable hP h) id) (cardOffers_stable hP hc h)

theorem takeCardNotices_stable (hP : Stable bs P) (hc : .ctu ∈ bs) (n : Nat) {s : State} (h : P s) :
    P (takeCardNotices n s) := by
  induction n generalizing s with
  | zero => exact h
  | succ n ih => exact if_keeps (ih (cardOffers_stable hP hc (hP.ctu hc _ h id))) h

theorem cardNotices_stable (hP : Stable bs P) (hc : .ctu ∈ bs) (h : P s) : P (cardNotices s) :=
  takeCardNotices_stable hP hc _ h

theorem askCardIfChanged_stable (hP : Stable bs P) {old : Ctu} (h : P s) : P (askCardIfChanged s old) :=
  if_keeps h (askCardSession_stable hP h)

theorem cardInTaken_stable (hP : Stable bs P) {p : List Byte} (hc : .ctu ∈ bs) (h : P s) : P (cardInTaken s p) :=
  askCardIfChanged_stable hP (hP.raise _ _ (hP.ctu hc _ (popPath_stable hP h) id))

theorem cardOutTaken_stable (hP : Stable bs P) (hc : .ctu ∈ bs) (h : P s) : P (cardOutTaken s) :=
  if_keeps (askCardSession_stable hP (hP.raise _ _ (hP.ctu hc _ (popPath_stable hP h) id))) (popPath_stable hP h)

theorem moduleStatusTaken_stable (hP : Stable bs P) {p : List Byte} (hc : .ctu ∈ bs) (h : P s) :
    P (moduleStatusTaken s p) := askCardIfChanged_stable hP (hP.ctu hc _ (popPath_stable hP h) id)

theorem create_orderly {u : Su} {kind : TenderKind} {state : TenderState} {requested received toApply : Nat} {reference : Half}
    {clock : Word} (room : u.tenders.length < 8) : suOrderly u (u.create kind state requested received toApply reference clock) :=
  ⟨id, fun _ => by simpa [Su.create, Su.afterTender] using room, fun _ => ⟨rfl, Nat.le_refl _⟩⟩

theorem tenders_lt_of_cardTender {amount : Nat} (h : cardTenderCheck s amount = none) : s.su.tenders.length < 8 := by
  simp only [cardTenderCheck] at h
  grind

theorem tenders_lt_of_cashTender (h : cashTenderCheck s = none) : s.su.tenders.length < 8 := by
  simp only [cashTenderCheck] at h
  grind

theorem cardTender_stable (hP : Stable bs P) (hr : .re ∈ bs) (hs : .su ∈ bs) (h : P s) : P (cardTender s) := by
  unfold cardTender
  split
  · exact failRequest_stable hP hr h
  next free =>
    exact hP.finish hr _ _ _ (suWrite_stable hP hs (noKick_of_all rfl) h (create_orderly (tenders_lt_of_cardTender free)))

theorem cardAsks_stable (hP : Stable bs P) {index amount : Nat} (hc : .ctu ∈ bs) (h : P s) : P (cardAsks s index amount) :=
  askCardSession_stable hP (hP.ctu hc _ (cardSend_stable hP hc (hP.ctu hc _ h id)) id)

theorem cancelTender_stable (hP : Stable bs P) {o : OutTender} {ofRequest : Bool} (hc : .ctu ∈ bs) (h : P s) :
    P (cancelTender s o ofRequest) :=
  askCardSession_stable hP (suSend_stable hP (hP.ctu hc _ (cardSend_stable hP hc h) id))

theorem cardCancel_stable (hP : Stable bs P) (hr : .re ∈ bs) (hc : .ctu ∈ bs) (h : P s) : P (cardCancel s) := by
  unfold cardCancel
  split
  · exact hP.finish hr _ _ _ (cancelTender_stable hP hc h)
  · exact failRequest_stable hP hr h

theorem cardWaitExpired_stable (hP : Stable bs P) (hc : .ctu ∈ bs) (h : P s) : P (cardWaitExpired s) := by
  unfold cardWaitExpired
  split
  · exact cancelTender_stable hP hc h
  · exact hP.ctu hc _ h id

theorem unresolve_stable (hP : Stable bs P) {o : OutTender} (hc : .ctu ∈ bs) (h : P s) : P (unresolve s o) :=
  hP.raise _ _ (suSend_stable hP (hP.ctu hc _ h id))

theorem queryTender_stable (hP : Stable bs P) {o : OutTender} (hc : .ctu ∈ bs) (h : P s) : P (queryTender s o) :=
  hP.ctu hc _ (cardSend_stable hP hc h) id

theorem cancelWaitExpired_stable (hP : Stable bs P) (hc : .ctu ∈ bs) (h : P s) : P (cancelWaitExpired s) := by
  unfold cancelWaitExpired
  split
  · exact askCardSession_stable hP (queryTender_stable hP hc (unresolve_stable hP hc h))
  · exact hP.ctu hc _ h id

theorem cardLinkDown_stable (hP : Stable bs P) (hc : .ctu ∈ bs) (h : P s) : P (cardLinkDown s) := by
  unfold cardLinkDown
  dsimp only
  split
  · exact if_keeps (askCardSession_stable hP (hP.ctu hc _ (hP.ctu hc _ h id) id))
      (askCardSession_stable hP (unresolve_stable hP hc (hP.ctu hc _ h id)))
  · exact askCardSession_stable hP (hP.ctu hc _ h id)

theorem cardLinkBack_stable (hP : Stable bs P) (hc : .ctu ∈ bs) (h : P s) : P (cardLinkBack s) := by
  unfold cardLinkBack
  dsimp only
  split
  · exact if_keeps (hP.ctu hc _ h id) (askCardSession_stable hP (queryTender_stable hP hc (hP.ctu hc _ h id)))
  · exact hP.ctu hc _ h id

theorem cardLinkChange_stable (hP : Stable bs P) {old new : LinkState} (hc : .ctu ∈ bs) (h : P s) :
    P (cardLinkChange s old new) :=
  have popped := popPath_stable (l := .card) hP h
  if_keeps popped (if_keeps (cardLinkBack_stable hP hc popped) (if_keeps (cardLinkDown_stable hP hc popped) popped))

theorem finishTender_stable (hP : Stable bs P) {o : OutTender} {st : TenderState} {a : Nat} {code : List Byte}
    (hc : .ctu ∈ bs) (h : P s) : P (finishTender s o st a code) :=
  askCardSession_stable hP (hP.raise _ _ (suSend_stable hP (hP.ctu hc _ h id)))

theorem authForOut_stable (hP : Stable bs P) {o : OutTender} {p : List Byte} (hc : .ctu ∈ bs) (h : P s) :
    P (authForOut s o p) := by
  have counted : P (if o.state = .unresolved then s.setCtu (countLate s.ctu) else s) := if_keeps (hP.ctu hc _ h id) h
  unfold authForOut
  split
  · exact askCardSession_stable hP (hP.ctu hc _ h id)
  · exact finishTender_stable hP hc (if_keeps (hP.ctu hc _ counted id) counted)

theorem resultForNone_stable (hP : Stable bs P) {reference : Half} {x : Option (CardOutcome × Nat × Word)} (hc : .ctu ∈ bs)
    (h : P s) : P (resultForNone s reference x) := by
  unfold resultForNone
  split
  · exact askCardSession_stable hP (hP.ctu hc _ h id)
  · split
    · exact askCardSession_stable hP (hP.ctu hc _ h id)
    · exact if_keeps (askCardSession_stable hP (hP.raise _ _ (hP.ctu hc _ (hP.ctu hc _ h id) id)))
        (askCardSession_stable hP (hP.ctu hc _ h id))

theorem authResult_stable (hP : Stable bs P) {p : List Byte} (hc : .ctu ∈ bs) (h : P s) : P (authResult s p) := by
  unfold authResult
  dsimp only
  split
  · exact authForOut_stable hP hc (popPath_stable hP h)
  · exact resultForNone_stable hP hc (popPath_stable hP h)

theorem noRecord_stable (hP : Stable bs P) {p : List Byte} (hc : .ctu ∈ bs) (h : P s) : P (noRecord s p) := by
  have popped : P (popPath s .card) := popPath_stable hP h
  unfold noRecord
  dsimp only
  split
  · exact if_keeps (finishTender_stable hP hc (hP.ctu hc _ popped id)) (askCardSession_stable hP (hP.ctu hc _ popped id))
  · exact resultForNone_stable hP hc (hP.setFree _ popped)

theorem length_addVerdict {vs : List VerdictEntry} (v : VerdictEntry) (fits : vs.length ≤ 8) :
    (addVerdict vs v).length ≤ 8 := by
  unfold addVerdict
  split <;> simp <;> omega

theorem tenderVerdict_stable (hP : Stable bs P) (hr : .re ∈ bs) (hs : .su ∈ bs) (hc : .ctu ∈ bs) (h : P s) :
    P (tenderVerdict s) := by
  have failed (r : ResultCode) : P (failRequest s r) := failRequest_stable hP hr h
  unfold tenderVerdict
  dsimp only
  split
  · exact failed _
  · refine if_keeps (failed _) ?_
    split
    · exact if_keeps (hP.finish hr _ _ _ (askCardSession_stable hP (hP.raise _ _ (hP.ctu hc _
        (suMoveTender_stable hP hs h) (length_addVerdict _))))) (failed _)
    · exact failed _

/-! ### The till -/

theorem askTuStatus_stable (hP : Stable bs P) {ofRequest : Bool} (h : P s) : P (askTuStatus s ofRequest) :=
  askLive_stable hP h

theorem askTuEvent_stable (hP : Stable bs P) (h : P s) : P (askTuEvent s) := if_keeps (askTuStatus_stable hP h) h

/-- Drawer, pulse and timer stay. -/
theorem tillCalmer_same {v : Tu} (drawer : v.drawer = s.tu.drawer) (solenoid : v.solenoid = s.tu.solenoid)
    (width : v.width = s.tu.width) : tillCalmer s v where
  pulse := by rw [solenoid, width]; exact id
  drawer := by rw [drawer]; exact id
  solenoid := fun on => ⟨solenoid ▸ on, .inl drawer⟩

/-- The pulse is off, and the drawer is not newly KICKING. -/
theorem tillCalmer_off {v : Tu} (solenoid : v.solenoid = false) (width : v.width = none)
    (drawer : v.drawer = .kicking → s.tu.drawer = .kicking) : tillCalmer s v where
  pulse := fun _ => by simp [solenoid, width]
  drawer := drawer
  solenoid := fun on => by simp [solenoid] at on

/-- The drawer moves, but not to KICKING, and from KICKING only while UNCONFIGURED. -/
theorem tillCalmer_drawer {v : Tu} (drawer : v.drawer ≠ .kicking) (solenoid : v.solenoid = s.tu.solenoid)
    (width : v.width = s.tu.width) (from_ : s.tu.drawer ≠ .kicking ∨ s.re.device = .unconfigured) : tillCalmer s v where
  pulse := by rw [solenoid, width]; exact id
  drawer := fun kicking => absurd kicking drawer
  solenoid := fun on => ⟨solenoid ▸ on, .inr from_⟩

theorem laneClockTick_stable (hP : Stable bs P) (hr : .re ∈ bs) (ht : .tu ∈ bs) (h : P s) : P (laneClockTick s) :=
  hP.till ht _ (hP.clock hr _ (arriveAll_stable hP h)) (tillCalmer_same rfl rfl rfl)

theorem rawLevelChange_stable (hP : Stable bs P) {input : InputId} {level : Bool} (ht : .tu ∈ bs) (h : P s) :
    P (rawLevelChange s input level) := by
  cases input with
  | sense => exact hP.till ht _ h (tillCalmer_same rfl rfl rfl)
  | key => exact hP.till ht _ h (tillCalmer_same rfl rfl rfl)

theorem beginKick_stable (hP : Stable bs P) {cause : KickCause} {ofRequest : Bool} (ht : .tu ∈ bs) (allowed : kickAllowed s)
    (h : P s) : P (beginKick s cause ofRequest) := if_keeps (askTuStatus_stable hP (hP.kick ht _ _ h allowed)) h

theorem kickWidthExpired_stable (hP : Stable bs P) (ht : .tu ∈ bs) (h : P s) : P (kickWidthExpired s) :=
  hP.till ht _ h (tillCalmer_off rfl rfl id)

/-- The second attempt of a kick in progress, or FAULT; the pulse has ended before (R141). -/
theorem kickConfirmExpired_stable (hP : Stable bs P) (ht : .tu ∈ bs) (kicking : s.tu.drawer = .kicking)
    (ended : s.tu.width = none) (free : s.re.resetting = []) (h : P s) : P (kickConfirmExpired s) := by
  have again : ({ s.tu with attempts := 2 } : Tu) = { s.tu with drawer := .kicking, cause := s.tu.cause, attempts := 2 } := by
    rw [← kicking]
  refine if_keeps (askTuStatus_stable hP ?_) (askTuStatus_stable hP (hP.raise _ _ (hP.till ht _ h ?_)))
  · rw [again]
    exact hP.kick ht _ _ h (.inr ⟨kicking, free⟩)
  · exact tillCalmer_off rfl ended nofun

theorem enterOpen_stable (hP : Stable bs P) {forced : Bool} (ht : .tu ∈ bs) (h : P s) : P (enterOpen s forced) :=
  hP.raise _ _ (hP.till ht _ h (tillCalmer_off rfl rfl nofun))

theorem forcedOpening_stable (hP : Stable bs P) (ht : .tu ∈ bs) (hj : .ju ∈ bs) (other : s.tu.drawer ≠ .kicking) (h : P s) :
    P (forcedOpening s) := by
  have counted : P (s.setTu { s.tu with forcedCount := sat s.tu.forcedCount }) :=
    hP.till ht _ h (tillCalmer_same rfl rfl rfl)
  exact enterOpen_stable hP ht
    (hP.raise _ _ (hP.till ht _ (hP.ju hj _ counted) (tillCalmer_drawer nofun rfl rfl (.inl other))))

theorem drawerShut_stable (hP : Stable bs P) (ht : .tu ∈ bs) (other : s.tu.drawer ≠ .kicking) (h : P s) :
    P (drawerShut s) := hP.raise _ _ (hP.till ht _ h (tillCalmer_drawer nofun rfl rfl (.inl other)))

theorem sensorReady_stable (hP : Stable bs P) {level : Bool} (ht : .tu ∈ bs) (hj : .ju ∈ bs) (h : P s) :
    P (sensorReady s level) := by
  unfold sensorReady
  split
  · split
    case h_1 => exact enterOpen_stable hP ht h
    case h_2 shut => exact forcedOpening_stable hP ht hj (by simp [shut]) h
    case h_3 fault => exact forcedOpening_stable hP ht hj (by simp [fault]) h
    case h_4 => exact h
  · split
    case isTrue opened => exact drawerShut_stable hP ht (by simp [opened]) h
    case isFalse => exact h

theorem followSensor_stable (hP : Stable bs P) {level : Bool} (ht : .tu ∈ bs) (unconfigured : s.re.device = .unconfigured)
    (h : P s) : P (followSensor s level) :=
  hP.till ht _ h (tillCalmer_drawer (by cases level <;> simp) rfl rfl (.inr unconfigured))

theorem DeviceState.eq_unconfigured {d : DeviceState} (h : d ≠ .ready) : d = .unconfigured := by
  cases d with
  | unconfigured => rfl
  | ready => exact absurd rfl h

theorem sensorEdge_stable (hP : Stable bs P) {e : Edge} (ht : .tu ∈ bs) (hj : .ju ∈ bs) (h : P s) : P (sensorEdge s e) := by
  have taken : P (s.setTu { s.tu with edges := s.tu.edges.tail, sensor := e.level, sensorStamp := s.re.clock }) :=
    hP.till ht _ h (tillCalmer_same rfl rfl rfl)
  unfold sensorEdge
  dsimp only
  split
  next => exact askTuEvent_stable hP (sensorReady_stable hP ht hj taken)
  next other => exact askTuEvent_stable hP (followSensor_stable hP ht (DeviceState.eq_unconfigured other) taken)

theorem keyEdge_stable (hP : Stable bs P) {e : Edge} (ht : .tu ∈ bs) (h : P s) : P (keyEdge s e) := by
  refine askTuEvent_stable hP (hP.till ht _ h ?_)
  by_cases fault : s.tu.drawer = .fault
  · exact tillCalmer_drawer (by cases e.level <;> simp [fault]) rfl rfl (.inl (by simp [fault]))
  · exact tillCalmer_same (by simp [fault]) rfl rfl

theorem drawerLimitExpired_stable (hP : Stable bs P) (ht : .tu ∈ bs) (h : P s) : P (drawerLimitExpired s) :=
  hP.raise _ _ (hP.till ht _ h (tillCalmer_same rfl rfl rfl))

theorem forcedOpeningTold_stable (hP : Stable bs P) (hj : .ju ∈ bs) (h : P s) : P (forcedOpeningTold s) := hP.ju hj _ h

theorem kickAllowed_of_awaits {k : RequestKind} (h : awaits s k = true) (commit : k ≠ .setupCommit) (reset : k ≠ .laneReset) :
    kickAllowed s := by
  obtain ⟨executing, waits, kind⟩ := inHand_of_awaits h
  exact .inl ⟨executing, waits, by simpa [kind] using commit, by simpa [kind] using reset⟩

theorem cashTender_stable (hP : Stable bs P) (hr : .re ∈ bs) (hs : .su ∈ bs) (inHand : awaits s .cashTender = true) (h : P s) :
    P (cashTender s) := by
  obtain ⟨executing, waits, kind⟩ := inHand_of_awaits inHand
  unfold cashTender
  split
  · exact failRequest_stable hP hr h
  next free =>
    exact hP.finish hr _ _ _
      (hP.cash hs _ _ h executing waits kind rfl (create_orderly (tenders_lt_of_cashTender free)))

theorem drawerNosale_stable (hP : Stable bs P) (hr : .re ∈ bs) (ht : .tu ∈ bs) (hj : .ju ∈ bs)
    (inHand : awaits s .drawerNosale = true) (h : P s) : P (drawerNosale s) := by
  have counted : P (s.setTu { s.tu with nosaleCount := sat s.tu.nosaleCount }) :=
    hP.till ht _ h (tillCalmer_same rfl rfl rfl)
  have allowed : kickAllowed (s.setTu { s.tu with nosaleCount := sat s.tu.nosaleCount }) :=
    kickAllowed_of_awaits (s := s) inHand nofun nofun
  unfold drawerNosale
  split
  · exact failRequest_stable hP hr h
  · exact hP.finish hr _ _ _
      (askFixed_stable hP (noKick_of_all rfl) (hP.ju hj _ (beginKick_stable hP ht allowed counted)))

theorem saleAbort_stable (hP : Stable bs P) (hr : .re ∈ bs) (hs : .su ∈ bs) (ht : .tu ∈ bs) (hj : .ju ∈ bs)
    (inHand : awaits s .saleAbort = true) (h : P s) : P (saleAbort s) := by
  unfold saleAbort
  split
  · exact suFail_stable hP hr h
  · exact enterClosing_stable hP hr hs hj
      (if_keeps (beginKick_stable hP ht (kickAllowed_of_awaits inHand nofun nofun) h) h)

/-! ### The printer -/

theorem setJob_orderly (u : Pu) (j : Nat) (b : Job) : puOrderly u (setJob u j b) :=
  ⟨id, fun ⟨jobs, owner⟩ => ⟨by simpa [setJob] using jobs, owner⟩⟩

theorem puOrderly.trans {u v w : Pu} (h : puOrderly u v) (k : puOrderly v w) : puOrderly u w :=
  ⟨k.flight ∘ h.flight, k.jobs ∘ h.jobs⟩

theorem advance_orderly (u : Pu) (flight : FlightKind) : puOrderly u (u.advance flight) := by
  unfold Pu.advance
  split
  · exact ⟨id, id⟩
  · split <;> exact ⟨id, id⟩
  · exact setJob_orderly u _ _

/-- A frame sent takes its credit to the flight list. -/
theorem taken_orderly {u : Pu} (f : ReadyFrame) (credit : 0 < u.credits) : puOrderly u (u.taken f) := by
  unfold Pu.taken
  refine .trans ?_ (advance_orderly _ _)
  refine ⟨fun ⟨fits, _⟩ => ⟨?_, fun no => absurd rfl no⟩, id⟩
  simp only [List.length_append, List.length_singleton]
  omega

/-- A frame kept for the link has a credit, so a place. -/
theorem kept_orderly {u v : Pu} (credit : 0 < u.credits) (credits : v.credits = u.credits) (flight : v.flight = u.flight)
    (jobs : v.jobs = u.jobs) (owner : v.owner = u.owner) : puOrderly u v := by
  refine ⟨fun ⟨fits, _⟩ => ?_, fun fits => ?_⟩
  · rw [Pu.flightFits, credits, flight]
    exact ⟨fits, fun _ => by omega⟩
  · rw [Pu.jobsFit, jobs, owner]
    exact fits

/-- No frame is kept. -/
theorem unready_orderly {u v : Pu} (ready : v.ready = none) (credits : v.credits + v.flight.length ≤ u.credits + u.flight.length)
    (jobs : v.jobs = u.jobs) (owner : v.owner = u.owner ∨ ∀ j, v.owner ≠ .job j) : puOrderly u v := by
  refine ⟨fun ⟨fits, _⟩ => ⟨Nat.le_trans credits fits, fun no => absurd ready no⟩, fun ⟨eight, below⟩ => ⟨jobs ▸ eight, ?_⟩⟩
  exact owner.elim (fun same => same ▸ below) fun none j here => absurd here (none j)

theorem offerPrint_stable (hP : Stable bs P) {f : ReadyFrame} (hp : .pu ∈ bs) (credit : 0 < s.pu.credits) (h : P s) :
    P (offerPrint s f) :=
  if_keeps (askPu_stable hP (hP.pu hp _ (linkSend_stable hP h) (taken_orderly f credit)))
    (if_keeps (hP.pu hp _ h (kept_orderly credit rfl rfl rfl rfl))
      (hP.pu hp _ h (unready_orderly rfl (Nat.le_refl _) rfl (.inl rfl))))

/-- The printer gives credit where the PU may send. -/
theorem credits_of_maySend {u : Pu} (may : u.maySend = true) : 0 < u.credits := by
  simp only [Pu.maySend, Bool.and_eq_true, decide_eq_true_eq] at may
  exact may.1.2

theorem printOffers_stable (hP : Stable bs P) (hp : .pu ∈ bs) (h : P s) : P (printOffers s) := by
  unfold printOffers
  split
  · split
    next go =>
      exact offerPrint_stable hP hp (credits_of_maySend (Bool.and_eq_true_iff.mp go).2) (hP.pu hp _ h ⟨id, id⟩)
    next => exact h
  · exact h

theorem takeSent_stable (hP : Stable bs P) (hp : .pu ∈ bs) (h : P s) : P (takeSent s) :=
  printOffers_stable hP hp (hP.pu hp _ h ⟨id, id⟩)

theorem printNotice_stable (hP : Stable bs P) (hp : .pu ∈ bs) (h : P s) : P (printNotice s) :=
  if_keeps (hP.pu hp _ (arrive_stable hP h) ⟨id, id⟩) (takeSent_stable hP hp h)

theorem takePrintNotices_stable (hP : Stable bs P) (hp : .pu ∈ bs) (n : Nat) {s : State} (h : P s) :
    P (takePrintNotices n s) := by
  induction n generalizing s with
  | zero => exact h
  | succ n ih => exact if_keeps (ih (takeSent_stable hP hp (hP.pu hp _ h ⟨id, id⟩))) h

theorem printNotices_stable (hP : Stable bs P) (hp : .pu ∈ bs) (h : P s) : P (printNotices s) :=
  takePrintNotices_stable hP hp _ h

theorem unitNotices_stable (hP : Stable bs P) {b : BlockId} (hc : .ctu ∈ bs) (hp : .pu ∈ bs) (h : P s) :
    P (unitNotices s b) := by
  unfold unitNotices
  split
  · exact cardNotices_stable hP hc h
  · exact printNotices_stable hP hp h
  · exact h

theorem freedNotices_stable (hP : Stable bs P) {t : State} (hc : .ctu ∈ bs) (hp : .pu ∈ bs) (h : P t) :
    P (freedNotices s t) :=
  if_keeps (printNotices_stable hP hp (if_keeps (cardNotices_stable hP hc h) h)) (if_keeps (cardNotices_stable hP hc h) h)

theorem sentNotice_stable (hP : Stable bs P) {l : LinkId} (hc : .ctu ∈ bs) (hp : .pu ∈ bs) (h : P s) :
    P (sentNotice s l) := by
  unfold sentNotice
  split
  · exact cardNotice_stable hP hc h
  · exact printNotice_stable hP hp h
  · exact h

theorem frameSent_stable (hP : Stable bs P) {l : LinkId} (hc : .ctu ∈ bs) (hp : .pu ∈ bs) (h : P s) : P (frameSent s l) := by
  unfold frameSent
  dsimp only
  split
  · exact h
  · exact sentNotice_stable hP hc hp (setLink_stable hP (Link.startTx_path _) h)

theorem makeFrame_stable (hP : Stable bs P) {x : NextFrame} (hb : .bi ∈ bs) (hp : .pu ∈ bs) (credit : 0 < s.pu.credits)
    (h : P s) : P (makeFrame s x) := by
  unfold makeFrame
  split
  · exact offerPrint_stable hP hp credit h
  · split
    · exact hP.engine hb _ (hP.pu hp _ h ⟨id, id⟩)
    · exact if_keeps (hP.pu hp _ h ⟨id, id⟩) (if_keeps (offerPrint_stable hP hp credit (hP.pu hp _ h ⟨id, id⟩)) h)

theorem printFrameOffer_stable (hP : Stable bs P) (hb : .bi ∈ bs) (hp : .pu ∈ bs) (may : s.pu.maySend = true) (h : P s) :
    P (printFrameOffer s) := by
  unfold printFrameOffer
  split
  · exact printOffers_stable hP hp h
  · split
    · exact makeFrame_stable hP hb hp (credits_of_maySend may) h
    · exact h

/-- The job chosen is one of the eight. -/
theorem earliestJob_lt {u : Pu} {j : Nat} (h : earliestJob u = some j) : j < 8 := by
  unfold earliestJob at h
  refine List.foldlRecOn (motive := fun best => ∀ k, best = some k → k < 8) _ _ nofun ?_ j h
  intro best below k hk i chosen
  have here : k < 8 := List.mem_range.mp hk
  dsimp only at chosen
  split at chosen
  · split at chosen
    · exact Option.some.inj chosen ▸ here
    · split at chosen
      · exact Option.some.inj chosen ▸ here
      · exact below i chosen
  · exact below i chosen

theorem arbitrate_stable (hP : Stable bs P) (hp : .pu ∈ bs) (h : P s) : P (arbitrate s) := by
  unfold arbitrate
  split
  · refine if_keeps (if_keeps h (hP.pu hp _ h ⟨id, fun ⟨jobs, _⟩ => ⟨jobs, nofun⟩⟩)) (if_keeps ?_ h)
    split
    next j chosen =>
      refine hP.pu hp _ h ⟨id, fun ⟨jobs, _⟩ => ⟨by simpa [setJob] using jobs, ?_⟩⟩
      rintro k ⟨⟩
      exact earliestJob_lt chosen
    next => exact h
  · exact h

theorem composeBlock_stable (hP : Stable bs P) (hp : .pu ∈ bs) (h : P s) : P (composeBlock s) := if_keeps (hP.pu hp _ h ⟨id, id⟩) h

theorem acknowledge_stable (hP : Stable bs P) {kind : FlightKind} (hp : .pu ∈ bs) (h : P s) : P (acknowledge s kind) := by
  unfold acknowledge
  split
  · exact composeBlock_stable hP hp (hP.pu hp _ h ⟨id, id⟩)
  · exact hP.pu hp _ h ⟨id, id⟩
  · split
    · exact hP.pu hp _ h (setJob_orderly _ _ _)
    · exact h
  · split
    next j _ =>
      refine arbitrate_stable hP hp (hP.raise _ _ (hP.pu hp _ h ?_))
      exact .trans (setJob_orderly s.pu j _) ⟨id, fun ⟨jobs, _⟩ => ⟨jobs, nofun⟩⟩
    next =>
      exact arbitrate_stable hP hp (suSend_stable hP (hP.pu hp _ h ⟨id, fun ⟨jobs, _⟩ => ⟨jobs, nofun⟩⟩))
    next => exact h

theorem lineDone_stable (hP : Stable bs P) {p : List Byte} (hp : .pu ∈ bs) (h : P s) : P (lineDone s p) := by
  have popped : P (popPath s .printer) := popPath_stable hP h
  refine askPu_stable hP ?_
  unfold takeLineDone
  split
  next f rest flight =>
    refine if_keeps (acknowledge_stable hP hp (hP.pu hp _ popped ⟨fun ⟨fits, place⟩ => ?_, id⟩)) (hP.pu hp _ popped ⟨id, id⟩)
    rw [flight, List.length_cons] at fits place
    refine ⟨?_, fun ready => Nat.lt_of_succ_lt (place ready)⟩
    dsimp only
    omega
  next => exact hP.pu hp _ popped ⟨id, id⟩

theorem suspend_orderly (u : Pu) : puOrderly u u.suspend := by
  have dropped (v : Pu) (credits : v.credits = u.credits) (flight : v.flight = []) (ready : v.ready = none)
      (jobs : v.jobs = u.jobs) (owner : v.owner = u.owner) : puOrderly u v :=
    unready_orderly ready (by simp [credits, flight]) jobs (.inl owner)
  unfold Pu.suspend
  dsimp only
  split
  · refine .trans ?_ (setJob_orderly _ _ _)
    exact dropped _ rfl rfl rfl rfl rfl
  · exact dropped _ rfl rfl rfl rfl rfl

theorem printSuspend_stable (hP : Stable bs P) (hp : .pu ∈ bs) (h : P s) : P (printSuspend s) :=
  hP.raise _ _ (hP.pu hp _ h (suspend_orderly _))

theorem printResume_stable (hP : Stable bs P) (hp : .pu ∈ bs) (h : P s) : P (printResume s) := by
  unfold printResume
  dsimp only
  split
  · have again (j : Nat) : P (if (jobAt s j).state = .suspended
        then s.setPu (setJob s.pu j { jobAt s j with state := .printing }) else s) :=
      if_keeps (hP.pu hp _ h (setJob_orderly _ _ _)) h
    exact arbitrate_stable hP hp (if_keeps (hP.raise _ _ (hP.pu hp _ (again _) ⟨id, id⟩)) (again _))
  · exact arbitrate_stable hP hp (if_keeps (hP.raise _ _ (hP.pu hp _ h ⟨id, id⟩)) h)

/-- The credits of a status frame are those the frames in flight leave. -/
theorem takeStatus_orderly (u : Pu) (p : List Byte) : puOrderly u (u.takeStatus p) := by
  refine ⟨fun ⟨fits, place⟩ => ⟨?_, place⟩, id⟩
  simp only [Pu.takeStatus]
  omega

theorem printerStatus_stable (hP : Stable bs P) {p : List Byte} (hp : .pu ∈ bs) (h : P s) : P (printerStatus s p) := by
  have taken : P ((popPath s .printer).setPu (s.pu.takeStatus p)) :=
    hP.pu hp _ (popPath_stable hP h) (takeStatus_orderly _ p)
  have told : P (if (decide (paperOf p = .low) && decide (s.pu.prevPaper ≠ some .low)) = true
      then raise ((popPath s .printer).setPu (s.pu.takeStatus p)) .paperLow 0
      else (popPath s .printer).setPu (s.pu.takeStatus p)) := if_keeps (hP.raise _ _ taken) taken
  exact askPu_stable hP (if_keeps (printSuspend_stable hP hp told) (if_keeps (printResume_stable hP hp told) told))

theorem printerLinkChange_stable (hP : Stable bs P) {old new : LinkState} (hp : .pu ∈ bs) (h : P s) :
    P (printerLinkChange s old new) := by
  have popped : P (popPath s .printer) := popPath_stable hP h
  have down (x : Pu) (orderly : puOrderly s.pu x) : P ((popPath s .printer).setPu x) := hP.pu hp x popped orderly
  have spent (x : Pu) (credits : x.credits = 0) (flight : x.flight = s.pu.flight) (ready : x.ready = s.pu.ready)
      (jobs : x.jobs = s.pu.jobs) (owner : x.owner = s.pu.owner) : P ((popPath s .printer).setPu x) := by
    refine down x ⟨fun ⟨fits, place⟩ => ?_, fun fits => ?_⟩
    · rw [Pu.flightFits, credits, flight, ready]
      exact ⟨by omega, place⟩
    · rw [Pu.jobsFit, jobs, owner]
      exact fits
  exact if_keeps popped (if_keeps (askPu_stable hP (hP.pu hp _ popped ⟨id, id⟩))
    (if_keeps (askPu_stable hP (if_keeps (printSuspend_stable hP hp (spent _ rfl rfl rfl rfl rfl))
      (spent _ rfl rfl rfl rfl rfl))) popped))

theorem receiptBegin_stable (hP : Stable bs P) (hp : .pu ∈ bs) (h : P s) : P (receiptBegin s) :=
  askPu_stable hP (arbitrate_stable hP hp (hP.pu hp _ h ⟨id, id⟩))

theorem receiptCloseMark_stable (hP : Stable bs P) {mark : Half} {kind : BlockKind} (hp : .pu ∈ bs) (h : P s) :
    P (receiptCloseMark s mark kind) := askPu_stable hP (composeBlock_stable hP hp (hP.pu hp _ h ⟨id, id⟩))

theorem saleIdleTold_stable (hP : Stable bs P) (hp : .pu ∈ bs) (h : P s) : P (saleIdleTold s) :=
  askPu_stable hP (arbitrate_stable hP hp (hP.pu hp _ h ⟨id, id⟩))

theorem printSubmit_stable (hP : Stable bs P) (hr : .re ∈ bs) (hp : .pu ∈ bs) (h : P s) : P (printSubmit s) := by
  have failed (r : ResultCode) : P (failRequest s r) := failRequest_stable hP hr h
  refine if_keeps (failed _) (if_keeps (failed _) ?_)
  split
  · exact hP.finish hr _ _ _ (askPu_stable hP (arbitrate_stable hP hp (hP.pu hp _ h
      (.trans (setJob_orderly s.pu _ (submittedJob s)) ⟨id, id⟩))))
  · exact failed _

theorem abandon_orderly (u : Pu) : puOrderly u u.abandon := by
  refine ⟨fun ⟨fits, place⟩ => ⟨fits, fun ready => place fun none => ready ?_⟩, fun ⟨jobs, owner⟩ => ⟨jobs, fun j here => ?_⟩⟩
  · simp [Pu.abandon, none]
  · refine owner j ?_
    unfold Pu.abandon at here
    dsimp only at here
    split at here
    · exact nomatch here
    · exact here

theorem receiptAbandon_stable (hP : Stable bs P) (hr : .re ∈ bs) (hp : .pu ∈ bs) (h : P s) : P (receiptAbandon s) :=
  have failed (r : ResultCode) : P (failRequest s r) := failRequest_stable hP hr h
  if_keeps (failed _) (if_keeps (failed _) (if_keeps (failed _) (hP.finish hr _ _ _
    (suSend_stable hP (askPu_stable hP (arbitrate_stable hP hp (hP.pu hp _ h (abandon_orderly _))))))))

end

end Sys2Proof.Machine
end

section
/-! What a command answers, and the commands that are events of the units or of their links: each keeps every law that the
primitive moves of its blocks keep. -/

namespace Sys2Proof.Machine

/-- The command answers a next state, and `P` holds of it. -/
def answers (P : State → Prop) (o : Host.Outcome State Fault Refusal) : Prop := ∃ t, o = .next t ∧ P t

section
variable {bs : List BlockId} {P : State → Prop} {s : State}

theorem answers_next {t : State} (h : P t) : answers P (.next t) := ⟨t, rfl, h⟩

/-- While RESET_N is low nothing happens, and so where the step is not enabled (log 2). -/
theorem answers_stepIf {u : State} {enabled : Bool} (h : P s) (hu : s.bi.inReset = false → enabled = true → P u) :
    answers P (stepIf s enabled u) := by
  refine answers_next ?_
  split
  next go =>
    obtain ⟨high, enabled⟩ := Bool.and_eq_true_iff.mp go
    exact hu (by simpa using high) enabled
  next => exact h

theorem answers_stepIf_of {u : State} {enabled : Bool} (h : P s) (hu : P u) : answers P (stepIf s enabled u) :=
  answers_stepIf h fun _ _ => hu

/-- An event of a unit: the moves it is made of have to keep `P` only while RESET_N is high. -/
theorem answers_event (hP : s.bi.inReset = false → Stable bs P) {u : State} {enabled : Bool} (h : P s)
    (hu : Stable bs P → P u) : answers P (stepIf s enabled u) := answers_stepIf h fun high _ => hu (hP high)

/-- A law that every command keeps is kept by a step. -/
theorem answers_out {t : State} {o : Host.Outcome State Fault Refusal} (h : answers P o) (ht : o = .next t) : P t := by
  obtain ⟨u, hu, hP⟩ := h
  cases hu.symm.trans ht
  exact hP

theorem answers_mono {Q : State → Prop} {o : Host.Outcome State Fault Refusal} (hPQ : ∀ t, P t → Q t) (h : answers P o) :
    answers Q o := by
  obtain ⟨t, ht, hP⟩ := h
  exact ⟨t, ht, hPQ t hP⟩

/-- Every block. -/
def allBlocks : List BlockId := [.bi, .re, .nu, .lu, .pwu, .bwu, .su, .ctu, .tu, .pu, .ju]

theorem mem_allBlocks (b : BlockId) : b ∈ allBlocks := by cases b <;> decide

/-- The blocks that a command changes as a whole, for the events of the units and the links; `none` for the other commands: the
host accesses, the windows, the events of the Request Engine, the Notice Unit and RESET_N, and the pins. -/
def eventBlocks : Instr → Option (List BlockId)
  | .rxCharacter _ _ _ | .gapTimeout _ | .breakDetected _ | .breakLineHigh _ | .silenceExpiry _ | .lineRiseFraming _ => some []
  | .frameSent _ => some [.ctu, .pu]
  | .platterSample | .zeroTrackExpiry | .platterLinkChange => some [.pwu]
  | .scaleZero | .scaleTare | .tareClear => some [.re, .pwu]
  | .saleOpen => some [.re, .su]
  | .itemAdd | .lineVoid | .holdRelease => some [.re, .su, .bwu]
  | .itemWeigh => some [.re, .su, .bwu, .pwu]
  | .bagSample | .bagWaitExpiry | .bagLinkChange | .bagSaleOpened | .bagSaleClosing | .bagSaleEnded => some [.bwu]
  | .bagSettlementClaim | .bagHoldClaim | .bagClearClaim | .tenderClaim => some [.su]
  | .cardTender | .cashTender => some [.re, .su]
  | .cardCancel => some [.re, .ctu]
  | .tenderVerdict => some [.re, .su, .ctu]
  | .cardIn | .cardOut | .moduleStatus | .authResult | .noRecord | .cardWaitExpiry | .cancelWaitExpiry | .cardLinkChange =>
      some [.ctu]
  | .sensorEdge => some [.tu, .ju]
  | .keyEdge | .kickWidthExpiry | .kickConfirmExpiry | .drawerLimitExpiry => some [.tu]
  | .forcedOpeningTell => some [.ju]
  | .drawerNosale => some [.re, .tu, .ju]
  | .printerStatus | .lineDone | .printerLinkChange | .receiptBegin | .receiptCloseMark | .saleIdleTell => some [.pu]
  | .printFrameOffer => some [.bi, .pu]
  | .printSubmit | .receiptAbandon => some [.re, .pu]
  | .saleClose => some [.re, .su, .ju]
  | .saleAbort => some [.re, .su, .tu, .ju]
  | .receiptEndedClaim => some [.su, .ju]
  | .laneClockTick => some [.re, .tu]
  | _ => none

theorem execPlatterSample_answers (hP : s.bi.inReset = false → Stable bs P) (hb : .pwu ∈ bs) (h : P s) : answers P (execPlatterSample s) := by
  unfold execPlatterSample
  split
  · exact answers_event hP h (fun hP => platterSample_stable hP hb h)
  · exact answers_next h

theorem execPlatterLinkChange_answers (hP : s.bi.inReset = false → Stable bs P) (hb : .pwu ∈ bs) (h : P s) :
    answers P (execPlatterLinkChange s) := by
  unfold execPlatterLinkChange
  split
  · exact answers_event hP h (fun hP => platterLinkChange_stable hP hb h)
  · exact answers_next h

theorem execBagSample_answers (hP : s.bi.inReset = false → Stable bs P) (hb : .bwu ∈ bs) (h : P s) : answers P (execBagSample s) := by
  unfold execBagSample
  split
  · exact answers_event hP h (fun hP => bagSample_stable hP hb h)
  · exact answers_next h

theorem execBagLinkChange_answers (hP : s.bi.inReset = false → Stable bs P) (hb : .bwu ∈ bs) (h : P s) : answers P (execBagLinkChange s) := by
  unfold execBagLinkChange
  split
  · exact answers_event hP h (fun hP => bagLinkChange_stable hP hb h)
  · exact answers_next h

theorem execBagSaleOpened_answers (hP : s.bi.inReset = false → Stable bs P) (hb : .bwu ∈ bs) (h : P s) : answers P (execBagSaleOpened s) := by
  unfold execBagSaleOpened
  split
  · exact answers_event hP h (fun hP => bagSaleOpened_stable hP hb h)
  · exact answers_next h

theorem execBagSaleClosing_answers (hP : s.bi.inReset = false → Stable bs P) (hb : .bwu ∈ bs) (h : P s) : answers P (execBagSaleClosing s) := by
  unfold execBagSaleClosing
  split
  · exact answers_event hP h (fun hP => bagSaleClosing_stable hP hb h)
  · exact answers_next h

theorem execBagSaleEnded_answers (hP : s.bi.inReset = false → Stable bs P) (hb : .bwu ∈ bs) (h : P s) : answers P (execBagSaleEnded s) := by
  unfold execBagSaleEnded
  split
  · exact answers_event hP h (fun hP => bagSaleEnded_stable hP hb h)
  · exact answers_next h

/-- The claims of the BWU and the CTU that the SU takes from its list. -/
theorem execClaims_answers (hP : s.bi.inReset = false → Stable bs P) (hs : .su ∈ bs) (h : P s) :
    answers P (execBagSettlementClaim s) ∧ answers P (execBagHoldClaim s) ∧ answers P (execBagClearClaim s)
      ∧ answers P (execTenderClaim s) := by
  have claim (new : Su) (lines : new.lines.length = s.su.lines.length) (tenders : new.tenders = s.su.tenders)
      (claim : new.claim = s.su.claim) (hP : Stable bs P) : P (suBagClaim (suPop s) new false) :=
    suBagClaim_stable hP hs (suPop_stable hP h) (suOrderly_lines (u := (suPop s).su) lines tenders claim)
  unfold execBagSettlementClaim execBagHoldClaim execBagClearClaim execTenderClaim
  refine ⟨?_, ?_, ?_, ?_⟩
  · split
    · exact answers_event hP h (claim _ (length_moveNamed _ _ _) rfl rfl)
    · exact answers_next h
  · split
    · exact answers_event hP h (claim _ rfl rfl rfl)
    · exact answers_next h
  · split
    · exact answers_event hP h (claim _ (length_moveNamed _ _ _) rfl rfl)
    · exact answers_next h
  · split
    · exact answers_event hP h (fun hP => suMoveTender_stable hP hs (suPop_stable hP h))
    · exact answers_next h

theorem execReceiptEndedClaim_answers (hP : s.bi.inReset = false → Stable bs P) (hs : .su ∈ bs) (hj : .ju ∈ bs) (h : P s) :
    answers P (execReceiptEndedClaim s) := by
  unfold execReceiptEndedClaim
  split
  · exact answers_event hP h (fun hP => receiptEnded_stable hP hs hj (suPop_stable hP h))
  · exact answers_next h

/-- The frames the CTU takes from the path of its link, and the notices whose turn they let come. -/
theorem execCardFrames_answers (hP : s.bi.inReset = false → Stable bs P) (hc : .ctu ∈ bs) (h : P s) :
    answers P (execCardIn s) ∧ answers P (execCardOut s) ∧ answers P (execModuleStatus s) ∧ answers P (execAuthResult s)
      ∧ answers P (execNoRecord s) := by
  unfold execCardIn execCardOut execModuleStatus execAuthResult execNoRecord
  refine ⟨?_, ?_, ?_, ?_, ?_⟩
  · split
    · exact answers_event hP h (fun hP => cardNotices_stable hP hc (cardInTaken_stable hP hc h))
    · exact answers_next h
  · split
    · exact answers_event hP h (fun hP => cardNotices_stable hP hc (cardOutTaken_stable hP hc h))
    · exact answers_next h
  · split
    · exact answers_event hP h (fun hP => cardNotices_stable hP hc (moduleStatusTaken_stable hP hc h))
    · exact answers_next h
  · split
    · exact answers_event hP h (fun hP => cardNotices_stable hP hc (authResult_stable hP hc h))
    · exact answers_next h
  · split
    · exact answers_event hP h (fun hP => cardNotices_stable hP hc (noRecord_stable hP hc h))
    · exact answers_next h

theorem execCardLinkChange_answers (hP : s.bi.inReset = false → Stable bs P) (hc : .ctu ∈ bs) (h : P s) : answers P (execCardLinkChange s) := by
  unfold execCardLinkChange
  split
  · exact answers_event hP h (fun hP => cardNotices_stable hP hc (cardLinkChange_stable hP hc h))
  · exact answers_next h

theorem execSensorEdge_answers (hP : s.bi.inReset = false → Stable bs P) (ht : .tu ∈ bs) (hj : .ju ∈ bs) (h : P s) :
    answers P (execSensorEdge s) := by
  unfold execSensorEdge
  split
  · exact answers_event hP h (fun hP => sensorEdge_stable hP ht hj h)
  · exact answers_next h

theorem execKeyEdge_answers (hP : s.bi.inReset = false → Stable bs P) (ht : .tu ∈ bs) (h : P s) : answers P (execKeyEdge s) := by
  unfold execKeyEdge
  split
  · exact answers_event hP h (fun hP => keyEdge_stable hP ht h)
  · exact answers_next h

/-- A unit that takes an event is not in a reset. -/
theorem resetting_of_unitTakes {b : BlockId} {e : UnitEvent} (h : unitTakes s b e = true) : s.re.resetting = [] := by
  simp only [unitTakes, unitBusy, Bool.and_eq_true, Bool.not_eq_true', Bool.or_eq_false_iff, Bool.not_eq_false',
    List.isEmpty_iff] at h
  exact h.1.2

theorem execKickConfirmExpiry_answers (hP : s.bi.inReset = false → Stable bs P) (ht : .tu ∈ bs) (h : P s) :
    answers P (execKickConfirmExpiry s) := by
  refine answers_stepIf h fun high go => ?_
  simp only [Bool.and_eq_true, decide_eq_true_eq, Option.isNone_iff_eq_none] at go
  obtain ⟨⟨⟨kicking, -⟩, ended⟩, turn⟩ := go
  exact kickConfirmExpired_stable (hP high) ht kicking ended (resetting_of_unitTakes turn) h

/-- A frame the PU takes from the path of its link, and the notices whose turn it lets come. -/
theorem execLineDone_answers (hP : s.bi.inReset = false → Stable bs P) (hp : .pu ∈ bs) (h : P s) : answers P (execLineDone s) := by
  unfold execLineDone
  split
  · exact answers_event hP h (fun hP => printNotices_stable hP hp (lineDone_stable hP hp h))
  · exact answers_next h

theorem execPrinterStatus_answers (hP : s.bi.inReset = false → Stable bs P) (hp : .pu ∈ bs) (h : P s) : answers P (execPrinterStatus s) := by
  unfold execPrinterStatus
  split
  · exact answers_event hP h (fun hP => printNotices_stable hP hp (printerStatus_stable hP hp h))
  · exact answers_next h

theorem execPrinterLinkChange_answers (hP : s.bi.inReset = false → Stable bs P) (hp : .pu ∈ bs) (h : P s) :
    answers P (execPrinterLinkChange s) := by
  unfold execPrinterLinkChange
  split
  · exact answers_event hP h (fun hP => printNotices_stable hP hp (printerLinkChange_stable hP hp h))
  · exact answers_next h

/-- The tells of the SU that the PU takes. -/
theorem execPrintTells_answers (hP : s.bi.inReset = false → Stable bs P) (hp : .pu ∈ bs) (h : P s) :
    answers P (execReceiptBegin s) ∧ answers P (execReceiptCloseMark s) ∧ answers P (execSaleIdleTell s) := by
  unfold execReceiptBegin execReceiptCloseMark execSaleIdleTell
  refine ⟨?_, ?_, ?_⟩
  · split
    · exact answers_event hP h (fun hP => printNotices_stable hP hp (receiptBegin_stable hP hp h))
    · exact answers_next h
  · split
    · exact answers_event hP h (fun hP => printNotices_stable hP hp (receiptCloseMark_stable hP hp h))
    · exact answers_next h
  · split
    · exact answers_event hP h (fun hP => printNotices_stable hP hp (saleIdleTold_stable hP hp h))
    · exact answers_next h

theorem execFrameSent_answers (hP : s.bi.inReset = false → Stable bs P) {l : LinkId} (hc : .ctu ∈ bs) (hp : .pu ∈ bs) (h : P s) :
    answers P (execFrameSent l s) := by
  unfold execFrameSent
  split
  · exact answers_event hP h (fun hP => frameSent_stable hP hc hp h)
  · exact answers_next h

theorem awaits_of_suTakes {k : RequestKind} (h : suTakes s k = true) : awaits s k = true := (Bool.and_eq_true_iff.mp h).1

/-- Every event of a unit or a link keeps a law that the primitive moves of its blocks keep. -/
theorem exec_answers (hP : s.bi.inReset = false → Stable bs P) {c : Instr} {cs : List BlockId} (hc : eventBlocks c = some cs) (sub : cs ⊆ bs)
    (h : P s) : answers P (exec c s) := by
  cases c <;> cases hc
  case rxCharacter => exact answers_event hP h (fun hP => rxCharacter_stable hP h)
  case gapTimeout => exact answers_event hP h (fun hP => gapTimeout_stable hP h)
  case breakDetected => exact answers_event hP h (fun hP => breakDetected_stable hP h)
  case breakLineHigh => exact answers_event hP h (fun hP => breakLineHigh_stable hP h)
  case silenceExpiry => exact answers_event hP h (fun hP => silenceExpired_stable hP h)
  case lineRiseFraming => exact answers_event hP h (fun hP => lineRise_stable hP h)
  case frameSent => exact execFrameSent_answers hP (sub (by decide)) (sub (by decide)) h
  case platterSample => exact execPlatterSample_answers hP (sub (by decide)) h
  case zeroTrackExpiry => exact answers_event hP h (fun hP => zeroTracked_stable hP (sub (by decide)) h)
  case platterLinkChange => exact execPlatterLinkChange_answers hP (sub (by decide)) h
  case scaleZero => exact answers_event hP h (fun hP => scaleZero_stable hP (sub (by decide)) (sub (by decide)) h)
  case scaleTare => exact answers_event hP h (fun hP => scaleTare_stable hP (sub (by decide)) (sub (by decide)) h)
  case tareClear => exact answers_event hP h (fun hP => tareClear_stable hP (sub (by decide)) (sub (by decide)) h)
  case saleOpen => exact answers_event hP h (fun hP => saleOpen_stable hP (sub (by decide)) (sub (by decide)) h)
  case itemAdd =>
    exact answers_stepIf h fun high go =>
      itemAdd_stable (hP high) (sub (by decide)) (sub (by decide)) (sub (by decide))
        (awaits_of_suTakes (Bool.and_eq_true_iff.mp go).1) h
  case itemWeigh =>
    exact answers_stepIf h fun high go =>
      itemWeigh_stable (hP high) (sub (by decide)) (sub (by decide)) (sub (by decide)) (sub (by decide))
        (awaits_of_suTakes (Bool.and_eq_true_iff.mp go).1) h
  case lineVoid => exact answers_event hP h (fun hP => lineVoid_stable hP (sub (by decide)) (sub (by decide)) (sub (by decide)) h)
  case bagSample => exact execBagSample_answers hP (sub (by decide)) h
  case bagWaitExpiry => exact answers_event hP h (fun hP => bagWaitExpired_stable hP (sub (by decide)) h)
  case bagLinkChange => exact execBagLinkChange_answers hP (sub (by decide)) h
  case bagSaleOpened => exact execBagSaleOpened_answers hP (sub (by decide)) h
  case bagSaleClosing => exact execBagSaleClosing_answers hP (sub (by decide)) h
  case bagSaleEnded => exact execBagSaleEnded_answers hP (sub (by decide)) h
  case holdRelease => exact answers_event hP h (fun hP => holdRelease_stable hP (sub (by decide)) (sub (by decide)) (sub (by decide)) h)
  case bagSettlementClaim => exact (execClaims_answers hP (sub (by decide)) h).1
  case bagHoldClaim => exact (execClaims_answers hP (sub (by decide)) h).2.1
  case bagClearClaim => exact (execClaims_answers hP (sub (by decide)) h).2.2.1
  case tenderClaim => exact (execClaims_answers hP (sub (by decide)) h).2.2.2
  case cardTender => exact answers_event hP h (fun hP => cardTender_stable hP (sub (by decide)) (sub (by decide)) h)
  case cardCancel => exact answers_event hP h (fun hP => cardCancel_stable hP (sub (by decide)) (sub (by decide)) h)
  case tenderVerdict =>
    exact answers_event hP h (fun hP => tenderVerdict_stable hP (sub (by decide)) (sub (by decide)) (sub (by decide)) h)
  case cardIn => exact (execCardFrames_answers hP (sub (by decide)) h).1
  case cardOut => exact (execCardFrames_answers hP (sub (by decide)) h).2.1
  case moduleStatus => exact (execCardFrames_answers hP (sub (by decide)) h).2.2.1
  case authResult => exact (execCardFrames_answers hP (sub (by decide)) h).2.2.2.1
  case noRecord => exact (execCardFrames_answers hP (sub (by decide)) h).2.2.2.2
  case cardWaitExpiry =>
    exact answers_event hP h (fun hP => cardNotices_stable hP (sub (by decide)) (cardWaitExpired_stable hP (sub (by decide)) h))
  case cancelWaitExpiry =>
    exact answers_event hP h (fun hP => cardNotices_stable hP (sub (by decide)) (cancelWaitExpired_stable hP (sub (by decide)) h))
  case cardLinkChange => exact execCardLinkChange_answers hP (sub (by decide)) h
  case sensorEdge => exact execSensorEdge_answers hP (sub (by decide)) (sub (by decide)) h
  case forcedOpeningTell => exact answers_event hP h (fun hP => forcedOpeningTold_stable hP (sub (by decide)) h)
  case keyEdge => exact execKeyEdge_answers hP (sub (by decide)) h
  case kickWidthExpiry => exact answers_event hP h (fun hP => kickWidthExpired_stable hP (sub (by decide)) h)
  case kickConfirmExpiry => exact execKickConfirmExpiry_answers hP (sub (by decide)) h
  case drawerLimitExpiry => exact answers_event hP h (fun hP => drawerLimitExpired_stable hP (sub (by decide)) h)
  case cashTender =>
    exact answers_stepIf h fun high go =>
      cashTender_stable (hP high) (sub (by decide)) (sub (by decide)) (Bool.and_eq_true_iff.mp go).1 h
  case drawerNosale =>
    exact answers_stepIf h fun high go =>
      drawerNosale_stable (hP high) (sub (by decide)) (sub (by decide)) (sub (by decide))
        (Bool.and_eq_true_iff.mp (Bool.and_eq_true_iff.mp go).1).1 h
  case printerStatus => exact execPrinterStatus_answers hP (sub (by decide)) h
  case lineDone => exact execLineDone_answers hP (sub (by decide)) h
  case printerLinkChange => exact execPrinterLinkChange_answers hP (sub (by decide)) h
  case printFrameOffer =>
    exact answers_stepIf h fun high go =>
      printFrameOffer_stable (hP high) (sub (by decide)) (sub (by decide))
        (Bool.and_eq_true_iff.mp (Bool.and_eq_true_iff.mp go).1).1 h
  case printSubmit => exact answers_event hP h (fun hP => printSubmit_stable hP (sub (by decide)) (sub (by decide)) h)
  case receiptBegin => exact (execPrintTells_answers hP (sub (by decide)) h).1
  case receiptCloseMark => exact (execPrintTells_answers hP (sub (by decide)) h).2.1
  case saleIdleTell => exact (execPrintTells_answers hP (sub (by decide)) h).2.2
  case receiptAbandon => exact answers_event hP h (fun hP => receiptAbandon_stable hP (sub (by decide)) (sub (by decide)) h)
  case saleClose => exact answers_event hP h (fun hP => saleClose_stable hP (sub (by decide)) (sub (by decide)) (sub (by decide)) h)
  case saleAbort =>
    exact answers_stepIf h fun high go =>
      saleAbort_stable (hP high) (sub (by decide)) (sub (by decide)) (sub (by decide)) (sub (by decide))
        (awaits_of_suTakes (Bool.and_eq_true_iff.mp go).1) h
  case receiptEndedClaim => exact execReceiptEndedClaim_answers hP (sub (by decide)) (sub (by decide)) h
  case laneClockTick => exact answers_event hP h (fun hP => laneClockTick_stable hP (sub (by decide)) (sub (by decide)) h)

end

end Sys2Proof.Machine
end

section
/-! The operations of a LANE_RESET and of a SETUP_COMMIT on the units, and of the closing of a window, as compositions of the
primitive moves. The steps of the Request Engine itself are left to each law. -/

namespace Sys2Proof.Machine

section
variable {bs : List BlockId} {P : State → Prop} {s : State}

/-- A fold of operations that keep a law keeps it. -/
theorem foldl_keeps {α : Type} {f : State → α → State} (as : List α) {s : State} (hf : ∀ {t} a, P t → P (f t a)) (h : P s) :
    P (as.foldl f s) := by
  induction as generalizing s with
  | nil => exact h
  | cons a rest ih => exact ih (hf a h)

/-! ### LANE_RESET -/

theorem askPuFree_stable (hP : Stable bs P) {ofRequest : Bool} (h : P s) : P (askPuFree s ofRequest) :=
  askFixed_stable hP noKick_nil h

/-- The tables are cleared, and a claim that stands stays. -/
theorem cleared_orderly {u v : Su} (lines : v.lines = []) (tenders : v.tenders = [])
    (claim : v.claim = u.claim) : suOrderly u v where
  lines _ := by simp [lines]
  tenders _ := by simp [tenders]
  claim _ := ⟨claim, by simp [lines]⟩

/-- The printer's lists are emptied. -/
theorem emptied_orderly {u v : Pu} (credits : v.credits = 0) (flight : v.flight = [])
    (jobs : v.jobs.length = 8) (owner : v.owner = .none) : puOrderly u v :=
  ⟨fun _ => ⟨by simp [credits, flight], fun _ => by simp [flight]⟩, fun _ => ⟨jobs, by simp [owner]⟩⟩

/-- The SU with no event in hand, or its event as before. -/
theorem resetSale_stable (hP : Stable bs P) (hs : .su ∈ bs) (h : P s) : P (resetSale s) :=
  askFixed_stable hP noKick_nil (hP.su hs _ h (fun _ he => .inl he) (cleared_orderly rfl rfl rfl))

theorem resetPlatter_stable (hP : Stable bs P) (hb : .pwu ∈ bs) (h : P s) : P (resetPlatter s) :=
  askLive_stable hP (hP.pwu hb _ (freezeWaiting_stable hP h))

theorem resetBag_stable (hP : Stable bs P) (hb : .bwu ∈ bs) (h : P s) : P (resetBag s) :=
  askBwuStatus_stable hP (hP.bwu hb _ h)

theorem resetCard_stable (hP : Stable bs P) (hc : .ctu ∈ bs) (h : P s) : P (resetCard s) :=
  askCardSession_stable hP (hP.ctu hc _ h fun _ => Nat.zero_le _)

theorem resetTill_stable (hP : Stable bs P) (ht : .tu ∈ bs) (h : P s) : P (resetTill s) :=
  askTuStatus_stable hP (hP.till ht _ h (tillCalmer_off rfl rfl (by cases s.tu.sensor <;> simp)))

theorem resetPrinter_stable (hP : Stable bs P) (hp : .pu ∈ bs) (h : P s) : P (resetPrinter s) :=
  askPuFree_stable hP (hP.pu hp _ h (emptied_orderly rfl rfl rfl rfl))

theorem resetJournal_stable (hP : Stable bs P) (hj : .ju ∈ bs) (h : P s) : P (resetJournal s) := hP.ju hj _ h

theorem cutPulse_stable (hP : Stable bs P) (ht : .tu ∈ bs) (h : P s) : P (cutPulse s) :=
  hP.till ht _ h (tillCalmer_off rfl rfl id)

theorem quietLink_stable (hP : Stable bs P) {l : LinkId} (h : P s) : P (quietLink s l) := by
  refine if_keeps h (hP.link _ _ (hP.setArrivals _ (changeLink_stable hP h)) ?_)
  exact (List.filter_sublist.filter _).length_le

theorem resetLinks_stable (hP : Stable bs P) (h : P s) : P (resetLinks s) := foldl_keeps _ (fun _ => quietLink_stable hP) h

/-- A unit other than the RE takes its reset. -/
theorem resetUnit_stable (hP : Stable bs P) {b : BlockId} (other : b ≠ .re) (sub : [.su, .pwu, .bwu, .ctu, .tu, .pu, .ju] ⊆ bs)
    (h : P s) : P (resetUnit s b) := by
  cases b with
  | re => exact absurd rfl other
  | su => exact resetSale_stable hP (sub (by decide)) h
  | pwu => exact resetPlatter_stable hP (sub (by decide)) h
  | bwu => exact resetBag_stable hP (sub (by decide)) h
  | ctu => exact resetCard_stable hP (sub (by decide)) h
  | tu => exact resetTill_stable hP (sub (by decide)) h
  | pu => exact resetPrinter_stable hP (sub (by decide)) h
  | ju => exact resetJournal_stable hP (sub (by decide)) h
  | lu => exact h
  | bi => exact h
  | nu => exact h

/-! ### SETUP_COMMIT -/

theorem initSale_stable (hP : Stable bs P) {c : Setup} (hs : .su ∈ bs) (h : P s) : P (initSale s c) :=
  askFixed_stable hP noKick_nil (hP.su hs _ h (fun _ he => .inl he) (cleared_orderly rfl rfl rfl))

theorem initPlatter_stable (hP : Stable bs P) (hb : .pwu ∈ bs) (h : P s) : P (initPlatter s) :=
  askPwuLive_stable hP noKick_nil (hP.pwu hb _ h)

theorem initBag_stable (hP : Stable bs P) (hb : .bwu ∈ bs) (h : P s) : P (initBag s) :=
  askBwuStatus_stable hP (hP.bwu hb _ h)

theorem initCard_stable (hP : Stable bs P) (hc : .ctu ∈ bs) (h : P s) : P (initCard s) :=
  askCardSession_stable hP (hP.ctu hc _ h fun _ => Nat.zero_le _)

theorem initTill_stable (hP : Stable bs P) (ht : .tu ∈ bs) (idle : s.tu.drawer ≠ .kicking) (h : P s) : P (initTill s) :=
  askTuStatus_stable hP (hP.till ht _ h (tillCalmer_drawer (by cases s.tu.sensor <;> simp) rfl rfl (.inl idle)))

theorem initPrinter_stable (hP : Stable bs P) (hp : .pu ∈ bs) (h : P s) : P (initPrinter s) :=
  askPuFree_stable hP (hP.pu hp _ h (emptied_orderly rfl rfl rfl rfl))

theorem initLinks_stable (hP : Stable bs P) (h : P s) : P (initLinks s) := foldl_keeps _ (fun _ => enterUnseen_stable hP) h

theorem relink_stable (hP : Stable bs P) {old : Setup} {l : LinkId} (h : P s) : P (relink old s l) :=
  if_keeps h (enterUnseen_stable hP h)

theorem recommitPlatter_stable (hP : Stable bs P) {old : State} (hb : .pwu ∈ bs) (h : P s) : P (recommitPlatter old s) :=
  hP.pwu hb _ (staleCurrent_stable hP hb h)

theorem takeJournal_stable (hP : Stable bs P) {c : Setup} (hb : .bi ∈ bs) (h : P s) : P (takeJournal s c) := hP.engine hb _ h

/-- What the units do at a first commit, after the RE's own step. -/
theorem applyFirst_stable (hP : Stable bs P) {c : Setup} (sub : [.bi, .re, .pwu, .bwu, .su, .ctu, .tu, .pu, .ju] ⊆ bs)
    (till : ∀ u : State, u.tu = s.tu → P u → P (initTill u)) (h : P (takeSetup s c)) : P (applyFirst s c) := by
  have sale : P (initSale ((takeSetup s c).setRe { (takeSetup s c).re with clock := 0 }) c) :=
    initSale_stable hP (sub (by decide)) (hP.clock (sub (by decide)) _ h)
  have weighed := initCard_stable hP (sub (by decide))
    (initBag_stable hP (sub (by decide)) (initPlatter_stable hP (sub (by decide)) sale))
  have units := initPrinter_stable hP (sub (by decide)) (till _ (by simp) weighed)
  exact markCommit_stable hP (tieAsks_stable hP
    (initLinks_stable hP (takeJournal_stable hP (sub (by decide)) (hP.ju (sub (by decide)) _ units))))

/-- What the units do at a recommit, after the RE's own step. -/
theorem applyRecommit_stable (hP : Stable bs P) {c : Setup} {journal : Bool} (sub : [.bi, .pwu, .bwu, .su] ⊆ bs)
    (h : P (takeSetup s c)) : P (applyRecommit s c journal) := by
  have units : P (recommitPlatter s ([LinkId.platter, .bag, .card, .printer].foldl (relink (cfg s)) (takeSetup s c))) :=
    recommitPlatter_stable hP (sub (by decide)) (foldl_keeps _ (fun _ => relink_stable hP) h)
  have next (x : Bwu) (n : Word) {t : State} (ht : t = askBwuStatus (State.setBwu _ x) true) :
      P (t.setSu { t.su with nextNumber := n }) :=
    hP.su (sub (by decide)) _ (ht ▸ askBwuStatus_stable hP (hP.bwu (sub (by decide)) x units)) (fun _ he => .inl he)
      (suOrderly_of_eq rfl rfl rfl)
  exact markCommit_stable hP (tieAsks_stable hP
    (if_keeps (takeJournal_stable hP (sub (by decide)) (next _ _ rfl)) (next _ _ rfl)))

/-! ### What follows the close of a window -/

/-- Nothing but a kick asks more than the primitive moves. -/
theorem runAfter_stable (hP : Stable bs P) {a : After} (sub : [.bwu, .su, .ctu, .pu, .ju] ⊆ bs) (calm : eventCalm s)
    (other : ∀ c, a ≠ .kick c) (h : P s) : P (runAfter s a) := by
  cases a with
  | kick c => exact absurd rfl (other c)
  | suWrite => exact suAskWindow_stable hP calm h
  | suDone => exact hP.su (sub (by decide)) _ h nofun (suOrderly_of_eq rfl rfl rfl)
  | headAdvance => exact hP.ju (sub (by decide)) _ h
  | cardAsk index amount => exact cardAsks_stable hP (sub (by decide)) h
  | tellBag tell => exact hP.bwu (sub (by decide)) _ (arrive_stable hP h)
  | tellPrint tell => exact hP.pu (sub (by decide)) _ (arrive_stable hP h) ⟨id, id⟩
  | saleFinished => exact hP.raise _ _ h

end

end Sys2Proof.Machine
end

section
/-! The commands that are no events of the units: what each of them comes to when it is enabled, said once for every law. -/

namespace Sys2Proof.Machine

/-- `P` holds after each of the other commands at `s`: the host accesses, the windows, the memory port, the events of the Request
Engine and of the Notice Unit, and RESET_N. -/
structure EngineKept (P : State → Prop) (s : State) : Prop where
  word : s.bi.inReset = false → busFree s = true → ∀ w, P (presentWord s w)
  read : s.bi.inReset = false → readFree s = true → ∀ a n, P (presentRead s a n)
  opens : s.bi.inReset = false → ∀ w ∈ s.bi.waiting, canOpen s w = true → P (openWindow s w)
  closes : s.bi.inReset = false → ∀ o ∈ s.bi.opened, o.owner ≠ .nu → windowWritten s o.id = true →
    P (freedNotices s (closeWindow s o))
  grant : s.bi.inReset = false → P (portGrant s)
  fetched : s.bi.inReset = false → s.re.phase = .fetching → P (requestFetched s)
  commit : s.bi.inReset = false → awaits s .setupCommit = true → commitReady s = true → P (setupCommit s)
  reset : s.bi.inReset = false → awaits s .laneReset = true → saleReady s = true → P (laneReset s)
  applied : s.bi.inReset = false → s.re.resetDue = true → P (applyLaneReset s)
  completion : s.bi.inReset = false → ∀ o, writtenRecord s = some o → s.nu.writer = .completion →
    ∀ askFirst, P (completionWritten s o askFirst)
  answer : s.bi.inReset = false → ∀ kind count stamp source waiting payload b,
    s.nu.writer = .asking kind count stamp source waiting payload → b ∈ waiting → answerReady s kind b = true →
    P (unitNotices
      (answered (takeAsk s b) kind count stamp source (waiting.filter fun x => x != b)
        (joinPayload payload (packPayload (payloadFields s kind source b)))) b)
  condition : s.bi.inReset = false → ∀ o, writtenRecord s = some o → s.nu.writer = .condition → P (conditionWritten s o)
  asserted : s.bi.inReset = false → P (resetAssert s)

section
variable {P : State → Prop} {s : State}

theorem execUpdateWindowOpen_answers (k : EngineKept P s) (h : P s) (i : Nat) : answers P (execUpdateWindowOpen i s) := by
  unfold execUpdateWindowOpen
  split
  next w hw => exact answers_stepIf h fun high go => k.opens high w (List.mem_of_getElem? hw) go
  next => exact answers_next h

theorem execUpdateWindowClose_answers (k : EngineKept P s) (h : P s) (i : Nat) :
    answers P (execUpdateWindowClose i s) := by
  unfold execUpdateWindowClose
  split
  next o ho =>
    refine answers_stepIf h fun high go => ?_
    obtain ⟨owner, written⟩ := Bool.and_eq_true_iff.mp go
    exact k.closes high o (List.mem_of_getElem? ho) (by simpa using owner) written
  next => exact answers_next h

theorem execLaneReset_answers (k : EngineKept P s) (h : P s) : answers P (execLaneReset s) := by
  refine answers_stepIf h fun high go => ?_
  split
  next due => exact k.applied high due
  next notDue =>
    have asked : awaits s .laneReset = true ∧ saleReady s = true := by simpa [notDue] using go
    exact k.reset high asked.1 asked.2

theorem execCompletionWritten_answers (k : EngineKept P s) (h : P s) (askFirst : Bool) :
    answers P (execCompletionWritten askFirst s) := by
  unfold execCompletionWritten
  split
  next o ho => exact answers_stepIf h fun high go => k.completion high o ho (by simpa using go) askFirst
  next => exact answers_next h

theorem execPayloadAnswer_answers (k : EngineKept P s) (h : P s) (b : BlockId) : answers P (execPayloadAnswer b s) := by
  unfold execPayloadAnswer
  split
  next kind count stamp source waiting payload writer =>
    refine answers_stepIf h fun high go => ?_
    obtain ⟨asked, ready⟩ := Bool.and_eq_true_iff.mp go
    exact k.answer high kind count stamp source waiting payload b writer (by simpa using asked) ready
  next => exact answers_next h

theorem execConditionRecordWritten_answers (k : EngineKept P s) (h : P s) : answers P (execConditionRecordWritten s) := by
  unfold execConditionRecordWritten
  split
  next o ho => exact answers_stepIf h fun high go => k.condition high o ho (by simpa using go)
  next => exact answers_next h

theorem execResetNAssert_answers (k : EngineKept P s) (h : P s) : answers P (execResetNAssert s) := by
  refine answers_next ?_
  split
  next => exact h
  next high => exact k.asserted (by simpa using high)

/-- A law is kept by every command if the events of the units keep it and the other commands do. -/
theorem exec_all {c : Instr} (units : ∀ cs, eventBlocks c = some cs → answers P (exec c s)) (k : EngineKept P s)
    (release : ∀ laSel bagFit, c = .resetNRelease laSel bagFit → s.bi.inReset = true → P (resetRelease s laSel bagFit))
    (pins : ∀ input level, c = .rawLevelChange input level → P (rawLevelChange s input level)) (h : P s) :
    answers P (exec c s) := by
  have word {enabled : Bool} (free : enabled = true → busFree s = true) (w : HostWord) :
      answers P (stepIf s enabled (presentWord s w)) := answers_stepIf h fun high go => k.word high (free go) w
  have read {enabled : Bool} (free : enabled = true → readFree s = true) (a n : Nat) :
      answers P (stepIf s enabled (presentRead s a n)) := answers_stepIf h fun high go => k.read high (free go) a n
  cases hc : eventBlocks c with
  | some cs => exact units cs hc
  | none =>
    cases c with
    | hostWriteWord addr be data last => exact word (fun go => (Bool.and_eq_true_iff.mp go).1) _
    | hostReadBurst addr len => exact read (fun go => (Bool.and_eq_true_iff.mp go).1) _ _
    | reqProducerWrite be data last => exact word id _
    | evtConsumerWrite be data last => exact word id _
    | journalExportWrite be data last => exact word id _
    | noticeMaskWrite be data last => exact word id _
    | receiptFillWrite be data last => exact word id _
    | printPageTableWrite n be data last => exact word (fun go => (Bool.and_eq_true_iff.mp go).1) _
    | apertureWrite n be data last => exact word (fun go => (Bool.and_eq_true_iff.mp go).1) _
    | apertureRead n => exact read (fun go => (Bool.and_eq_true_iff.mp go).1) _ _
    | updateWindowOpen i => exact execUpdateWindowOpen_answers k h i
    | updateWindowClose i => exact execUpdateWindowClose_answers k h i
    | memoryPortGrant => exact answers_stepIf h fun high _ => k.grant high
    | requestFetched =>
      exact answers_stepIf h fun high go => k.fetched high (by simpa using (Bool.and_eq_true_iff.mp go).1)
    | setupCommit =>
      exact answers_stepIf h fun high go =>
        k.commit high (Bool.and_eq_true_iff.mp go).1 (Bool.and_eq_true_iff.mp go).2
    | laneReset => exact execLaneReset_answers k h
    | completionWritten askFirst => exact execCompletionWritten_answers k h askFirst
    | payloadAnswer b => exact execPayloadAnswer_answers k h b
    | conditionRecordWritten => exact execConditionRecordWritten_answers k h
    | resetNAssert => exact execResetNAssert_answers k h
    | resetNRelease laSel bagFit =>
      refine answers_next ?_
      split
      next low => exact release laSel bagFit rfl low
      next => exact h
    | rawLevelChange input level => exact answers_next (pins input level rfl)
    | _ => cases hc

/-- Held low, RESET_N lets no other step do anything: only the pins change, and the release acts (R19). -/
theorem exec_low {c : Instr} (low : s.bi.inReset = true) (release : ∀ laSel bagFit, c ≠ .resetNRelease laSel bagFit)
    (pins : ∀ input level, c ≠ .rawLevelChange input level) : exec c s = .next s := by
  have no {q : Prop} (high : s.bi.inReset = false) : q := absurd (low.symm.trans high) nofun
  have idle : answers (fun t => t = s) (exec c s) := by
    refine exec_all (fun cs hc => exec_answers (bs := cs) no hc (List.Subset.refl cs) rfl) ?_
      (fun laSel bagFit hc => absurd hc (release laSel bagFit)) (fun input level hc => absurd hc (pins input level)) rfl
    exact ⟨no, no, no, no, no, no, no, no, no, no, no, no, no⟩
  obtain ⟨t, ht, rfl⟩ := idle
  exact ht

/-- Every command keeps the law `P` if the commands that RESET_N lets act do. -/
theorem exec_kept (units : ∀ c cs s, s.bi.inReset = false → eventBlocks c = some cs → P s → answers P (exec c s))
    (engine : ∀ s, s.bi.inReset = false → P s → EngineKept P s)
    (release : ∀ s laSel bagFit, s.bi.inReset = true → P s → P (resetRelease s laSel bagFit))
    (pins : ∀ s input level, P s → P (rawLevelChange s input level)) (c : Instr) (s : State) (h : P s) :
    answers P (exec c s) := by
  cases reset : s.bi.inReset with
  | false =>
    exact exec_all (fun cs hc => units c cs s reset hc h) (engine s reset h)
      (fun _ _ _ low => absurd (low.symm.trans reset) nofun) (fun input level _ => pins s input level h) h
  | true =>
    cases c with
    | resetNRelease laSel bagFit => exact answers_next (if_keeps (release s laSel bagFit reset h) h)
    | rawLevelChange input level => exact answers_next (pins s input level h)
    | _ =>
      rw [answers, exec_low reset]
      · exact answers_next h
      · nofun
      · nofun

/-- Every command keeps the law `Q` if it keeps the stronger `P` while RESET_N is high, and the pins and the release keep `Q`
while it is low. -/
theorem exec_law {Q : State → Prop} (weaken : ∀ t, P t → Q t) (live : ∀ t, t.bi.inReset = false → Q t → P t)
    (stable : Stable allBlocks P) (engine : ∀ s, s.bi.inReset = false → P s → EngineKept Q s)
    (release : ∀ s laSel bagFit, s.bi.inReset = true → Q s → Q (resetRelease s laSel bagFit))
    (pins : ∀ s input level, Q s → Q (rawLevelChange s input level)) (c : Instr) (s : State) (h : Q s) :
    answers Q (exec c s) :=
  exec_kept
    (fun _ _ s high hc h =>
      answers_mono weaken (exec_answers (fun _ => stable) hc (fun b _ => mem_allBlocks b) (live s high h)))
    (fun s high h => engine s high (live s high h)) release pins c s h

end

end Sys2Proof.Machine
end

section
/-! The laws of the machine and of the memory path: a step runs the front command (O1), every command answers and leaves the
queue (O2), memory stays canonical (O55), and open windows never meet (O58). The events of the units leave all these alone
(`busKept`); the other commands are taken one by one. -/

namespace Sys2Proof.Machine

/-! ### What the events of the units leave of the memory path and the queue -/

/-- Memory, the queue, the open windows, the host access that waits and the strap are as before. -/
structure busKept (s t : State) : Prop where
  mem : t.mem = s.mem
  queue : t.pending = s.pending
  opened : t.bi.opened = s.bi.opened
  stall : t.bi.hostStall = s.bi.hostStall
  strap : t.bi.laSel = s.bi.laSel

theorem busKept.refl (s : State) : busKept s s := ⟨rfl, rfl, rfl, rfl, rfl⟩

theorem busKept.trans {s t u : State} (h : busKept s t) (k : busKept t u) : busKept s u :=
  ⟨k.mem.trans h.mem, k.queue.trans h.queue, k.opened.trans h.opened, k.stall.trans h.stall, k.strap.trans h.strap⟩

theorem raise_busKept (s : State) (k : CondKind) (n : Nat) : busKept s (raise s k n) := by constructor <;> simp

theorem deliver_busKept (s : State) (l : LinkId) (kind : Byte) (payload : List Byte) (gap : Bool) :
    busKept s (deliver s l kind payload gap) := by constructor <;> simp

theorem finishRequest_busKept (s : State) (r : ResultCode) (d1 d2 : Word) : busKept s (finishRequest s r d1 d2) := by
  constructor <;> simp

theorem suWrite_busKept (s : State) (new : Su) (words : List (Nat × Word)) (after : List After) (q : Bool) :
    busKept s (suWrite s new words after q) := by constructor <;> simp

/-- Every block may change. -/
theorem busKept_stable (bs : List BlockId) (z : State) : Stable bs (busKept z) where
  setFree _ h := { h with }
  setArrivals _ h := { h with }
  asks x h _ hx := by
    rw [hx]
    exact h.trans ⟨rfl, rfl, rfl, rfl, rfl⟩
  raise k n h := h.trans (raise_busKept _ k n)
  inbox _ h := { h with }
  link _ _ h _ := { h with }
  deliver l kind payload gap h := h.trans (deliver_busKept _ l kind payload gap)
  finish _ _ r d1 d2 h := h.trans (finishRequest_busKept _ r d1 d2)
  clock _ _ _ h := { h with }
  engine _ _ _ h := { h with }
  pwu _ _ _ h := { h with }
  bwu _ _ _ h := { h with }
  su _ _ _ h _ _ := { h with }
  grow _ _ _ _ h _ _ := { h with }
  claim _ _ _ _ h _ _ := { h with }
  ctu _ _ _ h _ := { h with }
  till _ _ _ h _ := { h with }
  kick _ _ _ _ h _ := { h with }
  cash _ _ new words h _ _ _ _ _ := h.trans (suWrite_busKept _ new words _ _)
  pu _ _ _ h _ := { h with }
  ju _ _ _ h := { h with }

theorem exec_busKept {c : Instr} {cs : List BlockId} (hc : eventBlocks c = some cs) (s : State) :
    answers (busKept s) (exec c s) :=
  exec_answers (fun _ => busKept_stable allBlocks s) hc (fun b _ => mem_allBlocks b) (.refl s)

/-! The Request Engine's own steps do the same. -/

theorem nextRequest_busKept (s : State) : busKept s (nextRequest s) := by constructor <;> simp

theorem resetUnit_busKept {z s : State} (b : BlockId) (h : busKept z s) : busKept z (resetUnit s b) := by
  have hP := busKept_stable allBlocks z
  by_cases re : b = .re
  · subst re
    exact resetLinks_stable hP (askFixed_stable hP noKick_nil { h with })
  · exact resetUnit_stable hP re (fun b _ => mem_allBlocks b) h

theorem takeResets_busKept (s : State) : busKept s (takeResets s) := by
  have told (x : Re) : busKept s
      ((tieAsks ((s.re.resetting.filter (resetReady s)).foldl resetUnit s) s.bi.nextWindow).setRe x) :=
    { tieAsks_stable (busKept_stable allBlocks s) (foldl_keeps _ resetUnit_busKept (.refl s)) with }
  exact if_keeps ((told _).trans (nextRequest_busKept _)) (told _)

theorem applyLaneReset_busKept (s : State) : busKept s (applyLaneReset s) := by
  refine if_keeps (.trans ?_ (nextRequest_busKept _)) (.trans ?_ (takeResets_busKept _))
  · exact ⟨rfl, rfl, rfl, rfl, rfl⟩
  · exact ⟨rfl, rfl, rfl, rfl, rfl⟩

theorem setupCommit_busKept (s : State) : busKept s (setupCommit s) := by
  have hP := busKept_stable allBlocks s
  have all (cs : List BlockId) : cs ⊆ allBlocks := fun b _ => mem_allBlocks b
  refine if_keeps ?_ (if_keeps (finishRequest_busKept s _ _ _) { busKept.refl s with })
  unfold decideCommit
  dsimp only
  split
  · exact hP.finish (mem_allBlocks _) _ _ _ (askFixed_stable hP noKick_nil { busKept.refl s with })
  · refine hP.finish (mem_allBlocks _) _ _ _ (if_keeps ?_ ?_)
    · exact applyRecommit_stable hP (all _) { busKept.refl s with }
    · exact applyFirst_stable hP (all _) (fun _ _ h => askTuStatus_stable hP { h with }) { busKept.refl s with }

/-! ### A step (O1) -/

/-- Settles O1: by the two branches of `step`, and since `decodeTableWord` spells no command. -/
theorem stepRunsTheFrontCommand : Obligations.StepRunsTheFrontCommand := by
  unfold Obligations.StepRunsTheFrontCommand
  refine ⟨fun c rest s queue => ?_, fun s queue => ?_, fun s nbits w => ⟨rfl, rfl⟩⟩
  · simp [step, queue]
  · simp [step, queue]

/-- A law that every command keeps, and that does not look at the queue, is kept by a step. -/
theorem step_of_exec {P : State → Prop} (hexec : ∀ c s, P s → answers P (exec c s))
    (hqueue : ∀ s cs, P s → P { s with pending := cs }) {s t : State} (h : P s) (ht : step s = .next t) : P t := by
  unfold step at ht
  split at ht
  next =>
    cases ht
    exact h
  next c rest _ => exact answers_out (hexec c _ (hqueue s rest h)) ht

/-! ### The queue (O2) -/

/-- The queue is that of `s`. -/
def queueKept (s t : State) : Prop := t.pending = s.pending

theorem queueKept_engine (s : State) : EngineKept (queueKept s) s where
  word _ _ _ := by simp [queueKept]
  read _ _ _ _ := by simp [queueKept]
  opens _ _ _ _ := by simp [queueKept]
  closes _ _ _ _ _ := by simp [queueKept]
  grant _ := by simp [queueKept]
  fetched _ _ := by simp [queueKept]
  commit _ _ _ := by simp [queueKept]
  reset _ _ _ := by simp [queueKept]
  applied _ _ := by simp [queueKept]
  completion _ _ _ _ _ := by simp [queueKept]
  answer _ _ _ _ _ _ _ _ _ _ _ := by simp [queueKept]
  condition _ _ _ _ := by simp [queueKept]
  asserted _ := rfl

/-- Settles O2: the events of the units leave the queue (`busKept`), and so does each other command. -/
theorem everyCommandAnswersNextAndLeavesTheQueue : Obligations.EveryCommandAnswersNextAndLeavesTheQueue := by
  unfold Obligations.EveryCommandAnswersNextAndLeavesTheQueue
  intro c s
  exact exec_all (fun _ hc => answers_mono (fun _ h => h.queue) (exec_busKept hc s)) (queueKept_engine s)
    (fun _ _ _ _ => rfl) (fun _ _ _ => by simp) rfl

/-! ### Memory (O55) -/

theorem memoryCanonical_of_mem {s t : State} (mem : t.mem = s.mem) (h : memoryCanonical s) : memoryCanonical t := by
  rw [memoryCanonical, mem]
  exact h

theorem setMem_canonical {s : State} {m : List Host.Cell} (h : Memory.wf m = true) : memoryCanonical (s.setMem m) := h

theorem applyDecision_canonical {s : State} (w : HostWord) (d : Decision) (h : memoryCanonical s) :
    memoryCanonical (applyDecision s w d) := by
  cases d with
  | ignored => exact h
  | refused unmapped => exact memoryCanonical_of_mem (by simp [applyDecision]) h
  | plain a => exact setMem_canonical (Memory.wf_writeWord _ _ _ h)
  | control k c =>
    exact memoryCanonical_of_mem
      (s := s.setMem (Memory.writeWord s.mem (laneBase (grantBurst s) + k.offset) allBytes c))
      (by simp [applyDecision, storeWatched]) (setMem_canonical (Memory.wf_writeWord _ _ _ h))
  | page word => exact setMem_canonical (Memory.wf_writeWord _ _ _ (memoryCanonical_of_mem (by simp) h))

theorem takeWord_canonical {s : State} (w : HostWord) (h : memoryCanonical s) : memoryCanonical (takeWord s w) :=
  have applied := applyDecision_canonical w (decideWrite s w) h
  if_keeps (memoryCanonical_of_mem (s := applyDecision s w (decideWrite s w)) (by simp) applied) applied

theorem presentWord_canonical {s : State} (w : HostWord) (h : memoryCanonical s) : memoryCanonical (presentWord s w) :=
  if_keeps h (if_keeps h (takeWord_canonical w h))

theorem engineGrant_canonical {s : State} (h : memoryCanonical s) : memoryCanonical (engineGrant s) := by
  unfold engineGrant
  split
  · exact h
  next a rest _ =>
    cases a with
    | write w words => exact setMem_canonical (Memory.wf_writeWords _ h)
    | journalWrite head exported =>
      exact memoryCanonical_of_mem
        (s := s.setMem (Memory.writeWord s.mem (laneBase s + 0x1008) allBytes exported))
        (by simp [engineAccess, installJournal, laneBase]) (setMem_canonical (Memory.wf_writeWord _ _ _ h))
    | fetch half => exact h
    | setup index => exact h
    | pageEntry page => exact memoryCanonical_of_mem (by simp [engineAccess]; split <;> simp) h
    | slot addr count => exact memoryCanonical_of_mem (by simp [engineAccess]; split <;> simp) h

theorem portGrant_canonical {s : State} (h : memoryCanonical s) : memoryCanonical (portGrant s) := by
  have cleared : memoryCanonical (s.setBi { s.bi with hostStall := none }) := h
  have read (a n : Nat) : memoryCanonical (serveRead s a n) := memoryCanonical_of_mem (by simp) h
  unfold portGrant
  split
  · exact if_keeps (if_keeps cleared (takeWord_canonical _ cleared)) (engineGrant_canonical h)
  · exact if_keeps (engineGrant_canonical h) (presentWord_canonical _ cleared)
  · exact if_keeps (engineGrant_canonical h) (read _ _)
  · exact engineGrant_canonical h

theorem memoryCanonical_engine {s : State} (h : memoryCanonical s) : EngineKept memoryCanonical s where
  word _ _ w := presentWord_canonical w h
  read _ _ _ _ := memoryCanonical_of_mem (by simp) h
  opens _ _ _ _ := memoryCanonical_of_mem (by simp) h
  closes _ _ _ _ _ := memoryCanonical_of_mem (by simp) h
  grant _ := portGrant_canonical h
  fetched _ _ := memoryCanonical_of_mem (by simp) h
  commit _ _ _ := memoryCanonical_of_mem (setupCommit_busKept s).mem h
  reset _ _ _ := memoryCanonical_of_mem (by simp) h
  applied _ _ := memoryCanonical_of_mem (applyLaneReset_busKept s).mem h
  completion _ _ _ _ _ := memoryCanonical_of_mem (by simp) h
  answer _ _ _ _ _ _ _ _ _ _ _ := memoryCanonical_of_mem (by simp) h
  condition _ _ _ _ := memoryCanonical_of_mem (by simp) h
  asserted _ := h

/-- Settles O55: the events of the units leave memory alone, and the others write it word by word. -/
theorem memoryStaysCanonical : Obligations.MemoryStaysCanonical := by
  unfold Obligations.MemoryStaysCanonical
  intro s t h ht
  refine step_of_exec (fun c s h => exec_all (fun cs hc => ?_) (memoryCanonical_engine h) ?_ ?_ h) (fun _ _ h => h) h ht
  · exact answers_mono (fun _ kept => memoryCanonical_of_mem kept.mem h) (exec_busKept hc s)
  · exact fun _ _ _ _ => setMem_canonical (Memory.wf_writeWords _ h)
  · exact fun _ _ _ => memoryCanonical_of_mem (by simp) h

/-! ### Open windows and the read being served (O58) -/

/-- The open windows and the strap are as before, and no read has come to be served. -/
structure windowsKept (s t : State) : Prop where
  opened : t.bi.opened = s.bi.opened
  strap : t.bi.laSel = s.bi.laSel
  stall : t.bi.hostStall = s.bi.hostStall ∨ ∀ a n, t.bi.hostStall ≠ some (.readServing a n)

/-- The definition as an equation of functions: the kernel would evaluate the address arithmetic of `sectionOf s a`. -/
theorem sectionOf_eq_bind : sectionOf = fun s a => (laneOffset s a).bind sectionAt := by
  delta sectionOf
  funext s a
  generalize laneOffset s a = offset
  cases offset with
  | none => rfl
  | some o => rfl

theorem sectionOf_bind (s : State) (a : Nat) : sectionOf s a = (laneOffset s a).bind sectionAt :=
  congrFun (congrFun sectionOf_eq_bind s) a

theorem laneBase_congr {s t : State} (strap : t.bi.laSel = s.bi.laSel) : laneBase t = laneBase s := by
  unfold laneBase
  rw [strap]

theorem laneOffset_congr {s t : State} (strap : t.bi.laSel = s.bi.laSel) (a : Nat) : laneOffset t a = laneOffset s a := by
  simp only [laneOffset, laneBase_congr strap]

theorem sectionOf_congr {s t : State} (strap : t.bi.laSel = s.bi.laSel) (a : Nat) : sectionOf t a = sectionOf s a := by
  rw [sectionOf_bind, sectionOf_bind, laneOffset_congr strap]

theorem burstTouches_congr {s t : State} (strap : t.bi.laSel = s.bi.laSel) (a n : Nat) (xs : List LaneSection) :
    burstTouches t a n xs = burstTouches s a n xs := by
  simp only [burstTouches, sectionOf_congr strap]

theorem windowHeld_congr {s t : State} (opened : t.bi.opened = s.bi.opened) (strap : t.bi.laSel = s.bi.laSel) (a n : Nat) :
    windowHeld t a n = windowHeld s a n := by
  simp only [windowHeld, opened, burstTouches_congr strap]

theorem windowsKept.law {s t : State} (h : windowsKept s t) (hs : windowLaw s) : windowLaw t where
  disjoint := h.opened ▸ hs.disjoint
  served a n serving := by
    rw [windowHeld_congr h.opened h.strap]
    exact hs.served a n (h.stall.elim (· ▸ serving) fun none => absurd serving (none a n))

theorem windowLaw.kept {s t : State} (hs : windowLaw s) (h : windowsKept s t) : windowLaw t := h.law hs

theorem busKept.windows {s t : State} (h : busKept s t) : windowsKept s t := ⟨h.opened, h.strap, .inl h.stall⟩

theorem windowsKept_of_frame {s t : State} (h : eventFrame unitBlocks s t) : windowsKept s t := by
  have hbi : windowsAskedOnly s t := h.bi.resolve_left (by decide)
  exact ⟨(congrArg Bi.opened hbi :), (congrArg Bi.laSel hbi :), .inl (congrArg Bi.hostStall hbi :)⟩

/-! #### Host accesses -/

theorem windowsKept.refl (s : State) : windowsKept s s := ⟨rfl, rfl, .inl rfl⟩

theorem windowsKept.trans {s t u : State} (h : windowsKept s t) (k : windowsKept t u) : windowsKept s u where
  opened := k.opened.trans h.opened
  strap := k.strap.trans h.strap
  stall := by
    obtain same | none := k.stall
    · rw [same]
      exact h.stall
    · exact .inr none

theorem grantBurst_windowsKept (s : State) : windowsKept s (grantBurst s) :=
  if_keeps (.refl s) ⟨by simp, by simp, .inl (by simp)⟩

theorem deliverWatched_windowsKept (s : State) (k : Watched) (old : Word) : windowsKept s (deliverWatched s k old) := by
  cases k with
  | reqProducer => exact if_keeps (nextRequest_busKept s).windows (.refl s)
  | evtConsumer => exact if_keeps (.refl s) ⟨by simp, by simp, .inl (by simp)⟩
  | journalExport => exact if_keeps (.refl s) ⟨by simp, by simp, .inl (by simp)⟩
  | noticeMask => exact if_keeps (.refl s) ⟨by simp, by simp, .inl (by simp)⟩
  | receiptFill => exact if_keeps (.refl s) ⟨by simp, by simp, .inl (by simp)⟩

theorem setWatched_windowsKept (s : State) (k : Watched) (w : Word) (m : List Host.Cell) :
    windowsKept s ((setWatched s k w).setMem m) := by
  cases k <;> exact ⟨rfl, rfl, .inl rfl⟩

theorem applyDecision_windowsKept (s : State) (w : HostWord) (d : Decision) : windowsKept s (applyDecision s w d) := by
  have granted := grantBurst_windowsKept s
  cases d with
  | ignored => exact .refl s
  | refused unmapped =>
    refine .trans ?_ (raise_busKept _ _ _).windows
    exact ⟨rfl, rfl, .inl rfl⟩
  | plain a => exact granted.trans ⟨rfl, rfl, .inl rfl⟩
  | control k c => exact (granted.trans (setWatched_windowsKept _ k c _)).trans (deliverWatched_windowsKept _ k _)
  | page word => exact granted.trans ⟨rfl, rfl, .inl rfl⟩

theorem endBurst_windowsKept (s : State) : windowsKept s (endBurst s) :=
  if_keeps ⟨by simp, by simp, .inl (by simp)⟩ ⟨rfl, rfl, .inl rfl⟩

theorem takeWord_windowsKept (s : State) (w : HostWord) : windowsKept s (takeWord s w) :=
  have applied := applyDecision_windowsKept s w (decideWrite s w)
  if_keeps (applied.trans (endBurst_windowsKept _)) applied

theorem presentWord_windowsKept (s : State) (w : HostWord) : windowsKept s (presentWord s w) := by
  refine if_keeps ⟨rfl, rfl, .inr nofun⟩ (if_keeps ⟨rfl, rfl, .inr nofun⟩ (takeWord_windowsKept s w))

/-- A read that no open window holds is served, or waits for the port alone. -/
theorem serveRead_law {s : State} {a n : Nat} (hs : windowLaw s) (free : windowHeld s a n = false) :
    windowLaw (serveRead s a n) where
  disjoint := by
    have opened : (serveRead s a n).bi.opened = s.bi.opened := by simp
    rw [opened]
    exact hs.disjoint
  served b m serving := by
    rw [windowHeld_congr (s := s) (by simp) (by simp)]
    have same : b = a ∧ m = n := by
      revert serving
      unfold serveRead hostGrant
      dsimp only
      split
      · rintro ⟨⟩
        exact ⟨rfl, rfl⟩
      · split <;> exact nofun
    rw [same.1, same.2]
    exact free

theorem presentRead_law {s : State} (a n : Nat) (hs : windowLaw s) : windowLaw (presentRead s a n) := by
  unfold presentRead
  split
  · exact windowsKept.law (s := s) ⟨rfl, rfl, .inr nofun⟩ hs
  next free =>
    simp only [burstHeld, Bool.or_eq_true, not_or, Bool.not_eq_true] at free
    exact serveRead_law hs free.1

theorem engineGrant_windowsKept (s : State) : windowsKept s (engineGrant s) := ⟨by simp, by simp, .inl (by simp)⟩

theorem portGrant_law {s : State} (hs : windowLaw s) : windowLaw (portGrant s) := by
  have cleared : windowsKept s (s.setBi { s.bi with hostStall := none }) := ⟨rfl, rfl, .inr nofun⟩
  have engine : windowLaw (engineGrant s) := (engineGrant_windowsKept s).law hs
  have offered (w : HostWord) (t : State) (ht : windowsKept s t) : windowsKept s (offerWord t w) :=
    if_keeps (ht.trans ⟨rfl, rfl, .inr nofun⟩) (ht.trans (takeWord_windowsKept t w))
  unfold portGrant
  split
  next w _ =>
    refine if_keeps ((offered w _ ?_).law hs) engine
    exact ⟨rfl, rfl, .inr nofun⟩
  next w _ => exact if_keeps engine ((cleared.trans (presentWord_windowsKept _ w)).law hs)
  next a n stall => exact if_keeps engine (serveRead_law hs (hs.served a n stall))
  next => exact engine

/-! #### Windows that open and close -/

theorem openWindow_law {s : State} {w : WindowAsk} (hs : windowLaw s) (can : canOpen s w = true) :
    windowLaw (openWindow s w) := by
  simp only [canOpen, Bool.and_eq_true, Bool.not_eq_true', List.any_eq_false, Bool.not_eq_true] at can
  obtain ⟨⟨apart, unread⟩, -⟩ := can
  refine ⟨?_, fun a n serving => ?_⟩
  · refine List.pairwise_append.mpr ⟨hs.disjoint, List.pairwise_singleton _ _, fun o ho x hx => ?_⟩
    rw [List.mem_singleton.mp hx]
    exact apart o ho
  · have stall : s.bi.hostStall = some (.readServing a n) := serving
    have before : windowHeld s a n = false := hs.served a n stall
    have new : burstTouches s a n w.sections = false := by simpa [servingTouches, stall] using unread
    simp only [windowHeld, List.any_eq_false, Bool.not_eq_true] at before ⊢
    intro o ho
    rw [burstTouches_congr (t := openWindow s w) (s := s) rfl]
    obtain old | rfl := List.mem_append.mp ho |>.imp_right List.mem_singleton.mp
    · exact before o old
    · exact new

theorem removeWindow_law {s : State} (id : Nat) (hs : windowLaw s) : windowLaw (removeWindow s id) := by
  have removed : windowLaw (s.setBi { s.bi with opened := s.bi.opened.filter fun o => o.id != id }) := by
    refine ⟨hs.disjoint.filter _, fun a n serving => ?_⟩
    have before := hs.served a n serving
    simp only [windowHeld, List.any_eq_false, Bool.not_eq_true] at before ⊢
    intro o ho
    refine (burstTouches_congr (s := s) ?_ a n o.sections).trans ?_
    · rfl
    exact before o (List.mem_of_mem_filter ho)
  unfold removeWindow releaseHeld
  split
  · split
    · exact removed
    next free =>
      simp only [burstHeld, Bool.or_eq_true, not_or, Bool.not_eq_true] at free
      exact serveRead_law removed free.1
  · exact removed

theorem resumeResets_busKept (s : State) : busKept s (resumeResets s) := if_keeps (.refl s) (takeResets_busKept s)

theorem closeWindow_law {s : State} (o : OpenWindow) (hs : windowLaw s) : windowLaw (closeWindow s o) := by
  have progressed := requestProgress_frame _ (runAfters_frame _ o.after (.refl unitBlocks (removeWindow s o.id))) (by decide)
  exact (resumeResets_busKept _).windows.law ((windowsKept_of_frame progressed).law (removeWindow_law o.id hs))

theorem freedNotices_busKept (s t : State) : busKept t (freedNotices s t) :=
  freedNotices_stable (busKept_stable allBlocks t) (mem_allBlocks _) (mem_allBlocks _) (.refl t)

theorem recordWritten_law {s : State} (o : OpenWindow) (reserved : Nat) (hs : windowLaw s) :
    windowLaw (recordWritten s o reserved) := (removeWindow_law o.id hs).kept ⟨rfl, rfl, .inl rfl⟩

theorem look_busKept (s : State) : busKept s (look s) := by constructor <;> simp

theorem afterCompletion_busKept (s : State) (askFirst : Bool) : busKept s (afterCompletion s askFirst) := by
  constructor <;> simp

theorem afterLaneReset_busKept (s : State) (askFirst : Bool) : busKept s (afterLaneReset s askFirst) := by
  refine if_keeps ((applyLaneReset_busKept s).trans (look_busKept _)) (.trans ?_ (look_busKept _))
  exact ⟨rfl, rfl, rfl, rfl, rfl⟩

theorem completionWritten_law {s : State} (o : OpenWindow) (askFirst : Bool) (hs : windowLaw s) :
    windowLaw (completionWritten s o askFirst) := by
  have left : windowLaw (leaveCompleting (recordWritten s o 0)) :=
    (recordWritten_law o 0 hs).kept ⟨rfl, rfl, .inl rfl⟩
  exact if_keeps ((afterLaneReset_busKept _ _).windows.law left) ((afterCompletion_busKept _ _).windows.law left)

theorem payloadAnswer_busKept (s : State) (b : BlockId) (kind : CondKind) (count : Nat) (stamp : Word) (source : Nat)
    (rest : List BlockId) (payload : List Byte) :
    busKept s (unitNotices (answered (takeAsk s b) kind count stamp source rest payload) b) := by
  refine .trans ?_ (unitNotices_stable (busKept_stable allBlocks _) (mem_allBlocks _) (mem_allBlocks _) (.refl _))
  constructor <;> simp

theorem windowLaw_engine {s : State} (hs : windowLaw s) : EngineKept windowLaw s where
  word _ _ w := (presentWord_windowsKept s w).law hs
  read _ _ a n := presentRead_law a n hs
  opens _ _ _ can := openWindow_law hs can
  closes _ o _ _ _ := (freedNotices_busKept s _).windows.law (closeWindow_law o hs)
  grant _ := portGrant_law hs
  fetched _ _ := windowsKept.law ⟨by simp, by simp, .inl (by simp)⟩ hs
  commit _ _ _ := (setupCommit_busKept s).windows.law hs
  reset _ _ _ := (finishRequest_busKept s _ _ _).windows.law hs
  applied _ _ := (applyLaneReset_busKept s).windows.law hs
  completion _ o _ _ askFirst := completionWritten_law o askFirst hs
  answer _ _ _ _ _ _ _ b _ _ _ := (payloadAnswer_busKept s b _ _ _ _ _ _).windows.law hs
  condition _ o _ _ := (look_busKept _).windows.law (recordWritten_law o _ hs)
  asserted _ := ⟨.nil, nofun⟩

/-- Settles O58: a window opens only where `canOpen` finds no other window and no read on its sections, and a read is served only
where no open window holds it; every other command leaves open windows and the read being served as they are. -/
theorem openWindowsNeverMeet : Obligations.OpenWindowsNeverMeet := by
  unfold Obligations.OpenWindowsNeverMeet
  intro s t h ht
  refine step_of_exec (fun c s h => exec_all (fun cs hc => ?_) (windowLaw_engine h) ?_ ?_ h)
    (fun _ _ h => h.kept ⟨rfl, rfl, .inl rfl⟩) h ht
  · exact answers_mono (fun _ kept => kept.windows.law h) (exec_busKept hc s)
  · exact fun _ _ _ _ => ⟨.nil, nofun⟩
  · exact fun _ _ _ => h.kept ⟨by simp, by simp, .inl (by simp)⟩

end Sys2Proof.Machine
end

section
/-! The law of the ring (O56): unconsumed records, the reservation and a condition record begun keep within the 256 slots. The
events of the units only raise, and may end a request; the Request Engine's and the Notice Unit's own steps and the advance of
the consumer index are taken one by one. -/

namespace Sys2Proof.Machine

/-- The law of the ring while RESET_N is high. -/
structure ringLive (s : State) : Prop extends ringLaw s where
  high : s.bi.inReset = false

/-! ### What leaves the ring alone -/

/-- What the law of the ring speaks of is as before. -/
structure ringKept (s t : State) : Prop where
  nu : t.nu = s.nu
  copy : consumerCopy t = consumerCopy s
  phase : t.re.phase = s.re.phase
  due : t.re.resetDue = s.re.resetDue
  resetting : t.re.resetting = s.re.resetting
  high : t.bi.inReset = s.bi.inReset

theorem ringKept.refl (s : State) : ringKept s s := ⟨rfl, rfl, rfl, rfl, rfl, rfl⟩

theorem ringKept.trans {s t u : State} (h : ringKept s t) (k : ringKept t u) : ringKept s u :=
  ⟨k.nu.trans h.nu, k.copy.trans h.copy, k.phase.trans h.phase, k.due.trans h.due, k.resetting.trans h.resetting,
    k.high.trans h.high⟩

theorem unconsumed_congr {s t : State} (nu : t.nu.producer = s.nu.producer) (copy : consumerCopy t = consumerCopy s) :
    unconsumed t = unconsumed s := by
  simp only [unconsumed, nu, copy]

theorem ringLaw.kept {s t : State} (h : ringLaw s) (k : ringKept s t) : ringLaw t where
  latches := k.nu ▸ h.latches
  bound := by
    rw [unconsumed_congr (congrArg Nu.producer k.nu) k.copy, k.nu]
    exact h.bound
  reservation := by
    rw [k.nu, k.phase]
    exact h.reservation
  writing := by
    rw [k.nu, k.phase]
    exact h.writing
  owing := by
    rw [k.nu, k.phase]
    exact h.owing
  resets := by
    rw [State.resetOwed, k.due, k.resetting, k.phase]
    exact h.resets
  once := by
    rw [k.due, k.resetting]
    exact h.once
  held := by
    rw [k.high, k.nu, k.phase]
    exact h.held

theorem ringLive.kept {s t : State} (h : ringLive s) (k : ringKept s t) : ringLive t :=
  ⟨h.toringLaw.kept k, k.high.trans h.high⟩

/-- While RESET_N is high, the law asks nothing of the state it holds the part in. -/
theorem ringLive_of {s : State} (high : s.bi.inReset = false) (latches : s.nu.latches.length = 24)
    (bound : unconsumed s + s.nu.reserved + conditionBegun s.nu.writer ≤ 256)
    (reservation : s.nu.reserved = if s.re.phase.reserves then 1 else 0)
    (writing : s.nu.writer = .completion → s.re.phase = .completing ∧ s.nu.owed = none)
    (owing : s.nu.owed ≠ none → s.re.phase = .completing) (resets : s.resetOwed = true → s.re.phase = .idle)
    (once : s.re.resetDue = true → s.re.resetting = []) : ringLive s :=
  ⟨⟨latches, bound, reservation, writing, owing, resets, once, fun low => absurd (high.symm.trans low) nofun⟩, high⟩

/-! ### The Notice Unit's steps -/

theorem takeLatch_ringLive {s : State} (i : Nat) (room : s.nu.reserved < freeSlots s)
    (h : ringLive s) : ringLive (takeLatch s i) := by
  have bound : unconsumed s + s.nu.reserved + 1 ≤ 256 := by
    unfold freeSlots at room
    omega
  unfold takeLatch askSalePayload
  dsimp only
  split <;>
    exact ringLive_of h.high (by simpa using h.latches) bound h.reservation nofun h.owing h.resets h.once

theorem look_ringLive {s : State} (h : ringLive s) : ringLive (look s) := by
  unfold look
  split
  next free =>
    split
    next c owed =>
      have completing : s.re.phase = .completing := h.owing (by simp [owed])
      have bound := h.bound
      rw [free] at bound
      exact ringLive_of h.high h.latches bound h.reservation (fun _ => ⟨completing, rfl⟩) (fun no => absurd rfl no) h.resets
        h.once
    next none =>
      split
      next i _ =>
        split
        next room => exact takeLatch_ringLive i room h
        next => exact h
      next => exact h
  next => exact h

theorem raise_ringLive {s : State} (k : CondKind) (n : Nat) (h : ringLive s) : ringLive (raise s k n) :=
  look_ringLive
    (ringLive_of h.high (by simpa using h.latches) h.bound h.reservation h.writing h.owing h.resets h.once)

/-! ### The Request Engine's steps -/

theorem askReStatus_ringKept (s : State) (ofRequest : Bool) : ringKept s (askReStatus s ofRequest) := by
  constructor <;> simp [consumerCopy]

theorem requestProgress_ringLive {s : State} (h : ringLive s) : ringLive (requestProgress s) := by
  unfold requestProgress
  split
  next => exact h
  next o _ =>
    split
    next => exact h
    next go =>
      have executing : s.re.phase = .executing := by simp_all
      split
      · refine h.kept (.trans ?_ (askReStatus_ringKept _ _))
        exact ⟨rfl, rfl, rfl, rfl, rfl, rfl⟩
      · have reserved : s.nu.reserved = 1 := by simp [h.reservation, executing, EnginePhase.reserves]
        have notWriting : s.nu.writer ≠ .completion := fun w => by simpa [executing] using (h.writing w).1
        have notOwed : s.resetOwed = false := by simpa [executing] using h.resets
        exact look_ringLive (ringLive_of h.high h.latches h.bound reserved (fun w => absurd w notWriting) (fun _ => rfl)
          (fun owed => absurd (notOwed.symm.trans owed) nofun) h.once)

theorem finishRequest_ringLive {s : State} (r : ResultCode) (d1 d2 : Word) (h : ringLive s) :
    ringLive (finishRequest s r d1 d2) := requestProgress_ringLive (h.kept ⟨rfl, rfl, rfl, rfl, rfl, rfl⟩)

/-- Between requests nothing is reserved, written or owed. -/
theorem ringLive.idle {s : State} (h : ringLive s) (idle : s.re.phase.reserves = false) :
    s.nu.reserved = 0 ∧ s.nu.writer ≠ .completion ∧ s.nu.owed = none := by
  refine ⟨by simp [h.reservation, idle], fun w => ?_, Classical.byContradiction fun o => ?_⟩
  · simp [(h.writing w).1, EnginePhase.reserves] at idle
  · simp [h.owing o, EnginePhase.reserves] at idle

/-- A slot is reserved where the ring has room for it. -/
theorem grantReservation_ringLive {s : State} (idle : s.re.phase.reserves = false) (notOwed : s.resetOwed = false)
    (room : unconsumed s + conditionBegun s.nu.writer < 256) (h : ringLive s) : ringLive (grantReservation s) := by
  obtain ⟨-, notWriting, owed⟩ := h.idle idle
  have bound : unconsumed s + 1 + conditionBegun s.nu.writer ≤ 256 := by omega
  exact ringLive_of h.high h.latches bound rfl (fun w => absurd w notWriting) (fun o => absurd owed o)
    (fun o => absurd (notOwed.symm.trans o) nofun) h.once

/-- The RE, between requests, turns to another phase in which nothing is reserved. -/
theorem setPhase_ringLive {s : State} (p : EnginePhase) (idle : s.re.phase.reserves = false) (next : p.reserves = false)
    (notOwed : s.resetOwed = false) (h : ringLive s) : ringLive (s.setRe { s.re with phase := p }) := by
  obtain ⟨reserved, notWriting, owed⟩ := h.idle idle
  exact ringLive_of h.high h.latches h.bound (by simp [next, reserved]) (fun w => absurd w notWriting)
    (fun o => absurd owed o) (fun o => absurd (notOwed.symm.trans o) nofun) h.once

theorem nextRequest_ringLive {s : State} (idle : s.re.phase.reserves = false) (notOwed : s.resetOwed = false)
    (h : ringLive s) : ringLive (nextRequest s) := by
  unfold nextRequest
  split
  · exact setPhase_ringLive .idle idle rfl notOwed h
  · split
    next fits =>
      obtain ⟨reserved, -, -⟩ := h.idle idle
      refine grantReservation_ringLive idle notOwed ?_ h
      simpa [reservationFits, reserved] using fits
    next => exact setPhase_ringLive .stalled idle rfl notOwed h

/-! ### The events of the units -/

theorem ringLive_stable (bs : List BlockId) : Stable bs ringLive where
  setFree _ h := { h with }
  setArrivals _ h := { h with }
  asks x h _ hx := by
    rw [hx]
    exact { h with }
  raise k n h := raise_ringLive k n h
  inbox _ h := { h with }
  link _ _ h _ := { h with }
  deliver l kind payload gap h := h.kept (by constructor <;> simp [consumerCopy])
  finish _ _ r d1 d2 h := finishRequest_ringLive r d1 d2 h
  clock _ _ _ h := { h with }
  engine _ _ _ h := { h with }
  pwu _ _ _ h := { h with }
  bwu _ _ _ h := { h with }
  su _ _ _ h _ _ := { h with }
  grow _ _ _ _ h _ _ := { h with }
  claim _ _ _ _ h _ _ := { h with }
  ctu _ _ _ h _ := { h with }
  till _ _ _ h _ := { h with }
  kick _ _ _ _ h _ := { h with }
  cash _ _ new words h _ _ _ _ _ := h.kept (by constructor <;> simp [consumerCopy])
  pu _ _ _ h _ := { h with }
  ju _ _ _ h := { h with }

/-! ### The reset that the Request Engine applies -/

/-- The law of the ring with the Request Engine between requests and the reset no longer due. -/
structure ringResting (s : State) : Prop extends ringLive s where
  idle : s.re.phase = .idle
  taken : s.re.resetDue = false

theorem ringResting.kept {s t : State} (h : ringResting s) (k : ringKept s t) : ringResting t :=
  ⟨h.toringLive.kept k, k.phase.trans h.idle, k.due.trans h.taken⟩

theorem ringResting_stable (bs : List BlockId) : Stable bs ringResting where
  setFree _ h := { h with }
  setArrivals _ h := { h with }
  asks x h _ hx := by
    rw [hx]
    exact { h with }
  raise k n h := ⟨raise_ringLive k n h.toringLive, by simp [h.idle], by simp [h.taken]⟩
  inbox _ h := { h with }
  link _ _ h _ := { h with }
  deliver l kind payload gap h := h.kept (by constructor <;> simp [consumerCopy])
  finish _ s r d1 d2 h := by
    have rests : finishRequest s r d1 d2 = s.setRe { s.re with outcome := some { result := r, detail1 := d1, detail2 := d2 } } := by
      simp [finishRequest, requestProgress, h.idle]
    exact rests ▸ { h with }
  clock _ _ _ h := { h with }
  engine _ _ _ h := { h with }
  pwu _ _ _ h := { h with }
  bwu _ _ _ h := { h with }
  su _ _ _ h _ _ := { h with }
  grow _ _ _ _ h _ _ := { h with }
  claim _ _ _ _ h _ _ := { h with }
  ctu _ _ _ h _ := { h with }
  till _ _ _ h _ := { h with }
  kick _ _ _ _ h _ := { h with }
  cash _ _ new words h _ _ _ _ _ := h.kept (by constructor <;> simp [consumerCopy])
  pu _ _ _ h _ := { h with }
  ju _ _ _ h := { h with }

theorem resetUnit_ringResting {s : State} (b : BlockId) (h : ringResting s) : ringResting (resetUnit s b) := by
  have hP := ringResting_stable allBlocks
  by_cases re : b = .re
  · subst re
    exact resetLinks_stable hP (askFixed_stable hP noKick_nil { h with })
  · exact resetUnit_stable hP re (fun b _ => mem_allBlocks b) h

theorem takeResets_ringLive {s : State} (h : ringResting s) : ringLive (takeResets s) := by
  have told (xs : List BlockId) : ringResting
      (((tieAsks ((s.re.resetting.filter (resetReady s)).foldl resetUnit s) s.bi.nextWindow)).setRe
        { (tieAsks ((s.re.resetting.filter (resetReady s)).foldl resetUnit s) s.bi.nextWindow).re with resetting := xs }) := by
    have units := tieAsks_stable (ringResting_stable allBlocks) (start := s.bi.nextWindow)
      (foldl_keeps (s.re.resetting.filter (resetReady s)) resetUnit_ringResting h)
    exact { units with resets := fun _ => units.idle, once := fun due => absurd (units.taken.symm.trans due) nofun }
  unfold takeResets
  dsimp only
  split
  next none =>
    refine nextRequest_ringLive ?_ ?_ (told _).toringLive
    · rw [(told _).idle]
      rfl
    · rw [State.resetOwed, (told _).taken, none]
      rfl
  next => exact (told _).toringLive

theorem applyLaneReset_ringLive {s : State} (idle : s.re.phase = .idle) (none : s.re.resetting = []) (h : ringLive s) :
    ringLive (applyLaneReset s) := by
  have cleared : ringResting (resetLatches (s.setRe { s.re with resetDue := false })) :=
    ⟨ringLive_of h.high List.length_replicate h.bound h.reservation h.writing h.owing (fun _ => idle) nofun, idle, rfl⟩
  unfold applyLaneReset
  dsimp only
  split
  · refine nextRequest_ringLive ?_ ?_ cleared.toringLive
    · rw [cleared.idle]
      rfl
    · simp [State.resetOwed, none]
  · exact takeResets_ringLive { cleared with resets := fun _ => idle, once := nofun }

theorem resumeResets_ringLive {s : State} (h : ringLive s) : ringLive (resumeResets s) := by
  unfold resumeResets
  split
  · exact h
  next some =>
    have owed : s.resetOwed = true := by simp [State.resetOwed, some]
    refine takeResets_ringLive { h with idle := h.resets owed, taken := ?_ }
    by_contra due
    simp [h.once (by simpa using due)] at some

/-! ### SETUP_COMMIT -/

theorem setupCommit_ringLive {s : State} (h : ringLive s) : ringLive (setupCommit s) := by
  have hP := ringLive_stable allBlocks
  have all (cs : List BlockId) : cs ⊆ allBlocks := fun b _ => mem_allBlocks b
  refine if_keeps ?_ (if_keeps (finishRequest_ringLive _ _ _ h) { h with })
  unfold decideCommit
  dsimp only
  split
  · exact finishRequest_ringLive _ _ _ (askFixed_stable hP noKick_nil { h with })
  · refine finishRequest_ringLive _ _ _ (if_keeps ?_ ?_)
    · exact applyRecommit_stable hP (all _) { h with }
    · exact applyFirst_stable hP (all _) (fun _ _ h => askTuStatus_stable hP { h with }) { h with }

/-! ### Windows and records -/

theorem runAfter_ringLive {s : State} (a : After) (h : ringLive s) : ringLive (runAfter s a) := by
  cases a with
  | suWrite => exact h.kept (by constructor <;> simp [runAfter, consumerCopy])
  | suDone => exact { h with }
  | headAdvance => exact { h with }
  | cardAsk index amount => exact cardAsks_stable (ringLive_stable allBlocks) (mem_allBlocks _) h
  | kick c => exact h.kept (by constructor <;> simp [runAfter, consumerCopy])
  | tellBag tell => exact { h with }
  | tellPrint tell => exact { h with }
  | saleFinished => exact raise_ringLive _ _ h

theorem removeWindow_ringLive {s : State} (id : Nat) (h : ringLive s) : ringLive (removeWindow s id) :=
  h.kept (by constructor <;> simp [consumerCopy])

theorem closeWindow_ringLive {s : State} (o : OpenWindow) (h : ringLive s) : ringLive (closeWindow s o) :=
  resumeResets_ringLive (requestProgress_ringLive (foldl_keeps _ runAfter_ringLive (removeWindow_ringLive o.id h)))

/-! ### Records -/

/-- One more record is written: the slot that the completion or the condition record held. -/
theorem unconsumed_advance {s t : State} (p : t.nu.producer = s.nu.producer + 1) (copy : consumerCopy t = consumerCopy s)
    (room : unconsumed s < 256) : unconsumed t = unconsumed s + 1 := by
  simp only [unconsumed, ahead] at room ⊢
  rw [p, copy]
  bv_omega

/-- What a record leaves in the Notice Unit, but for the line. -/
theorem recordWritten_nu (s : State) (o : OpenWindow) (reserved : Nat) :
    (recordWritten s o reserved).nu.producer = s.nu.producer + 1 ∧ (recordWritten s o reserved).nu.reserved = reserved
      ∧ (recordWritten s o reserved).nu.writer = .free := by simp [recordWritten]

theorem recordWritten_unconsumed {s : State} (o : OpenWindow) (reserved : Nat) (room : unconsumed s < 256) :
    unconsumed (recordWritten s o reserved) = unconsumed s + 1 :=
  unconsumed_advance (recordWritten_nu s o reserved).1 (by simp [consumerCopy]) room

/-- The record that has been written frees the slot it held. -/
theorem recordWritten_bound {s : State} (o : OpenWindow) (reserved : Nat) (room : unconsumed s + reserved < 256) :
    unconsumed (recordWritten s o reserved) + (recordWritten s o reserved).nu.reserved
      + conditionBegun (recordWritten s o reserved).nu.writer ≤ 256 := by
  obtain ⟨-, held, free⟩ := recordWritten_nu s o reserved
  rw [recordWritten_unconsumed o reserved (by omega), held, free]
  rw [conditionBegun]
  omega

theorem conditionWritten_ringLive {s : State} (o : OpenWindow) (writing : s.nu.writer = .condition) (h : ringLive s) :
    ringLive (conditionWritten s o) := by
  obtain ⟨-, held, free⟩ := recordWritten_nu s o s.nu.reserved
  have room : unconsumed s + s.nu.reserved < 256 := by
    have bound := h.bound
    rw [writing, conditionBegun] at bound
    omega
  refine look_ringLive (ringLive_of ?_ ?_ (recordWritten_bound o _ room) ?_ ?_ ?_ ?_ ?_)
  · simpa using h.high
  · simpa using h.latches
  · simpa [held] using h.reservation
  · simp [free]
  · simpa using h.owing
  · simpa [State.resetOwed] using h.resets
  · simpa using h.once

theorem afterCompletion_ringLive {s : State} (askFirst : Bool) (h : ringLive s) (idle : s.re.phase = .idle)
    (notOwed : s.resetOwed = false) : ringLive (afterCompletion s askFirst) := by
  have between : s.re.phase.reserves = false := by rw [idle]; rfl
  refine if_keeps (look_ringLive (nextRequest_ringLive between notOwed h))
    (nextRequest_ringLive ?_ ?_ (look_ringLive h))
  · simpa using between
  · simpa [State.resetOwed] using notOwed

theorem afterLaneReset_ringLive {s : State} (askFirst : Bool) (h : ringLive s) (idle : s.re.phase = .idle)
    (none : s.re.resetting = []) : ringLive (afterLaneReset s askFirst) :=
  if_keeps (look_ringLive (applyLaneReset_ringLive idle none h))
    (look_ringLive { h with resets := fun _ => idle, once := fun _ => none })

theorem completionWritten_ringLive {s : State} (o : OpenWindow) (askFirst : Bool) (writing : s.nu.writer = .completion)
    (h : ringLive s) : ringLive (completionWritten s o askFirst) := by
  obtain ⟨completing, owed⟩ := h.writing writing
  obtain ⟨-, held, free⟩ := recordWritten_nu s o 0
  have notOwed : s.resetOwed = false := by simpa [completing] using h.resets
  have none : s.re.resetting = [] := by simpa [State.resetOwed, and_comm] using (Bool.or_eq_false_iff.mp notOwed).2
  have room : unconsumed s + 0 < 256 := by
    have bound := h.bound
    rw [h.reservation, completing, EnginePhase.reserves, if_pos rfl] at bound
    omega
  have left : ringLive (leaveCompleting (recordWritten s o 0)) := by
    refine ringLive_of ?_ ?_ (recordWritten_bound o 0 room) held ?_ ?_ (fun _ => rfl) ?_
    · simpa using h.high
    · simpa using h.latches
    · simp [free]
    · simp [owed]
    · exact fun _ => by simpa [leaveCompleting] using none
  refine if_keeps (afterLaneReset_ringLive askFirst left rfl ?_) (afterCompletion_ringLive askFirst left rfl ?_)
  · simpa [leaveCompleting] using none
  · simpa [leaveCompleting, State.resetOwed] using notOwed

/-- A further answer, or the last one, leaves the slot to the record begun. -/
theorem answered_ringLive {s : State} {kind : CondKind} {count : Nat} {stamp : Word} {source : Nat} {waiting : List BlockId}
    {payload : List Byte} (rest : List BlockId) (joined : List Byte)
    (asking : s.nu.writer = .asking kind count stamp source waiting payload) (h : ringLive s) :
    ringLive (answered s kind count stamp source rest joined) := by
  have bound := h.bound
  rw [asking] at bound
  unfold answered
  split <;> exact ringLive_of h.high h.latches bound h.reservation nofun h.owing h.resets h.once

/-! ### Host accesses -/

/-- An advance of the consumer index within the unconsumed records. -/
theorem unconsumed_lt {s t : State} (p : t.nu.producer = s.nu.producer)
    (within : ahead (consumerCopy t) (consumerCopy s) ≤ unconsumed s) (moved : consumerCopy t ≠ consumerCopy s) :
    unconsumed t < unconsumed s := by
  simp only [unconsumed, ahead] at within ⊢
  rw [p]
  bv_omega

/-- The consumer index has come nearer to the producer index. -/
theorem consumerAdvance_ringLive {s : State} (room : unconsumed s + s.nu.reserved + conditionBegun s.nu.writer < 256)
    (h : ringLive s) : ringLive (consumerAdvance s) := by
  have granted : ringLive (if s.re.phase = .stalled then grantReservation s else s) := by
    split
    next stalled =>
      have notOwed : s.resetOwed = false := by simpa [stalled] using h.resets
      exact grantReservation_ringLive (by rw [stalled]; rfl) notOwed (by omega) h
    next => exact h
  have seen := look_ringLive granted
  exact ringLive_of seen.high seen.latches seen.bound seen.reservation seen.writing seen.owing seen.resets seen.once

theorem storeWatched_ringLive {s : State} (k : Watched) (w : Word) (passes : watchedPasses s k w = true) (h : ringLive s) :
    ringLive (storeWatched s k w) := by
  have quiet (k : Watched) (other : k ≠ .evtConsumer) :
      ringLive ((setWatched s k w).setMem (Memory.writeWord s.mem (laneBase s + k.offset) allBytes w)) := by
    cases k with
    | evtConsumer => exact absurd rfl other
    | _ => exact { h with }
  cases k with
  | reqProducer =>
    unfold storeWatched deliverWatched
    dsimp only
    split
    next go =>
      obtain ⟨idle, notOwed⟩ := Bool.and_eq_true_iff.mp go
      refine nextRequest_ringLive ?_ (by simpa using notOwed) (quiet _ nofun)
      rw [of_decide_eq_true idle]
      rfl
    next => exact quiet _ nofun
  | journalExport => exact if_keeps (quiet _ nofun) (askJuStatus_stable (ringLive_stable allBlocks) (quiet _ nofun))
  | noticeMask => exact if_keeps (quiet _ nofun) (look_ringLive (quiet _ nofun))
  | receiptFill => exact if_keeps (quiet _ nofun) (askPu_stable (ringLive_stable allBlocks) (quiet _ nofun))
  | evtConsumer =>
    unfold storeWatched deliverWatched
    dsimp only
    split
    next same => exact h.kept ⟨rfl, same, rfl, rfl, rfl, rfl⟩
    next moved =>
      have fewer := unconsumed_lt (s := s)
        (t := (setWatched s .evtConsumer w).setMem
          (Memory.writeWord s.mem (laneBase s + Watched.evtConsumer.offset) allBytes w))
        rfl (of_decide_eq_true passes) moved
      have bound := h.bound
      refine consumerAdvance_ringLive (Nat.lt_of_lt_of_le ?_ bound) { h with bound := Nat.le_trans ?_ bound }
      · exact Nat.add_lt_add_right (Nat.add_lt_add_right fewer _) _
      · exact Nat.add_le_add_right (Nat.add_le_add_right fewer.le _) _

theorem decideSection_control {s : State} {w : HostWord} {o : Nat} {x : LaneSection} {k : Watched} {c : Word}
    (h : decideSection s w o x = .control k c) : watchedPasses s k c = true := by
  cases x with
  | controlWords =>
    unfold decideSection at h
    dsimp only at h
    split at h
    next j _ =>
      split at h
      next passes =>
        cases h
        exact passes
      next => exact nomatch h
    next => exact nomatch h
  | aperture =>
    unfold decideSection at h
    dsimp only at h
    split at h
    next => exact nomatch h
    next => split at h <;> exact nomatch h
  | setupBlock | requestQueue | pageTable =>
    unfold decideSection at h
    dsimp only at h
    split at h <;> exact nomatch h
  | _ => exact nomatch h

theorem decideWrite_control {s : State} {w : HostWord} {k : Watched} {c : Word} (h : decideWrite s w = .control k c) :
    watchedPasses s k c = true := by
  unfold decideWrite at h
  split at h
  next => exact nomatch h
  next =>
    split at h
    next => split at h <;> exact nomatch h
    next o _ =>
      split at h
      next => exact nomatch h
      next x _ => exact decideSection_control h

theorem grantBurst_ringKept (s : State) : ringKept s (grantBurst s) :=
  if_keeps (.refl s) (by constructor <;> simp [consumerCopy])

/-- The grant of the burst changes nothing a watched word is checked against. -/
theorem watchedPasses_grantBurst (s : State) (k : Watched) (c : Word) :
    watchedPasses (grantBurst s) k c = watchedPasses s k c := by
  refine if_keeps (P := fun t => watchedPasses t k c = watchedPasses s k c) rfl ?_
  cases k <;> rfl

theorem takeWord_ringLive {s : State} (w : HostWord) (h : ringLive s) : ringLive (takeWord s w) := by
  have granted := h.kept (grantBurst_ringKept s)
  have applied : ringLive (applyDecision s w (decideWrite s w)) := by
    cases decision : decideWrite s w with
    | ignored => exact h
    | refused unmapped => exact raise_ringLive _ _ { h with }
    | plain a => exact { granted with }
    | control k c =>
      refine storeWatched_ringLive k c ?_ granted
      exact (watchedPasses_grantBurst s k c).trans (decideWrite_control decision)
    | page word => exact { granted with }
  refine if_keeps (applied.kept ?_) applied
  exact if_keeps (by constructor <;> simp [consumerCopy]) ⟨rfl, rfl, rfl, rfl, rfl, rfl⟩

theorem offerWord_ringLive {s : State} (w : HostWord) (h : ringLive s) : ringLive (offerWord s w) :=
  if_keeps { h with } (takeWord_ringLive w h)

theorem presentWord_ringLive {s : State} (w : HostWord) (h : ringLive s) : ringLive (presentWord s w) :=
  if_keeps { h with } (offerWord_ringLive w h)

theorem serveRead_ringLive {s : State} (a n : Nat) (h : ringLive s) : ringLive (serveRead s a n) :=
  h.kept (by constructor <;> simp [consumerCopy])

theorem portGrant_ringLive {s : State} (h : ringLive s) : ringLive (portGrant s) := by
  have engine : ringLive (engineGrant s) := h.kept (by constructor <;> simp [consumerCopy])
  unfold portGrant
  split
  · exact if_keeps (offerWord_ringLive _ { h with }) engine
  · exact if_keeps engine (presentWord_ringLive _ { h with })
  · exact if_keeps engine (serveRead_ringLive _ _ h)
  · exact engine

/-! ### The law -/

theorem requestFetched_ringLive {s : State} (fetching : s.re.phase = .fetching) (h : ringLive s) :
    ringLive (requestFetched s) := by
  have hP := ringLive_stable allBlocks
  have notWriting : s.nu.writer ≠ .completion := fun w => by simpa [fetching] using (h.writing w).1
  have owed : s.nu.owed = none := by
    by_contra o
    simpa [fetching] using h.owing o
  have notOwed : s.resetOwed = false := by simpa [fetching] using h.resets
  have taken (x : Re) (phase : x.phase = .executing) (due : x.resetDue = s.re.resetDue)
      (resetting : x.resetting = s.re.resetting) : ringLive (askReConsumer (s.setRe x)) := by
    refine askFixed_stable hP noKick_nil (ringLive_of h.high h.latches h.bound ?_ (fun w => absurd w notWriting)
      (fun o => absurd owed o) (fun o => ?_) ?_)
    · simp [phase, h.reservation, fetching, EnginePhase.reserves]
    · simp [State.resetOwed, due, resetting] at o notOwed
      simp [notOwed] at o
    · simpa [due, resetting] using h.once
  unfold requestFetched decodeRequest
  split
  · exact finishRequest_ringLive _ _ _ (taken _ rfl rfl rfl)
  · exact if_keeps (finishRequest_ringLive _ _ _ (taken _ rfl rfl rfl))
      (if_keeps (suSend_stable hP (taken _ rfl rfl rfl)) (taken _ rfl rfl rfl))

/-- With the indices at 0 the ring is empty. -/
theorem bound_of_reset {s : State} (nu : s.nu = Nu.reset) (copy : s.bi.evtConsumer = 0) :
    unconsumed s + s.nu.reserved + conditionBegun s.nu.writer ≤ 256 := by
  simp [unconsumed, consumerCopy, ahead, lowHalf, nu, copy, Nu.reset, conditionBegun]

theorem resetAssert_ringLaw (s : State) : ringLaw (resetAssert s) :=
  ⟨rfl, bound_of_reset rfl rfl, rfl, nofun, fun no => absurd rfl no, nofun, nofun, fun _ => ⟨rfl, rfl⟩⟩

theorem ringLaw_engine {s : State} (h : ringLive s) : EngineKept ringLaw s where
  word _ _ w := (presentWord_ringLive w h).toringLaw
  read _ _ a n := (if_keeps { h with } (serveRead_ringLive a n h) : ringLive (presentRead s a n)).toringLaw
  opens _ _ _ _ := { h.toringLaw with }
  closes _ o _ _ _ :=
    (freedNotices_stable (ringLive_stable allBlocks) (mem_allBlocks _) (mem_allBlocks _) (closeWindow_ringLive o h)).toringLaw
  grant _ := (portGrant_ringLive h).toringLaw
  fetched _ fetching := (requestFetched_ringLive fetching h).toringLaw
  commit _ _ _ := (setupCommit_ringLive h).toringLaw
  reset _ _ _ := (finishRequest_ringLive _ _ _ h).toringLaw
  applied _ due := (applyLaneReset_ringLive (h.resets (by simp [State.resetOwed, due])) (h.once due) h).toringLaw
  completion _ o _ writing askFirst := (completionWritten_ringLive o askFirst writing h).toringLaw
  answer _ _ _ _ _ _ _ b asking _ _ :=
    (unitNotices_stable (ringLive_stable allBlocks) (mem_allBlocks _) (mem_allBlocks _)
      (answered_ringLive _ _ (by simpa using asking) (h.kept (by constructor <;> simp [consumerCopy])))).toringLaw
  condition _ o _ writing := (conditionWritten_ringLive o writing h).toringLaw
  asserted _ := resetAssert_ringLaw s

theorem resetRelease_ringLaw {s : State} (laSel : BitVec 4) (bagFit : Bool) (low : s.bi.inReset = true) (h : ringLaw s) :
    ringLaw (resetRelease s laSel bagFit) := by
  obtain ⟨nu, idle⟩ := h.held low
  exact ⟨h.latches, bound_of_reset nu rfl, h.reservation, h.writing, h.owing, h.resets, h.once, fun _ => ⟨nu, idle⟩⟩

theorem rawLevelChange_ringLaw {s : State} (input : InputId) (level : Bool) (h : ringLaw s) :
    ringLaw (rawLevelChange s input level) := h.kept (by constructor <;> simp [consumerCopy])

/-- Settles O56: while RESET_N is high the events of the units keep the law by their primitive moves, and the other commands one by
one; while it is low nothing is begun. -/
theorem ringNeverOverflows : Obligations.RingNeverOverflows := by
  unfold Obligations.RingNeverOverflows
  intro s t h ht
  exact step_of_exec (P := ringLaw)
    (fun c s h => exec_law (P := ringLive) (Q := ringLaw) (fun _ h => h.toringLaw) (fun _ high h => ⟨h, high⟩)
      (ringLive_stable allBlocks) (fun _ _ h => ringLaw_engine h)
      (fun _ laSel bagFit low h => resetRelease_ringLaw laSel bagFit low h)
      (fun _ input level h => rawLevelChange_ringLaw input level h) c s h)
    (fun _ _ h => { h with }) h ht

end Sys2Proof.Machine
end

section
/-! The law of the solenoid (O60): it is energised only in a kick, and a kick is owed only to the request in execution. The events
of the units begin a pulse only where `kickAllowed`, and leave it otherwise as it is or end it. -/

namespace Sys2Proof.Machine

/-! ### The kicks that windows and the event in hand owe -/

/-- What is owed in `t` was owed in `s`. -/
structure owedKept (s t : State) : Prop where
  waiting : kicksKept s.bi.waiting t.bi.waiting
  opened : ∀ o ∈ t.bi.opened, o ∈ s.bi.opened
  event : ∀ e, t.su.event = some e → s.su.event = some e ∨ noKick e.after

theorem owedKept.refl (s : State) : owedKept s s := ⟨kicksKept_refl _, fun _ h => h, fun _ => .inl⟩

theorem owedKept.same {s t : State} (waiting : t.bi.waiting = s.bi.waiting) (opened : t.bi.opened = s.bi.opened)
    (event : t.su.event = s.su.event) : owedKept s t :=
  ⟨waiting ▸ kicksKept_refl _, fun _ ho => opened ▸ ho, fun _ he => .inl (event ▸ he)⟩

theorem kicksKept.trans {u v w : List WindowAsk} (h : kicksKept u v) (k : kicksKept v w) : kicksKept u w := by
  intro x hx c kick
  obtain ⟨y, hy, kick', ofReq⟩ := k x hx c kick
  obtain ⟨z, hz, kick'', ofReq'⟩ := h y hy c kick'
  exact ⟨z, hz, kick'', ofReq ∘ ofReq'⟩

theorem owedKept.trans {s t u : State} (h : owedKept s t) (k : owedKept t u) : owedKept s u :=
  ⟨h.waiting.trans k.waiting, fun o ho => h.opened o (k.opened o ho),
    fun e he => (k.event e he).elim (h.event e) .inr⟩

theorem owedKept.none {s t : State} (k : owedKept s t) (h : noKickOwed s) : noKickOwed t := by
  obtain ⟨waiting, opened, event⟩ := h
  refine ⟨fun w hw c kick => ?_, fun o ho => opened o (k.opened o ho), fun e he c => ?_⟩
  · obtain ⟨v, hv, owed, -⟩ := k.waiting w hw c kick
    exact waiting v hv c owed
  · exact (k.event e he).elim (fun old => event e old c) fun calm => calm c

theorem owedKept.request {s t : State} (k : owedKept s t) (h : kicksOfRequest s) : kicksOfRequest t := by
  obtain ⟨waiting, opened, event⟩ := h
  refine ⟨fun w hw c kick => ?_, fun o ho => opened o (k.opened o ho), fun e he c kick => ?_⟩
  · obtain ⟨v, hv, owed, ofReq⟩ := k.waiting w hw c kick
    exact ofReq (waiting v hv c owed)
  · exact (k.event e he).elim (fun old => event e old c kick) fun calm => absurd kick (calm c)

/-- Nothing of the request is pending, so no kick is owed. -/
theorem noKickOwed_of_settled {s : State} (h : kicksOfRequest s) (settled : requestPending s = false) : noKickOwed s := by
  obtain ⟨waiting, opened, event⟩ := h
  simp only [requestPending, Bool.or_eq_false_iff, List.any_eq_false, Bool.not_eq_true] at settled
  obtain ⟨⟨⟨⟨noWaiting, noOpened⟩, -⟩, -⟩, noEvent⟩ := settled
  refine ⟨fun w hw c kick => ?_, fun o ho c kick => ?_, fun e he c kick => ?_⟩
  · exact absurd (waiting w hw c kick) (by simp [noWaiting w hw])
  · exact absurd (opened o ho c kick) (by simp [noOpened o ho])
  · rw [he] at noEvent
    exact absurd (event e he c kick) (by simp [noEvent])

theorem takeLatch_owedKept (s : State) (i : Nat) : owedKept s (takeLatch s i) := by
  unfold takeLatch askSalePayload
  dsimp only
  split <;> exact .same rfl rfl rfl

theorem look_owedKept (s : State) : owedKept s (look s) := by
  unfold look
  split
  next =>
    split
    next => exact ⟨kicksKept_append noKick_nil, fun _ h => h, fun _ => .inl⟩
    next =>
      split
      next i _ => exact if_keeps (takeLatch_owedKept s i) (.refl s)
      next => exact .refl s
  next => exact .refl s

theorem raise_owedKept (s : State) (k : CondKind) (n : Nat) : owedKept s (raise s k n) := { look_owedKept _ with }

theorem askFixed_owedKept {s : State} {owner : BlockId} {sections : List LaneSection} {fixed : List (Nat × Word)}
    {ofRequest : Bool} : owedKept s (askFixed s owner sections fixed [] ofRequest) :=
  ⟨kicksKept_append noKick_nil, fun _ h => h, fun _ => .inl⟩

theorem askLive_owedKept {s : State} {owner : BlockId} {sections : List LaneSection} {live : List LiveBlock}
    {ofRequest : Bool} : owedKept s (askLive s owner sections live ofRequest) := by
  unfold askLive askLiveAfter
  split
  · exact ⟨kicksKept_gatherInto noKick_nil, fun _ h => h, fun _ => .inl⟩
  · exact ⟨kicksKept_append noKick_nil, fun _ h => h, fun _ => .inl⟩

theorem deliver_owedKept (s : State) (l : LinkId) (kind : Byte) (payload : List Byte) (gap : Bool) :
    owedKept s (deliver s l kind payload gap) :=
  if_keeps (.same rfl rfl rfl) { askLive_owedKept with }

theorem nextRequest_owedKept (s : State) : owedKept s (nextRequest s) :=
  .same (by simp) (by simp) (by simp)

/-! ### The law without the request's name -/

/-- The law of the solenoid, but for the name of the request in execution. -/
structure kickLaw (s : State) : Prop where
  pulse : s.tu.solenoid = true ↔ s.tu.width ≠ none
  kicking : s.tu.solenoid = true → s.tu.drawer = .kicking
  owed : kicksOfRequest s
  done : s.re.phase ≠ .executing → noKickOwed s
  cut : s.re.resetting ≠ [] → s.tu.solenoid = false ∧ (.tu ∉ s.re.resetting → s.tu.drawer ≠ .kicking)
  off : s.re.device = .unconfigured → s.tu.solenoid = false ∧ s.tu.drawer ≠ .kicking ∧ noKickOwed s

/-- While UNCONFIGURED only the Request Engine's own requests are taken (R28). -/
def ownRequest (s : State) : Prop :=
  s.re.device = .unconfigured → s.re.phase = .executing → s.re.outcome = none →
    recKind s.re.record = some .setupCommit ∨ recKind s.re.record = some .laneReset

theorem solenoidLaw_iff (s : State) : solenoidLaw s ↔ kickLaw s ∧ ownRequest s := by
  constructor
  · intro h
    refine ⟨⟨h.pulse, h.kicking, h.owed, h.done, h.cut, fun unc => ?_⟩, fun unc => ?_⟩
    · obtain ⟨off, calm, none, -⟩ := h.unconfigured unc
      exact ⟨off, calm, none⟩
    · obtain ⟨-, -, -, own⟩ := h.unconfigured unc
      exact own
  · rintro ⟨h, own⟩
    refine ⟨h.pulse, h.kicking, h.owed, h.done, h.cut, fun unc => ?_⟩
    obtain ⟨off, calm, none⟩ := h.off unc
    exact ⟨off, calm, none, own unc⟩

/-- The drawer is left alone, and the device stays as it is. -/
theorem kickLaw.moved {s t : State} (h : kickLaw s) (k : owedKept s t) (tu : t.tu = s.tu) (device : t.re.device = s.re.device)
    (resetting : t.re.resetting = s.re.resetting) (done : t.re.phase ≠ .executing → noKickOwed s) : kickLaw t where
  pulse := by
    rw [tu]
    exact h.pulse
  kicking := by
    rw [tu]
    exact h.kicking
  owed := k.request h.owed
  done idle := k.none (done idle)
  cut := by
    rw [tu, resetting]
    exact h.cut
  off unc := by
    obtain ⟨off, calm, none⟩ := h.off (device ▸ unc)
    rw [tu]
    exact ⟨off, calm, k.none none⟩

theorem kickLaw.kept {s t : State} (h : kickLaw s) (k : owedKept s t) (tu : t.tu = s.tu) (re : t.re = s.re) : kickLaw t :=
  h.moved k tu (congrArg Re.device re) (congrArg Re.resetting re) (re ▸ h.done)

theorem ownRequest.kept {s t : State} (h : ownRequest s) (re : t.re = s.re) : ownRequest t := by
  rw [ownRequest, re]
  exact h

/-- A pulse that is off stays off. -/
theorem tillCalmer.off {s : State} {v : Tu} (calm : tillCalmer s v) (off : s.tu.solenoid = false) : v.solenoid = false :=
  Bool.eq_false_iff.mpr fun on => absurd (calm.solenoid on).1 (by simp [off])

theorem kickLaw.till {s : State} {v : Tu} (h : kickLaw s) (calm : tillCalmer s v) : kickLaw (s.setTu v) where
  pulse := calm.pulse h.pulse
  kicking on := by
    obtain ⟨before, same | still | unc⟩ := calm.solenoid on
    · exact same.trans (h.kicking before)
    · exact absurd (h.kicking before) still
    · exact absurd before (by simp [(h.off unc).1])
  owed := h.owed
  done := h.done
  cut reset := by
    obtain ⟨off, still⟩ := h.cut reset
    exact ⟨calm.off off, fun taken kicking => still taken (calm.drawer kicking)⟩
  off unc := by
    obtain ⟨off, still, none⟩ := h.off unc
    exact ⟨calm.off off, fun kicking => still (calm.drawer kicking), none⟩

/-- A pulse starts in a configured part that applies no reset. -/
theorem kickLaw.pulsed {s : State} (h : kickLaw s) (ready : s.re.device ≠ .unconfigured) (rest : s.re.resetting = [])
    (cause : KickCause) (n : Nat) :
    kickLaw (s.setTu (startPulse s { s.tu with drawer := .kicking, cause := cause, attempts := n })) where
  pulse := by simp [startPulse, startTimer]
  kicking _ := rfl
  owed := h.owed
  done := h.done
  cut reset := absurd rest reset
  off unc := absurd unc ready

theorem passCompletion_kickLaw {s : State} (o : ReqOutcome) (settled : noKickOwed s) (h : kickLaw s) :
    kickLaw (passCompletion s o) := by
  refine h.moved ?_ (by simp) (by simp) (by simp) (fun _ => settled)
  exact { look_owedKept _ with }

theorem requestProgress_kickLaw {s : State} (h : kickLaw s) : kickLaw (requestProgress s) := by
  unfold requestProgress
  split
  next => exact h
  next o _ =>
    split
    next => exact h
    next go =>
      have settled : requestPending s = false := by simp_all
      refine if_keeps ?_ (passCompletion_kickLaw o (noKickOwed_of_settled h.owed settled) h)
      exact h.moved { askFixed_owedKept with } rfl rfl rfl h.done

theorem finishRequest_kickLaw {s : State} (r : ResultCode) (d1 d2 : Word) (h : kickLaw s) :
    kickLaw (finishRequest s r d1 d2) :=
  requestProgress_kickLaw (h.moved (.same rfl rfl rfl) rfl rfl rfl h.done)

theorem finishRequest_ownRequest (s : State) (r : ResultCode) (d1 d2 : Word) : ownRequest (finishRequest s r d1 d2) := by
  intro _ _ none
  simp at none

theorem requestProgress_ownRequest {s : State} (h : ownRequest s) : ownRequest (requestProgress s) := by
  intro unc executing none
  have same : requestProgress s = s := requestProgress_none (by simpa using none)
  rw [same] at unc executing none ⊢
  exact h unc executing none

/-! ### The events of the units -/

/-- The laws of the ring and of the solenoid while RESET_N is high. -/
structure kickLive (s : State) : Prop extends ringLive s, kickLaw s where
  own : ownRequest s

theorem kickLive.executing {s : State} (h : kickLive s) (executing : s.re.phase = .executing) : s.re.resetting = [] := by
  have notOwed : s.resetOwed = false := by simpa [executing] using h.resets
  simpa [State.resetOwed] using (Bool.or_eq_false_iff.mp notOwed).2

theorem kickLive.configured {s : State} (h : kickLive s) (executing : s.re.phase = .executing) (unanswered : s.re.outcome = none)
    (notCommit : recKind s.re.record ≠ some .setupCommit) (notReset : recKind s.re.record ≠ some .laneReset) :
    s.re.device ≠ .unconfigured := fun unc =>
  (h.own unc executing unanswered).elim notCommit notReset

theorem kickLive.pulsed {s : State} (h : kickLive s) (allowed : kickAllowed s) (cause : KickCause) (n : Nat) :
    kickLaw (s.setTu (startPulse s { s.tu with drawer := .kicking, cause := cause, attempts := n })) := by
  obtain ⟨executing, unanswered, notCommit, notReset⟩ | ⟨kicking, rest⟩ := allowed
  · exact h.tokickLaw.pulsed (h.configured executing unanswered notCommit notReset) (h.executing executing) cause n
  · refine h.tokickLaw.pulsed (fun unc => ?_) rest cause n
    obtain ⟨-, still, -⟩ := h.off unc
    exact still kicking

theorem suWrite_waiting (s : State) (new : Su) (words : List (Nat × Word)) (after : List After) (q : Bool) :
    ∃ w, (suWrite s new words after q).bi.waiting = s.bi.waiting ++ [w] ∧ w.after = after ++ [.suDone] ∧ w.ofRequest = q :=
  ⟨_, rfl, rfl, rfl⟩

/-- The sale's write after which CASH kicks the drawer belongs to the request in execution. -/
theorem suWrite_kickLaw {s : State} (new : Su) (words : List (Nat × Word)) (executing : s.re.phase = .executing)
    (ready : s.re.device ≠ .unconfigured) (h : kickLaw s) : kickLaw (suWrite s new words [.kick .cash] true) := by
  obtain ⟨waiting, opened, -⟩ := h.owed
  refine ⟨h.pulse, h.kicking, ⟨fun w hw c kick => ?_, opened, fun e he c _ => ?_⟩, fun idle => absurd executing idle, h.cut,
    fun unc => absurd unc ready⟩
  · obtain old | new := List.mem_append.mp hw
    · exact waiting w old c kick
    · exact List.mem_singleton.mp new ▸ rfl
  · exact Option.some.inj he ▸ rfl

theorem kickLive.kept {s t : State} (h : kickLive s) (ring : ringLive t) (k : owedKept s t) (tu : t.tu = s.tu)
    (re : t.re = s.re) : kickLive t := { ring, h.tokickLaw.kept k tu re with own := h.own.kept re }

theorem finishRequest_kickLive {s : State} (r : ResultCode) (d1 d2 : Word) (ring : ringLive s) (h : kickLaw s) :
    kickLive (finishRequest s r d1 d2) :=
  { finishRequest_ringLive r d1 d2 ring, finishRequest_kickLaw r d1 d2 h with own := finishRequest_ownRequest s r d1 d2 }

theorem kickLive_stable (bs : List BlockId) : Stable bs kickLive where
  setFree _ h := { h with }
  setArrivals _ h := { h with }
  asks x h kept hx := by
    have ring := (ringLive_stable bs).asks x h.toringLive kept hx
    exact h.kept ring ⟨kept, fun o ho => by rw [hx] at ho; exact ho, fun _ => .inl⟩ rfl rfl
  raise k n h := h.kept (raise_ringLive k n h.toringLive) (raise_owedKept _ k n) (by simp) (by simp)
  inbox _ h := { h with }
  link _ _ h _ := { h with }
  deliver l kind payload gap h :=
    h.kept ((ringLive_stable bs).deliver l kind payload gap h.toringLive) (deliver_owedKept _ l kind payload gap) (by simp)
      (by simp)
  finish _ _ r d1 d2 h := finishRequest_kickLive r d1 d2 h.toringLive h.tokickLaw
  clock _ _ _ h := { h with }
  engine _ _ _ h := { h with }
  pwu _ _ _ h := { h with }
  bwu _ _ _ h := { h with }
  su mem _ x h event orderly :=
    h.kept ((ringLive_stable bs).su mem x h.toringLive event orderly) ⟨kicksKept_refl _, fun _ h => h, event⟩ rfl rfl
  grow engine mem _ x h event joins :=
    h.kept ((ringLive_stable bs).grow engine mem x h.toringLive event joins) ⟨kicksKept_refl _, fun _ h => h, event⟩ rfl rfl
  claim _ _ _ _ h _ _ := { h with }
  ctu _ _ _ h _ := { h with }
  till mem _ x h calm := { (ringLive_stable bs).till mem x h.toringLive calm, h.tokickLaw.till calm with own := h.own }
  kick mem _ cause n h allowed :=
    { (ringLive_stable bs).kick mem cause n h.toringLive allowed, h.pulsed allowed cause n with own := h.own }
  cash mem s new words h executing unanswered name event orderly :=
    { (ringLive_stable bs).cash mem new words h.toringLive executing unanswered name event orderly,
      suWrite_kickLaw new words executing (h.configured executing unanswered (by simp [name]) (by simp [name])) h.tokickLaw with
      own := h.own.kept (by simp) }
  pu _ _ _ h _ := { h with }
  ju _ _ _ h := { h with }

/-! ### The reset that the Request Engine applies -/

/-- A reset is being applied to the units: the pulse has been cut, and no kick is owed. -/
structure cutting (xs : List BlockId) (s : State) : Prop where
  solenoid : s.tu.solenoid = false
  width : s.tu.width = none
  none : noKickOwed s
  idle : s.re.phase = .idle
  resetting : s.re.resetting = xs

theorem cutting.kept {xs : List BlockId} {s t : State} (h : cutting xs s) (k : owedKept s t) (tu : t.tu = s.tu)
    (phase : t.re.phase = s.re.phase) (resetting : t.re.resetting = s.re.resetting) : cutting xs t where
  solenoid := tu ▸ h.solenoid
  width := tu ▸ h.width
  none := k.none h.none
  idle := phase.trans h.idle
  resetting := resetting.trans h.resetting

theorem cutting_stable (bs : List BlockId) {xs : List BlockId} (told : xs ≠ []) : Stable bs (cutting xs) where
  setFree _ h := { h with }
  setArrivals _ h := { h with }
  asks x h kept hx := h.kept ⟨kept, fun o ho => by rw [hx] at ho; exact ho, fun _ => .inl⟩ rfl rfl rfl
  raise k n h := h.kept (raise_owedKept _ k n) (by simp) (by simp) (by simp)
  inbox _ h := { h with }
  link _ _ h _ := { h with }
  deliver l kind payload gap h := h.kept (deliver_owedKept _ l kind payload gap) (by simp) (by simp) (by simp)
  finish _ s r d1 d2 h := by
    have rests : finishRequest s r d1 d2 = s.setRe { s.re with outcome := some { result := r, detail1 := d1, detail2 := d2 } } := by
      simp [finishRequest, requestProgress, h.idle]
    exact rests ▸ { h with }
  clock _ _ _ h := { h with }
  engine _ _ _ h := { h with }
  pwu _ _ _ h := { h with }
  bwu _ _ _ h := { h with }
  su _ _ _ h event _ := h.kept ⟨kicksKept_refl _, fun _ h => h, event⟩ rfl rfl rfl
  grow _ _ _ _ h event _ := h.kept ⟨kicksKept_refl _, fun _ h => h, event⟩ rfl rfl rfl
  claim _ _ _ _ h _ _ := { h with }
  ctu _ _ _ h _ := { h with }
  till _ _ x h calm :=
    have off : x.solenoid = false := calm.off h.solenoid
    { h with
      solenoid := off
      width := by
        have agree := calm.pulse (by simp [h.solenoid, h.width])
        simpa [off] using agree }
  kick _ _ _ _ h allowed := by
    obtain ⟨executing, -⟩ | ⟨-, rest⟩ := allowed
    · exact absurd (h.idle.symm.trans executing) nofun
    · exact absurd (h.resetting.symm.trans rest) told
  cash _ _ _ _ h executing _ _ _ _ := absurd (h.idle.symm.trans executing) nofun
  pu _ _ _ h _ := { h with }
  ju _ _ _ h := { h with }

theorem resetUnit_cutting {xs : List BlockId} (told : xs ≠ []) {s : State} (b : BlockId) (h : cutting xs s) :
    cutting xs (resetUnit s b) := by
  have hP := cutting_stable allBlocks told
  by_cases re : b = .re
  · subst re
    exact resetLinks_stable hP (askFixed_stable hP noKick_nil { h with })
  · exact resetUnit_stable hP re (fun b _ => mem_allBlocks b) h

/-- The Till Unit's own reset leaves the drawer by its sensor, and those of the other units leave it alone. -/
theorem resetUnit_drawer {s : State} (b : BlockId) (h : b = .tu ∨ s.tu.drawer ≠ .kicking) :
    (resetUnit s b).tu.drawer ≠ .kicking := by
  by_cases tu : b = .tu
  · subst tu
    cases sensor : s.tu.sensor <;> simp [resetUnit, resetTill, sensor]
  · have same : (resetUnit s b).tu = s.tu := by cases b <;> simp_all [resetUnit]
    rw [same]
    exact h.resolve_left tu

theorem resetUnits_drawer (xs : List BlockId) {s : State} (h : .tu ∈ xs ∨ s.tu.drawer ≠ .kicking) :
    (xs.foldl resetUnit s).tu.drawer ≠ .kicking := by
  induction xs generalizing s with
  | nil => exact h.resolve_left List.not_mem_nil
  | cons x rest ih =>
    refine ih ?_
    by_cases here : x = .tu ∨ s.tu.drawer ≠ .kicking
    · exact .inr (resetUnit_drawer x here)
    · obtain ⟨other, kicking⟩ := not_or.mp here
      exact .inl ((List.mem_cons.mp (h.resolve_right kicking)).resolve_left fun same => other same.symm)

/-- The device is UNCONFIGURED after the resets only if it was before, or the RE took its own. -/
theorem resetUnits_device (xs : List BlockId) (s : State) (other : .re ∉ xs) :
    (xs.foldl resetUnit s).re.device = s.re.device := by
  induction xs generalizing s with
  | nil => rfl
  | cons x rest ih =>
    obtain ⟨hx, hrest⟩ := not_or.mp (mt List.mem_cons.mpr other)
    refine (ih (resetUnit s x) hrest).trans ?_
    cases x <;> simp_all [resetUnit]

/-! ### What moves no kick -/

/-- The drawer, the device and what is owed are as before, and a request that executes goes on executing. -/
structure kickMoved (s t : State) : Prop where
  owed : owedKept s t
  tu : t.tu = s.tu
  device : t.re.device = s.re.device
  resetting : t.re.resetting = s.re.resetting
  phase : (t.re.phase = s.re.phase ∧ t.re.outcome = s.re.outcome ∧ t.re.record = s.re.record)
    ∨ (s.re.phase ≠ .executing ∧ t.re.phase ≠ .executing)

theorem kickMoved.law {s t : State} (k : kickMoved s t) (h : solenoidLaw s) : solenoidLaw t := by
  obtain ⟨law, own⟩ := (solenoidLaw_iff s).mp h
  refine (solenoidLaw_iff t).mpr ⟨law.moved k.owed k.tu k.device k.resetting fun idle => ?_, fun unc executing none => ?_⟩
  · exact law.done (k.phase.elim (fun same => same.1 ▸ idle) fun idle => idle.1)
  · obtain ⟨phase, outcome, record⟩ | ⟨-, idle⟩ := k.phase
    · exact record ▸ own (k.device ▸ unc) (phase ▸ executing) (outcome ▸ none)
    · exact absurd executing idle

theorem kickMoved_of_re {s t : State} (owed : owedKept s t) (tu : t.tu = s.tu) (re : t.re = s.re) : kickMoved s t :=
  ⟨owed, tu, congrArg Re.device re, congrArg Re.resetting re,
    .inl ⟨congrArg Re.phase re, congrArg Re.outcome re, congrArg Re.record re⟩⟩

theorem kickMoved.refl (s : State) : kickMoved s s := kickMoved_of_re (.refl s) rfl rfl

theorem kickMoved.trans {s t u : State} (h : kickMoved s t) (k : kickMoved t u) : kickMoved s u where
  owed := h.owed.trans k.owed
  tu := k.tu.trans h.tu
  device := k.device.trans h.device
  resetting := k.resetting.trans h.resetting
  phase := by
    obtain ⟨p, o, r⟩ | ⟨before, after⟩ := h.phase
    · obtain ⟨p', o', r'⟩ | ⟨before, after⟩ := k.phase
      · exact .inl ⟨p'.trans p, o'.trans o, r'.trans r⟩
      · exact .inr ⟨p ▸ before, after⟩
    · obtain ⟨p', -, -⟩ | ⟨-, after⟩ := k.phase
      · exact .inr ⟨before, p' ▸ after⟩
      · exact .inr ⟨before, after⟩

theorem look_kickMoved (s : State) : kickMoved s (look s) := kickMoved_of_re (look_owedKept s) (by simp) (by simp)

theorem raise_kickMoved (s : State) (k : CondKind) (n : Nat) : kickMoved s (raise s k n) :=
  kickMoved_of_re (raise_owedKept s k n) (by simp) (by simp)

theorem nextRequest_phase (s : State) : (nextRequest s).re.phase ≠ .executing := by
  unfold nextRequest
  split
  · nofun
  · split <;> nofun

theorem nextRequest_kickMoved {s : State} (idle : s.re.phase ≠ .executing) : kickMoved s (nextRequest s) :=
  ⟨nextRequest_owedKept s, by simp, by simp, by simp, .inr ⟨idle, nextRequest_phase s⟩⟩

theorem consumerAdvance_kickMoved (s : State) : kickMoved s (consumerAdvance s) := by
  have granted : kickMoved s (if s.re.phase = .stalled then grantReservation s else s) := by
    split
    next stalled => exact ⟨.same rfl rfl rfl, rfl, rfl, rfl, .inr ⟨by rw [stalled]; nofun, nofun⟩⟩
    next => exact .refl s
  refine granted.trans ((look_kickMoved _).trans ?_)
  exact kickMoved_of_re (.same rfl rfl rfl) rfl rfl

/-! ### The reset of the units -/

theorem kicksOfRequest_of_none {s : State} (h : noKickOwed s) : kicksOfRequest s := by
  obtain ⟨waiting, opened, event⟩ := h
  exact ⟨fun w hw c kick => absurd kick (waiting w hw c), fun o ho c kick => absurd kick (opened o ho c),
    fun e he c kick => absurd kick (event e he c)⟩

/-- The Till Unit is reset before the Request Engine, or has no kick in progress. -/
theorem takeResets_drawer {s : State} (till : .tu ∉ s.re.resetting → s.tu.drawer ≠ .kicking)
    (taken : .tu ∈ s.re.resetting → resetReady s .tu = true) :
    ((s.re.resetting.filter (resetReady s)).foldl resetUnit s).tu.drawer ≠ .kicking := by
  refine resetUnits_drawer _ ?_
  by_cases told : .tu ∈ s.re.resetting
  · exact .inl (List.mem_filter.mpr ⟨told, taken told⟩)
  · exact .inr (till told)

/-- The Request Engine resets with the last of the units, so with the Till Unit (log 16). -/
theorem resetReady_till {s : State} (ready : resetReady s .re = true) (told : .tu ∈ s.re.resetting) :
    resetReady s .tu = true := by
  simp only [resetReady, if_true, Bool.and_eq_true, List.all_eq_true] at ready
  obtain ⟨-, units⟩ := ready
  simpa [resetReady] using units .tu told

theorem takeResets_solenoidLaw {s : State} (told : s.re.resetting ≠ []) (h : cutting s.re.resetting s)
    (till : .tu ∉ s.re.resetting → s.tu.drawer ≠ .kicking) (off : s.re.device = .unconfigured → s.tu.drawer ≠ .kicking) :
    solenoidLaw (takeResets s) := by
  have units : cutting s.re.resetting (tieAsks ((s.re.resetting.filter (resetReady s)).foldl resetUnit s) s.bi.nextWindow) :=
    tieAsks_stable (cutting_stable allBlocks told) (foldl_keeps _ (resetUnit_cutting told) h)
  have left : solenoidLaw
      ((tieAsks ((s.re.resetting.filter (resetReady s)).foldl resetUnit s) s.bi.nextWindow).setRe
        { (tieAsks ((s.re.resetting.filter (resetReady s)).foldl resetUnit s) s.bi.nextWindow).re with
          resetting := s.re.resetting.filter fun b => !resetReady s b }) := by
    refine (solenoidLaw_iff _).mpr ⟨⟨?_, ?_, kicksOfRequest_of_none units.none, fun _ => units.none, fun _ => ?_,
      fun unc => ?_⟩, fun _ executing => absurd (units.idle.symm.trans executing) nofun⟩
    · exact iff_of_false (by simpa using units.solenoid) (by simpa using units.width)
    · exact fun on => absurd (units.solenoid.symm.trans on) nofun
    · refine ⟨units.solenoid, fun gone => takeResets_drawer till fun told => ?_⟩
      by_contra waits
      exact gone (List.mem_filter.mpr ⟨told, by simpa using waits⟩)
    · refine ⟨units.solenoid, ?_, units.none⟩
      by_cases engine : .re ∈ s.re.resetting.filter (resetReady s)
      · exact takeResets_drawer till (resetReady_till (List.mem_filter.mp engine).2)
      · have same := resetUnits_device _ s engine
        exact resetUnits_drawer _ (.inr (off (same.symm.trans unc)))
  refine if_keeps ((nextRequest_kickMoved ?_).law left) left
  exact fun executing => absurd (units.idle.symm.trans executing) nofun

theorem resumeResets_solenoidLaw {s : State} (h : kickLive s) : solenoidLaw (resumeResets s) := by
  have law : solenoidLaw s := (solenoidLaw_iff s).mpr ⟨h.tokickLaw, h.own⟩
  unfold resumeResets
  split
  next => exact law
  next some =>
    have told : s.re.resetting ≠ [] := by simpa using some
    have idle : s.re.phase = .idle := h.resets (by simp [State.resetOwed, told])
    obtain ⟨off, till⟩ := h.cut told
    refine takeResets_solenoidLaw told ⟨off, ?_, h.done (by rw [idle]; nofun), idle, rfl⟩ till fun unc => ?_
    · simpa [off] using h.pulse
    · exact (h.off unc).2.1

theorem applyLaneReset_solenoidLaw {s : State} (idle : s.re.phase = .idle) (h : solenoidLaw s) : solenoidLaw (applyLaneReset s) := by
  have none : noKickOwed s := h.done (by rw [idle]; nofun)
  unfold applyLaneReset
  dsimp only
  split
  · refine kickMoved.law (.trans ?_ (nextRequest_kickMoved ?_)) h
    · exact ⟨.same rfl rfl rfl, rfl, rfl, rfl, .inl ⟨rfl, rfl, rfl⟩⟩
    · exact fun executing => absurd (idle.symm.trans executing) nofun
  next ready =>
    have told : BlockId.tu ∈ resetOrder := by decide
    exact takeResets_solenoidLaw (List.cons_ne_nil _ _) ⟨rfl, rfl, none, idle, rfl⟩ (fun no => absurd told no)
      fun unc => absurd unc ready

/-! ### Windows that open and close -/

theorem kickLive.law {s : State} (h : kickLive s) : solenoidLaw s := (solenoidLaw_iff s).mpr ⟨h.tokickLaw, h.own⟩

theorem kickLive_of {s : State} (ring : ringLive s) (h : solenoidLaw s) : kickLive s :=
  have both := (solenoidLaw_iff s).mp h
  { ring, both.1 with own := both.2 }

/-- What a window owes goes on being owed when it opens. -/
theorem openWindow_solenoidLaw {s : State} {w : WindowAsk} (hw : w ∈ s.bi.waiting) (h : solenoidLaw s) :
    solenoidLaw (openWindow s w) := by
  obtain ⟨⟨pulse, kicking, ⟨waiting, opened, event⟩, done, cut, off⟩, own⟩ := (solenoidLaw_iff s).mp h
  have none (calm : noKickOwed s) : noKickOwed (openWindow s w) := by
    obtain ⟨waiting, opened, event⟩ := calm
    refine ⟨fun x hx => waiting x (List.mem_of_mem_filter hx), fun o ho c => ?_, event⟩
    obtain old | new := List.mem_append.mp ho
    · exact opened o old c
    · exact List.mem_singleton.mp new ▸ waiting w hw c
  refine (solenoidLaw_iff _).mpr ⟨⟨pulse, kicking, ?_, fun idle => none (done idle), cut, fun unc => ?_⟩, own⟩
  · refine ⟨fun x hx => waiting x (List.mem_of_mem_filter hx), fun o ho c => ?_, event⟩
    obtain old | new := List.mem_append.mp ho
    · exact opened o old c
    · exact List.mem_singleton.mp new ▸ waiting w hw c
  · obtain ⟨still, drawer, calm⟩ := off unc
    exact ⟨still, drawer, none calm⟩

/-- The window of the event in hand owes what the event owes. -/
theorem suAskWindow_solenoidLaw {s : State} (h : solenoidLaw s) : solenoidLaw (suAskWindow s) := by
  unfold suAskWindow
  split
  next e he =>
    obtain ⟨⟨pulse, kicking, ⟨waiting, opened, event⟩, done, cut, off⟩, own⟩ := (solenoidLaw_iff s).mp h
    have inEvent (c : KickCause) (kick : After.kick c ∈ e.after ++ [.suDone]) : After.kick c ∈ e.after := by simpa using kick
    have none (calm : noKickOwed s) : noKickOwed (askFixed s .su [.saleRecord] e.words (e.after ++ [.suDone]) e.ofRequest) := by
      obtain ⟨waiting, opened, event⟩ := calm
      refine ⟨fun w hw c kick => ?_, opened, event⟩
      obtain old | new := List.mem_append.mp hw
      · exact waiting w old c kick
      · rw [List.mem_singleton.mp new] at kick
        exact event e he c (inEvent c kick)
    refine (solenoidLaw_iff _).mpr ⟨⟨pulse, kicking, ⟨fun w hw c kick => ?_, opened, event⟩, fun idle => none (done idle), cut,
      fun unc => ?_⟩, own⟩
    · obtain old | new := List.mem_append.mp hw
      · exact waiting w old c kick
      · rw [List.mem_singleton.mp new] at kick ⊢
        exact event e he c (inEvent c kick)
    · obtain ⟨still, drawer, calm⟩ := off unc
      exact ⟨still, drawer, none calm⟩
  next => exact h

/-- A kick whose window has closed begins a pulse; the rest that follows a window moves no drawer. -/
theorem runAfter_kickLive {s : State} (a : After) (ready : ∀ c, a = .kick c → s.re.phase = .executing ∧ s.re.device ≠ .unconfigured)
    (h : kickLive s) : kickLive (runAfter s a) := by
  have hP := kickLive_stable allBlocks
  have ring := runAfter_ringLive a h.toringLive
  cases a with
  | suWrite => exact kickLive_of ring (suAskWindow_solenoidLaw h.law)
  | suDone => exact hP.su (mem_allBlocks _) _ h nofun (suOrderly_of_eq rfl rfl rfl)
  | headAdvance => exact { h with }
  | cardAsk index amount => exact cardAsks_stable hP (mem_allBlocks _) h
  | kick c =>
    obtain ⟨executing, configured⟩ := ready c rfl
    refine { ring, (?_ : kickLaw (runAfter s (.kick c))) with own := h.own.kept (by simp [runAfter]) }
    refine if_keeps ((h.tokickLaw.pulsed configured (h.executing executing) c 1).kept ?_ (by simp) (by simp)) h.tokickLaw
    exact askLive_owedKept
  | tellBag tell => exact { h with }
  | tellPrint tell => exact { h with }
  | saleFinished => exact hP.raise _ _ h

theorem runAfters_kickLive (as : List After) {s : State} (h : kickLive s)
    (ready : ∀ c, .kick c ∈ as → s.re.phase = .executing ∧ s.re.device ≠ .unconfigured) : kickLive (as.foldl runAfter s) := by
  induction as generalizing s with
  | nil => exact h
  | cons a rest ih =>
    refine ih (runAfter_kickLive a (fun c here => ready c (here ▸ List.mem_cons_self)) h) fun c later => ?_
    have same : (runAfter s a).re = s.re := by simp
    rw [same]
    exact ready c (List.mem_cons_of_mem _ later)

theorem removeWindow_kickMoved (s : State) (id : Nat) : kickMoved s (removeWindow s id) := by
  refine kickMoved_of_re ⟨?_, fun o ho => ?_, ?_⟩ (by simp) (by simp)
  · simp [kicksKept_refl]
  · have kept : o ∈ s.bi.opened.filter fun o => o.id != id := by simpa [removeWindow] using ho
    exact List.mem_of_mem_filter kept
  · simp +contextual

theorem closeWindow_kickLive {s : State} {o : OpenWindow} (ho : o ∈ s.bi.opened) (h : kickLive s) :
    kickLive (closeWindow s o) := by
  have removed : kickLive (removeWindow s o.id) :=
    kickLive_of (removeWindow_ringLive o.id h.toringLive) ((removeWindow_kickMoved s o.id).law h.law)
  have followed := runAfters_kickLive o.after removed fun c kick => by
    have same : (removeWindow s o.id).re = s.re := by simp
    rw [same]
    refine ⟨?_, fun unc => ?_⟩
    · by_contra idle
      obtain ⟨-, opened, -⟩ := h.done idle
      exact opened o ho c kick
    · obtain ⟨-, -, -, opened, -⟩ := h.off unc
      exact opened o ho c kick
  have progressed : kickLive (requestProgress (o.after.foldl runAfter (removeWindow s o.id))) :=
    { requestProgress_ringLive followed.toringLive, requestProgress_kickLaw followed.tokickLaw with
      own := requestProgress_ownRequest followed.own }
  exact kickLive_of (resumeResets_ringLive progressed.toringLive) (resumeResets_solenoidLaw progressed)

/-! ### Records -/

theorem recordWritten_kickMoved (s : State) (o : OpenWindow) (reserved : Nat) : kickMoved s (recordWritten s o reserved) := by
  refine (removeWindow_kickMoved s o.id).trans (kickMoved_of_re ?_ ?_ ?_)
  · exact .same rfl rfl rfl
  · rfl
  · rfl

theorem afterCompletion_kickMoved {s : State} (askFirst : Bool) (idle : s.re.phase = .idle) :
    kickMoved s (afterCompletion s askFirst) := by
  refine if_keeps ((nextRequest_kickMoved ?_).trans (look_kickMoved _)) ((look_kickMoved s).trans (nextRequest_kickMoved ?_)) <;>
    simp [idle]

theorem afterLaneReset_solenoidLaw {s : State} (askFirst : Bool) (idle : s.re.phase = .idle) (h : solenoidLaw s) :
    solenoidLaw (afterLaneReset s askFirst) := by
  refine if_keeps ((look_kickMoved _).law (applyLaneReset_solenoidLaw idle h)) ((look_kickMoved _).law (kickMoved.law ?_ h))
  exact ⟨.same rfl rfl rfl, rfl, rfl, rfl, .inl ⟨rfl, rfl, rfl⟩⟩

theorem completionWritten_solenoidLaw {s : State} (o : OpenWindow) (askFirst : Bool) (completing : s.re.phase = .completing)
    (h : solenoidLaw s) : solenoidLaw (completionWritten s o askFirst) := by
  have left : solenoidLaw (leaveCompleting (recordWritten s o 0)) := by
    refine kickMoved.law ((recordWritten_kickMoved s o 0).trans ⟨.same rfl rfl rfl, rfl, rfl, rfl, .inr ⟨?_, nofun⟩⟩) h
    simp [completing]
  exact if_keeps (afterLaneReset_solenoidLaw askFirst rfl left) ((afterCompletion_kickMoved askFirst rfl).law left)

theorem answered_kickMoved (s : State) (b : BlockId) (kind : CondKind) (count : Nat) (stamp : Word) (source : Nat)
    (rest : List BlockId) (payload : List Byte) :
    kickMoved s (answered (takeAsk s b) kind count stamp source rest payload) := by
  have taken : kickMoved s (takeAsk s b) := if_keeps (kickMoved_of_re (.same rfl rfl rfl) rfl rfl) (.refl s)
  refine taken.trans ?_
  unfold answered
  split
  · exact kickMoved_of_re ⟨kicksKept_append noKick_nil, fun _ h => h, fun _ => .inl⟩ rfl rfl
  · exact kickMoved_of_re (.same rfl rfl rfl) rfl rfl

/-! ### Host accesses -/

theorem deliverWatched_kickMoved (s : State) (k : Watched) (old : Word) : kickMoved s (deliverWatched s k old) := by
  cases k with
  | reqProducer =>
    unfold deliverWatched
    dsimp only
    split
    next go =>
      have idle : s.re.phase = .idle := of_decide_eq_true (Bool.and_eq_true_iff.mp go).1
      exact nextRequest_kickMoved (by rw [idle]; nofun)
    next => exact .refl s
  | evtConsumer => exact if_keeps (.refl s) (consumerAdvance_kickMoved s)
  | journalExport =>
    refine if_keeps (.refl s) (kickMoved_of_re ?_ rfl rfl)
    exact ⟨kicksKept_append noKick_nil, fun _ h => h, fun _ => .inl⟩
  | noticeMask => exact if_keeps (.refl s) (look_kickMoved s)
  | receiptFill =>
    refine if_keeps (.refl s) (kickMoved_of_re ?_ rfl rfl)
    exact ⟨kicksKept_append noKick_nil, fun _ h => h, fun _ => .inl⟩

theorem grantBurst_kickMoved (s : State) : kickMoved s (grantBurst s) :=
  if_keeps (.refl s) (kickMoved_of_re (.same rfl rfl rfl) rfl rfl)

theorem setWatched_kickMoved (s : State) (k : Watched) (w : Word) (m : List Host.Cell) :
    kickMoved s ((setWatched s k w).setMem m) := by
  cases k <;> exact kickMoved_of_re (.same rfl rfl rfl) rfl rfl

theorem applyDecision_kickMoved (s : State) (w : HostWord) (d : Decision) : kickMoved s (applyDecision s w d) := by
  have granted := grantBurst_kickMoved s
  cases d with
  | ignored => exact .refl s
  | refused unmapped =>
    refine .trans ?_ (raise_kickMoved _ _ _)
    exact kickMoved_of_re (.same rfl rfl rfl) rfl rfl
  | plain a => exact granted.trans (kickMoved_of_re (.same rfl rfl rfl) rfl rfl)
  | control k c => exact (granted.trans (setWatched_kickMoved _ k c _)).trans (deliverWatched_kickMoved _ k _)
  | page word => exact granted.trans (kickMoved_of_re (.same rfl rfl rfl) rfl rfl)

theorem takeWord_kickMoved (s : State) (w : HostWord) : kickMoved s (takeWord s w) := by
  have applied := applyDecision_kickMoved s w (decideWrite s w)
  refine if_keeps (applied.trans (if_keeps (kickMoved_of_re ?_ (by simp) (by simp)) (kickMoved_of_re ?_ rfl rfl))) applied
  · exact { askLive_owedKept with }
  · exact .same rfl rfl rfl

theorem offerWord_kickMoved (s : State) (w : HostWord) : kickMoved s (offerWord s w) :=
  if_keeps (kickMoved_of_re (.same rfl rfl rfl) rfl rfl) (takeWord_kickMoved s w)

theorem presentWord_kickMoved (s : State) (w : HostWord) : kickMoved s (presentWord s w) :=
  if_keeps (kickMoved_of_re (.same rfl rfl rfl) rfl rfl) (offerWord_kickMoved s w)

theorem serveRead_kickMoved (s : State) (a n : Nat) : kickMoved s (serveRead s a n) :=
  kickMoved_of_re (.same (by simp) (by simp) (by simp)) (by simp) (by simp)

theorem presentRead_kickMoved (s : State) (a n : Nat) : kickMoved s (presentRead s a n) :=
  if_keeps (kickMoved_of_re (.same rfl rfl rfl) rfl rfl) (serveRead_kickMoved s a n)

theorem engineAccess_owedKept (s : State) (a : EngineAccess) : owedKept s (engineAccess s a) := by
  have waiting : kicksKept s.bi.waiting (engineAccess s a).bi.waiting := by
    cases a with
    | journalWrite head exported => exact kicksKept_append noKick_nil
    | pageEntry page =>
      unfold engineAccess entryFetched
      dsimp only
      split
      · split
        · exact kicksKept_refl _
        · split <;> exact kicksKept_refl _
      · exact kicksKept_refl _
    | slot addr count =>
      unfold engineAccess
      dsimp only
      split <;> exact kicksKept_refl _
    | _ => exact kicksKept_refl _
  exact ⟨waiting, by simp, by simp +contextual⟩

theorem engineGrant_kickMoved (s : State) : kickMoved s (engineGrant s) := by
  refine ⟨?_, by simp, by simp, by simp, .inl (by simp)⟩
  unfold engineGrant
  split
  · exact .refl s
  · exact { engineAccess_owedKept _ _ with }

theorem portGrant_kickMoved (s : State) : kickMoved s (portGrant s) := by
  have engine := engineGrant_kickMoved s
  have cleared : kickMoved s (s.setBi { s.bi with hostStall := none }) := kickMoved_of_re (.same rfl rfl rfl) rfl rfl
  unfold portGrant
  split
  · refine if_keeps (.trans ?_ (offerWord_kickMoved _ _)) engine
    exact kickMoved_of_re (.same rfl rfl rfl) rfl rfl
  · exact if_keeps engine (cleared.trans (presentWord_kickMoved _ _))
  · exact if_keeps engine (serveRead_kickMoved _ _ _)
  · exact engine

/-! ### The Request Engine's requests -/

theorem requestFetched_solenoidLaw {s : State} (fetching : s.re.phase = .fetching) (h : solenoidLaw s) :
    solenoidLaw (requestFetched s) := by
  obtain ⟨law, -⟩ := (solenoidLaw_iff s).mp h
  have none : noKickOwed s := law.done (by rw [fetching]; nofun)
  have taken (x : Re) (device : x.device = s.re.device) (resetting : x.resetting = s.re.resetting) :
      kickLaw (askReConsumer (s.setRe x)) :=
    law.moved ⟨kicksKept_append noKick_nil, fun _ h => h, fun _ => .inl⟩ rfl device resetting fun _ => none
  have failed {t : State} (r : ResultCode) (ht : kickLaw t) : solenoidLaw (failRequest t r) :=
    (solenoidLaw_iff _).mpr ⟨finishRequest_kickLaw _ _ _ ht, finishRequest_ownRequest _ _ _ _⟩
  unfold requestFetched decodeRequest
  dsimp only
  split
  next => exact failed _ (taken _ rfl rfl)
  next k name =>
    split
    next => exact failed _ (taken _ rfl rfl)
    next taken' =>
      have own : s.re.device = .unconfigured → some k = some .setupCommit ∨ some k = some .laneReset := fun unc => by
        have decided : takenUnconfigured k = true := by simpa [askReConsumer, unc] using taken'
        simpa [takenUnconfigured] using decided
      have decoded {t : State} (name : recKind t.re.record = some k) (device : t.re.device = s.re.device) (ht : kickLaw t) :
          solenoidLaw t :=
        (solenoidLaw_iff t).mpr ⟨ht, fun unc _ _ => (own (device.symm.trans unc)).imp name.trans name.trans⟩
      have law := decoded name rfl (taken _ rfl rfl)
      refine if_keeps (kickMoved.law ?_ law) law
      exact kickMoved_of_re (.same rfl rfl rfl) rfl rfl

theorem setupCommit_kickLive {s : State} (h : kickLive s) : kickLive (setupCommit s) := by
  have hP := kickLive_stable allBlocks
  have all (cs : List BlockId) : cs ⊆ allBlocks := fun b _ => mem_allBlocks b
  refine if_keeps ?_ (if_keeps (finishRequest_kickLive _ _ _ h.toringLive h.tokickLaw) { h with })
  unfold decideCommit
  dsimp only
  split
  · refine finishRequest_kickLive _ _ _ (askFixed_stable (ringLive_stable allBlocks) noKick_nil { h with }) ?_
    exact h.moved { askFixed_owedKept with } rfl rfl rfl h.done
  · refine hP.finish (mem_allBlocks _) _ _ _ ?_
    split
    · exact applyRecommit_stable hP (all _) { h with off := nofun, own := nofun }
    next first =>
      refine applyFirst_stable hP (all _) (fun u tu hu => initTill_stable hP (mem_allBlocks _) ?_ hu) { h with off := nofun, own := nofun }
      have unc : s.re.device = .unconfigured := by
        cases device : s.re.device with
        | unconfigured => rfl
        | ready => exact absurd (decide_eq_true device) first
      rw [tu]
      exact (h.off unc).2.1

/-! ### The law -/

theorem EngineKept.and {P Q : State → Prop} {s : State} (h : EngineKept P s) (k : EngineKept Q s) :
    EngineKept (fun t => P t ∧ Q t) s where
  word high free w := ⟨h.word high free w, k.word high free w⟩
  read high free a n := ⟨h.read high free a n, k.read high free a n⟩
  opens high w hw can := ⟨h.opens high w hw can, k.opens high w hw can⟩
  closes high o ho other written := ⟨h.closes high o ho other written, k.closes high o ho other written⟩
  grant high := ⟨h.grant high, k.grant high⟩
  fetched high fetching := ⟨h.fetched high fetching, k.fetched high fetching⟩
  commit high waits ready := ⟨h.commit high waits ready, k.commit high waits ready⟩
  reset high waits ready := ⟨h.reset high waits ready, k.reset high waits ready⟩
  applied high due := ⟨h.applied high due, k.applied high due⟩
  completion high o ho writing askFirst := ⟨h.completion high o ho writing askFirst, k.completion high o ho writing askFirst⟩
  answer high kind count stamp source waiting payload b writer hb ready :=
    ⟨h.answer high kind count stamp source waiting payload b writer hb ready,
      k.answer high kind count stamp source waiting payload b writer hb ready⟩
  condition high o ho writing := ⟨h.condition high o ho writing, k.condition high o ho writing⟩
  asserted high := ⟨h.asserted high, k.asserted high⟩

theorem resetAssert_solenoidLaw (s : State) : solenoidLaw (resetAssert s) where
  pulse := iff_of_false nofun fun no => no rfl
  kicking := nofun
  owed := ⟨nofun, nofun, nofun⟩
  done _ := ⟨nofun, nofun, nofun⟩
  cut no := absurd rfl no
  unconfigured _ := ⟨rfl, nofun, ⟨nofun, nofun, nofun⟩, nofun⟩

theorem solenoidLaw_engine {s : State} (h : kickLive s) : EngineKept solenoidLaw s where
  word _ _ w := (presentWord_kickMoved s w).law h.law
  read _ _ a n := (presentRead_kickMoved s a n).law h.law
  opens _ _ hw _ := openWindow_solenoidLaw hw h.law
  closes _ o ho _ _ :=
    (freedNotices_stable (kickLive_stable allBlocks) (mem_allBlocks _) (mem_allBlocks _) (closeWindow_kickLive ho h)).law
  grant _ := (portGrant_kickMoved s).law h.law
  fetched _ fetching := requestFetched_solenoidLaw fetching h.law
  commit _ _ _ := (setupCommit_kickLive h).law
  reset _ _ _ := (finishRequest_kickLive _ _ _ h.toringLive h.tokickLaw).law
  applied _ due := applyLaneReset_solenoidLaw (h.resets (by simp [State.resetOwed, due])) h.law
  completion _ o _ writing askFirst := completionWritten_solenoidLaw o askFirst (h.writing writing).1 h.law
  answer _ _ _ _ _ _ _ b asking _ _ :=
    have ring := answered_ringLive _ _ (by simpa using asking) (h.toringLive.kept (by constructor <;> simp [consumerCopy]))
    (unitNotices_stable (kickLive_stable allBlocks) (mem_allBlocks _) (mem_allBlocks _)
      (kickLive_of ring ((answered_kickMoved s b _ _ _ _ _ _).law h.law))).law
  condition _ o _ _ := ((recordWritten_kickMoved s o _).trans (look_kickMoved _)).law h.law
  asserted _ := resetAssert_solenoidLaw s

/-- The release takes the inputs' raw levels; the Till Unit and the windows begin as reset. -/
theorem resetRelease_solenoidLaw {s : State} (laSel : BitVec 4) (bagFit : Bool) (idle : s.re.phase = .idle) (h : solenoidLaw s) :
    solenoidLaw (resetRelease s laSel bagFit) := by
  obtain ⟨-, -, event⟩ := h.done (by rw [idle]; nofun)
  have shut : (releasedTill s.tu).drawer ≠ .kicking := by cases raw : s.tu.senseFilter.raw <;> simp [releasedTill, raw]
  have none : noKickOwed (resetRelease s laSel bagFit) := ⟨nofun, nofun, event⟩
  exact
    { pulse := iff_of_false nofun fun no => no rfl
      kicking := nofun
      owed := kicksOfRequest_of_none none
      done := fun _ => none
      cut := fun _ => ⟨rfl, fun _ => shut⟩
      unconfigured := fun _ => ⟨rfl, shut, none, fun executing => absurd (idle.symm.trans executing) nofun⟩ }

/-- The law of the solenoid with the law of the ring. -/
def kickSafe (s : State) : Prop := ringLaw s ∧ solenoidLaw s

/-- Settles O60: with the law of the ring; while RESET_N is high a pulse starts only in the request in execution, by the closing of a
window of that request, or again in a kick, and while it is low the drawer is not moved. -/
theorem solenoidOnlyInAKick : Obligations.SolenoidOnlyInAKick := by
  unfold Obligations.SolenoidOnlyInAKick
  intro s t ring h ht
  refine (step_of_exec (P := kickSafe)
    (fun c s h => exec_law (P := kickLive) (Q := kickSafe) (fun _ h => ⟨h.toringLaw, h.law⟩)
      (fun _ high h => kickLive_of ⟨h.1, high⟩ h.2) (kickLive_stable allBlocks)
      (fun _ _ h => (ringLaw_engine h.toringLive).and (solenoidLaw_engine h)) ?_ ?_ c s h)
    (fun _ _ h => ⟨{ h.1 with }, { h.2 with }⟩) ⟨ring, h⟩ ht).2
  · rintro s laSel bagFit low ⟨ring, h⟩
    exact ⟨resetRelease_ringLaw laSel bagFit low ring, resetRelease_solenoidLaw laSel bagFit (ring.held low).2 h⟩
  · rintro s input level ⟨ring, h⟩
    refine ⟨rawLevelChange_ringLaw input level ring, ?_⟩
    obtain ⟨law, own⟩ := (solenoidLaw_iff s).mp h
    cases input <;>
      exact (solenoidLaw_iff _).mpr ⟨law.till (tillCalmer_same rfl rfl rfl), own⟩

end Sys2Proof.Machine
end

section
/-! The laws of the sizes (O59): the flight list and the credits, the receive buffers of the links, the tables of the sale, the
card and the jobs. The events of the units keep them by their primitive moves; the other commands hardly touch what they speak
of, which is said once for all these laws. -/

namespace Sys2Proof.Machine

/-! ### The other commands -/

/-- The links, the sale's tables, the card and the printer are as before, but for the fetch of a slot, and so is the request. -/
structure tablesKept (s t : State) : Prop where
  lu : t.lu = s.lu
  lines : t.su.lines = s.su.lines
  tenders : t.su.tenders = s.su.tenders
  claim : t.su.claim = s.su.claim
  ctu : t.ctu = s.ctu
  pu : ∃ fetch, t.pu = { s.pu with fetch := fetch }
  record : t.re.record = s.re.record

theorem tablesKept.trans {s t u : State} (h : tablesKept s t) (k : tablesKept t u) : tablesKept s u where
  lu := k.lu.trans h.lu
  lines := k.lines.trans h.lines
  tenders := k.tenders.trans h.tenders
  claim := k.claim.trans h.claim
  ctu := k.ctu.trans h.ctu
  pu := by
    obtain ⟨x, hx⟩ := h.pu
    obtain ⟨y, hy⟩ := k.pu
    exact ⟨y, by rw [hy, hx]⟩
  record := k.record.trans h.record

theorem tablesKept_of {s t : State} (same : t.lu = s.lu ∧ t.su.lines = s.su.lines ∧ t.su.tenders = s.su.tenders ∧
    t.su.claim = s.su.claim ∧ t.ctu = s.ctu ∧ t.pu = s.pu ∧ t.re.record = s.re.record) : tablesKept s t := by
  obtain ⟨lu, lines, tenders, claim, ctu, pu, record⟩ := same
  exact ⟨lu, lines, tenders, claim, ctu, ⟨_, pu⟩, record⟩

/-- A law of the tables: the primitive moves keep it, and it looks at nothing but the tables. -/
structure TableStable (P : State → Prop) : Prop where
  stable : ∀ bs, Stable bs P
  kept : ∀ {s t}, P s → tablesKept s t → P t

section
variable {P : State → Prop} {s : State}

theorem tablesKept.refl (s : State) : tablesKept s s := ⟨rfl, rfl, rfl, rfl, rfl, ⟨_, rfl⟩, rfl⟩

/-! ### Host accesses and records -/

theorem nextRequest_tablesKept (s : State) : tablesKept s (nextRequest s) := tablesKept_of (by simp)

theorem look_tablesKept (s : State) : tablesKept s (look s) := tablesKept_of (by simp)

theorem raise_tablesKept (s : State) (k : CondKind) (n : Nat) : tablesKept s (raise s k n) := tablesKept_of (by simp)

theorem deliverWatched_tablesKept (s : State) (k : Watched) (old : Word) : tablesKept s (deliverWatched s k old) := by
  cases k with
  | reqProducer => exact if_keeps (nextRequest_tablesKept s) (.refl s)
  | evtConsumer => exact if_keeps (.refl s) (tablesKept_of (by simp))
  | journalExport => exact if_keeps (.refl s) (tablesKept_of (by simp))
  | noticeMask => exact if_keeps (.refl s) (look_tablesKept s)
  | receiptFill => exact if_keeps (.refl s) (tablesKept_of (by simp))

theorem grantBurst_tablesKept (s : State) : tablesKept s (grantBurst s) :=
  if_keeps (.refl s) ⟨rfl, rfl, rfl, rfl, rfl, ⟨_, rfl⟩, rfl⟩

theorem applyDecision_tablesKept (s : State) (w : HostWord) (d : Decision) : tablesKept s (applyDecision s w d) := by
  have granted := grantBurst_tablesKept s
  cases d with
  | ignored => exact .refl s
  | refused unmapped =>
    refine .trans ?_ (raise_tablesKept _ _ _)
    exact ⟨rfl, rfl, rfl, rfl, rfl, ⟨_, rfl⟩, rfl⟩
  | plain a => exact granted.trans ⟨rfl, rfl, rfl, rfl, rfl, ⟨_, rfl⟩, rfl⟩
  | control k c =>
    refine (granted.trans ?_).trans (deliverWatched_tablesKept _ k _)
    cases k <;> exact ⟨rfl, rfl, rfl, rfl, rfl, ⟨_, rfl⟩, rfl⟩
  | page word => exact granted.trans ⟨rfl, rfl, rfl, rfl, rfl, ⟨_, rfl⟩, rfl⟩

theorem takeWord_tablesKept (s : State) (w : HostWord) : tablesKept s (takeWord s w) :=
  have applied := applyDecision_tablesKept s w (decideWrite s w)
  if_keeps (applied.trans (tablesKept_of (by simp))) applied

theorem offerWord_tablesKept (s : State) (w : HostWord) : tablesKept s (offerWord s w) :=
  if_keeps ⟨rfl, rfl, rfl, rfl, rfl, ⟨_, rfl⟩, rfl⟩ (takeWord_tablesKept s w)

theorem presentWord_tablesKept (s : State) (w : HostWord) : tablesKept s (presentWord s w) :=
  if_keeps ⟨rfl, rfl, rfl, rfl, rfl, ⟨_, rfl⟩, rfl⟩ (offerWord_tablesKept s w)

theorem engineAccess_tablesKept (s : State) (a : EngineAccess) : tablesKept s (engineAccess s a) := by
  cases a with
  | fetch half => exact ⟨rfl, rfl, rfl, rfl, rfl, ⟨_, rfl⟩, rfl⟩
  | setup index => exact ⟨rfl, rfl, rfl, rfl, rfl, ⟨_, rfl⟩, rfl⟩
  | write w words => exact ⟨rfl, rfl, rfl, rfl, rfl, ⟨_, rfl⟩, rfl⟩
  | journalWrite head exported => exact ⟨rfl, rfl, rfl, rfl, rfl, ⟨_, rfl⟩, rfl⟩
  | pageEntry page =>
    unfold engineAccess entryFetched
    dsimp only
    split
    · split
      · exact ⟨rfl, rfl, rfl, rfl, rfl, ⟨_, rfl⟩, rfl⟩
      · split <;> exact ⟨rfl, rfl, rfl, rfl, rfl, ⟨_, rfl⟩, rfl⟩
    · exact .refl s
  | slot addr count =>
    unfold engineAccess
    dsimp only
    split
    · exact ⟨rfl, rfl, rfl, rfl, rfl, ⟨_, rfl⟩, rfl⟩
    · exact .refl s

theorem engineGrant_tablesKept (s : State) : tablesKept s (engineGrant s) := by
  unfold engineGrant
  split
  · exact .refl s
  next a rest _ =>
    refine .trans ?_ (engineAccess_tablesKept _ a)
    exact ⟨rfl, rfl, rfl, rfl, rfl, ⟨_, rfl⟩, rfl⟩

theorem portGrant_tablesKept (s : State) : tablesKept s (portGrant s) := by
  have engine := engineGrant_tablesKept s
  unfold portGrant
  split
  · refine if_keeps (.trans ?_ (offerWord_tablesKept _ _)) engine
    exact ⟨rfl, rfl, rfl, rfl, rfl, ⟨_, rfl⟩, rfl⟩
  · refine if_keeps engine (.trans ?_ (presentWord_tablesKept _ _))
    exact ⟨rfl, rfl, rfl, rfl, rfl, ⟨_, rfl⟩, rfl⟩
  · exact if_keeps engine (tablesKept_of (by simp))
  · exact engine

theorem recordWritten_tablesKept (s : State) (o : OpenWindow) (reserved : Nat) : tablesKept s (recordWritten s o reserved) :=
  tablesKept_of (by simp)

theorem answered_tablesKept (s : State) (b : BlockId) (kind : CondKind) (count : Nat) (stamp : Word) (source : Nat)
    (rest : List BlockId) (payload : List Byte) :
    tablesKept s (answered (takeAsk s b) kind count stamp source rest payload) := by
  have taken : tablesKept s (takeAsk s b) := if_keeps ⟨rfl, rfl, rfl, rfl, rfl, ⟨_, rfl⟩, rfl⟩ (.refl s)
  refine taken.trans ?_
  unfold answered
  split <;> exact ⟨rfl, rfl, rfl, rfl, rfl, ⟨_, rfl⟩, rfl⟩

/-! ### Resets, commits and windows that close -/

theorem takeResets_tables (hP : TableStable P) (h : P s) : P (takeResets s) := by
  have unit {t : State} (b : BlockId) (ht : P t) : P (resetUnit t b) := by
    by_cases re : b = .re
    · subst re
      exact resetLinks_stable (hP.stable allBlocks) (hP.kept ht ⟨rfl, rfl, rfl, rfl, rfl, ⟨_, rfl⟩, rfl⟩)
    · exact resetUnit_stable (hP.stable allBlocks) re (fun b _ => mem_allBlocks b) ht
  have told (xs : List BlockId) {t : State} (ht : P t) : P (t.setRe { t.re with resetting := xs }) :=
    hP.kept ht (tablesKept_of (by simp))
  have units := told (s.re.resetting.filter fun b => !resetReady s b)
    (tieAsks_stable (hP.stable allBlocks) (start := s.bi.nextWindow)
      (foldl_keeps (s.re.resetting.filter (resetReady s)) unit h))
  exact if_keeps (hP.kept units (tablesKept_of (by simp))) units

theorem applyLaneReset_tables (hP : TableStable P) (h : P s) : P (applyLaneReset s) :=
  if_keeps (hP.kept h (tablesKept_of (by simp))) (takeResets_tables hP (cutPulse_stable (hP.stable allBlocks) (mem_allBlocks _)
    (hP.kept h (tablesKept_of (by simp)))))

theorem suAskWindow_tablesKept : tablesKept s (suAskWindow s) := tablesKept_of (by simp)

theorem runAfter_tables (hP : TableStable P) (a : After) (h : P s) : P (runAfter s a) := by
  have units := hP.stable allBlocks
  cases a with
  | suWrite => exact hP.kept h suAskWindow_tablesKept
  | suDone => exact hP.kept h ⟨rfl, rfl, rfl, rfl, rfl, ⟨_, rfl⟩, rfl⟩
  | headAdvance => exact hP.kept h ⟨rfl, rfl, rfl, rfl, rfl, ⟨_, rfl⟩, rfl⟩
  | cardAsk index amount => exact cardAsks_stable units (mem_allBlocks _) h
  | kick c => exact hP.kept h (if_keeps (tablesKept_of (by simp)) (.refl s))
  | tellBag tell => exact hP.kept h ⟨rfl, rfl, rfl, rfl, rfl, ⟨_, rfl⟩, rfl⟩
  | tellPrint tell => exact units.pu (mem_allBlocks _) _ (arrive_stable units h) ⟨id, id⟩
  | saleFinished => exact units.raise _ _ h

theorem closeWindow_tables (hP : TableStable P) (o : OpenWindow) (h : P s) : P (closeWindow s o) := by
  have followed : P (o.after.foldl runAfter (removeWindow s o.id)) :=
    foldl_keeps _ (runAfter_tables hP) (hP.kept h (tablesKept_of (by simp)))
  have progressed : P (requestProgress (o.after.foldl runAfter (removeWindow s o.id))) :=
    hP.kept followed (tablesKept_of (by simp))
  exact if_keeps progressed (takeResets_tables hP progressed)

theorem setupCommit_tables (hP : TableStable P) (h : P s) : P (setupCommit s) := by
  have units := hP.stable allBlocks
  have all (cs : List BlockId) : cs ⊆ allBlocks := fun b _ => mem_allBlocks b
  refine if_keeps ?_ (if_keeps (units.finish (mem_allBlocks _) _ _ _ h) (hP.kept h (tablesKept_of (by simp))))
  unfold decideCommit
  dsimp only
  split
  · exact units.finish (mem_allBlocks _) _ _ _ (hP.kept h (tablesKept_of (by simp)))
  · refine units.finish (mem_allBlocks _) _ _ _ (if_keeps ?_ ?_)
    · exact applyRecommit_stable units (all _) (hP.kept h ⟨rfl, rfl, rfl, rfl, rfl, ⟨_, rfl⟩, rfl⟩)
    · exact applyFirst_stable units (all _) (fun _ _ h => hP.kept h (tablesKept_of (by simp))) (hP.kept h ⟨rfl, rfl, rfl, rfl, rfl, ⟨_, rfl⟩, rfl⟩)

theorem completionWritten_tables (hP : TableStable P) (o : OpenWindow) (askFirst : Bool) (h : P s) :
    P (completionWritten s o askFirst) := by
  have left : P (leaveCompleting (recordWritten s o 0)) :=
    hP.kept h ((recordWritten_tablesKept s o 0).trans ⟨rfl, rfl, rfl, rfl, rfl, ⟨_, rfl⟩, rfl⟩)
  refine if_keeps (if_keeps ?_ ?_) ?_
  · exact hP.kept (applyLaneReset_tables hP left) (look_tablesKept _)
  · refine hP.kept ?_ (look_tablesKept _)
    exact hP.kept left ⟨rfl, rfl, rfl, rfl, rfl, ⟨_, rfl⟩, rfl⟩
  · exact hP.kept left (tablesKept_of (by simp))

/-- The other commands keep a law of the tables if it survives the taking of a request. -/
theorem tables_engine (hP : TableStable P) (h : P s) (fetched : s.re.phase = .fetching → P (requestFetched s))
    (asserted : P (resetAssert s)) : EngineKept P s where
  word _ _ w := hP.kept h (presentWord_tablesKept s w)
  read _ _ a n := hP.kept h (tablesKept_of (by simp))
  opens _ _ _ _ := hP.kept h (tablesKept_of (by simp))
  closes _ o _ _ _ :=
    freedNotices_stable (hP.stable allBlocks) (mem_allBlocks _) (mem_allBlocks _) (closeWindow_tables hP o h)
  grant _ := hP.kept h (portGrant_tablesKept s)
  fetched _ := fetched
  commit _ _ _ := setupCommit_tables hP h
  reset _ _ _ := (hP.stable allBlocks).finish (mem_allBlocks _) _ _ _ h
  applied _ _ := applyLaneReset_tables hP h
  completion _ o _ _ askFirst := completionWritten_tables hP o askFirst h
  answer _ _ _ _ _ _ _ b _ _ _ :=
    unitNotices_stable (hP.stable allBlocks) (mem_allBlocks _) (mem_allBlocks _)
      (hP.kept h (answered_tablesKept s b _ _ _ _ _ _))
  condition _ o _ _ := hP.kept h ((recordWritten_tablesKept s o _).trans (look_tablesKept _))
  asserted _ := asserted

end

/-! ### The flight list -/

theorem flightLaw_iff (s : State) : flightLaw s ↔ s.pu.flightFits :=
  ⟨fun h => ⟨h.credit, h.place⟩, fun h => ⟨h.1, h.2⟩⟩

theorem flightLaw_of_pu {s t : State} (h : flightLaw s) (pu : t.pu = s.pu) : flightLaw t := by
  rw [flightLaw_iff, pu]
  exact (flightLaw_iff s).mp h

theorem flightLaw_tables : TableStable flightLaw where
  kept h k := by
    obtain ⟨x, hx⟩ := k.pu
    rw [flightLaw_iff, hx]
    exact (flightLaw_iff _).mp h
  stable bs :=
    { setFree := fun _ h => { h with }
      setArrivals := fun _ h => { h with }
      asks := fun _ h _ _ => { h with }
      raise := fun k n h => flightLaw_of_pu h (by simp)
      inbox := fun _ h => { h with }
      link := fun _ _ h _ => { h with }
      deliver := fun l kind payload gap h => flightLaw_of_pu h (by simp)
      finish := fun _ _ r d1 d2 h => flightLaw_of_pu h (by simp)
      clock := fun _ _ _ h => { h with }
      engine := fun _ _ _ h => { h with }
      pwu := fun _ _ _ h => { h with }
      bwu := fun _ _ _ h => { h with }
      su := fun _ _ _ h _ _ => { h with }
      grow := fun _ _ _ _ h _ _ => { h with }
      claim := fun _ _ _ _ h _ _ => { h with }
      ctu := fun _ _ _ h _ => { h with }
      till := fun _ _ _ h _ => { h with }
      kick := fun _ _ _ _ h _ => { h with }
      cash := fun _ _ new words h _ _ _ _ _ => flightLaw_of_pu h (by simp)
      pu := fun _ s x h orderly => (flightLaw_iff (s.setPu x)).mpr (orderly.flight ((flightLaw_iff s).mp h))
      ju := fun _ _ _ h => { h with } }

theorem resetAssert_flightLaw (s : State) : flightLaw (resetAssert s) := ⟨Nat.zero_le _, fun no => absurd rfl no⟩

theorem flightLaw_step {s t : State} (h : flightLaw s) (ht : step s = .next t) : flightLaw t :=
  step_of_exec (P := flightLaw)
    (fun c s h => exec_law (P := flightLaw) (Q := flightLaw) (fun _ h => h) (fun _ _ h => h) (flightLaw_tables.stable _)
      (fun s _ h => tables_engine flightLaw_tables h (fun _ => flightLaw_of_pu h (by simp)) (resetAssert_flightLaw s))
      (fun _ _ _ _ h => { h with }) (fun s input level h => flightLaw_of_pu h (by simp)) c s h)
    (fun _ _ h => { h with }) h ht

/-! ### The receive buffers -/

/-- Without its newest frame a path holds one frame fewer. -/
theorem length_dropNewestFrame (p : List PathItem) :
    ((dropNewestFrame p).filter PathItem.isFrame).length = (p.filter PathItem.isFrame).length - 1 := by
  unfold dropNewestFrame
  split
  next i found =>
    obtain ⟨hi, frame, -⟩ := List.findIdx?_eq_some_iff_getElem.mp found
    have inside : p.length - 1 - i < p.length := by
      simp only [List.length_reverse] at hi
      omega
    have newest : p[p.length - 1 - i].isFrame = true := by simpa [List.getElem_reverse] using frame
    have parts : p.filter PathItem.isFrame
        = (p.take (p.length - 1 - i)).filter PathItem.isFrame
          ++ p[p.length - 1 - i] :: (p.drop (p.length - 1 - i + 1)).filter PathItem.isFrame := by
      conv_lhs => rw [← List.take_append_drop (p.length - 1 - i) p, List.drop_eq_getElem_cons inside]
      rw [List.filter_append, List.filter_cons_of_pos newest]
    rw [List.eraseIdx_eq_take_drop_succ, List.filter_append, parts]
    simp
  next none =>
    have empty : p.filter PathItem.isFrame = [] := by
      simpa [List.findIdx?_eq_none_iff] using none
    simp [empty]

theorem linkError_link (s : State) (l m : LinkId) (kind : ErrorKind) (place : RxField × Nat) :
    ((linkError s l kind place).link m).path = (s.link m).path := by
  have same : (linkError s l kind place).link m = (linkError s l kind place).lu.get m := rfl
  rw [same]
  by_cases here : m = l
  · subst here
    simp [linkError, askLinkStatus, State.link]
  · simp [linkError, askLinkStatus, State.link, Lu.get_set_other l _ s.lu m here]

theorem bufferLaw_setLink {s : State} {l : LinkId} {x : Link} (h : bufferLaw s) (fits : x.buffered ≤ 2) :
    bufferLaw (s.setLink l x) := by
  intro m
  by_cases here : m = l
  · subst here
    rw [State.link_setLink_same]
    exact fits
  · rw [State.link_setLink_other _ _ _ _ here]
    exact h m

theorem length_frame_added (p : List PathItem) (kind : Byte) (payload : List Byte) (gap : Bool) :
    ((p ++ [PathItem.frame kind payload gap]).filter PathItem.isFrame).length = (p.filter PathItem.isFrame).length + 1 := by
  rw [List.filter_append, List.length_append]
  rfl

/-- A frame takes a free place of the buffer, or that of the newest frame (R63). -/
theorem deliver_bufferLaw {s : State} (l : LinkId) (kind : Byte) (payload : List Byte) (gap : Bool) (h : bufferLaw s) :
    bufferLaw (deliver s l kind payload gap) := by
  unfold deliver
  dsimp only
  split
  next room =>
    refine bufferLaw_setLink h ?_
    rw [Link.buffered, length_frame_added]
    omega
  next full =>
    have before := h l
    have replaced : bufferLaw ((arriveAgain s l (newestFrameLeaves (s.link l).path)).setLink l
        { s.link l with
          path := dropNewestFrame (s.link l).path ++ [.frame kind payload true], firstAfterUp := false }) := by
      refine bufferLaw_setLink h ?_
      rw [Link.buffered, length_frame_added, length_dropNewestFrame]
      omega
    intro m
    rw [linkError_link]
    exact replaced m

theorem bufferLaw_of_lu {s t : State} (h : bufferLaw s) (lu : t.lu = s.lu) : bufferLaw t := by
  intro l
  rw [State.link, lu]
  exact h l

/-! ### The tables -/

/-- The laws of the buffers and of the tables, but for the course of the request a claim belongs to. -/
structure sizesLaw (s : State) : Prop where
  buffers : bufferLaw s
  jobs : s.pu.jobsFit
  lines : s.su.lines.length ≤ 96
  tenders : s.su.tenders.length ≤ 8
  verdicts : s.ctu.verdicts.length ≤ 8
  claim : s.su.claim ≠ none → s.su.lines.length < 96 ∧ recKind s.re.record = some .itemWeigh

/-- A consume claim waits only while its request executes (R103). -/
def claimWaits (s : State) : Prop := s.su.claim ≠ none → s.re.phase = .executing ∧ s.re.outcome = none

theorem awaits_itemWeigh_iff (s : State) : awaits s .itemWeigh = true
    ↔ s.re.phase = .executing ∧ s.re.outcome = none ∧ recKind s.re.record = some .itemWeigh := by
  simp [awaits, unitHolds, RequestKind.owner, hearsMany, and_assoc]

theorem sizes_iff (s : State) : bufferLaw s ∧ tableLaw s ↔ sizesLaw s ∧ claimWaits s := by
  constructor
  · rintro ⟨buffers, h⟩
    have claimed (some : s.su.claim ≠ none) := (awaits_itemWeigh_iff s).mp (h.claim some).2
    refine ⟨⟨buffers, ⟨h.jobs, h.owner⟩, h.lines, h.tenders, h.verdicts, fun some => ⟨(h.claim some).1, (claimed some).2.2⟩⟩,
      fun some => ⟨(claimed some).1, (claimed some).2.1⟩⟩
  · rintro ⟨h, waits⟩
    obtain ⟨jobs, owner⟩ := h.jobs
    refine ⟨h.buffers, jobs, owner, h.lines, fun some => ?_, h.tenders, h.verdicts⟩
    obtain ⟨room, kind⟩ := h.claim some
    obtain ⟨executing, unanswered⟩ := waits some
    exact ⟨room, (awaits_itemWeigh_iff s).mpr ⟨executing, unanswered, kind⟩⟩

theorem sizesLaw.kept {s t : State} (h : sizesLaw s) (k : tablesKept s t) : sizesLaw t := by
  obtain ⟨x, hx⟩ := k.pu
  refine ⟨bufferLaw_of_lu h.buffers k.lu, ?_, ?_, ?_, ?_, ?_⟩
  · rw [hx]
    exact h.jobs
  · rw [k.lines]
    exact h.lines
  · rw [k.tenders]
    exact h.tenders
  · rw [k.ctu]
    exact h.verdicts
  · rw [k.claim, k.lines, k.record]
    exact h.claim

theorem sizesLaw_tables : TableStable sizesLaw where
  kept h k := h.kept k
  stable bs :=
    { setFree := fun _ h => { h with }
      setArrivals := fun _ h => { h with }
      asks := fun _ h _ _ => { h with }
      raise := fun k n h => h.kept (tablesKept_of (by simp))
      inbox := fun _ h => { h with }
      link := fun l _ h fits => { h with buffers := bufferLaw_setLink h.buffers (Nat.le_trans fits (h.buffers l)) }
      deliver := fun {s} l kind payload gap h =>
        have buffers := deliver_bufferLaw l kind payload gap h.buffers
        ⟨buffers, by simpa using h.jobs, by simpa using h.lines, by simpa using h.tenders, by simpa using h.verdicts,
          by simpa using h.claim⟩
      finish := fun _ _ r d1 d2 h => h.kept (tablesKept_of (by simp))
      clock := fun _ _ _ h => { h with }
      engine := fun _ _ _ h => { h with }
      pwu := fun _ _ _ h => { h with }
      bwu := fun _ _ _ h => { h with }
      su := fun _ s x h _ orderly =>
        { h with
          lines := orderly.lines h.lines
          tenders := orderly.tenders h.tenders
          claim := fun some => by
            obtain ⟨same, fewer⟩ := orderly.claim some
            obtain ⟨room, kind⟩ := h.claim (same ▸ some)
            exact ⟨Nat.lt_of_le_of_lt fewer room, kind⟩ }
      grow := fun _ _ s x h _ joins => by
        obtain ⟨room, kind, same⟩ | ⟨claimed, ended⟩ := joins.claim
        · have unclaimed : s.su.claim = none := by
            by_contra some
            exact absurd (kind.symm.trans (h.claim some).2) nofun
          exact { h with
            lines := joins.lines ▸ room
            tenders := joins.tenders ▸ h.tenders
            claim := fun some => absurd (same.trans unclaimed) some }
        · exact { h with
            lines := joins.lines ▸ (h.claim claimed).1
            tenders := joins.tenders ▸ h.tenders
            claim := fun some => absurd ended some }
      claim := fun _ _ _ _ h room kind => { h with claim := fun _ => ⟨room, kind⟩ }
      ctu := fun _ _ _ h fits => { h with verdicts := fits h.verdicts }
      till := fun _ _ _ h _ => { h with }
      kick := fun _ _ _ _ h _ => { h with }
      cash := fun _ s new words h _ _ _ _ orderly =>
        { h with
          lines := orderly.lines h.lines
          tenders := orderly.tenders h.tenders
          claim := fun some => by
            obtain ⟨same, fewer⟩ := orderly.claim some
            obtain ⟨room, kind⟩ := h.claim (same ▸ some)
            exact ⟨Nat.lt_of_le_of_lt fewer room, kind⟩ }
      pu := fun _ _ _ h orderly => { h with jobs := orderly.jobs h.jobs }
      ju := fun _ _ _ h => { h with } }

theorem resetAssert_sizesLaw (s : State) : sizesLaw (resetAssert s) where
  buffers l := by cases l <;> exact Nat.zero_le _
  jobs := ⟨rfl, nofun⟩
  lines := Nat.zero_le _
  tenders := Nat.zero_le _
  verdicts := Nat.zero_le _
  claim no := absurd rfl no

/-- A request is taken only while no claim waits. -/
theorem requestFetched_sizesLaw {s : State} (unclaimed : s.su.claim = none) (h : sizesLaw s) : sizesLaw (requestFetched s) := by
  have none : (requestFetched s).su.claim = none := by simpa using unclaimed
  exact ⟨bufferLaw_of_lu h.buffers (by simp), by simpa using h.jobs, by simpa using h.lines, by simpa using h.tenders,
    by simpa using h.verdicts, fun some => absurd none some⟩

/-! ### The course of a request with a claim -/

/-- A claim stands in `t` only if it stood in `s`. -/
def noClaimMade (s t : State) : Prop := t.su.claim ≠ none → s.su.claim ≠ none

/-- The events in which no request is taken make no claim. -/
theorem noClaimMade_stable {bs : List BlockId} (other : .re ∉ bs) (z : State) : Stable bs (noClaimMade z) where
  setFree _ h := h
  setArrivals _ h := h
  asks _ h _ _ := h
  raise k n h some := h (by simpa using some)
  inbox _ h := h
  link _ _ h _ := h
  deliver l kind payload gap h some := h (by simpa using some)
  finish engine := absurd engine other
  clock _ _ _ h := h
  engine _ _ _ h := h
  pwu _ _ _ h := h
  bwu _ _ _ h := h
  su _ _ _ h _ orderly some := h ((orderly.claim some).1 ▸ some)
  grow engine := absurd engine other
  claim engine := absurd engine other
  ctu _ _ _ h _ := h
  till _ _ _ h _ := h
  kick _ _ _ _ h _ := h
  cash _ _ _ _ h _ _ _ _ orderly some := h ((orderly.claim some).1 ▸ some)
  pu _ _ _ h _ := h
  ju _ _ _ h := h

/-- The Request Engine is as in `z`. -/
def engineSame (z t : State) : Prop := t.re = z.re

theorem engineSame_stable {bs : List BlockId} (other : .re ∉ bs) (z : State) : Stable bs (engineSame z) where
  setFree _ h := h
  setArrivals _ h := h
  asks _ h _ _ := h
  raise k n h := (raise_keeps _ k n).1.trans h
  inbox _ h := h
  link _ _ h _ := h
  deliver l kind payload gap h := (deliver_keeps _ l kind payload gap).1.trans h
  finish engine := absurd engine other
  clock engine := absurd engine other
  engine _ _ _ h := h
  pwu _ _ _ h := h
  bwu _ _ _ h := h
  su _ _ _ h _ _ := h
  grow _ _ _ _ h _ _ := h
  claim _ _ _ _ h _ _ := h
  ctu _ _ _ h _ := h
  till _ _ _ h _ := h
  kick _ _ _ _ h _ := h
  cash _ _ new words h _ _ _ _ _ := (suWrite_keeps _ new words _ _).1.trans h
  pu _ _ _ h _ := h
  ju _ _ _ h := h

/-- The record of the request in hand is that of `z`. -/
def recordSame (z t : State) : Prop := t.re.record = z.re.record

theorem recordSame_stable (bs : List BlockId) (z : State) : Stable bs (recordSame z) where
  setFree _ h := h
  setArrivals _ h := h
  asks _ h _ _ := h
  raise k n h := (congrArg Re.record (raise_keeps _ k n).1).trans h
  inbox _ h := h
  link _ _ h _ := h
  deliver l kind payload gap h := (congrArg Re.record (deliver_keeps _ l kind payload gap).1).trans h
  finish _ s r d1 d2 h := Eq.trans (by simp) h
  clock _ _ _ h := h
  engine _ _ _ h := h
  pwu _ _ _ h := h
  bwu _ _ _ h := h
  su _ _ _ h _ _ := h
  grow _ _ _ _ h _ _ := h
  claim _ _ _ _ h _ _ := h
  ctu _ _ _ h _ := h
  till _ _ _ h _ := h
  kick _ _ _ _ h _ := h
  cash _ _ new words h _ _ _ _ _ := (congrArg Re.record (suWrite_keeps _ new words _ _).1).trans h
  pu _ _ _ h _ := h
  ju _ _ _ h := h

theorem claimWaits_of_re {s t : State} (h : claimWaits s) (claim : noClaimMade s t) (re : engineSame s t) : claimWaits t := by
  intro some
  rw [show t.re = s.re from re]
  exact h (claim some)

theorem claimWaits_of_none {s : State} (none : s.su.claim = none) : claimWaits s := fun some => absurd none some

theorem claimWaits.moved {s t : State} (h : claimWaits s) (claim : t.su.claim = s.su.claim) (k : kickMoved s t) :
    claimWaits t := by
  intro some
  obtain ⟨executing, unanswered⟩ := h (claim ▸ some)
  obtain ⟨phase, outcome, -⟩ | ⟨idle, -⟩ := k.phase
  · exact ⟨phase.trans executing, outcome.trans unanswered⟩
  · exact absurd executing idle

/-- The kind of request a command takes. -/
def requestOf : Instr → Option RequestKind
  | .scaleZero => some .scaleZero
  | .scaleTare => some .scaleTare
  | .tareClear => some .tareClear
  | .saleOpen => some .saleOpen
  | .itemAdd => some .itemAdd
  | .itemWeigh => some .itemWeigh
  | .lineVoid => some .lineVoid
  | .holdRelease => some .holdRelease
  | .cardTender => some .cardTender
  | .cardCancel => some .cardCancel
  | .tenderVerdict => some .tenderVerdict
  | .cashTender => some .cashTender
  | .drawerNosale => some .drawerNosale
  | .printSubmit => some .printSubmit
  | .receiptAbandon => some .receiptAbandon
  | .saleClose => some .saleClose
  | .saleAbort => some .saleAbort
  | _ => none

/-- A command that takes a request is enabled only where one of its kind awaits. -/
theorem exec_request {c : Instr} {k : RequestKind} (s : State) (takes : requestOf c = some k) :
    ∃ enabled t, exec c s = stepIf s enabled t ∧ (enabled = true → awaits s k = true) := by
  cases c <;> cases takes <;> refine ⟨_, _, rfl, fun go => ?_⟩ <;> simp_all [suTakes]

/-- Of the events, those that change the Request Engine take a request, or are the tick of the lane clock. -/
theorem engine_unchanged {c : Instr} {cs : List BlockId} (hc : eventBlocks c = some cs) (takes : requestOf c = none)
    (tick : c ≠ .laneClockTick) : .re ∉ cs := by
  cases c <;> cases hc <;> simp_all [requestOf]

theorem answers_and {P Q : State → Prop} {o : Host.Outcome State Fault Refusal} (h : answers P o) (k : answers Q o) :
    answers (fun t => P t ∧ Q t) o := by
  obtain ⟨t, ht, hp⟩ := h
  obtain ⟨u, hu, hq⟩ := k
  cases ht.symm.trans hu
  exact ⟨t, ht, hp, hq⟩

/-- The one request that makes a claim leaves it only while it executes. -/
theorem itemWeigh_claimWaits {s : State} (inHand : awaits s .itemWeigh = true) : claimWaits (itemWeigh s) := by
  obtain ⟨executing, unanswered, -⟩ := inHand_of_awaits inHand
  unfold itemWeigh
  split
  next a _ =>
    unfold consumeAnswered
    split <;> exact claimWaits_of_none (by simp [weighRefused, itemWeighed, suDecide])
  next none =>
    split
    next => exact claimWaits_of_none (by simpa using none)
    next => exact fun _ => ⟨executing, unanswered⟩

/-- After the event of another request no claim stands: the request in hand is not the one a claim belongs to. -/
theorem claimWaits_of_other {s t : State} {k : RequestKind} (kind : recKind s.re.record = some k) (other : k ≠ .itemWeigh)
    (sizes : sizesLaw t) (record : recordSame s t) : claimWaits t := by
  refine claimWaits_of_none ?_
  by_contra claimed
  have weighs : recKind t.re.record = some .itemWeigh := (sizes.claim claimed).2
  rw [record, kind] at weighs
  exact other (Option.some.inj weighs)

theorem exec_claimWaits {c : Instr} {cs : List BlockId} {s : State} (hc : eventBlocks c = some cs) (h : sizesLaw s)
    (waits : claimWaits s) : answers claimWaits (exec c s) := by
  cases takes : requestOf c with
  | some k =>
    by_cases weigh : c = .itemWeigh
    · subst weigh
      exact answers_stepIf waits fun _ go => itemWeigh_claimWaits (awaits_of_suTakes (Bool.and_eq_true_iff.mp go).1)
    · obtain ⟨enabled, t, runs, inHand⟩ := exec_request s takes
      have sizes := exec_answers (fun _ => sizesLaw_tables.stable allBlocks) hc (fun b _ => mem_allBlocks b) h
      have record := exec_answers (fun _ => recordSame_stable allBlocks s) hc (fun b _ => mem_allBlocks b) rfl
      have other : k ≠ .itemWeigh := by
        rintro rfl
        cases c <;> cases takes
        exact weigh rfl
      by_cases go : enabled = true
      · obtain ⟨-, -, kind⟩ := inHand_of_awaits (inHand go)
        exact answers_mono (fun _ both => claimWaits_of_other kind other both.1 both.2) (answers_and sizes record)
      · rw [runs, stepIf, Bool.eq_false_iff.mpr go, Bool.and_false]
        exact answers_next waits
  | none =>
    by_cases tick : c = .laneClockTick
    · subst tick
      exact answers_stepIf waits fun _ _ some => waits some
    · have other := engine_unchanged hc takes tick
      have claim := exec_answers (fun _ => noClaimMade_stable other s) hc (List.Subset.refl cs) id
      have re := exec_answers (fun _ => engineSame_stable other s) hc (List.Subset.refl cs) rfl
      exact answers_mono (fun _ both => claimWaits_of_re waits both.1 both.2) (answers_and claim re)

/-! #### The other commands -/

theorem takeResets_noClaimMade (s : State) : noClaimMade s (takeResets s) := by
  have hP : Stable [.su, .pwu, .bwu, .ctu, .tu, .pu, .ju] (noClaimMade s) := noClaimMade_stable (by decide) s
  have unit {t : State} (b : BlockId) (ht : noClaimMade s t) : noClaimMade s (resetUnit t b) := by
    by_cases re : b = .re
    · subst re
      exact resetLinks_stable hP ht
    · exact resetUnit_stable hP re (List.Subset.refl _) ht
  have units := tieAsks_stable hP (start := s.bi.nextWindow) (foldl_keeps (s.re.resetting.filter (resetReady s)) unit id)
  exact if_keeps (fun some => units (by simpa using some)) units

theorem applyLaneReset_noClaimMade (s : State) : noClaimMade s (applyLaneReset s) := by
  refine if_keeps (fun claimed => by simpa [resetLatches] using claimed) ?_
  exact takeResets_noClaimMade (cutPulse _)

/-- A claim stands only in a request that executes, so not while a reset is applied or a record is written. -/
theorem claimWaits.none {s : State} (h : claimWaits s) (idle : s.re.phase ≠ .executing) : s.su.claim = none := by
  by_contra some
  exact idle (h some).1

theorem noClaimMade.waits {s t : State} (made : noClaimMade s t) (none : s.su.claim = none) : claimWaits t :=
  fun some => absurd none (made some)

theorem runAfters_claim (s : State) (as : List After) : (as.foldl runAfter s).su.claim = s.su.claim := by
  induction as generalizing s with
  | nil => rfl
  | cons a rest ih => simp [ih]

theorem closeWindow_claimWaits {s : State} (o : OpenWindow) (ring : ringLive s) (h : claimWaits s) :
    claimWaits (closeWindow s o) := by
  have followed : claimWaits (o.after.foldl runAfter (removeWindow s o.id)) :=
    claimWaits_of_re h (fun claimed => by simpa [runAfters_claim] using claimed) (by simp [engineSame])
  have progressed : claimWaits (requestProgress (o.after.foldl runAfter (removeWindow s o.id))) := by
    intro some
    have unanswered : (o.after.foldl runAfter (removeWindow s o.id)).re.outcome = none :=
      (followed (by simpa using some)).2
    rw [requestProgress_none unanswered] at some ⊢
    exact followed some
  unfold closeWindow resumeResets
  split
  next => exact progressed
  next told =>
    have resetting : s.re.resetting ≠ [] := by simpa using told
    have owed : s.resetOwed = true := by simp [State.resetOwed, resetting]
    have none : s.su.claim = none := h.none (by rw [ring.resets owed]; nofun)
    exact (takeResets_noClaimMade _).waits (by simpa [runAfters_claim] using none)

theorem freedNotices_claimWaits {s t : State} (h : claimWaits t) : claimWaits (freedNotices s t) :=
  have other : BlockId.re ∉ [BlockId.ctu, BlockId.pu] := by decide
  claimWaits_of_re h (freedNotices_stable (noClaimMade_stable other t) (by decide) (by decide) id)
    (freedNotices_stable (engineSame_stable other t) (by decide) (by decide) rfl)

theorem unitNotices_claimWaits {s : State} (b : BlockId) (h : claimWaits s) : claimWaits (unitNotices s b) :=
  have other : BlockId.re ∉ [BlockId.ctu, BlockId.pu] := by decide
  claimWaits_of_re h (unitNotices_stable (noClaimMade_stable other s) (by decide) (by decide) id)
    (unitNotices_stable (engineSame_stable other s) (by decide) (by decide) rfl)

theorem completionWritten_claimWaits {s : State} (o : OpenWindow) (askFirst : Bool) (none : s.su.claim = none) :
    claimWaits (completionWritten s o askFirst) := by
  have left : (leaveCompleting (recordWritten s o 0)).su.claim = Option.none := by simpa using none
  refine if_keeps (if_keeps ?_ ?_) ?_
  · exact fun some => absurd left (applyLaneReset_noClaimMade _ (by simpa using some))
  · exact claimWaits_of_none (by simpa using left)
  · exact claimWaits_of_none (by simpa using left)

theorem setupCommit_claimWaits {s : State} (inHand : awaits s .setupCommit = true) (h : sizesLaw s) :
    claimWaits (setupCommit s) := by
  obtain ⟨-, -, kind⟩ := inHand_of_awaits inHand
  have record : TableStable (recordSame s) := ⟨fun bs => recordSame_stable bs s, fun ht k => k.record.trans ht⟩
  exact claimWaits_of_other kind nofun (setupCommit_tables sizesLaw_tables h) (setupCommit_tables record rfl)

theorem claimWaits_engine {s : State} (ring : ringLive s) (h : sizesLaw s) (waits : claimWaits s) :
    EngineKept claimWaits s where
  word _ _ w := waits.moved (presentWord_tablesKept s w).claim (presentWord_kickMoved s w)
  read _ _ a n := waits.moved (by simp) (presentRead_kickMoved s a n)
  opens _ _ _ _ := fun some => waits some
  closes _ o _ _ _ := freedNotices_claimWaits (closeWindow_claimWaits o ring waits)
  grant _ := waits.moved (portGrant_tablesKept s).claim (portGrant_kickMoved s)
  fetched _ fetching := claimWaits_of_none (by simpa using waits.none (by rw [fetching]; nofun))
  commit _ inHand _ := setupCommit_claimWaits inHand h
  reset _ inHand _ := by
    obtain ⟨-, -, kind⟩ := inHand_of_awaits inHand
    exact claimWaits_of_other kind nofun ((sizesLaw_tables.stable allBlocks).finish (mem_allBlocks _) _ _ _ h)
      ((recordSame_stable allBlocks s).finish (mem_allBlocks _) _ _ _ rfl)
  applied _ due :=
    (applyLaneReset_noClaimMade s).waits (waits.none (by rw [ring.resets (by simp [State.resetOwed, due])]; nofun))
  completion _ o _ writing askFirst :=
    completionWritten_claimWaits o askFirst (waits.none (by rw [(ring.writing writing).1]; nofun))
  answer _ _ _ _ _ _ _ b _ _ _ :=
    unitNotices_claimWaits b (waits.moved (answered_tablesKept s b _ _ _ _ _ _).claim (answered_kickMoved s b _ _ _ _ _ _))
  condition _ o _ _ := waits.moved ((recordWritten_tablesKept s o _).trans (look_tablesKept _)).claim
    ((recordWritten_kickMoved s o _).trans (look_kickMoved _))
  asserted _ := claimWaits_of_none rfl

/-! ### The law -/

/-- The laws of the ring, of the sizes and of the claim together. -/
def sizesSafe (s : State) : Prop := ringLaw s ∧ sizesLaw s ∧ claimWaits s

theorem exec_sizesSafe (c : Instr) (s : State) (h : sizesSafe s) : answers sizesSafe (exec c s) := by
  refine exec_kept (P := sizesSafe) ?_ ?_ ?_ ?_ c s h
  · rintro c cs s high hc ⟨ring, sizes, waits⟩
    have all : cs ⊆ allBlocks := fun b _ => mem_allBlocks b
    exact answers_and
      (answers_mono (fun _ live => live.toringLaw) (exec_answers (fun _ => ringLive_stable allBlocks) hc all ⟨ring, high⟩))
      (answers_and (exec_answers (fun _ => sizesLaw_tables.stable allBlocks) hc all sizes) (exec_claimWaits hc sizes waits))
  · rintro s high ⟨ring, sizes, waits⟩
    have live : ringLive s := ⟨ring, high⟩
    have fetched (fetching : s.re.phase = .fetching) : sizesLaw (requestFetched s) :=
      requestFetched_sizesLaw (waits.none (by rw [fetching]; nofun)) sizes
    exact (ringLaw_engine live).and
      ((tables_engine sizesLaw_tables sizes fetched (resetAssert_sizesLaw s)).and (claimWaits_engine live sizes waits))
  · rintro s laSel bagFit low ⟨ring, sizes, waits⟩
    exact ⟨resetRelease_ringLaw laSel bagFit low ring, { sizes with }, fun some => waits some⟩
  · rintro s input level ⟨ring, sizes, waits⟩
    refine ⟨rawLevelChange_ringLaw input level ring, sizes.kept (tablesKept_of (by simp)), fun some => ?_⟩
    simpa using waits (by simpa using some)

/-- Settles O59: the flight list and the credits by the Print Unit's own moves; the buffers and the tables with the law of the ring,
which says that no claim stands while a reset is applied. -/
theorem buffersAndTablesKeepTheirSizes : Obligations.BuffersAndTablesKeepTheirSizes := by
  unfold Obligations.BuffersAndTablesKeepTheirSizes
  refine ⟨fun s t => flightLaw_step, fun s t ring buffers tables ht => ?_⟩
  obtain ⟨sizes, waits⟩ := (sizes_iff s).mp ⟨buffers, tables⟩
  obtain ⟨-, kept⟩ := step_of_exec (P := sizesSafe) exec_sizesSafe
    (fun _ _ h => ⟨{ h.1 with }, { h.2.1 with }, h.2.2⟩) ⟨ring, sizes, waits⟩ ht
  exact (sizes_iff t).mpr kept

end Sys2Proof.Machine
end

section
/-! RESET_N (O3): the state at the release, and that it meets every law of the part. -/

namespace Sys2Proof.Machine

theorem link_reset (l : LinkId) : State.reset.link l = Link.reset := by cases l <;> rfl

theorem reset_ringLaw : ringLaw State.reset :=
  ⟨rfl, bound_of_reset rfl rfl, rfl, nofun, fun no => absurd rfl no, nofun, nofun, nofun⟩

theorem reset_tableLaw : tableLaw State.reset where
  jobs := rfl
  owner := nofun
  lines := Nat.zero_le _
  claim no := absurd rfl no
  tenders := Nat.zero_le _
  verdicts := Nat.zero_le _

theorem noKickOwed_reset : noKickOwed State.reset := ⟨nofun, nofun, nofun⟩

theorem reset_solenoidLaw : solenoidLaw State.reset where
  pulse := by decide
  kicking := nofun
  owed := ⟨nofun, nofun, nofun⟩
  done _ := noKickOwed_reset
  cut no := absurd rfl no
  unconfigured _ := ⟨rfl, nofun, noKickOwed_reset, nofun⟩

/-- Settles O3: each value by evaluation, and the laws of a part that has begun nothing. -/
theorem resetLeavesTheReleasedPart : Obligations.ResetLeavesTheReleasedPart := by
  unfold Obligations.ResetLeavesTheReleasedPart
  refine ⟨⟨rfl, rfl, rfl, rfl, rfl, rfl, rfl, rfl, rfl, rfl, rfl, rfl⟩, ⟨rfl, rfl, rfl, rfl, rfl, rfl, rfl, rfl⟩,
    ⟨rfl, rfl, by decide, rfl⟩, fun l => ?_, ⟨rfl, rfl, rfl, rfl, rfl, rfl, rfl, rfl⟩, ⟨rfl, rfl, rfl, rfl, rfl⟩,
    ⟨rfl, rfl, rfl, rfl, rfl⟩, rfl, ?_, reset_ringLaw, ?_, ⟨by decide, nofun⟩, ⟨.nil, nofun⟩, fun l => ?_, reset_tableLaw,
    reset_solenoidLaw⟩
  · rw [link_reset]
    exact ⟨rfl, rfl, rfl, rfl, rfl⟩
  · rfl
  · exact ⟨by decide, nofun⟩
  · rw [link_reset]
    decide

end Sys2Proof.Machine
end

section
/-! The bytes of the records (R94, R97, R169, R179). A record is packed from a list of bytes; its words, one after another, have
these bytes again. -/

namespace Sys2Proof.Machine

/-! ### Words and their bytes (R175) -/

theorem toNat_append_byte {n : Nat} (x : BitVec n) (b : Byte) : (x ++ b).toNat = x.toNat * 256 + b.toNat := by
  rw [BitVec.toNat_append, ← Nat.shiftLeft_add_eq_or_of_lt b.isLt, Nat.shiftLeft_eq]

theorem wordOfBytes_toNat (a b c d : Byte) :
    (wordOfBytes a b c d).toNat = a.toNat + 256 * b.toNat + 65536 * c.toNat + 16777216 * d.toNat := by
  have bytes : wordOfBytes a b c d = ((d ++ c : BitVec 16) ++ b : BitVec 24) ++ a := rfl
  rw [bytes, toNat_append_byte, toNat_append_byte, toNat_append_byte]
  omega

theorem byteOfWord_toNat (w : Word) (k : Nat) : (byteOfWord w k).toNat = w.toNat / 2 ^ (8 * k) % 256 := by
  simp [byteOfWord, Nat.shiftRight_eq_div_pow]

theorem le4_wordOfBytes (a b c d : Byte) : le4 (wordOfBytes a b c d) = [a, b, c, d] := by
  have := a.isLt
  have := b.isLt
  have := c.isLt
  have := d.isLt
  simp only [le4, List.cons.injEq, and_true]
  refine ⟨?_, ?_, ?_, ?_⟩ <;> (apply BitVec.eq_of_toNat_eq; rw [byteOfWord_toNat, wordOfBytes_toNat]; omega)

theorem bytesOfWords_packWords {bs : List Byte} (whole : 4 ∣ bs.length) : bytesOfWords (packWords bs) = bs := by
  induction bs using packWords.induct with
  | case1 a b c d rest ih =>
    have restWhole : 4 ∣ rest.length := by simp only [List.length_cons] at whole; omega
    simp [packWords, bytesOfWords, le4_wordOfBytes, ih restWhole]
  | case2 | case3 | case4 => simp at whole
  | case5 => rfl

theorem wordsAt_places (off : Nat) (ws : List Word) :
    (wordsAt off ws).map (fun x => x.1) = (List.range ws.length).map fun k => off + 4 * k := by
  induction ws generalizing off with
  | nil => rfl
  | cons w rest ih =>
    simp only [wordsAt, List.map_cons, ih, List.length_cons, List.range_succ_eq_map, List.map_map, Nat.mul_zero, Nat.add_zero]
    congr 1
    exact List.map_congr_left fun k _ => by simp only [Function.comp, Nat.succ_eq_add_one]; omega

@[simp] theorem wordsAt_words (off : Nat) (ws : List Word) : (wordsAt off ws).map (fun x => x.2) = ws := by
  induction ws generalizing off with
  | nil => rfl
  | cons w rest ih => simp [wordsAt, ih]

@[simp] theorem wordsAt_length (off : Nat) (ws : List Word) : (wordsAt off ws).length = ws.length := by
  induction ws generalizing off with
  | nil => rfl
  | cons w rest ih => simp [wordsAt, ih]

/-- A record packed from whole words has its bytes from its offset on. -/
theorem bytesFrom_packWords (off : Nat) {bs : List Byte} (whole : 4 ∣ bs.length) :
    bytesFrom off (wordsAt off (packWords bs)) bs :=
  ⟨by rw [wordsAt_places, wordsAt_length], by rw [wordsAt_words, bytesOfWords_packWords whole]⟩

theorem bytesFrom_nil (off : Nat) : bytesFrom off [] [] := ⟨rfl, rfl⟩

theorem le4_length (w : Word) : (le4 w).length = 4 := by simp [le4]

theorem le2_length (h : Half) : (le2 h).length = 2 := by simp [le2]

theorem zeros_length (n : Nat) : (zeros n).length = n := by simp [zeros]

/-! ### The records of the sale (R179) -/

theorem take_append_zeros {bs : List Byte} {n : Nat} (fits : bs.length ≤ n) :
    (bs ++ zeros n).take n = bs ++ zeros (n - bs.length) := by
  rw [List.take_append, List.take_of_length_le fits]
  simp [zeros, List.take_replicate]

theorem liveCount_eq (u : Su) : u.liveCount = u.lines.countP fun l => l.live := List.countP_eq_length_filter.symm

theorem voidCount_eq (u : Su) : u.voidCount = u.lines.countP fun l => !l.live := List.countP_eq_length_filter.symm

theorem bagPending_eq (u : Su) :
    u.bagPending = u.lines.countP fun l => decide (l.bag = .pending ∨ l.bag = .removalPending) := by
  simp [Su.bagPending, List.countP_eq_length_filter]

theorem tenderHold_iff (u : Su) : u.tenderHold = true ↔ ∃ x ∈ u.tenders, x.state = .unresolved := by simp [Su.tenderHold]

theorem saleHeaderWords_eq {u : Su} (fits : u.lines.length ≤ 96) : saleHeaderWords u = packWords (headerBytes u) := by
  have statuses := take_append_zeros (bs := u.lines.map fun l => nat1 l.bag.code) (n := 96) (by simpa using fits)
  have held : bool1 u.tenderHold = if (∃ x ∈ u.tenders, x.state = .unresolved) then (1 : Byte) else 0 := by
    simp [bool1, tenderHold_iff]
  unfold saleHeaderWords headerBytes
  dsimp only
  rw [statuses, held, liveCount_eq, voidCount_eq, bagPending_eq, List.length_map]
  simp only [List.map_cons, List.map_nil, List.flatten_cons, List.flatten_nil, List.append_nil, List.append_assoc]
  rfl

theorem headerBytes_length {u : Su} (fits : u.lines.length ≤ 96) : (headerBytes u).length = 192 := by
  unfold headerBytes
  dsimp only
  simp only [List.map_cons, List.map_nil, List.flatten_cons, List.flatten_nil, List.length_append]
  simp only [le4_length, le2_length, List.length_cons, List.length_nil, List.length_map, List.length_replicate]
  omega

/-- The 48 words of the header are its 192 bytes (R94). -/
theorem header_bytesFrom {u : Su} (fits : u.lines.length ≤ 96) :
    bytesFrom 0x8000 (wordsAt 0x8000 (saleHeaderWords u)) (headerBytes u) := by
  rw [saleHeaderWords_eq fits]
  exact bytesFrom_packWords _ (by rw [headerBytes_length fits]; decide)

theorem lineWords_eq (n : Nat) (l : SaleLine) : lineWords n l = packWords (lineBytes n l) := by
  cases delta : l.delta <;> simp [lineWords, lineBytes, nat1, nat2, nat4, int4, zeros, bool1, delta]

theorem lineBytes_length (n : Nat) (l : SaleLine) : (lineBytes n l).length = 64 := by
  simp [lineBytes, le4_length, le2_length]

/-- The 16 words of a line are its 64 bytes (R95). -/
theorem line_bytesFrom (off n : Nat) (l : SaleLine) : bytesFrom off (wordsAt off (lineWords n l)) (lineBytes n l) := by
  rw [lineWords_eq]
  exact bytesFrom_packWords _ (by rw [lineBytes_length]; decide)

theorem tenderWords_eq {x : Tender} (i : Nat) (digits : x.lastFour.length = 4) (code : x.code.length = 6) :
    tenderWords i x = packWords (tenderBytes i x) := by
  have four := take_append_zeros (bs := x.lastFour) (n := 4) digits.le
  have six := take_append_zeros (bs := x.code) (n := 6) code.le
  simp only [tenderWords, tenderBytes, four, six, digits, code, List.map_cons, List.map_nil, List.flatten_cons,
    List.flatten_nil, List.append_nil, List.append_assoc, nat1, nat4]
  rfl

theorem tenderBytes_length {x : Tender} (i : Nat) (digits : x.lastFour.length = 4) (code : x.code.length = 6) :
    (tenderBytes i x).length = 64 := by
  simp [tenderBytes, digits, code, le4_length, le2_length]

/-- The 16 words of a tender are its 64 bytes (R97). -/
theorem tender_bytesFrom {x : Tender} (off i : Nat) (digits : x.lastFour.length = 4) (code : x.code.length = 6) :
    bytesFrom off (wordsAt off (tenderWords i x)) (tenderBytes i x) := by
  rw [tenderWords_eq i digits code]
  exact bytesFrom_packWords _ (by rw [tenderBytes_length i digits code]; decide)

/-! ### The words an event changes (R94) -/

/-- A place below the offset is not among the words from there on. -/
theorem not_mem_wordsAt {off : Nat} {ws : List Word} {x : Nat × Word} (below : x.1 < off) : x ∉ wordsAt off ws := by
  induction ws generalizing off with
  | nil => exact List.not_mem_nil
  | cons w rest ih =>
    rw [wordsAt, List.mem_cons, not_or]
    exact ⟨fun here => by simp [here] at below, ih (Nat.lt_add_right 4 below)⟩

/-- The changed words are those of the new record that do not stand in the old one at their place. -/
theorem changedWords_eq {old new : List Word} (off : Nat) (same : old.length = new.length) :
    changedWords off old new = (wordsAt off new).filter fun x => !(wordsAt off old).contains x := by
  induction new generalizing off old with
  | nil => cases old <;> rfl
  | cons n new ih =>
    obtain _ | ⟨o, old⟩ := old
    · simp at same
    have later : ∀ x ∈ wordsAt (off + 4) new, off < x.1 := fun x hx => by
      by_contra low
      exact not_mem_wordsAt (Nat.lt_of_le_of_lt (Nat.le_of_not_lt low) (Nat.lt_add_of_pos_right (by decide))) hx
    have rest : (wordsAt (off + 4) new).filter (fun x => !(wordsAt off (o :: old)).contains x)
        = (wordsAt (off + 4) new).filter fun x => !(wordsAt (off + 4) old).contains x := by
      refine List.filter_congr fun x hx => ?_
      have other : x ≠ (off, o) := fun here => absurd (later x hx) (by simp [here])
      simp [wordsAt, other]
    have place : (off, n) ∉ wordsAt (off + 4) old := not_mem_wordsAt (Nat.lt_add_of_pos_right (by decide))
    have tails := ih (off + 4) (old := old) (Nat.succ.inj same)
    rw [show wordsAt off (n :: new) = (off, n) :: wordsAt (off + 4) new from rfl, List.filter_cons, rest, ← tails, changedWords]
    by_cases eq : o = n
    · simp [eq, wordsAt]
    · simp [eq, wordsAt, place, Ne.symm eq]

theorem headerWords_length (u : Su) : (saleHeaderWords u).length = 48 := by
  have statuses : (((u.lines.map fun l => nat1 l.bag.code) ++ zeros 96).take 96).length = 96 := by simp [zeros_length]
  have whole (bs : List Byte) : (packWords bs).length = (bs.length + 3) / 4 := by
    induction bs using packWords.induct with
    | case1 a b c d rest ih => simp only [packWords, List.length_cons, ih]; omega
    | case2 | case3 | case4 | case5 => simp [packWords]
  unfold saleHeaderWords
  dsimp only
  simp only [whole, List.length_append, nat2, nat4, int4, le4_length, le2_length, zeros_length, statuses, List.length_cons,
    List.length_nil]

theorem changedWords_header (old new : Su) :
    changedWords Config.saleOff (saleHeaderWords old) (saleHeaderWords new) = headerChanges old new :=
  changedWords_eq _ (by simp only [headerWords_length])

end Sys2Proof.Machine
end

section
/-! Requests the Sale Unit takes: SALE_OPEN (R98, R99; O28, O29). A request that is refused leaves the list of waiting items and the
course of the request; one that passes decides an event, whose window is asked, and answers. -/

namespace Sys2Proof.Machine

/-! ### Windows asked stay asked -/

theorem look_waiting (s : State) : s.bi.waiting ⊆ (look s).bi.waiting := by
  unfold look
  split
  next =>
    split
    next c _ => exact List.subset_append_left _ _
    next =>
      split
      next i _ =>
        split
        next => simp
        next => exact List.Subset.refl _
      next => exact List.Subset.refl _
  next => exact List.Subset.refl _

theorem requestProgress_waiting (s : State) : s.bi.waiting ⊆ (requestProgress s).bi.waiting := by
  unfold requestProgress
  split
  next => exact List.Subset.refl _
  next =>
    split
    next => exact List.Subset.refl _
    next =>
      split
      next => exact List.subset_append_left _ _
      next => exact (look_waiting _ : _ ⊆ (passCompletion s _).bi.waiting)

theorem finishRequest_waiting (s : State) (r : ResultCode) (d1 d2 : Word) :
    s.bi.waiting ⊆ (finishRequest s r d1 d2).bi.waiting := by
  unfold finishRequest
  exact (requestProgress_waiting _ : _ ⊆ (finishRequest s r d1 d2).bi.waiting)

/-! ### Requests refused -/

/-- A completion passed on is owed, so no latch is taken with it, and the SU is asked for nothing. -/
theorem passCompletion_su (s : State) (o : ReqOutcome) : (passCompletion s o).su = s.su := by
  unfold passCompletion look
  split
  next => rfl
  next => rfl

theorem requestProgress_su (s : State) : (requestProgress s).su = s.su := by
  unfold requestProgress
  split
  next => rfl
  next =>
    split
    next => rfl
    next => split <;> simp [passCompletion_su]

theorem finishRequest_su (s : State) (r : ResultCode) (d1 d2 : Word) : (finishRequest s r d1 d2).su = s.su := by
  simp [finishRequest, requestProgress_su]

theorem requestFrame_finish {bs : List BlockId} {s t : State} {r : ResultCode} {d1 d2 : Word} (event : eventFrame (.re :: bs) s t)
    (course : t.re = s.re) : requestFrame bs s (finishRequest t r d1 d2) where
  event := finishRequest_frame _ _ _ _ event List.mem_cons_self
  course := courseOnly_finishRequest _ _ _ (courseOnly_of_re (courseOnly.refl s) course)

/-- A request the SU refuses leaves its list and is answered with no details (R27, R91). -/
theorem suFail_refuses (s : State) (r : ResultCode) :
    answeredWith (suFail s r) r 0 0 ∧ requestFrame [] s (suFail s r) :=
  ⟨finishRequest_answered _ _ _ _, requestFrame_finish (suPop_frame _ (.refl _ s)) (by simp)⟩

/-! ### The event decided -/

/-- Subtotal and header words depend on the header, the lines and the tenders alone. -/
structure sameSale (u v : Su) : Prop where
  header : v.header = u.header
  lines : v.lines = u.lines
  tenders : v.tenders = u.tenders

theorem sameSale.congr {α : Type} {u v : Su} (h : sameSale u v) (f : Header → List SaleLine → List Tender → α) :
    f v.header v.lines v.tenders = f u.header u.lines u.tenders := by rw [h.header, h.lines, h.tenders]

/-- The sale that a header, lines and tenders stand for. -/
def saleOf (u : Su) (header : Header) (lines : List SaleLine) (tenders : List Tender) : Su :=
  { u with header := header, lines := lines, tenders := tenders }

theorem sameSale.subtotal {u v : Su} (h : sameSale u v) : v.subtotal = u.subtotal :=
  h.congr fun header lines tenders => (saleOf u header lines tenders).subtotal

theorem sameSale.balance {u v : Su} (h : sameSale u v) : v.balance = u.balance :=
  h.congr fun header lines tenders => (saleOf u header lines tenders).balance

theorem sameSale.headerWords {u v : Su} (h : sameSale u v) : saleHeaderWords v = saleHeaderWords u :=
  h.congr fun header lines tenders => saleHeaderWords (saleOf u header lines tenders)

theorem sameSale.headerBytes {u v : Su} (h : sameSale u v) : headerBytes v = headerBytes u :=
  h.congr fun header lines tenders => Machine.headerBytes (saleOf u header lines tenders)

theorem sameSale.headerChanges {u v : Su} (h : sameSale u v) (old : Su) : headerChanges old v = headerChanges old u := by
  simp only [Machine.headerChanges, h.headerWords]

/-- The SU has decided an event that leaves the sale `new`, and its window has been asked. -/
structure saleDecided (new : Su) (words : List (Nat × Word)) (after : List After) (ofRequest : Bool) (t : State) : Prop where
  sale : sameSale new t.su
  number : t.su.nextNumber = new.nextNumber
  claim : t.su.claim = new.claim
  finished : t.su.finished = new.finished
  event : t.su.event = some { words := words, after := after, ofRequest := ofRequest }

theorem suDecide_decided (s : State) (new : Su) (words : List (Nat × Word)) (after : List After) (ofRequest : Bool) :
    saleDecided new words after ofRequest (suDecide s new words after ofRequest) := ⟨⟨rfl, rfl, rfl⟩, rfl, rfl, rfl, rfl⟩

theorem suWrite_su (s : State) (new : Su) (words : List (Nat × Word)) (after : List After) (ofRequest : Bool) :
    (suWrite s new words after ofRequest).su
      = { new with event := some { words := words, after := after, ofRequest := ofRequest } } := by
  simp [suWrite, suDecide]

theorem suWrite_decided (s : State) (new : Su) (words : List (Nat × Word)) (after : List After) (ofRequest : Bool) :
    saleDecided new words after ofRequest (suWrite s new words after ofRequest) := by
  constructor <;> simp only [suWrite_su]
  exact ⟨rfl, rfl, rfl⟩

/-- What the sale and its event are is left by the answer of the request. -/
theorem saleDecided.finish {new : Su} {words : List (Nat × Word)} {after : List After} {ofRequest : Bool} {t : State}
    {r : ResultCode} {d1 d2 : Word} (h : saleDecided new words after ofRequest t) :
    saleDecided new words after ofRequest (finishRequest t r d1 d2) := by
  constructor <;> rw [finishRequest_su]
  · exact h.sale
  · exact h.number
  · exact h.claim
  · exact h.finished
  · exact h.event

theorem saleEventAsked_suWrite (s : State) (new : Su) (words : List (Nat × Word)) (after : List After) (ofRequest : Bool) :
    saleEventAsked (suWrite s new words after ofRequest) :=
  ⟨_, _, (suWrite_decided s new words after ofRequest).event, List.mem_append_right _ (List.mem_singleton_self _), rfl, rfl, rfl,
    rfl, rfl, rfl⟩

theorem saleEventAsked_finish {t : State} {r : ResultCode} {d1 d2 : Word} (h : saleEventAsked t) :
    saleEventAsked (finishRequest t r d1 d2) := by
  obtain ⟨e, w, event, asked, owner, sections, fixed, live, after, ofRequest⟩ := h
  exact ⟨e, w, by simpa using event, finishRequest_waiting _ _ _ _ asked, owner, sections, fixed, live, after, ofRequest⟩

/-- The window's words of an event are the header words it changes and those of its entries. -/
theorem saleEventWrites_of {s t : State} {new : Su} {entry : List (Nat × Word)} {after : List After} {ofRequest : Bool} {off : Nat}
    {bytes : List Byte} (decided : saleDecided new (headerChanges s.su new ++ entry) after ofRequest t)
    (has : bytesFrom off entry bytes) : saleEventWrites s t off bytes :=
  ⟨_, entry, decided.event, by rw [decided.sale.headerChanges], has⟩

/-! ### Checks in order -/

/-- The first condition of a chain of checks decides, or the rest of the chain does. -/
theorem ite_of_check {check rest : Option ResultCode} {r : ResultCode} {c c' A B : Prop} [Decidable c] [Decidable c'] (iff : c ↔ c')
    (refused : check = some r → A) (passed : check = rest → B) (h : check = if c' then some r else rest) : if c then A else B := by
  by_cases fails : c
  · exact (if_pos fails).symm ▸ refused (h.trans (if_pos (iff.mp fails)))
  · exact (if_neg fails).symm ▸ passed (h.trans (if_neg (mt iff.mpr fails)))

/-! ### SALE_OPEN -/

theorem saleDecided.writes {new : Su} {words written : List (Nat × Word)} {after : List After} {ofRequest : Bool} {t : State} {off : Nat}
    {bytes : List Byte} (h : saleDecided new words after ofRequest t) (same : words = written) (has : bytesFrom off written bytes) :
    ∃ e, t.su.event = some e ∧ e.words = written ∧ bytesFrom off e.words bytes ∧ e.after = after :=
  ⟨_, h.event, same, same ▸ has, rfl⟩

/-- The window of a SALE_OPEN writes the whole header. -/
theorem saleDecided.writesHeader {new : Su} {after : List After} {ofRequest : Bool} {t : State}
    (h : saleDecided new (headerWords new) after ofRequest t) (fits : t.su.lines.length ≤ 96) :
    ∃ e, t.su.event = some e ∧ e.words = wordsAt 0x8000 (saleHeaderWords t.su)
      ∧ bytesFrom 0x8000 e.words (headerBytes t.su) ∧ e.after = after := by
  have words : headerWords new = wordsAt 0x8000 (saleHeaderWords t.su) := by
    rw [h.sale.headerWords, headerWords, Config.saleOff]
  exact h.writes words (header_bytesFrom fits)

theorem exec_saleOpen {s : State} (high : s.bi.inReset = false) (front : suTakes s .saleOpen = true) (bag : s.bwu.tells = [])
    (printer : s.pu.tells = []) : exec .saleOpen s = .next (saleOpen s) :=
  stepIf_enabled high (by simp [front, bag, printer])

theorem saleOpen_refused {s : State} {r : ResultCode} (check : saleOpenCheck s = some r) : saleOpen s = suFail s r := by
  simp [saleOpen, check]

theorem saleOpen_passed {s : State} {mode : SaleMode} (check : saleOpenCheck s = none) (named : recMode s.re.record = some mode) :
    saleOpen s = saleOpened s mode := by
  simp [saleOpen, check, named]

theorem saleOpened_decided (s : State) (mode : SaleMode) :
    saleDecided (openedSale s mode) (headerWords (openedSale s mode))
      [.tellBag (.saleOpened mode (openedSale s mode).header.baseline), .tellPrint .receiptBegins] true (saleOpened s mode) :=
  (suWrite_decided _ _ _ _ _).finish

theorem saleOpened_answered (s : State) (mode : SaleMode) :
    answeredWith (saleOpened s mode) .done (assignedNumber s.su) ((fillCopy s).setWidth 32) := finishRequest_answered _ _ _ _

theorem saleOpened_requestFrame (s : State) (mode : SaleMode) : requestFrame [.su] s (saleOpened s mode) :=
  requestFrame_finish (suWrite_frame _ _ _ _ _ (.refl _ s) (by decide)) (by simp)

theorem journalFree_iff (s : State) : journalFree s = true ↔ (s.ju.head - s.bi.journalExport).toNat < 2048 := by
  unfold journalFree ahead32
  exact decide_eq_true_iff

theorem jobsPrinting_iff (u : Pu) :
    (u.jobs.any fun j => decide (j.state = .printing)) = true ↔ ∃ j ∈ u.jobs, j.state = .printing := by simp

/-- Settles O28: the checks are those of `saleOpenCheck`, and the first that fails refuses. -/
theorem saleOpenChecksInOrder : Obligations.SaleOpenChecksInOrder := by
  unfold Obligations.SaleOpenChecksInOrder
  intro s high front bag printer
  refine ⟨saleOpen s, exec_saleOpen high front bag printer, ?_⟩
  have refuses (r : ResultCode) (check : saleOpenCheck s = some r) :
      answeredWith (saleOpen s) r 0 0 ∧ requestFrame [] s (saleOpen s) := saleOpen_refused check ▸ suFail_refuses s r
  cases named : recMode s.re.record with
  | none => exact refuses _ (by simp [saleOpenCheck, named])
  | some mode =>
    have passes (check : saleOpenCheck s = none) :
        (saleOpen s).su.header.state = .opened ∧ ∃ d1 d2, answeredWith (saleOpen s) .done d1 d2 := by
      rw [saleOpen_passed check named, (saleOpened_decided s mode).sale.header]
      exact ⟨rfl, _, _, saleOpened_answered s mode⟩
    have chain := saleOpenCheck.eq_1 s
    rw [named] at chain
    rw [if_neg nofun]
    refine ite_of_check .rfl (refuses _) (ite_of_check ?_ (refuses _) (ite_of_check .rfl (refuses _)
      (ite_of_check ?_ (refuses _) (ite_of_check ?_ (refuses _) passes)))) chain
    · rw [← journalFree_iff, Bool.not_eq_true, Bool.not_eq_true']
    · cases s.bi.bagFit <;> simp
    · simp

/-- Settles O29: what `saleOpened` decides and asks. -/
theorem saleOpenWritesTheHeader : Obligations.SaleOpenWritesTheHeader := by
  unfold Obligations.SaleOpenWritesTheHeader
  refine ⟨fun u fits => header_bytesFrom fits, ?_⟩
  intro s mode n high front bag printer named idle room drawer self_ jobs number
  have check : saleOpenCheck s = none := by
    have printing := mt (jobsPrinting_iff s.pu).mp (by simpa using jobs)
    simpa [saleOpenCheck, named, idle, (journalFree_iff s).mpr room, drawer, printing] using self_
  refine ⟨saleOpened s mode, ?_⟩
  have decided := saleOpened_decided s mode
  have assigned : assignedNumber s.su = n := number.symm
  have su : (saleOpened s mode).su.header = openedHeader s mode := decided.sale.header
  refine ⟨saleOpen_passed check named ▸ exec_saleOpen high front bag printer, assigned ▸ saleOpened_answered s mode, ?_,
    decided.sale.lines, decided.sale.tenders, decided.sale.subtotal, decided.sale.balance, ?_, decided.finished, ?_,
    saleEventAsked_finish (saleEventAsked_suWrite _ _ _ _ _), saleOpened_requestFrame s mode⟩
  · rw [su, openedHeader, assigned]
  · rw [decided.number, openedSale, assigned]
  · rw [su]
    exact decided.writesHeader (by simp [decided.sale.lines, openedSale])

end Sys2Proof.Machine
end

section
/-! Item changes (R100-R105; O30-O32), the claims the SU takes (R91, R107, R121; O33) and the attendant's release (R120; O36). -/

namespace Sys2Proof.Machine

/-! ### The windows' words -/

theorem saleWords_header (old new : Su) : saleWords old new none none = headerChanges old new ++ [] := by
  simp only [saleWords, changedWords_header, lineEntryWords, tenderEntryWords, List.append_nil]

theorem saleWords_line {old new : Su} {n : Nat} {l : SaleLine} (here : new.lines[n - 1]? = some l) :
    saleWords old new (some n) none = headerChanges old new ++ wordsAt (0x8200 + (n - 1) * 64) (lineWords n l) := by
  simp only [saleWords, changedWords_header, lineEntryWords, tenderEntryWords, List.append_nil, here, Config.linesOff]

theorem saleWords_tender {old new : Su} {i : Nat} {x : Tender} (here : new.tenders[i]? = some x) :
    saleWords old new none (some i) = headerChanges old new ++ wordsAt (0x9A00 + i * 64) (tenderWords i x) := by
  simp only [saleWords, changedWords_header, lineEntryWords, tenderEntryWords, List.append_nil, here, Config.tendersOff]

theorem saleDecided.writesNoEntry {s t : State} {new : Su} {after : List After} {ofRequest : Bool}
    (h : saleDecided new (saleWords s.su new none none) after ofRequest t) : saleEventWrites s t 0 [] :=
  saleEventWrites_of (saleWords_header s.su new ▸ h) (bytesFrom_nil 0)

/-- The window of an event that writes line `n` has the line's 64 bytes (R95). -/
theorem saleDecided.writesLine {s t : State} {new : Su} {after : List After} {ofRequest : Bool} {n : Nat}
    (h : saleDecided new (saleWords s.su new (some n) none) after ofRequest t) (l : SaleLine) (here : t.su.lines[n - 1]? = some l) :
    saleEventWrites s t (0x8200 + (n - 1) * 64) (lineBytes n l) := by
  have there : new.lines[n - 1]? = some l := h.sale.lines ▸ here
  exact saleEventWrites_of (saleWords_line (old := s.su) there ▸ h) (line_bytesFrom _ n l)

/-- The window of an event that writes tender `i` has the tender's 64 bytes (R97). -/
theorem saleDecided.writesTender {s t : State} {new : Su} {after : List After} {ofRequest : Bool} {i : Nat}
    (h : saleDecided new (saleWords s.su new none (some i)) after ofRequest t) (x : Tender) (here : t.su.tenders[i]? = some x)
    (digits : x.lastFour.length = 4) (code : x.code.length = 6) :
    saleEventWrites s t (0x9A00 + i * 64) (tenderBytes i x) := by
  have there : new.tenders[i]? = some x := h.sale.tenders ▸ here
  exact saleEventWrites_of (saleWords_tender (old := s.su) there ▸ h) (tender_bytesFrom _ i digits code)

theorem askedFor_suWrite {s : State} {new : Su} {words : List (Nat × Word)} {after : List After} {ofRequest : Bool} {o : BlockId}
    {x : LaneSection} (h : askedFor s o x) : askedFor (suWrite s new words after ofRequest) o x :=
  askedFor_askWindow_of (askedFor_of_bi h rfl)

/-! ### Expectations of the BWU (R115, R117) -/

theorem insertByLine_eq (e : Expectation) (pend : List Expectation) :
    insertByLine e pend = pend.takeWhile (fun x => decide (x.line ≤ e.line)) ++ [e]
      ++ pend.dropWhile fun x => decide (x.line ≤ e.line) := by
  induction pend with
  | nil => rfl
  | cons x rest ih =>
    by_cases later : e.line < x.line
    · simp [insertByLine, later]
    · simp [insertByLine, later, Nat.le_of_not_lt later, ih]

/-- What the list of the BWU is with an expectation of line `line`. -/
theorem expectationJoined_of {s t : State} {line : Nat} {delta : Int} (bwu : t.bwu = s.bwu.expect (cfg s) s.re.clock line delta) :
    expectationJoined s t line delta := by
  rw [expectationJoined, bwu, Bwu.expect, insertByLine_eq]
  simp only [bagTolerance, waitLimit, startTimer, List.isEmpty_iff, Bool.and_eq_true, Bool.not_eq_true']

theorem handExpectation_bwu (s : State) (line : Nat) (delta : Int) :
    (handExpectation s line (some delta)).bwu = s.bwu.expect (cfg s) s.re.clock line delta := by
  simp [handExpectation]

theorem handExpectation_asked (s : State) (line : Nat) (delta : Int) :
    askedFor (handExpectation s line (some delta)) .bwu .statusPage := askedFor_askLiveAfter (List.mem_singleton_self _)

/-! ### ITEM_ADD -/

theorem exec_itemAdd {s : State} (high : s.bi.inReset = false) (front : suTakes s .itemAdd = true) (bag : bagReady s = true) :
    exec .itemAdd s = .next (itemAdd s) := stepIf_enabled high (by simp [front, bag])

theorem itemAdd_refuses {s : State} {r : ResultCode} (check : itemAddCheck s = some r) :
    answeredWith (itemAdd s) r 0 0 ∧ requestFrame [] s (itemAdd s) := by
  rw [itemAdd, check]
  exact suFail_refuses s r

theorem itemAdded_decided (s : State) :
    saleDecided (s.su.itemsChanged (s.su.lines ++ [itemLine s]))
      (saleWords s.su (s.su.itemsChanged (s.su.lines ++ [itemLine s])) (some (s.su.entriesUsed + 1)) none) [] true (itemAdded s) :=
  (suWrite_decided _ _ _ _ _).finish

theorem itemAdded_bwu (s : State) : (itemAdded s).bwu = (handExpectation s (s.su.entriesUsed + 1) (itemLine s).delta).bwu := by
  simp [itemAdded]

theorem itemAdded_requestFrame (s : State) : requestFrame [.su, .bwu] s (itemAdded s) :=
  requestFrame_finish (suWrite_frame _ _ _ _ _ (handExpectation_frame _ _ _ (.refl _ s) (by decide)) (by decide)) (by simp)

theorem itemAdded_asked {s : State} {delta : Int} (expected : (itemLine s).delta = some delta) :
    askedFor (itemAdded s) .bwu .statusPage := by
  rw [itemAdded, expected]
  exact askedFor_finishRequest (askedFor_suWrite (handExpectation_asked s _ delta))

theorem itemAdd_params_iff (q p : Nat) (weight : Option Nat) :
    (¬ (1 ≤ q ∧ q ≤ 999 ∧ p ≤ 999999) ∨ (weight ≠ none ∧ ¬ (1 ≤ weight.getD 0 ∧ weight.getD 0 ≤ 30000)))
      ↔ (!(inRange q 1 999 && decide (p ≤ 999999) && (match weight with | some w => inRange w 1 30000 | none => true))) = true := by
  cases weight <;> simp [inRange] <;> grind

theorem itemDelta_eq (s : State) : itemDelta s =
    if s.su.header.mode = .self ∧ recUnitWeight s.re.record ≠ none then
      some ((recUnitWeight s.re.record).getD 0 * recQuantity s.re.record) else none := by
  cases weight : recUnitWeight s.re.record <;> by_cases mode : s.su.header.mode = .self <;> simp [itemDelta, weight, mode]

theorem itemLine_delta (s : State) : (itemLine s).delta =
    if s.su.header.mode = .self ∧ recUnitWeight s.re.record ≠ none then
      some (((recUnitWeight s.re.record).getD 0 * recQuantity s.re.record : Nat) : Int) else none := by
  rw [itemLine, itemDelta_eq]
  split <;> rfl

theorem itemLine_bag (s : State) : (itemLine s).bag =
    if s.su.header.mode = .self then (if recUnitWeight s.re.record ≠ none then .pending else .exempt) else .none := by
  have bag : (itemLine s).bag = newBagStatus s.su.header.mode (itemLine s).delta := rfl
  rw [bag, itemLine_delta, newBagStatus]
  by_cases mode : s.su.header.mode = .self <;> cases recUnitWeight s.re.record <;> simp [mode]

/-- Settles O30: the checks are those of `itemAddCheck`; a request that passes adds `itemLine`. -/
theorem itemAddAddsALine : Obligations.ItemAddAddsALine := by
  unfold Obligations.ItemAddAddsALine
  rintro s q p w n admitted high front bag rfl rfl rfl rfl rfl
  refine ⟨itemAdd s, exec_itemAdd high front bag, ?_⟩
  have chain := itemAddCheck.eq_1 s
  refine ite_of_check ?admits itemAdd_refuses (ite_of_check .rfl itemAdd_refuses (ite_of_check (itemAdd_params_iff _ _ _) itemAdd_refuses
    (ite_of_check ?heavy itemAdd_refuses (ite_of_check .rfl itemAdd_refuses (ite_of_check ?limit itemAdd_refuses ?passed))))) chain
  case admits => rw [Bool.not_eq_true']; exact .rfl
  case heavy => rw [itemDelta_eq]; split <;> simp_all
  case limit =>
    simp only [not_and_or, Bool.not_eq_true', Bool.and_eq_false_iff, decide_eq_false_iff_not]
    exact .rfl
  case passed =>
    intro check
    have passed : itemAdd s = itemAdded s := by rw [itemAdd, check]
    rw [passed]
    have decided := itemAdded_decided s
    refine ⟨finishRequest_answered _ _ _ _, decided.sale.header, decided.sale.tenders, decided.sale.lines.trans ?line, ?expects,
      ?without, decided.writesLine, saleEventAsked_finish (saleEventAsked_suWrite _ _ _ _ _), itemAdded_requestFrame s⟩
    case line =>
      rw [← itemLine_delta, ← itemLine_bag]
      rfl
    case expects =>
      intro self_ weighed
      have delta := (itemLine_delta s).trans (if_pos ⟨self_, weighed⟩)
      exact ⟨expectationJoined_of (by rw [itemAdded_bwu, delta, handExpectation_bwu]; rfl), itemAdded_asked delta⟩
    case without =>
      intro other
      have delta := (itemLine_delta s).trans (if_neg fun ⟨self_, weighed⟩ => other.elim (· self_) weighed)
      rw [itemAdded_bwu, delta, handExpectation]

/-! ### ITEM_WEIGH -/

theorem exec_itemWeigh {s : State} (high : s.bi.inReset = false) (front : suTakes s .itemWeigh = true) (bag : bagReady s = true) :
    exec .itemWeigh s = .next (itemWeigh s) := stepIf_enabled high (by simp [front, bag])

theorem itemWeigh_refuses {s : State} {r : ResultCode} (none : s.su.claim = none) (check : itemWeighCheck s = some r) :
    answeredWith (itemWeigh s) r 0 0 ∧ requestFrame [] s (itemWeigh s) := by
  simp only [itemWeigh, none, check]
  exact suFail_refuses s r

theorem weighRefused_refuses (s : State) (a : ConsumeClaim) (r : ResultCode) :
    consumeRefused s (weighRefused s a r) r ((a.capture.getD 0).setWidth 32) :=
  ⟨finishRequest_answered _ _ _ _, finishRequest_su _ _ _ _,
    requestFrame_finish (eventFrame_setSu (.refl _ s) (by decide)) rfl⟩

/-- A window asked by the PWU that covers the capture table, and that the SU's event waits for. -/
def captureAsked (t : State) : Prop :=
  ∃ w ∈ t.bi.waiting, w.owner = .pwu ∧ .captureTable ∈ w.sections ∧ .suWrite ∈ w.after ∧ w.ofRequest = true

theorem gatherInto_capture {owner : BlockId} {sections : List LaneSection} {live : List LiveBlock} {after : List After}
    {ofRequest : Bool} {ws : List WindowAsk} {w : WindowAsk} (asked : w ∈ ws) (covers : .captureTable ∈ w.sections)
    (follows : .suWrite ∈ w.after) (request : w.ofRequest = true) :
    ∃ v ∈ gatherInto owner sections live after ofRequest ws, v.owner = w.owner ∧ .captureTable ∈ v.sections
      ∧ .suWrite ∈ v.after ∧ v.ofRequest = true := by
  induction ws with
  | nil => exact nomatch asked
  | cons x rest ih =>
    unfold gatherInto
    obtain rfl | later := List.mem_cons.mp asked
    · split
      · exact ⟨_, List.mem_cons_self, rfl, mem_unionOf_left covers, List.mem_append_left _ follows, by simp [request]⟩
      · exact ⟨_, List.mem_cons_self, rfl, covers, follows, request⟩
    · split
      · exact ⟨w, List.mem_cons_of_mem _ later, rfl, covers, follows, request⟩
      · obtain ⟨v, hv, kept⟩ := ih later
        exact ⟨v, List.mem_cons_of_mem _ hv, kept⟩

theorem captureAsked_askLive {s : State} {owner : BlockId} {sections : List LaneSection} {live : List LiveBlock}
    {ofRequest : Bool} (h : captureAsked s) : captureAsked (askLive s owner sections live ofRequest) := by
  obtain ⟨w, asked, owner_, covers, follows, request⟩ := h
  unfold askLive askLiveAfter
  split
  · obtain ⟨v, hv, same, kept⟩ := gatherInto_capture asked covers follows request
    exact ⟨v, hv, same.trans owner_, kept⟩
  · exact ⟨w, List.mem_append_left _ asked, owner_, covers, follows, request⟩

/-- The first waiting window that can take the write takes what follows it too. -/
theorem gatherInto_gathered {owner : BlockId} {sections : List LaneSection} {live : List LiveBlock} {after : List After}
    {ofRequest : Bool} {ws : List WindowAsk} (any : ws.any (gathers owner live) = true) :
    ∃ v ∈ gatherInto owner sections live after ofRequest ws, v.owner = owner ∧ (∀ x ∈ sections, x ∈ v.sections)
      ∧ (∀ a ∈ after, a ∈ v.after) ∧ (ofRequest = true → v.ofRequest = true) := by
  induction ws with
  | nil => simp at any
  | cons x rest ih =>
    unfold gatherInto
    split
    next takes =>
      have same : x.owner = owner := by simp only [gathers, Bool.and_eq_true, decide_eq_true_eq] at takes; exact takes.1.1.1.1
      exact ⟨_, List.mem_cons_self, same, fun _ => mem_unionOf_right, fun _ => List.mem_append_right _, fun q => by simp [q]⟩
    next not =>
      obtain ⟨v, hv, kept⟩ := ih (by simpa [not] using any)
      exact ⟨v, List.mem_cons_of_mem _ hv, kept⟩

theorem askWindow_mem (s : State) (owner : BlockId) (sections : List LaneSection) (fixed : List (Nat × Word)) (live : List LiveBlock)
    (after : List After) (ofRequest : Bool) :
    ∃ w ∈ (askWindow s owner sections fixed live after ofRequest).bi.waiting,
      w.owner = owner ∧ w.sections = sections ∧ w.after = after ∧ w.ofRequest = ofRequest :=
  ⟨_, List.mem_append_right _ (List.mem_singleton_self _), rfl, rfl, rfl, rfl⟩

theorem captureAsked_askLiveAfter (s : State) (live : List LiveBlock) :
    captureAsked (askLiveAfter s .pwu [.captureTable, .statusPage] live [.suWrite] true) := by
  unfold askLiveAfter
  split
  next any =>
    obtain ⟨v, hv, owner, covers, follows, request⟩ := gatherInto_gathered (sections := [.captureTable, .statusPage])
      (after := [.suWrite]) (ofRequest := true) any
    exact ⟨v, hv, owner, covers _ List.mem_cons_self, follows _ List.mem_cons_self, request rfl⟩
  next =>
    obtain ⟨w, asked, owner, sections, after, request⟩ :=
      askWindow_mem s .pwu [.captureTable, .statusPage] [] live [.suWrite] true
    exact ⟨w, asked, owner, sections ▸ List.mem_cons_self, after ▸ List.mem_cons_self, request⟩

theorem captureAsked_askPwuLive (old s : State) (live : List LiveBlock) :
    captureAsked (askPwuLive old s [.captureTable, .statusPage] live [.suWrite] true) := captureAsked_askLiveAfter _ _

/-- The entry a claim names, by its id or as the fresh one (R83). -/
def Pwu.claimedSlot (u : Pwu) (id : Option Half) : Option Nat :=
  match id with
  | some h => u.slotOf h
  | none => u.freshSlot

theorem answerConsume_none {u : Pwu} {id : Option Half} {largest : Nat} (named : u.claimedSlot id = none) :
    u.answerConsume id largest = .noCapture := by
  cases id <;> simp only [Pwu.claimedSlot] at named <;> simp only [Pwu.answerConsume, named]

/-- The PWU's answer, by the state and the net of the entry (R83, R103). -/
theorem answerConsume_some {u : Pwu} {id : Option Half} {largest k : Nat} (named : u.claimedSlot id = some k) :
    u.answerConsume id largest =
      if (u.entry k).state = .stale then .staleCapture
      else if (u.entry k).state ≠ .fresh then .noCapture
      else if (largest : Int) < (u.entry k).net then .limit else .found k := by
  cases id <;> simp only [Pwu.claimedSlot] at named <;> simp only [Pwu.answerConsume, named]
  all_goals cases (u.entry k).state <;> simp

/-- The sale once the capture in `slot` is charged. -/
def weighedSale (s : State) (a : ConsumeClaim) (slot : Nat) : Su :=
  { s.su.itemsChanged (s.su.lines ++ [weighedLine s (s.pwu.entry slot) a.stamp]) with claim := none }

theorem itemWeighed_decided (s : State) (a : ConsumeClaim) (slot : Nat) :
    saleDecided (weighedSale s a slot) (saleWords s.su (weighedSale s a slot) (some a.line) none) [] true (itemWeighed s a slot) :=
  (suDecide_decided _ _ _ _ _).finish

theorem itemWeighed_inbox (s : State) (a : ConsumeClaim) (slot : Nat) : (itemWeighed s a slot).su.inbox = s.su.inbox.tail := by
  rw [itemWeighed, finishRequest_su]
  rfl

theorem itemWeighed_pwu (s : State) (a : ConsumeClaim) (slot : Nat) :
    (itemWeighed s a slot).pwu = s.pwu.consume (cfg s) s.re.clock slot a.line := by
  simp [itemWeighed]

theorem itemWeighed_bwu (s : State) (a : ConsumeClaim) (slot : Nat) :
    (itemWeighed s a slot).bwu = (handExpectation s a.line (weighedLine s (s.pwu.entry slot) a.stamp).delta).bwu := by
  cases delta : (weighedLine s (s.pwu.entry slot) a.stamp).delta <;> simp [itemWeighed, delta, handExpectation, cfg]

theorem handExpectation_captureAsked {s : State} {line : Nat} {delta : Option Int} (h : captureAsked s) :
    captureAsked (handExpectation s line delta) := by
  cases delta with
  | none => exact h
  | some d => exact captureAsked_askLive (s := s.setBwu _) h

theorem itemWeighed_captureAsked (s : State) (a : ConsumeClaim) (slot : Nat) : captureAsked (itemWeighed s a slot) := by
  obtain ⟨w, asked, kept⟩ := handExpectation_captureAsked (line := a.line)
    (delta := (weighedLine s (s.pwu.entry slot) a.stamp).delta) (captureAsked_askPwuLive s
      (s.setPwu (s.pwu.consume (cfg s) s.re.clock slot a.line)) [.pwu, .captureEntry slot])
  exact ⟨w, finishRequest_waiting _ _ _ _ asked, kept⟩

theorem itemWeighed_requestFrame (s : State) (a : ConsumeClaim) (slot : Nat) :
    requestFrame [.su, .bwu, .pwu] s (itemWeighed s a slot) :=
  requestFrame_finish (suDecide_frame _ _ _ _ _ (handExpectation_frame _ _ _ (askPwuLive_frame _ _ _ _ _ _
    (eventFrame_setPwu (.refl _ s) (by decide))) (by decide)) (by decide)) (by simp)

theorem itemWeighed_asked {s : State} {a : ConsumeClaim} {slot : Nat} {delta : Int}
    (expected : (weighedLine s (s.pwu.entry slot) a.stamp).delta = some delta) :
    askedFor (itemWeighed s a slot) .bwu .statusPage := by
  rw [itemWeighed, expected]
  exact askedFor_finishRequest (askedFor_of_bi (handExpectation_asked _ _ delta) rfl)

theorem consume_table (u : Pwu) (c : Setup) (clock : Word) (slot line : Nat) :
    (u.consume c clock slot line).table = u.table.set slot { u.entry slot with state := .used, line := line }
      ∧ (u.consume c clock slot line).machine = .spent := by
  unfold Pwu.consume Pwu.judgeTracking
  split
  · split <;> exact ⟨rfl, rfl⟩
  · exact ⟨rfl, rfl⟩

theorem weighedLine_eq (s : State) (x : Capture) (stamp : Word) : weighedLine s x stamp =
    { live := true, kind := .weighed, code := recItemCode s.re.record, quantity := 1, weight := x.net.toNat
      price := recKiloPrice s.re.record, amount := (x.net.toNat * recKiloPrice s.re.record + 500) / 1000
      delta := if s.su.header.mode = .self then some x.net else none, captureId := x.id, stamp := stamp
      bag := if s.su.header.mode = .self then .pending else .none } := by
  by_cases self_ : s.su.header.mode = .self <;> simp [weighedLine, newBagStatus, self_]

/-- Settles O31: the checks are those of `itemWeighCheck`; the PWU answers a claim from its table. -/
theorem itemWeighChargesACapture : Obligations.ItemWeighChargesACapture := by
  unfold Obligations.ItemWeighChargesACapture
  refine ⟨?checks, ?answer⟩
  case checks =>
    rintro s p a largest n admitted high front bag none rfl rfl rfl rfl rfl
    refine ⟨itemWeigh s, exec_itemWeigh high front bag, ?_⟩
    refine ite_of_check ?admits (itemWeigh_refuses none) (ite_of_check .rfl (itemWeigh_refuses none) (ite_of_check ?price
      (itemWeigh_refuses none) (ite_of_check ?up (itemWeigh_refuses none) (ite_of_check .rfl (itemWeigh_refuses none) ?passed))))
      (itemWeighCheck.eq_1 s)
    case admits => rw [Bool.not_eq_true']; exact .rfl
    case price => simp [inRange]; omega
    case up => simp [platterUp]
    case passed =>
      intro check
      simp only [itemWeigh, none, check]
      rfl
  case answer =>
    rintro s c slot named high front bag claimed rfl named
    have runs : itemWeigh s = consumeAnswered s c := by simp only [itemWeigh, claimed]
    refine ⟨consumeAnswered s c, runs ▸ exec_itemWeigh high front bag, ?_⟩
    have slotIs : s.pwu.claimedSlot c.capture = slot := named.symm
    have refuses {r : ResultCode} (refused : consumeAnswered s c = weighRefused s c r) :
        (consumeAnswered s c).su.claim = none ∧ (consumeAnswered s c).su.inbox = s.su.inbox.tail
          ∧ consumeRefused s (consumeAnswered s c) r ((c.capture.getD 0).setWidth 32) := by
      have refusal := weighRefused_refuses s c r
      rw [refused, refusal.2.1]
      exact ⟨rfl, rfl, refusal⟩
    cases slot with
    | none => exact refuses (by rw [consumeAnswered, answerConsume_none slotIs])
    | some k =>
      have answer := answerConsume_some (largest := c.largest) slotIs
      dsimp only
      split
      next stale => exact refuses (by rw [consumeAnswered, answer, if_pos stale])
      next notStale =>
      split
      next other => exact refuses (by rw [consumeAnswered, answer, if_neg notStale, if_pos other])
      next fresh =>
      split
      next heavy => exact refuses (by rw [consumeAnswered, answer, if_neg notStale, if_neg fresh, if_pos heavy])
      next fits =>
        rw [consumeAnswered, answer, if_neg notStale, if_neg fresh, if_neg fits]
        dsimp only
        have decided := itemWeighed_decided s c k
        obtain ⟨table, machine⟩ := consume_table s.pwu (cfg s) s.re.clock k c.line
        refine ⟨decided.claim, itemWeighed_inbox s c k, finishRequest_answered _ _ _ _, decided.sale.header, decided.sale.tenders,
          decided.sale.lines.trans ?line, itemWeighed_pwu s c k ▸ table, itemWeighed_pwu s c k ▸ machine, ?expects,
          fun l here _ => decided.writesLine l here, ?without, itemWeighed_captureAsked s c k, ⟨_, decided.event, rfl⟩,
          itemWeighed_requestFrame s c k⟩
        case line => exact congrArg (s.su.lines ++ [·]) (weighedLine_eq s _ _)
        case expects =>
          intro self_
          have delta : (weighedLine s (s.pwu.entry k) c.stamp).delta = some (s.pwu.entry k).net := if_pos self_
          exact ⟨expectationJoined_of (by rw [itemWeighed_bwu, delta, handExpectation_bwu]), itemWeighed_asked delta⟩
        case without =>
          intro other
          have delta : (weighedLine s (s.pwu.entry k) c.stamp).delta = none := if_neg other
          rw [itemWeighed_bwu, delta, handExpectation]

end Sys2Proof.Machine
end

section
/-! LINE_VOID (R105; O32), the claims the SU takes (R91, R107, R121; O33) and the attendant's release (R120; O36). -/

namespace Sys2Proof.Machine

/-! ### LINE_VOID -/

theorem sumNat_eq (xs : List Nat) : sumNat xs = xs.sum := by rw [sumNat, List.sum_eq_foldl]

/-- What a line adds to the subtotal goes with it. -/
theorem sum_map_set {α : Type} (f : α → Nat) {xs : List α} {i : Nat} {x : α} (here : xs[i]? = some x) (y : α) :
    ((xs.set i y).map f).sum + f x = (xs.map f).sum + f y := by
  induction xs generalizing i with
  | nil => simp at here
  | cons a rest ih =>
    cases i with
    | zero =>
      obtain rfl : a = x := by simpa using here
      simp only [List.set_cons_zero, List.map_cons, List.sum_cons]
      omega
    | succ i =>
      have tail := ih (i := i) (by simpa using here)
      simp only [List.set_cons_succ, List.map_cons, List.sum_cons]
      omega

theorem subtotal_voided {u v : Su} {i : Nat} {l m : SaleLine} (here : u.lines[i]? = some l) (live : l.live = true)
    (dead : m.live = false) (lines : v.lines = u.lines.set i m) : v.subtotal + l.amount = u.subtotal := by
  have sums := sum_map_set (fun l : SaleLine => if l.live then l.amount else 0) here m
  simpa [Su.subtotal, sumNat_eq, lines, live, dead] using sums

theorem exec_lineVoid {s : State} (high : s.bi.inReset = false) (front : suTakes s .lineVoid = true) (bag : bagReady s = true) :
    exec .lineVoid s = .next (lineVoid s) := stepIf_enabled high (by simp [front, bag])

/-- The sale with line `n` void. -/
def voidedSale (s : State) (n : Nat) (l : SaleLine) : Su :=
  s.su.itemsChanged (s.su.lines.set (n - 1) { l with live := false, bag := (voidBag s n l).2 })

theorem lineVoided_decided (s : State) (n : Nat) (l : SaleLine) :
    saleDecided (voidedSale s n l) (saleWords s.su (voidedSale s n l) (some n) none) [] true (lineVoided s n l) :=
  (suWrite_decided _ _ _ _ _).finish

theorem lineVoided_bwu (s : State) (n : Nat) (l : SaleLine) : (lineVoided s n l).bwu = (voidBag s n l).1 := by
  by_cases same : (voidBag s n l).1 = s.bwu <;> simp [lineVoided, same]

theorem lineVoided_requestFrame (s : State) (n : Nat) (l : SaleLine) : requestFrame [.su, .bwu] s (lineVoided s n l) := by
  refine requestFrame_finish (suWrite_frame _ _ _ _ _ ?_ (by decide)) ?_
  · split
    · exact .refl _ s
    · exact askBwuStatus_frame _ _ (eventFrame_setBwu (.refl _ s) (by decide))
  · split <;> simp

theorem lineVoided_asked {s : State} {n : Nat} {l : SaleLine} (changed : (voidBag s n l).1 ≠ s.bwu) :
    askedFor (lineVoided s n l) .bwu .statusPage := by
  simp only [lineVoided, if_neg changed]
  exact askedFor_finishRequest (askedFor_suWrite (askedFor_askLiveAfter (List.mem_singleton_self _)))

theorem expect_changes (u : Bwu) (c : Setup) (clock : Word) (line : Nat) (delta : Int) : u.expect c clock line delta ≠ u := by
  intro same
  have length := congrArg (fun v : Bwu => v.pend.length) same
  have parts := congrArg List.length (List.takeWhile_append_dropWhile (p := fun x => decide (x.line ≤ line)) (l := u.pend))
  simp only [Bwu.expect, insertByLine_eq, List.length_append, List.length_singleton] at length parts
  omega

theorem withdraw_pending {u : Bwu} {line : Nat} (pending : (u.pend.any fun e => decide (e.line = line)) = true) :
    u.withdraw line = ({ u with
      pend := u.pend.filter fun e => e.line != line
      waitTimer := if (∀ e ∈ u.pend, e.line = line) then none else u.waitTimer }, true) := by
  simp [Bwu.withdraw, pending]

theorem withdraw_absent {u : Bwu} {line : Nat} (absent : (u.pend.any fun e => decide (e.line = line)) = false) :
    u.withdraw line = (u, !u.matched.contains line) := by
  simp [Bwu.withdraw, absent]

theorem withdraw_changes {u : Bwu} {line : Nat} (pending : (u.pend.any fun e => decide (e.line = line)) = true) :
    (u.withdraw line).1 ≠ u := by
  rw [withdraw_pending pending]
  intro same
  obtain ⟨e, he, here⟩ := List.any_eq_true.mp pending
  have pend : (u.pend.filter fun e => e.line != line) = u.pend := congrArg Bwu.pend same
  have kept : e ∈ u.pend.filter fun e => e.line != line := pend.symm ▸ he
  simp [of_decide_eq_true here] at kept

/-! The BWU's part in a void, by the bag status of the line. -/

theorem voidBag_withdrawn {s : State} {n : Nat} {l : SaleLine} (bag : l.bag = .pending)
    (pending : (s.bwu.pend.any fun e => decide (e.line = n)) = true) : voidBag s n l = ((s.bwu.withdraw n).1, .exempt) := by
  simp [voidBag, bag, withdraw_pending pending]

theorem voidBag_unmatched {s : State} {n : Nat} {l : SaleLine} (bag : l.bag = .pending)
    (absent : (s.bwu.pend.any fun e => decide (e.line = n)) = false) (unmatched : s.bwu.matched.contains n = false) :
    voidBag s n l = (s.bwu, .exempt) := by
  simp only [voidBag, bag, withdraw_absent absent, unmatched]
  rfl

theorem voidBag_removal {s : State} {n : Nat} {l : SaleLine} (bagged : l.bag = .bagged ∨ (l.bag = .pending
      ∧ (s.bwu.pend.any fun e => decide (e.line = n)) = false ∧ s.bwu.matched.contains n = true)) :
    voidBag s n l = (s.bwu.expect (cfg s) s.re.clock n (-(l.delta.getD 0)), .removalPending) := by
  obtain bag | ⟨bag, absent, matched⟩ := bagged
  · simp [voidBag, bag]
  · simp only [voidBag, bag, withdraw_absent absent, matched]
    rfl

theorem voidBag_other {s : State} {n : Nat} {l : SaleLine} (notPending : l.bag ≠ .pending) (notBagged : l.bag ≠ .bagged) :
    voidBag s n l = (s.bwu, l.bag) := by
  simp [voidBag, notPending, notBagged]

/-- The bag status of a void line, by R105's table. -/
theorem voidBag_status (s : State) (n : Nat) (l : SaleLine) : (voidBag s n l).2 =
    if l.bag = .pending ∧ (s.bwu.pend.any fun e => decide (e.line = n)) = true then BagStatus.exempt
    else if l.bag = .pending ∧ s.bwu.matched.contains n = false then .exempt
    else if l.bag = .pending ∨ l.bag = .bagged then .removalPending else l.bag := by
  by_cases bag : l.bag = .pending
  · cases pending : s.bwu.pend.any fun e => decide (e.line = n) with
    | true => simp [voidBag_withdrawn bag pending, bag]
    | false =>
      cases matched : s.bwu.matched.contains n with
      | true => rw [voidBag_removal (.inr ⟨bag, pending, matched⟩)]; simp [bag]
      | false => rw [voidBag_unmatched bag pending matched]; simp [bag]
  · by_cases bagged : l.bag = .bagged
    · rw [voidBag_removal (.inl bagged)]; simp [bagged]
    · rw [voidBag_other bag bagged]; simp [bag, bagged]

theorem lineVoid_notAdmitted {s : State} (not : s.su.admitsItems = false) : lineVoid s = suFail s .wrongState := by
  simp only [lineVoid, not]
  rfl

theorem lineVoid_badParam {s : State} (admitted : s.su.admitsItems = true)
    (bad : recLineNumber s.re.record = 0 ∨ s.su.lines.length < recLineNumber s.re.record
      ∨ ∃ l, s.su.lines[recLineNumber s.re.record - 1]? = some l ∧ l.live = false) : lineVoid s = suFail s .badParam := by
  simp only [lineVoid, admitted]
  obtain zero | beyond | ⟨l, here, dead⟩ := bad
  · simp [zero]
  · rw [if_neg (Nat.ne_of_gt (Nat.zero_lt_of_lt beyond)), List.getElem?_eq_none (Nat.le_sub_one_of_lt beyond)]
    rfl
  · by_cases zero : recLineNumber s.re.record = 0
    · simp [zero]
    · simp [zero, here, dead]

theorem lineVoid_passed {s : State} {l : SaleLine} (admitted : s.su.admitsItems = true) (one : 1 ≤ recLineNumber s.re.record)
    (here : s.su.lines[recLineNumber s.re.record - 1]? = some l) (live : l.live = true) :
    lineVoid s = lineVoided s (recLineNumber s.re.record) l := by
  simp [lineVoid, admitted, Nat.ne_of_gt one, here, live]

/-- Settles O32: the BWU's part is `voidBag`, by the line's bag status. -/
theorem lineVoidVoidsALine : Obligations.LineVoidVoidsALine := by
  unfold Obligations.LineVoidVoidsALine
  rintro s n admitted high front bag rfl admittedIs
  have admits : s.su.admitsItems = admitted := admittedIs.symm
  refine ⟨lineVoid s, exec_lineVoid high front bag, ?_, ?_, ?_⟩
  · intro not
    rw [lineVoid_notAdmitted (admits.trans not)]
    exact suFail_refuses s _
  · intro yes bad
    rw [lineVoid_badParam (admits.trans yes) bad]
    exact suFail_refuses s _
  · intro l yes one here live
    rw [lineVoid_passed (admits.trans yes) one here live]
    generalize recLineNumber s.re.record = n at here ⊢
    have decided := lineVoided_decided s n l
    have bwu := lineVoided_bwu s n l
    refine ⟨⟨_, decided.sale.lines, voidBag_status s n l⟩, decided.sale.header, decided.sale.tenders, ?answer,
      subtotal_voided here live rfl decided.sale.lines, ?withdrawn, ?unmatched, ?removal, ?other, decided.writesLine,
      saleEventAsked_finish (saleEventAsked_suWrite _ _ _ _ _), lineVoided_requestFrame s n l⟩
    case answer =>
      rw [decided.sale.subtotal]
      exact finishRequest_answered _ _ _ _
    case withdrawn =>
      intro pending listed
      have part := congrArg Prod.fst (voidBag_withdrawn pending listed)
      exact ⟨bwu.trans (part.trans (by rw [withdraw_pending listed])), lineVoided_asked (part ▸ withdraw_changes listed)⟩
    case unmatched =>
      intro pending absent unmatched
      rw [bwu, voidBag_unmatched pending absent unmatched]
    case removal =>
      intro bagged
      have part := congrArg Prod.fst (voidBag_removal bagged)
      exact ⟨expectationJoined_of (bwu.trans part), lineVoided_asked (part ▸ expect_changes _ _ _ _ _)⟩
    case other =>
      intro notPending notBagged
      rw [bwu, voidBag_other notPending notBagged]

end Sys2Proof.Machine
end

section
/-! The claims the SU takes (R91, R107, R121; O33) and the attendant's release (R120; O36). -/

namespace Sys2Proof.Machine

/-! ### Claims -/

theorem sameSale.saleWords {u v : Su} (h : sameSale u v) (new : Su) (line tender : Option Nat) :
    saleWords v new line tender = saleWords u new line tender := by
  simp only [Machine.saleWords, h.headerWords]

theorem suPop_sameSale (s : State) : sameSale s.su (suPop s).su := ⟨rfl, rfl, rfl⟩

/-- A bag claim in an active sale decides an event; in any other it is discarded (R121). -/
theorem suBagClaim_taken {s : State} {new : Su} (inbox : new.inbox = s.su.inbox.tail) (tenders : new.tenders = s.su.tenders) :
    (suBagClaim (suPop s) new false).su.inbox = s.su.inbox.tail
      ∧ (suBagClaim (suPop s) new false).su.tenders = s.su.tenders
      ∧ (if s.su.header.state.active then sameSale new (suBagClaim (suPop s) new false).su
          ∧ saleEventWrites s (suBagClaim (suPop s) new false) 0 [] ∧ saleEventAsked (suBagClaim (suPop s) new false)
        else (suBagClaim (suPop s) new false).su = { s.su with inbox := s.su.inbox.tail }
          ∧ (suBagClaim (suPop s) new false).bi = s.bi)
      ∧ eventFrame [.su] s (suBagClaim (suPop s) new false) := by
  have frame : eventFrame [.su] s (suBagClaim (suPop s) new false) := suBagClaim_frame _ _ _ (suPop_frame _ (.refl _ s)) (by decide)
  by_cases active : s.su.header.state.active = true
  · have claim : suBagClaim (suPop s) new false = suWrite (suPop s) new (saleWords s.su new none none) [] false := by
      rw [← (suPop_sameSale s).saleWords]
      exact if_pos active
    have decided := suWrite_decided (suPop s) new (saleWords s.su new none none) [] false
    rw [if_pos active]
    refine ⟨?_, ?_, ⟨?_, ?_, ?_⟩, frame⟩
    · rw [claim, suWrite_su]
      exact inbox
    · rw [claim, suWrite_su]
      exact tenders
    · exact claim ▸ decided.sale
    · exact claim ▸ decided.writesNoEntry
    · exact claim ▸ saleEventAsked_suWrite _ _ _ _ _
  · have claim : suBagClaim (suPop s) new false = suPop s := if_neg active
    rw [if_neg active]
    rw [claim] at frame ⊢
    exact ⟨rfl, rfl, ⟨rfl, rfl⟩, frame⟩

theorem exec_settlementClaim {s : State} {named : List NamedLine} {baseline : Int} (high : s.bi.inReset = false)
    (front : suFront s = some (.settlement named baseline)) :
    exec .bagSettlementClaim s = .next (suBagClaim (suPop s) ((suPop s).su.settlement named baseline) false) := by
  have runs : exec .bagSettlementClaim s = execBagSettlementClaim s := rfl
  simp only [runs, execBagSettlementClaim, front]
  exact stepIf_enabled high rfl

theorem exec_holdClaim {s : State} {reason : HoldReason} (high : s.bi.inReset = false)
    (front : suFront s = some (.holdSet reason)) :
    exec .bagHoldClaim s = .next (suBagClaim (suPop s) ((suPop s).su.holdSet reason) false) := by
  have runs : exec .bagHoldClaim s = execBagHoldClaim s := rfl
  simp only [runs, execBagHoldClaim, front]
  exact stepIf_enabled high rfl

theorem exec_clearClaim {s : State} {reason : ClearReason} {baseline : Int} {named : List NamedLine} (high : s.bi.inReset = false)
    (front : suFront s = some (.holdClear reason baseline named)) :
    exec .bagClearClaim s = .next (suBagClaim (suPop s) ((suPop s).su.holdClear reason baseline named) false) := by
  have runs : exec .bagClearClaim s = execBagClearClaim s := rfl
  simp only [runs, execBagClearClaim, front]
  exact stepIf_enabled high rfl

theorem exec_tenderClaim {s : State} {m : TenderMove} {q : Bool} (high : s.bi.inReset = false)
    (front : suFront s = some (.tender m q)) : exec .tenderClaim s = .next (suMoveTender (suPop s) m q) := by
  have runs : exec .tenderClaim s = execTenderClaim s := rfl
  simp only [runs, execTenderClaim, front]
  exact stepIf_enabled high rfl

theorem ite_imp {c A A' B : Prop} [Decidable c] (h : if c then A else B) (imp : A → A') : if c then A' else B := by
  by_cases holds : c
  · rw [if_pos holds] at h ⊢
    exact imp h
  · rw [if_neg holds] at h ⊢
    exact h

/-! ### A tender claim (R107) -/

theorem suMoveTender_decided (s : State) (m : TenderMove) (q : Bool) :
    saleDecided ((suPop s).su.moveTender m s.re.clock)
      (saleWords s.su ((suPop s).su.moveTender m s.re.clock) none (some m.index)) [] q (suMoveTender (suPop s) m q) := by
  rw [← (suPop_sameSale s).saleWords]
  exact suWrite_decided _ _ _ _ _

theorem moveTender_eq {u : Su} {m : TenderMove} {x : Tender} {clock : Word} (here : u.tenders[m.index]? = some x) :
    u.moveTender m clock = Su.afterTender { u with tenders := u.tenders.set m.index (x.move m u.balance clock) } false := by
  simp only [Su.moveTender, here]

theorem afterTender_moved (u : Su) : u.afterTender false = { u with header := { u.header with
    state := if u.header.state = .tendering ∧ u.balance = 0 then .settled else u.header.state } } := by
  simp [Su.afterTender]

/-- What a moved tender leaves of the sale (R106, R107). -/
theorem moveTender_fields {u : Su} {m : TenderMove} {x : Tender} (clock : Word) (here : u.tenders[m.index]? = some x) :
    (u.moveTender m clock).inbox = u.inbox ∧ (u.moveTender m clock).lines = u.lines
      ∧ (u.moveTender m clock).tenders = u.tenders.set m.index (x.move m u.balance clock)
      ∧ (u.moveTender m clock).header = { u.header with
          state := if u.header.state = .tendering ∧ (u.moveTender m clock).balance = 0 then .settled else u.header.state } := by
  rw [moveTender_eq here, afterTender_moved]
  exact ⟨rfl, rfl, rfl, rfl⟩

/-! ### Named lines (R96, R121) -/

theorem moveNamed_one {lines : List SaleLine} {n : NamedLine} {l : SaleLine} (item : BagStatus) (line : 1 ≤ n.line)
    (here : lines[n.line - 1]? = some l) : moveNamed lines [n] item = lines.set (n.line - 1) (l.moveBag n.removal item) := by
  simp [moveNamed, here, Nat.ne_of_gt line]

theorem moveBag_eq (l : SaleLine) (removal : Bool) (item : BagStatus) : l.moveBag removal item =
    { l with bag := if removal = true ∧ l.bag = .removalPending then .removed
                    else if removal = false ∧ l.bag = .pending then item else l.bag } := by
  cases removal
  · by_cases bag : l.bag = .pending <;> simp [SaleLine.moveBag, bag]
  · by_cases bag : l.bag = .removalPending <;> simp [SaleLine.moveBag, bag]

theorem moveNamed_one_getElem? (lines : List SaleLine) (n : NamedLine) (item : BagStatus) (k : Nat) :
    (moveNamed lines [n] item)[k]? = lines[k]?.map fun l => if n.line = k + 1 then l.moveBag n.removal item else l := by
  by_cases zero : n.line = 0
  · have stays : moveNamed lines [n] item = lines := by
      simp only [moveNamed, List.foldl_cons, List.foldl_nil, zero, if_true]
      split <;> rfl
    simp [stays, zero]
  · cases here : lines[n.line - 1]? with
    | none =>
      have stays : moveNamed lines [n] item = lines := by simp [moveNamed, here]
      rw [stays]
      by_cases same : n.line = k + 1
      · simp only [same, Nat.add_sub_cancel] at here
        simp [here]
      · simp [same]
    | some l =>
      rw [moveNamed_one item (Nat.one_le_iff_ne_zero.mpr zero) here, List.getElem?_set]
      by_cases same : n.line = k + 1
      · simp only [same, Nat.add_sub_cancel] at here ⊢
        rw [if_pos (List.getElem?_eq_some_iff.mp here).1, here, Option.map_some]
        simp
      · have other : n.line - 1 ≠ k := by omega
        simp [same, other]

/-- The status of a line after the claim that names `named`. -/
def movedBag (named : List NamedLine) (item : BagStatus) (k : Nat) (bag : BagStatus) : BagStatus :=
  if bag = .removalPending ∧ ∃ n ∈ named, n.line = k + 1 ∧ n.removal = true then .removed
  else if bag = .pending ∧ ∃ n ∈ named, n.line = k + 1 ∧ n.removal = false then item else bag

theorem movedBag_cons {item : BagStatus} (settles : item = .bagged ∨ item = .overridden) (n : NamedLine) (rest : List NamedLine) (k : Nat)
    (l : SaleLine) : movedBag rest item k (if n.line = k + 1 then l.moveBag n.removal item else l).bag
      = movedBag (n :: rest) item k l.bag := by
  by_cases here : n.line = k + 1
  · rw [if_pos here, moveBag_eq]
    obtain rfl | rfl := settles <;> cases removal : n.removal <;> cases l.bag <;> simp [movedBag, here, removal]
  · simp [movedBag, here]

theorem moveNamed_getElem? {item : BagStatus} (settles : item = .bagged ∨ item = .overridden) (named : List NamedLine)
    {lines : List SaleLine} {k : Nat} {l : SaleLine} (here : lines[k]? = some l) :
    (moveNamed lines named item)[k]? = some { l with bag := movedBag named item k l.bag } := by
  induction named generalizing lines l with
  | nil => simpa [moveNamed, movedBag] using here
  | cons n rest ih =>
    have moved := moveNamed_one_getElem? lines n item k
    rw [here, Option.map_some] at moved
    rw [moveNamed_cons, ih moved, movedBag_cons settles]
    split <;> simp [moveBag_eq]

/-- Settles O33: a bag claim by `suBagClaim`, a tender claim by `Su.moveTender`, the named lines one after another. -/
theorem claimsMoveTheSale : Obligations.ClaimsMoveTheSale := by
  unfold Obligations.ClaimsMoveTheSale
  refine ⟨?settlement, ?hold, ?clear, ?tender, ?one, ?named⟩
  case settlement =>
    intro s named baseline high front
    obtain ⟨inbox, tenders, written, frame⟩ := suBagClaim_taken (s := s) (new := (suPop s).su.settlement named baseline) rfl rfl
    exact ⟨_, exec_settlementClaim high front, inbox, tenders,
      ite_imp written fun ⟨sale, writes, asked⟩ => ⟨sale.header, sale.lines, writes, asked⟩, frame⟩
  case hold =>
    intro s reason high front
    obtain ⟨inbox, tenders, written, frame⟩ := suBagClaim_taken (s := s) (new := (suPop s).su.holdSet reason) rfl rfl
    refine ⟨_, exec_holdClaim high front, inbox, ?_, tenders,
      ite_imp written fun ⟨sale, writes, asked⟩ => ⟨sale.header, writes, asked⟩, frame⟩
    split at written
    · exact written.1.lines
    · rw [written.1]
  case clear =>
    intro s reason baseline named high front
    obtain ⟨inbox, tenders, written, frame⟩ :=
      suBagClaim_taken (s := s) (new := (suPop s).su.holdClear reason baseline named) rfl rfl
    exact ⟨_, exec_clearClaim high front, inbox, tenders,
      ite_imp written fun ⟨sale, writes, asked⟩ => ⟨sale.header, sale.lines, writes, asked⟩, frame⟩
  case tender =>
    intro s m q x high front here
    have decided := suMoveTender_decided s m q
    obtain ⟨inbox, lines, tenders, header⟩ := moveTender_fields (u := (suPop s).su) s.re.clock here
    refine ⟨_, exec_tenderClaim high front, ?inbox, decided.sale.lines.trans lines, decided.sale.tenders.trans tenders, ?header,
      decided.writesTender, saleEventAsked_suWrite _ _ _ _ _, suMoveTender_frame _ _ _ (suPop_frame _ (.refl _ s)) (by decide)⟩
    case inbox =>
      rw [suMoveTender, suWrite_su]
      exact inbox
    case header =>
      rw [decided.sale.balance]
      exact decided.sale.header.trans header
  case one =>
    intro lines n l item line here
    exact (moveNamed_one item line here).trans (by rw [moveBag_eq])
  case named =>
    intro lines named item settles
    exact ⟨length_moveNamed _ _ _, fun k l here => moveNamed_getElem? settles named here⟩

/-! ### The attendant's release (R120) -/

/-- Any request that is refused before it changes anything. -/
theorem failRequest_refuses (s : State) (r : ResultCode) :
    answeredWith (failRequest s r) r 0 0 ∧ requestFrame [] s (failRequest s r) :=
  ⟨finishRequest_answered _ _ _ _, requestFrame_finish (.refl _ s) rfl⟩

theorem suBagClaim_active {s u : State} {new : Su} {ofRequest : Bool} (same : sameSale s.su u.su)
    (active : s.su.header.state.active = true) :
    suBagClaim u new ofRequest = suWrite u new (saleWords s.su new none none) [] ofRequest := by
  rw [← same.saleWords]
  exact if_pos (same.header ▸ active)

theorem exec_holdRelease {s : State} (high : s.bi.inReset = false) (inHand : awaits s .holdRelease = true)
    (ready : saleReady s = true) (told : s.bwu.tells = []) : exec .holdRelease s = .next (holdRelease s) :=
  stepIf_enabled high (by simp [inHand, ready, told])

/-- The BWU's part of a release: its hold, its list and its notice. -/
def bagReleased (s : State) : State :=
  raise (s.setBwu { s.bwu with
    baseline := s.bwu.settled, pend := [], waitTimer := none, hold := false, clearReason := .released }) .bagHoldClear 0

/-- The sale with the hold released (R121). -/
def releasedSale (s : State) : Su := (bagReleased s).su.release (namedOf s.bwu.pend) s.bwu.settled

theorem holdReleased_eq (s : State) : holdReleased s =
    finishRequest (suBagClaim (askBwuStatus (bagReleased s) true) (releasedSale s) true)
      .done (BitVec.ofNat 32 s.bwu.pend.length) (BitVec.ofInt 32 s.bwu.settled) := by
  rw [holdReleased, show (namedOf s.bwu.pend).length = s.bwu.pend.length from List.length_map _]
  rfl

theorem askBwuStatus_sameSale (s : State) : sameSale s.su (askBwuStatus (bagReleased s) true).su := by
  constructor <;> simp [bagReleased]

theorem reported_suBagClaim {s : State} {new : Su} {ofRequest : Bool} {k : CondKind} {source : Nat} (h : reported s k source) :
    reported (suBagClaim s new ofRequest) k source := by
  unfold suBagClaim
  split
  · exact reported_of_nu h (by simp) (by simp)
  · exact h

theorem askedFor_suBagClaim {s : State} {new : Su} {ofRequest : Bool} {o : BlockId} {x : LaneSection} (h : askedFor s o x) :
    askedFor (suBagClaim s new ofRequest) o x := by
  unfold suBagClaim
  split
  · exact askedFor_suWrite h
  · exact h

/-- Settles O36: the BWU's part is `bagReleased`, and the SU takes its claim in the same step. -/
theorem holdReleaseClearsTheHold : Obligations.HoldReleaseClearsTheHold := by
  unfold Obligations.HoldReleaseClearsTheHold
  intro s high latches inHand ready told
  refine ⟨holdRelease s, exec_holdRelease high inHand ready told, ?_⟩
  split
  next noKey =>
    rw [holdRelease, if_pos (by simp [noKey])]
    exact failRequest_refuses s _
  next key =>
  split
  next noHold =>
    rw [holdRelease, if_neg (by simpa using key), if_pos (by simpa [Classical.or_iff_not_imp_left] using noHold)]
    exact failRequest_refuses s _
  next hold =>
    have released : holdRelease s = holdReleased s := by
      rw [holdRelease, if_neg (by simpa using key), if_neg (by simpa [Classical.or_iff_not_imp_left] using hold)]
    rw [released, holdReleased_eq]
    have same := askBwuStatus_sameSale s
    have raised : reported (bagReleased s) .bagHoldClear 0 := reported_raise latches nofun
    have frame : eventFrame [.re, .su, .bwu] s (askBwuStatus (bagReleased s) true) :=
      askBwuStatus_frame _ _ (raise_frame _ _ _ (eventFrame_setBwu (.refl _ s) (by decide)))
    refine ⟨finishRequest_answered _ _ _ _, ?bwu, reported_finishRequest nofun (reported_suBagClaim (reported_of_nu raised (by simp) (by simp))),
      askedFor_finishRequest (askedFor_suBagClaim (askedFor_askLiveAfter (List.mem_singleton_self _))), fun active => ?sale,
      requestFrame_finish (suBagClaim_frame _ _ _ frame (by decide)) (by simp [bagReleased])⟩
    case bwu => simp [bagReleased]
    case sale =>
      rw [suBagClaim_active same active]
      have decided : saleDecided (releasedSale s) (saleWords s.su (releasedSale s) none none) [] true _ :=
        (suWrite_decided (askBwuStatus (bagReleased s) true) _ _ _ _).finish (r := .done)
          (d1 := BitVec.ofNat 32 s.bwu.pend.length) (d2 := BitVec.ofInt 32 s.bwu.settled)
      refine ⟨decided.sale.header.trans ?_, decided.sale.lines.trans ?_, decided.sale.tenders.trans ?_,
       
        decided.writesNoEntry, saleEventAsked_finish (saleEventAsked_suWrite _ _ _ _ _)⟩
      · simp [releasedSale, Su.release, bagReleased]
      · simp [releasedSale, Su.release, bagReleased]
      · simp [releasedSale, Su.release, bagReleased]

end Sys2Proof.Machine
end

section
/-! The card link's notices (R24, R128; log 44). A notice offers the send list; once offered, the list is empty or the link is full,
so the notices taken after it move nothing more. -/

namespace Sys2Proof.Machine

/-- An offer moves nothing: the link has left UP, takes no frame, or none waits. -/
def cardSettled (s : State) : Prop := cardLeft s = true ∨ linkTakes s .card = false ∨ s.ctu.sendList = []

theorem offerCard_none {s : State} {fs : List (Byte × List Byte)} (full : linkTakes s .card = false ∨ fs = []) :
    offerCard s fs = s.setCtu { s.ctu with sendList := fs } := by
  cases fs with
  | nil => rfl
  | cons f rest =>
    obtain full | empty := full
    · rw [offerCard, if_neg (by simp [full])]
    · exact nomatch empty

theorem cardOffers_settled {s : State} (h : cardSettled s) : cardOffers s = s := by
  unfold cardOffers
  split
  next => rfl
  next stays => exact offerCard_none (h.resolve_left stays)

theorem offerCard_settles (s : State) (fs : List (Byte × List Byte)) :
    linkTakes (offerCard s fs) .card = false ∨ (offerCard s fs).ctu.sendList = [] := by
  induction fs generalizing s with
  | nil => exact .inr rfl
  | cons f rest ih =>
    unfold offerCard
    split
    next => exact ih _
    next full => exact .inl (Bool.eq_false_iff.mpr full)

theorem cardOffers_settles (s : State) : cardSettled (cardOffers s) := by
  unfold cardOffers
  split
  next left => exact .inl left
  next => exact .inr (offerCard_settles s _)

/-- Of notices that find the list settled only their count changes. -/
theorem takeCardNotices_settled {s : State} (settled : cardSettled s) {n : Nat} (count : s.ctu.notices = n) :
    ∃ m ≤ n, takeCardNotices n s = s.setCtu { s.ctu with notices := m }
      ∧ (m = 0 ∨ unitTakes (takeCardNotices n s) .ctu .sent = false) := by
  induction n generalizing s with
  | zero => exact ⟨0, Nat.le_refl _, by rw [takeCardNotices, ← count]; rfl, .inl rfl⟩
  | succ n ih =>
    by_cases takes : unitTakes s .ctu .sent = true
    · have still : cardSettled (s.setCtu { s.ctu with notices := s.ctu.notices - 1 }) := settled
      obtain ⟨m, le, same, last⟩ := ih still (by simp [count])
      have step : takeCardNotices (n + 1) s = takeCardNotices n (s.setCtu { s.ctu with notices := s.ctu.notices - 1 }) := by
        rw [takeCardNotices, if_pos takes, cardOffers_settled still]
      exact ⟨m, Nat.le_succ_of_le le, step.trans same, step ▸ last⟩
    · have stop : takeCardNotices (n + 1) s = s := by rw [takeCardNotices, if_neg takes]
      exact ⟨n + 1, Nat.le_refl _, by rw [stop, ← count]; rfl, .inr (by rw [stop]; exact Bool.eq_false_iff.mpr takes)⟩

/-- How many frames an offer hands to the card link. -/
theorem cardOffered_eq (s : State) : (if cardLeft s = true then 0 else cardRoom s)
    = if cardLeft s = true ∨ (s.link .card).state ≠ .up then 0 else 4 - (s.link .card).tx.length := by
  by_cases left : cardLeft s = true <;> by_cases up : (s.link .card).state = .up <;> simp [cardRoom, left, up]

/-- The notices whose turn has come: the first offers the list, and the others only count. -/
theorem cardNotices_first {s : State} (some_ : s.ctu.notices ≠ 0) (takes : unitTakes s .ctu .sent = true) :
    ∃ m < s.ctu.notices, cardNotices s = (cardOffers (s.setCtu { s.ctu with notices := s.ctu.notices - 1 })).setCtu
        { (cardOffers (s.setCtu { s.ctu with notices := s.ctu.notices - 1 })).ctu with notices := m }
      ∧ (m = 0 ∨ unitTakes (cardNotices s) .ctu .sent = false) := by
  obtain ⟨n, count⟩ := Nat.exists_eq_succ_of_ne_zero some_
  have offered := cardOffers_moves (s.setCtu { s.ctu with notices := s.ctu.notices - 1 })
  have left : (cardOffers (s.setCtu { s.ctu with notices := s.ctu.notices - 1 })).ctu.notices = n := by
    rw [offered.ctu]
    simp [count]
  obtain ⟨m, le, same, last⟩ := takeCardNotices_settled (cardOffers_settles _) left
  have step : cardNotices s
      = takeCardNotices n (cardOffers (s.setCtu { s.ctu with notices := s.ctu.notices - 1 })) := by
    rw [cardNotices, count, takeCardNotices, if_pos takes]
    simp [count]
  exact ⟨m, by omega, step.trans same, step ▸ last⟩

theorem cardNotices_taken (t : State) : cardNoticesTaken t (cardNotices t) := by
  have frame : eventFrame [.ctu, .lu] t (cardNotices t) :=
    takeCardNotices_frame _ _ (.refl _ t) (by decide) (by decide)
  by_cases waits : t.ctu.notices = 0 ∨ unitTakes t .ctu .sent = false
  · have same := cardNotices_none t waits
    have never : t.ctu.notices ≠ 0 → unitTakes t .ctu .sent = true → False := fun some_ takes =>
      waits.elim some_ fun not => by simp [not] at takes
    exact ⟨fun _ => same, fun a b => (never a b).elim, fun a b => (never a b).elim, by rw [same], fun _ _ => by rw [same], frame,
      by rw [same]⟩
  · obtain ⟨some_, takes⟩ := not_or.mp waits
    have takes := Bool.not_eq_false _ ▸ takes
    obtain ⟨m, less, same, last⟩ := cardNotices_first some_ takes
    have moved := cardOffers_moves (t.setCtu { t.ctu with notices := t.ctu.notices - 1 })
    have ctu : (cardNotices t).ctu = { t.ctu with
        notices := m, sendList := (cardOffers (t.setCtu { t.ctu with notices := t.ctu.notices - 1 })).ctu.sendList } := by
      rw [same]
      simp [moved.ctu]
    have link (l : LinkId) :
        (cardNotices t).link l = (cardOffers (t.setCtu { t.ctu with notices := t.ctu.notices - 1 })).link l := by rw [same]; rfl
    refine ⟨fun h => absurd h waits, fun _ _ => ⟨by rw [ctu]; exact less, by rw [ctu]; exact last⟩, fun _ _ => ?_,
      by rw [ctu], fun l other => (link l).trans (moved.links l other), frame, by simp⟩
    refine ⟨_, cardOffered_eq t, ?_, ?_⟩
    · rw [ctu]
      exact congrArg Ctu.sendList moved.ctu
    · rw [link]
      exact moved.queue

end Sys2Proof.Machine
end

section
/-! Card tenders: CARD_TENDER and what follows its window (R126, R127; O37, O38), CARD_CANCEL (R130) and the attendant's verdict
(R135; O43). -/

namespace Sys2Proof.Machine

/-! ### CARD_TENDER -/

theorem exec_cardTender {s : State} (high : s.bi.inReset = false) (inHand : awaits s .cardTender = true)
    (ready : saleReady s = true) : exec .cardTender s = .next (cardTender s) := stepIf_enabled high (by simp [inHand, ready])

theorem cardTender_refuses {s : State} {r : ResultCode} (check : cardTenderCheck s (cardTenderAmount s) = some r) :
    answeredWith (cardTender s) r 0 0 ∧ requestFrame [] s (cardTender s) := by
  rw [cardTender, check]
  exact failRequest_refuses s r

/-- The tender a creating claim writes (R107, R127): no result has given it a method, digits or a code. -/
def createdTender (kind : TenderKind) (state : TenderState) (requested received applied : Nat) (reference : Half) (clock : Word) :
    Tender where
  kind := kind
  state := state
  requested := requested
  received := received
  applied := applied
  reference := reference
  entryMethod := 0
  lastFour := zeros 4
  code := zeros 6
  byKey := false
  created := clock
  final := clock

theorem applied_append (u : Su) (x : Tender) : ({ u with tenders := u.tenders ++ [x] } : Su).applied = u.applied + x.applied := by
  simp [Su.applied, sumNat_eq]

theorem afterTender_created {u : Su} (open_ : u.header.state = .opened ∨ u.header.state = .tendering) :
    u.afterTender true = { u with header := { u.header with state := if u.balance = 0 then .settled else .tendering } } := by
  obtain state | state := open_ <;> simp [Su.afterTender, state]

/-- A created tender leaves an OPEN sale TENDERING, and one whose balance it brings to 0 SETTLED (R92, R107). -/
theorem create_fields (u : Su) (kind : TenderKind) (state : TenderState) (requested received toApply : Nat) (reference : Half)
    (clock : Word) :
    (u.create kind state requested received toApply reference clock).tenders
        = u.tenders ++ [createdTender kind state requested received (min toApply u.balance) reference clock]
      ∧ (u.create kind state requested received toApply reference clock).lines = u.lines
      ∧ (u.create kind state requested received toApply reference clock).balance = u.balance - min toApply u.balance
      ∧ (u.header.state = .opened ∨ u.header.state = .tendering →
          (u.create kind state requested received toApply reference clock).header = { u.header with
            state := if u.balance - min toApply u.balance = 0 then .settled else .tendering }) := by
  have applied : (u.create kind state requested received toApply reference clock).applied = u.applied + min toApply u.balance :=
    applied_append u (createdTender kind state requested received (min toApply u.balance) reference clock)
  have balance : (u.create kind state requested received toApply reference clock).balance = u.balance - min toApply u.balance := by
    have subtotal : (u.create kind state requested received toApply reference clock).subtotal = u.subtotal := rfl
    rw [Su.balance, subtotal, applied, Nat.sub_add_eq]
    rfl
  refine ⟨rfl, rfl, balance, fun open_ => ?_⟩
  rw [← balance]
  exact congrArg Su.header (afterTender_created (u := { u with
    tenders := u.tenders ++ [createdTender kind state requested received (min toApply u.balance) reference clock] }) open_)

/-- A request that passes finds the sale OPEN or TENDERING with a balance. -/
theorem open_of_cardTender {s : State} {amount : Nat} (check : cardTenderCheck s amount = none) :
    (s.su.header.state = .opened ∨ s.su.header.state = .tendering) ∧ s.su.balance ≠ 0 := by
  simp only [cardTenderCheck] at check
  grind

theorem cardTendered_decided (s : State) (amount : Nat) :
    saleDecided (s.su.create .card .requested amount 0 0 s.ctu.refCounter s.re.clock)
      (saleWords s.su (s.su.create .card .requested amount 0 0 s.ctu.refCounter s.re.clock) none (some s.su.tenders.length))
      [.cardAsk s.su.tenders.length amount] true (cardTendered s amount) := (suWrite_decided _ _ _ _ _).finish

theorem cardTendered_requestFrame (s : State) (amount : Nat) : requestFrame [.su] s (cardTendered s amount) :=
  requestFrame_finish (suWrite_frame _ _ _ _ _ (.refl _ s) (by decide)) (by simp)

/-- Settles O37: the checks are those of `cardTenderCheck`; a request that passes creates `requestedTender`. -/
theorem cardTenderChecksInOrder : Obligations.CardTenderChecksInOrder := by
  unfold Obligations.CardTenderChecksInOrder
  intro s amount high inHand ready amountIs
  refine ⟨cardTender s, exec_cardTender high inHand ready, ?_⟩
  have asked : cardTenderAmount s = amount := by
    rw [amountIs, cardTenderAmount]
    cases recCardAmount s.re.record <;> rfl
  refine ite_of_check ?state cardTender_refuses (ite_of_check ?held cardTender_refuses (ite_of_check ?link cardTender_refuses
    (ite_of_check ?busy cardTender_refuses (ite_of_check .rfl cardTender_refuses (ite_of_check .rfl cardTender_refuses
    (ite_of_check ?range cardTender_refuses ?passed)))))) (cardTenderCheck.eq_1 s (cardTenderAmount s))
  case state => simp
  case held => simp
  case link => simp
  case busy => simp [Option.isSome_iff_ne_none]
  case range => simp [asked, inRange]
  case passed =>
    intro check
    have passed : cardTender s = cardTendered s amount := by rw [cardTender, check, asked]
    rw [passed]
    have decided := cardTendered_decided s amount
    obtain ⟨open_, balance⟩ := open_of_cardTender check
    obtain ⟨tenders, lines, -, header⟩ := create_fields s.su .card .requested amount 0 0 s.ctu.refCounter s.re.clock
    rw [Nat.zero_min] at tenders
    have all := decided.sale.tenders.trans tenders
    refine ⟨finishRequest_answered _ _ _ _, all, decided.sale.header.trans ?header, decided.sale.lines.trans lines, by simp,
      fun x here => ?bytes, saleEventAsked_finish (saleEventAsked_suWrite _ _ _ _ _), cardTendered_requestFrame s amount⟩
    case header => rw [header open_, Nat.zero_min, Nat.sub_zero, if_neg balance]
    case bytes =>
      have entry : createdTender .card .requested amount 0 0 s.ctu.refCounter s.re.clock = x := by simpa [all] using here
      exact decided.writesTender x here (entry ▸ rfl) (entry ▸ rfl)

/-! ### CARD_CANCEL -/

theorem exec_cardCancel {s : State} (high : s.bi.inReset = false) (inHand : awaits s .cardCancel = true)
    (ready : saleReady s = true) : exec .cardCancel s = .next (cardCancel s) := stepIf_enabled high (by simp [inHand, ready])

theorem stepIf_disabled {s t : State} {enabled : Bool} (not : enabled = false) : stepIf s enabled t = .next s := by
  simp [stepIf, not]

/-- What is handed to the card link is the same for states with the same CTU and links. -/
theorem cardHanded_of_eq {s t u : State} {frame : Byte × List Byte} (h : cardHanded s t frame) (ctu : u.ctu = t.ctu)
    (link : u.link .card = t.link .card) : cardHanded s u frame := by
  unfold cardHanded at *
  rw [ctu, link]
  exact h

theorem finishRequest_link (s : State) (r : ResultCode) (d1 d2 : Word) (l : LinkId) :
    (finishRequest s r d1 d2).link l = s.link l := by
  simp [State.link]

theorem cardCancel_none {s : State} (none : outIn s .requested = none) : cardCancel s = failRequest s .wrongState := by
  simp [cardCancel, none]

theorem cardCancel_requested {s : State} {o : OutTender} (out : s.ctu.out = some o) (state : o.state = .requested) :
    cardCancel s = finishRequest (cancelTender s o true) .done (BitVec.ofNat 32 o.index) 0 := by
  simp [cardCancel, outIn_of_state out state]

/-! ### What follows the window of a creating claim (R127) -/

/-- The CTU with the tender it asks for outstanding. -/
def cardAsked (s : State) (index amount : Nat) : State :=
  s.setCtu { s.ctu with
    refCounter := nextNonzero s.ctu.refCounter
    out := some { index := index, reference := s.ctu.refCounter, amount := amount, state := .requested }
    queryAsked := false }

theorem cardAsks_moves (s : State) (index amount : Nat) :
    cardMoved (cardAsked s index amount)
      (cardSend (cardAsked s index amount) kAmountReq (amountReqPayload s s.ctu.refCounter amount))
      (s.ctu.sendList ++ [(kAmountReq, amountReqPayload s s.ctu.refCounter amount)])
      (if s.ctu.sendList ≠ [] ∧ cardLeft s = true then 0 else cardRoom s) := cardSend_moves _ _ _

theorem cardAsks_link (s : State) (index amount : Nat) (l : LinkId) : (cardAsks s index amount).link l
    = (cardSend (cardAsked s index amount) kAmountReq (amountReqPayload s s.ctu.refCounter amount)).link l := rfl

theorem cardAsks_ctu (s : State) (index amount : Nat) : (cardAsks s index amount).ctu = { s.ctu with
    refCounter := nextNonzero s.ctu.refCounter
    out := some { index := index, reference := s.ctu.refCounter, amount := amount, state := .requested }
    queryAsked := false, cardWait := startTimer s ((cfg s).cardWait * 1000)
    sendList := (cardSend (cardAsked s index amount) kAmountReq (amountReqPayload s s.ctu.refCounter amount)).ctu.sendList } := by
  have sent := (cardAsks_moves s index amount).ctu
  have asks : (cardAsks s index amount).ctu
      = { (cardSend (cardAsked s index amount) kAmountReq (amountReqPayload s s.ctu.refCounter amount)).ctu with
          cardWait := startTimer s ((cfg s).cardWait * 1000) } := by
    simp [cardAsks, startTimer, cfg, cardAsked, amountReqPayload]
  rw [asks, sent]
  rfl

/-- The AMOUNT_REQ is handed to the link behind the frames that wait (R128). -/
theorem cardAsks_handed (s : State) (index amount : Nat) :
    cardHanded s (cardAsks s index amount) (kAmountReq, amountReqPayload s s.ctu.refCounter amount) := by
  obtain ⟨n, room, queue, waits⟩ := cardHanded_of_moved (cardAsks_moves s index amount)
  exact ⟨n, room, queue, by rw [cardAsks_ctu]; exact waits⟩

theorem cardAsks_links (s : State) (index amount : Nat) (l : LinkId) (other : l ≠ .card) :
    (cardAsks s index amount).link l = s.link l := (cardAsks_moves s index amount).links l other

/-- The window of the session record is one of the request. -/
theorem cardAsks_waits (s : State) (index amount : Nat) :
    ((cardAsks s index amount).bi.waiting.any fun w => w.ofRequest) = true := by
  simp [cardAsks, askCardSession, askFixed, askWindow]

/-- A request with a window of its own still to open goes on. -/
theorem requestProgress_waits {s : State} (waits : (s.bi.waiting.any fun w => w.ofRequest) = true) : requestProgress s = s := by
  unfold requestProgress
  split
  next => rfl
  next => rw [if_pos (by simp [requestPending, waits])]

/-- A window that closes while no read is held. -/
theorem removeWindow_free {s : State} (id : Nat) (free : ∀ a n, s.bi.hostStall ≠ some (.readHeld a n)) :
    removeWindow s id = s.setBi { s.bi with opened := s.bi.opened.filter fun o => o.id != id } := by
  unfold removeWindow releaseHeld
  split
  next a n held => exact absurd held (free a n)
  next => rfl

/-- The window of a creating claim closes: the CTU asks, and the SU's event ends. -/
def tenderWindowClosed (s : State) (window index amount : Nat) : State :=
  let asks := cardAsks (s.setBi { s.bi with opened := s.bi.opened.filter fun o => o.id != window }) index amount
  asks.setSu { asks.su with event := none }

theorem closeWindow_cardAsk {s : State} {o : OpenWindow} {index amount : Nat} (after : o.after = [.cardAsk index amount, .suDone])
    (calm : s.re.resetting = []) (free : ∀ a n, s.bi.hostStall ≠ some (.readHeld a n)) :
    closeWindow s o = tenderWindowClosed s o.id index amount := by
  have followed : o.after.foldl runAfter (removeWindow s o.id) = tenderWindowClosed s o.id index amount := by
    rw [after, removeWindow_free o.id free]
    rfl
  rw [closeWindow, followed, requestProgress_waits (s := tenderWindowClosed s o.id index amount) (cardAsks_waits _ _ _),
    resumeResets_none (by simp [tenderWindowClosed, calm])]

theorem exec_windowClose {s : State} {i : Nat} {o : OpenWindow} (high : s.bi.inReset = false) (here : s.bi.opened[i]? = some o)
    (other : o.owner ≠ .nu) (written : windowWritten s o.id = true) :
    exec (.updateWindowClose i) s = .next (freedNotices s (closeWindow s o)) := by
  have runs : exec (.updateWindowClose i) s = execUpdateWindowClose i s := rfl
  simp only [runs, execUpdateWindowClose, here]
  exact stepIf_enabled high (by simp [other, written])

theorem unitBusy_of_re {s t : State} (re : t.re = s.re) (b : BlockId) : unitBusy t b = unitBusy s b := by
  simp only [unitBusy, re]

/-- Settles O38: the window's close by `cardAsks`, the cancel by `cancelTender`. -/
theorem cardAskAndCancel : Obligations.CardAskAndCancel := by
  unfold Obligations.CardAskAndCancel
  refine ⟨?asks, ?waits, ?cancel⟩
  case asks =>
    intro s i o index amount high here other written after calm free
    have closed := closeWindow_cardAsk after calm free
    have re : (tenderWindowClosed s o.id index amount).re = s.re := by simp [tenderWindowClosed]
    refine ⟨tenderWindowClosed s o.id index amount, ?step, cardAsks_ctu _ index amount, ?handed, cardAsks_links _ index amount, rfl,
      askedFor_of_bi (askedFor_askCardSession _ _) rfl, ?frame⟩
    case step =>
      rw [exec_windowClose high here other written, closed,
        freedNotices_same (unitBusy_of_re re .ctu) (unitBusy_of_re re .pu)]
    case handed =>
      exact cardAsks_handed (s.setBi { s.bi with opened := s.bi.opened.filter fun w => w.id != o.id }) index amount
    case frame =>
      exact eventFrame_setSu (cardAsks_frame _ _ _ (eventFrame_setBi (.refl _ s) (by decide)) (by decide) (by decide)) (by decide)
  case waits => exact fun s busy => stepIf_disabled (by simp [busy])
  case cancel =>
    intro s o high inHand ready out
    refine ⟨cardCancel s, exec_cardCancel high inHand ready, fun none => ?_, fun some_ state => ?_⟩
    · have notRequested : outIn s .requested = Option.none := by
        obtain no | some_ := out
        · simp [outIn, no]
        · have state : o.state ≠ .requested := none.resolve_left (by simp [some_])
          simp [outIn, some_, state]
      rw [cardCancel_none notRequested]
      exact failRequest_refuses s _
    · rw [cardCancel_requested some_ state]
      refine ⟨finishRequest_answered _ _ _ _, ?_, ?_, cardHanded_of_eq (cancelTender_handed s o true) (by simp)
        (finishRequest_link _ _ _ _ _), fun l other => (finishRequest_link _ _ _ _ _).trans (cancelTender_links_other s o true l other),
        askedFor_finishRequest (cancelTender_asked s o true),
        requestFrame_finish (cancelTender_frame s o true (.refl _ s) (by decide) (by decide)) (by simp)⟩
      · simp [cancelTender_ctu]
      · rw [finishRequest_su, cancelTender_su]
        simp

end Sys2Proof.Machine
end

section
/-! What the module's frames do at the CTU: the card session (R125; O41) and a late result beside a masked notice (R136; O42). -/

namespace Sys2Proof.Machine

/-! ### Frames taken from the card link's path -/

theorem popPath_taken (s : State) (l : LinkId) : pathTaken s (popPath s l) l :=
  ⟨by simp [popPath], fun k other => State.link_setLink_other _ _ _ k other⟩

theorem pathTaken_of_lu {s t u : State} {l : LinkId} (h : pathTaken s t l) (lu : u.lu = t.lu) : pathTaken s u l := by
  have link (k : LinkId) : u.link k = t.link k := by rw [State.link, lu]; rfl
  exact ⟨(congrArg Link.path (link l)).trans h.1, fun k other => (link k).trans (h.2 k other)⟩

theorem exec_cardIn {s : State} {p : List Byte} (high : s.bi.inReset = false) (frame : cardFrame s = some (kCardIn, p)) :
    exec .cardIn s = .next (cardNotices (cardInTaken s p)) := by
  have runs : exec .cardIn s = execCardIn s := rfl
  rw [runs, execCardIn, frame]
  exact stepIf_enabled high (by simp)

theorem exec_cardOut {s : State} {p : List Byte} (high : s.bi.inReset = false) (frame : cardFrame s = some (kCardOut, p)) :
    exec .cardOut s = .next (cardNotices (cardOutTaken s)) := by
  have runs : exec .cardOut s = execCardOut s := rfl
  rw [runs, execCardOut, frame]
  exact stepIf_enabled high (by simp)

theorem exec_moduleStatus {s : State} {p : List Byte} (high : s.bi.inReset = false)
    (frame : cardFrame s = some (kModuleStatus, p)) :
    exec .moduleStatus s = .next (cardNotices (moduleStatusTaken s p)) := by
  have runs : exec .moduleStatus s = execModuleStatus s := rfl
  rw [runs, execModuleStatus, frame]
  exact stepIf_enabled high (by simp)

theorem exec_authResult {s : State} {p : List Byte} (high : s.bi.inReset = false)
    (frame : cardFrame s = some (kAuthResult, p)) : exec .authResult s = .next (cardNotices (authResult s p)) := by
  have runs : exec .authResult s = execAuthResult s := rfl
  rw [runs, execAuthResult, frame]
  exact stepIf_enabled high (by simp)

/-! ### The card session (R125) -/

theorem askedFor_askCardIfChanged {s : State} {old : Ctu} (changed : s.ctu ≠ old) :
    askedFor (askCardIfChanged s old) .ctu .cardSession := by
  rw [askCardIfChanged, if_neg changed]
  exact askedFor_askCardSession s false

theorem reported_askCardSession {s : State} {k : CondKind} {source : Nat} {ofRequest : Bool} (h : reported s k source) :
    reported (askCardSession s ofRequest) k source := reported_of_nu h (by simp) (by simp)

theorem reported_askCardIfChanged {s : State} {old : Ctu} {k : CondKind} {source : Nat} (h : reported s k source) :
    reported (askCardIfChanged s old) k source := reported_of_nu h (by simp) (by simp)

theorem cardInTaken_ctu (s : State) (p : List Byte) : (cardInTaken s p).ctu = { s.ctu with
    present := true, scheme := payHalf p 0, entryMethod := payByte p 2, lastFour := payBytes p 3 4 } := by
  simp [cardInTaken]

theorem cardInTaken_asked (s : State) (p : List Byte) (changed : (cardInTaken s p).ctu ≠ s.ctu) :
    askedFor (cardInTaken s p) .ctu .cardSession :=
  askedFor_askCardIfChanged (by simpa [cardInTaken] using changed)

theorem cardInTaken_reported {s : State} (p : List Byte) (latches : s.nu.latches.length = 24) :
    reported (cardInTaken s p) .cardChange 0 :=
  reported_askCardIfChanged (reported_raise (by simpa using latches) nofun)

theorem cardOutTaken_absent {s : State} (absent : s.ctu.present = false) : cardOutTaken s = popPath s .card := by
  simp [cardOutTaken, absent]

/-- A session that stands is cleared. -/
theorem cardOutTaken_present {s : State} (present : s.ctu.present = true) (latches : s.nu.latches.length = 24) :
    (cardOutTaken s).ctu = { s.ctu with present := false, scheme := 0, entryMethod := 0, lastFour := zeros 4 }
      ∧ reported (cardOutTaken s) .cardChange 0 ∧ askedFor (cardOutTaken s) .ctu .cardSession := by
  rw [cardOutTaken, if_pos present]
  exact ⟨by simp, reported_askCardSession (reported_raise (by simpa using latches) nofun),
    askedFor_askCardSession _ _⟩

theorem cardOutTaken_path (s : State) : pathTaken s (cardOutTaken s) .card :=
  pathTaken_of_lu (popPath_taken s .card) (by unfold cardOutTaken; split <;> simp)

/-- Settles O41: the three frames by `cardInTaken`, `cardOutTaken` and `moduleStatusTaken`. -/
theorem cardSessionFollowsTheModule : Obligations.CardSessionFollowsTheModule := by
  unfold Obligations.CardSessionFollowsTheModule
  refine ⟨?cardIn, ?cardOut, ?status⟩
  case cardIn =>
    intro s p high latches frame
    obtain ⟨path, links⟩ := pathTaken_of_lu (u := cardInTaken s p) (popPath_taken s .card) (by simp [cardInTaken])
    exact ⟨cardInTaken s p, _, exec_cardIn high frame, cardNotices_taken _, cardInTaken_ctu s p, cardInTaken_reported p latches,
      cardInTaken_asked s p, path, links, cardInTaken_frame s p (.refl _ s) (by decide) (by decide)⟩
  case cardOut =>
    intro s p high latches frame
    obtain ⟨path, links⟩ := cardOutTaken_path s
    refine ⟨cardOutTaken s, _, exec_cardOut high frame, cardNotices_taken _, fun present => cardOutTaken_present present latches,
      fun absent => ?_, path, links, cardOutTaken_frame s (.refl _ s) (by decide) (by decide)⟩
    rw [cardOutTaken_absent absent]
    exact ⟨rfl, rfl, rfl⟩
  case status =>
    intro s p high frame
    obtain ⟨path, links⟩ := pathTaken_of_lu (u := moduleStatusTaken s p) (popPath_taken s .card) (by simp [moduleStatusTaken])
    refine ⟨moduleStatusTaken s p, _, exec_moduleStatus high frame, cardNotices_taken _, ?_, fun changed => ?_,
      by simp [moduleStatusTaken], path, links, moduleStatusTaken_frame s p (.refl _ s) (by decide) (by decide)⟩
    · simp [moduleStatusTaken, moduleOf]
    · exact askedFor_askCardIfChanged (by simpa [moduleStatusTaken] using changed)

/-! ### A late result beside a masked notice (R136, R47, R49)

The raise of a conflict makes the Notice Unit look at every latch. Where TENDER_CONFLICT is masked and a SALE_FINISHED is pending, the
look takes the latter, and asks the SU for its payload (R91). -/

/-- An AUTH_RESULT of reference 4 that declines. -/
def lateDecline : List Byte := [4, 0, 2, 0, 0, 0, 0]

/-- The verdict it disagrees with. -/
def lateVerdict : VerdictEntry := { reference := 4, index := 0, verdict := .approved, amount := 500 }

/-- The frame stands at the front of the card link's path, TENDER_CONFLICT is masked, and a SALE_FINISHED is pending. -/
def maskedConflict : State :=
  { State.reset with
    bi := { Bi.reset with noticeMask := 0x40 }
    nu := { Nu.reset with latches := Nu.reset.latches.set 10 { pending := true, count := 1, stamp := 0, source := 0 } }
    lu := { Lu.reset with card := { Link.reset with path := [.frame kAuthResult lateDecline false] } }
    ctu := { Ctu.reset with verdicts := [lateVerdict] } }

theorem maskedConflict_frame : cardFrame maskedConflict = some (kAuthResult, lateDecline) := by decide +kernel

/-- The SU is asked for the payload of the SALE_FINISHED. -/
theorem maskedConflict_asks : (authResult maskedConflict lateDecline).su.inbox = [.payloadAsk] := by decide +kernel

/-- Refutes O42: a conflict raised while TENDER_CONFLICT is masked lets a pending SALE_FINISHED ask the SU, which the statement says
is unchanged; the state is `maskedConflict`. -/
theorem not_cardResultsEndTheTender : ¬ Obligations.CardResultsEndTheTender := by
  unfold Obligations.CardResultsEndTheTender
  rintro ⟨-, -, late, -⟩
  obtain ⟨t, u, run, taken, conflict, sale, -⟩ := late maskedConflict lateDecline lateVerdict 0 2 (by decide) (by decide)
    maskedConflict_frame nofun (by decide) (by decide) (by decide) (by decide)
  rw [if_pos (by decide)] at conflict
  have noNotice : t.ctu.notices = 0 := congrArg Ctu.notices conflict.1
  have same : cardNotices (authResult maskedConflict lateDecline) = t := by
    rw [exec_authResult (by decide) maskedConflict_frame] at run
    exact (Host.Outcome.next.inj run).trans (taken.stays (.inl noNotice))
  have calm : (authResult maskedConflict lateDecline).ctu.notices = 0 := by decide +kernel
  rw [cardNotices_none _ (.inl calm)] at same
  have asked := maskedConflict_asks
  rw [same, sale] at asked
  exact absurd asked (by decide)

end Sys2Proof.Machine
end

section
/-! The card timers' expiries and the card link's changes (R131-R133; O40). -/

namespace Sys2Proof.Machine

/-! ### What a raise and a frame leave -/

theorem raise_inbox {s : State} {k : CondKind} {source : Nat} {x : SaleItem} (h : x ∈ s.su.inbox) :
    x ∈ (raise s k source).su.inbox := by
  obtain ⟨asks, su, -⟩ := look_su (s.setNu { s.nu with
    latches := s.nu.latches.set (latchIndex k source) ((latchAt s (latchIndex k source)).raised s.re.clock source) })
  have all : (raise s k source).su = { s.su with inbox := s.su.inbox ++ asks } := su
  rw [all]
  exact List.mem_append_left _ h

/-- Frames for the transmitter leave the ordered path as it is. -/
theorem offerCard_path (s : State) (fs : List (Byte × List Byte)) :
    ((offerCard s fs).link .card).path = (s.link .card).path := by
  induction fs generalizing s with
  | nil => rfl
  | cons f rest ih =>
    unfold offerCard
    split
    next =>
      rw [ih]
      simp [Link.push, Link.startTx_path]
    next => rfl

theorem cardSend_path (s : State) (kind : Byte) (payload : List Byte) :
    ((cardSend s kind payload).link .card).path = (s.link .card).path := by
  unfold cardSend cardOffers
  split
  next => exact offerCard_path _ _
  next =>
    split
    next => rfl
    next => exact offerCard_path _ _

theorem popPath_tx (s : State) (l : LinkId) : ((popPath s l).link l).tx = (s.link l).tx := by simp [popPath]

/-! ### Not knowing (R132, R133) -/

/-- The CTU of an UNRESOLVED tender. -/
def unresolvedCtu (u : Ctu) (o : OutTender) : Ctu :=
  { u with
    cardWait := none, cancelWait := none, out := some { o with state := .unresolved }
    lastOutcome := { state := .unresolved, applied := 0, reference := o.reference } }

theorem unresolve_ctu (s : State) (o : OutTender) : (unresolve s o).ctu = unresolvedCtu s.ctu o := by
  simp [unresolve, unresolvedCtu]

theorem unresolve_claims (s : State) (o : OutTender) : .tender (stateMove o .unresolved) false ∈ (unresolve s o).su.inbox :=
  raise_inbox (by simp [suSend])

theorem unresolve_reports {s : State} (o : OutTender) (latches : s.nu.latches.length = 24) :
    reported (unresolve s o) .tenderOutcome o.index := reported_raise (by simpa using latches) nofun

theorem unresolve_link (s : State) (o : OutTender) (l : LinkId) : (unresolve s o).link l = s.link l := by
  simp [State.link]

theorem queryTender_moves (s : State) (o : OutTender) :
    cardMoved s (cardSend s kStatusQuery (le2 o.reference)) (s.ctu.sendList ++ [(kStatusQuery, le2 o.reference)])
      (if s.ctu.sendList ≠ [] ∧ cardLeft s = true then 0 else cardRoom s) := cardSend_moves _ _ _

theorem queryTender_ctu (s : State) (o : OutTender) : (queryTender s o).ctu
    = { s.ctu with queryAsked := true, sendList := (queryTender s o).ctu.sendList } := by
  simp [queryTender, (queryTender_moves s o).ctu]

theorem queryTender_link (s : State) (o : OutTender) (l : LinkId) :
    (queryTender s o).link l = (cardSend s kStatusQuery (le2 o.reference)).link l := rfl

theorem queryTender_path (s : State) (o : OutTender) : ((queryTender s o).link .card).path = (s.link .card).path :=
  cardSend_path _ _ _

theorem queryTender_links (s : State) (o : OutTender) (l : LinkId) (other : l ≠ .card) :
    (queryTender s o).link l = s.link l := (queryTender_moves s o).links l other

/-- What is handed to the card link depends on the frames that wait and the link alone. -/
theorem cardHanded_of_same {s s' t t' : State} {frame : Byte × List Byte} (h : cardHanded s t frame)
    (before : s'.ctu.sendList = s.ctu.sendList) (linkBefore : s'.link .card = s.link .card)
    (after : t'.ctu.sendList = t.ctu.sendList) (linkAfter : t'.link .card = t.link .card) : cardHanded s' t' frame := by
  unfold cardHanded cardLeft at *
  rw [before, linkBefore, after, linkAfter]
  exact h

theorem queryTender_handed (s : State) (o : OutTender) : cardHanded s (queryTender s o) (kStatusQuery, le2 o.reference) :=
  cardHanded_of_same (cardHanded_of_moved (queryTender_moves s o)) rfl rfl rfl rfl

/-- The frames sent and those that wait are together those that waited, and the query behind them. -/
theorem queryTender_sent (s : State) (o : OutTender) : ∃ sent,
    ((queryTender s o).link .card).tx.map (fun f => (f.kind, f.payload))
        = (s.link .card).tx.map (fun f => (f.kind, f.payload)) ++ sent
      ∧ sent ++ (queryTender s o).ctu.sendList = s.ctu.sendList ++ [(kStatusQuery, le2 o.reference)] := by
  obtain ⟨n, -, queue, waits⟩ := queryTender_handed s o
  exact ⟨_, queue, by rw [waits, List.take_append_drop]⟩

/-! ### The cancel wait timer (R132) -/

theorem exec_cancelWaitExpiry {s : State} {o : OutTender} (high : s.bi.inReset = false)
    (due : timerDue s s.ctu.cancelWait = true) (turn : unitTakes s .ctu (.timer .cancelWait) = true)
    (out : s.ctu.out = some o) (state : o.state = .cancelling) :
    exec .cancelWaitExpiry s = .next (cardNotices (askCardSession (queryTender (unresolve s o) o) false)) := by
  have runs : exec .cancelWaitExpiry s = execCancelWaitExpiry s := rfl
  rw [runs, execCancelWaitExpiry, cancelWaitExpired, outIn_of_state out state]
  exact stepIf_enabled high (by simp [due, turn])

/-! ### The card link's changes (R133) -/

theorem exec_cardLinkChange {s : State} {old new : LinkState} (high : s.bi.inReset = false)
    (front : frontChange s .card = some (old, new)) (turn : unitTakes s .ctu .link = true) :
    exec .cardLinkChange s = .next (cardNotices (cardLinkChange s old new)) := by
  have runs : exec .cardLinkChange s = execCardLinkChange s := rfl
  rw [runs, execCardLinkChange, front]
  exact stepIf_enabled high turn

theorem cardLinkChange_quiet {s : State} {old new : LinkState} (quiet : wentQuiet s .card = true) :
    cardLinkChange s old new = popPath s .card := by
  simp [cardLinkChange, quiet]

theorem cardLinkChange_down {s : State} {old new : LinkState} (quiet : wentQuiet s .card = false) (off : new ≠ .up)
    (was : old = .up) : cardLinkChange s old new = cardLinkDown (popPath s .card) := by
  simp [cardLinkChange, quiet, off, was]

theorem cardLinkChange_back {s : State} {old new : LinkState} (quiet : wentQuiet s .card = false) (up : new = .up) :
    cardLinkChange s old new = cardLinkBack (popPath s .card) := by
  simp [cardLinkChange, quiet, up]

theorem cardLinkChange_between {s : State} {old new : LinkState} (off : new ≠ .up) (was : old ≠ .up) :
    cardLinkChange s old new = popPath s .card := by
  simp [cardLinkChange, off, was]

/-- The CTU whose link has gone: the frames that wait are dropped, and the module is NONE. -/
def lostCtu (u : Ctu) : Ctu := { u with linkUp := false, sendList := [], module := .none }

theorem cardLinkDown_none {s : State} (out : s.ctu.out = none) :
    cardLinkDown s = askCardSession (s.setCtu (lostCtu s.ctu)) false := by
  simp [cardLinkDown, lostCtu, out]

theorem cardLinkDown_unresolved {s : State} {o : OutTender} (out : s.ctu.out = some o) (state : o.state = .unresolved) :
    cardLinkDown s = askCardSession (s.setCtu { lostCtu s.ctu with queryAsked := false }) false := by
  simp [cardLinkDown, lostCtu, out, state]
  rfl

theorem cardLinkDown_going {s : State} {o : OutTender} (out : s.ctu.out = some o) (state : o.state ≠ .unresolved) :
    cardLinkDown s = askCardSession (unresolve (s.setCtu (lostCtu s.ctu)) o) false := by
  simp [cardLinkDown, lostCtu, out, state]

theorem cardLinkBack_query {s : State} {o : OutTender} (out : s.ctu.out = some o) (state : o.state = .unresolved)
    (asked : s.ctu.queryAsked = false) :
    cardLinkBack s = askCardSession (queryTender (s.setCtu { s.ctu with linkUp := true }) o) false := by
  simp [cardLinkBack, outIn, out, state, asked]

theorem cardLinkBack_calm {s : State} (calm : (∀ o, s.ctu.out = some o → o.state ≠ .unresolved) ∨ s.ctu.queryAsked = true) :
    cardLinkBack s = s.setCtu { s.ctu with linkUp := true } := by
  unfold cardLinkBack outIn
  cases out : s.ctu.out with
  | none => simp [out]
  | some o =>
    obtain going | asked := calm
    · simp [out, going o out]
    · by_cases state : o.state = .unresolved <;> simp [out, state, asked]

/-- The change leaves the path; a query's frame goes to the transmitter. -/
theorem cardLinkChange_path (s : State) (old new : LinkState) : pathTaken s (cardLinkChange s old new) .card := by
  have popped : pathTaken s (popPath s .card) .card := popPath_taken s .card
  by_cases quiet : wentQuiet s .card = true
  · rw [cardLinkChange_quiet quiet]
    exact popped
  have quiet := Bool.not_eq_true _ ▸ quiet
  by_cases up : new = .up
  · rw [cardLinkChange_back quiet up]
    by_cases query : ∃ o, (popPath s .card).ctu.out = some o ∧ o.state = .unresolved ∧ (popPath s .card).ctu.queryAsked = false
    · obtain ⟨o, out, state, asked⟩ := query
      rw [cardLinkBack_query out state asked]
      exact ⟨(queryTender_path _ o).trans popped.1, fun l other => (queryTender_links _ o l other).trans (popped.2 l other)⟩
    · rw [cardLinkBack_calm (by grind)]
      exact pathTaken_of_lu popped rfl
  · by_cases was : old = .up
    · rw [cardLinkChange_down quiet up was]
      refine pathTaken_of_lu popped ?_
      cases out : (popPath s .card).ctu.out with
      | none => simp [cardLinkDown_none out]
      | some o =>
        by_cases state : o.state = .unresolved
        · simp [cardLinkDown_unresolved out state]
        · simp [cardLinkDown_going out state]
    · rw [cardLinkChange_between up was]
      exact popped

/-- Settles O40: the card wait timer by `cancelTender`, the cancel wait timer by `unresolve` and `queryTender`, and a change by
`cardLinkDown` and `cardLinkBack`. -/
theorem cardTimersAndLink : Obligations.CardTimersAndLink := by
  unfold Obligations.CardTimersAndLink
  refine ⟨?cardWait, ?cancelWait, ?link⟩
  case cardWait =>
    intro s o high due turn out state
    exact ⟨cancelTender s o false, _, exec_cardWaitExpiry_requested high due turn out state, cardNotices_taken _,
      by rw [cancelTender_ctu], cancelTender_su s o false, cancelTender_handed s o false,
      cancelTender_links_other s o false, cancelTender_asked s o false, by simp, by simp,
      cancelTender_frame s o false (.refl _ s) (by decide) (by decide)⟩
  case cancelWait =>
    intro s o high latches due turn out state
    have ctu := queryTender_ctu (unresolve s o) o
    refine ⟨_, _, exec_cancelWaitExpiry high due turn out state, cardNotices_taken _, ?ctu, ?handed, fun l other => ?_, ?_, ?_,
      askedFor_askCardSession _ _, ?_⟩
    case ctu =>
      rw [unresolve_ctu] at ctu
      simpa [unresolvedCtu] using ctu
    case handed =>
      exact cardHanded_of_same (queryTender_handed (unresolve s o) o) (by rw [unresolve_ctu]; rfl) (unresolve_link s o .card).symm
        (by simp) rfl
    · exact (queryTender_links _ o l other).trans (unresolve_link s o l)
    · simpa using unresolve_claims s o
    · exact reported_askCardSession (reported_of_nu (unresolve_reports o latches) (by simp) (by simp))
    · exact askCardSession_frame _ _ (queryTender_frame _ _ (unresolve_frame s o (.refl _ s) (by decide)) (by decide) (by decide))
  case link =>
    intro s old new high latches front turn
    obtain ⟨path, links⟩ := cardLinkChange_path s old new
    have popped : (popPath s .card).ctu = s.ctu := by simp
    refine ⟨_, _, exec_cardLinkChange high front turn, cardNotices_taken _, path, links, fun quiet => ?quiet,
      fun quiet off was out => ?gone, fun o quiet off was out state => ?goneUnresolved, fun o quiet off was out state => ?goneGoing,
      fun quiet up calm => ?back, fun o quiet up out state asked => ?query, fun off was => ?between,
      cardLinkChange_frame s old new (.refl _ s) (by decide) (by decide)⟩
    case quiet =>
      rw [cardLinkChange_quiet quiet]
      exact ⟨popped, by simp, by simp, by simp⟩
    case gone =>
      rw [cardLinkChange_down quiet off was, cardLinkDown_none (by rw [popped]; exact out)]
      exact ⟨by simp [lostCtu], askedFor_askCardSession _ _⟩
    case goneUnresolved =>
      rw [cardLinkChange_down quiet off was, cardLinkDown_unresolved (by rw [popped]; exact out) state]
      exact ⟨by simp [lostCtu], askedFor_askCardSession _ _⟩
    case goneGoing =>
      rw [cardLinkChange_down quiet off was, cardLinkDown_going (by rw [popped]; exact out) state]
      exact ⟨by simp [unresolve_ctu, unresolvedCtu, lostCtu], by simpa using unresolve_claims _ o,
        reported_askCardSession (unresolve_reports o (by simpa using latches)), askedFor_askCardSession _ _⟩
    case back =>
      rw [cardLinkChange_back quiet up, cardLinkBack_calm (by rw [popped]; exact calm)]
      exact ⟨by simp, by simp⟩
    case query =>
      obtain ⟨sent, queue, waits⟩ := queryTender_sent ((popPath s .card).setCtu { (popPath s .card).ctu with linkUp := true }) o
      have ctu := queryTender_ctu ((popPath s .card).setCtu { (popPath s .card).ctu with linkUp := true }) o
      rw [cardLinkChange_back quiet up, cardLinkBack_query (by rw [popped]; exact out) state (by rw [popped]; exact asked)]
      refine ⟨?_, ?_, askedFor_askCardSession _ _⟩
      · simpa using ctu
      · exact ⟨sent, queue.trans (congrArg (fun tx => tx.map (fun f : TxFrame => (f.kind, f.payload)) ++ sent) (popPath_tx s .card)), by simpa using waits⟩
    case between =>
      rw [cardLinkChange_between off was]
      exact ⟨popped, by simp⟩

end Sys2Proof.Machine
end

section
/-! The attendant's verdict (R135; O43). -/

namespace Sys2Proof.Machine

/-! ### The event decided, through a notice and another window -/

theorem raise_waiting (s : State) (k : CondKind) (source : Nat) : s.bi.waiting ⊆ (raise s k source).bi.waiting :=
  (look_waiting _ : _ ⊆ (raise s k source).bi.waiting)

theorem saleDecided.raise {new : Su} {words : List (Nat × Word)} {after : List After} {ofRequest : Bool} {t : State} {k : CondKind}
    {source : Nat} (h : saleDecided new words after ofRequest t) : saleDecided new words after ofRequest (raise t k source) where
  sale := ⟨by simpa using h.sale.header, by simpa using h.sale.lines, by simpa using h.sale.tenders⟩
  number := by simpa using h.number
  claim := by simpa using h.claim
  finished := by simpa using h.finished
  event := by simpa using h.event

theorem saleDecided.of_su {new : Su} {words : List (Nat × Word)} {after : List After} {ofRequest : Bool} {t u : State}
    (h : saleDecided new words after ofRequest t) (su : u.su = t.su) : saleDecided new words after ofRequest u := by
  constructor <;> rw [su]
  · exact h.sale
  · exact h.number
  · exact h.claim
  · exact h.finished
  · exact h.event

/-- The window of the event stays asked while the event stands. -/
theorem saleEventAsked_of {t u : State} (h : saleEventAsked t) (event : u.su.event = t.su.event)
    (waiting : t.bi.waiting ⊆ u.bi.waiting) : saleEventAsked u := by
  obtain ⟨e, w, decided, asked, rest⟩ := h
  exact ⟨e, w, event.trans decided, waiting asked, rest⟩

/-! ### TENDER_VERDICT -/

theorem exec_tenderVerdict {s : State} (high : s.bi.inReset = false) (inHand : awaits s .tenderVerdict = true)
    (ready : saleReady s = true) : exec .tenderVerdict s = .next (tenderVerdict s) := stepIf_enabled high (by simp [inHand, ready])

theorem tenderVerdict_badParam {s : State} (bad : 7 < recTenderIndex s.re.record ∨ recVerdict s.re.record = none) :
    tenderVerdict s = failRequest s .badParam := by
  have none_ : (if 7 < recTenderIndex s.re.record then none else recVerdict s.re.record) = none := by
    split
    next => rfl
    next fits => exact bad.resolve_left fits
  simp [tenderVerdict, none_]

theorem tenderVerdict_needKey {s : State} {v : Verdict} (fits : ¬ 7 < recTenderIndex s.re.record)
    (named : recVerdict s.re.record = some v) (noKey : s.tu.key = false) : tenderVerdict s = failRequest s .needKey := by
  simp [tenderVerdict, fits, named, noKey]

/-- No UNRESOLVED tender stands at the entry named. -/
theorem tenderVerdict_wrongState {s : State} {v : Verdict} (fits : ¬ 7 < recTenderIndex s.re.record)
    (named : recVerdict s.re.record = some v) (key : s.tu.key = true)
    (other : ∀ o, s.ctu.out = some o → o.state ≠ .unresolved ∨ o.index ≠ recTenderIndex s.re.record) :
    tenderVerdict s = failRequest s .wrongState := by
  cases out : s.ctu.out with
  | none => simp [tenderVerdict, fits, named, key, outIn, out]
  | some o =>
    by_cases state : o.state = .unresolved
    · have index := (other o out).resolve_left (by simp [state])
      simp [tenderVerdict, fits, named, key, outIn_of_state out state, index]
    · simp [tenderVerdict, fits, named, key, outIn, out, state]

theorem tenderVerdict_given {s : State} {v : Verdict} {o : OutTender} (fits : ¬ 7 < recTenderIndex s.re.record)
    (named : recVerdict s.re.record = some v) (key : s.tu.key = true) (out : s.ctu.out = some o) (state : o.state = .unresolved)
    (index : o.index = recTenderIndex s.re.record) : tenderVerdict s = verdictGiven s o v := by
  simp [tenderVerdict, fits, named, key, outIn_of_state out state, index]

/-! ### The verdict given -/

def verdictState (v : Verdict) : TenderState := if v = .approved then .approved else .declined

/-- The SU's claim for the verdict. -/
def verdictMove (o : OutTender) (v : Verdict) : TenderMove :=
  { stateMove o (verdictState v) with amount := if v = .approved then o.amount else 0, byKey := true }

/-- The CTU keeps the verdict for a late result. -/
def verdictCtu (u : Ctu) (o : OutTender) (v : Verdict) : Ctu :=
  { u with
    out := none, queryAsked := false
    verdicts := addVerdict u.verdicts { reference := o.reference, index := o.index, verdict := v, amount := o.amount }
    lastOutcome := { state := verdictState v, applied := if v = .approved then o.amount else 0, reference := o.reference } }

/-- The SU and the CTU with the tender final. -/
def verdictTaken (s : State) (o : OutTender) (v : Verdict) : State :=
  (suMoveTender s (verdictMove o v) true).setCtu (verdictCtu s.ctu o v)

/-- The notice and the session record follow. -/
def verdictTold (s : State) (o : OutTender) (v : Verdict) : State :=
  askCardSession (raise (verdictTaken s o v) .tenderOutcome o.index) true

theorem verdictGiven_eq (s : State) (o : OutTender) (v : Verdict) : verdictGiven s o v =
    finishRequest (verdictTold s o v) .done (BitVec.ofNat 32 o.index)
      (BitVec.ofNat 32 (min (if v = .approved then o.amount else 0) s.su.balance)) := rfl

theorem verdictGiven_decided (s : State) (o : OutTender) (v : Verdict) :
    saleDecided (s.su.moveTender (verdictMove o v) s.re.clock)
      (saleWords s.su (s.su.moveTender (verdictMove o v) s.re.clock) none (some o.index)) [] true (verdictGiven s o v) := by
  rw [verdictGiven_eq]
  have taken : saleDecided (s.su.moveTender (verdictMove o v) s.re.clock)
      (saleWords s.su (s.su.moveTender (verdictMove o v) s.re.clock) none (some o.index)) [] true (verdictTaken s o v) :=
    (suWrite_decided s _ _ _ _).of_su rfl
  exact ((taken.raise (k := .tenderOutcome) (source := o.index)).of_su (by simp [verdictTold])).finish

theorem verdictGiven_asks (s : State) (o : OutTender) (v : Verdict) : saleEventAsked (verdictGiven s o v) := by
  rw [verdictGiven_eq]
  have taken : saleEventAsked (verdictTaken s o v) := saleEventAsked_of (saleEventAsked_suWrite _ _ _ _ _) rfl (List.Subset.refl _)
  refine saleEventAsked_finish (saleEventAsked_of taken (by simp [verdictTold]) ?_)
  exact List.Subset.trans (raise_waiting _ _ _) (List.subset_append_left _ _)

theorem verdictGiven_ctu (s : State) (o : OutTender) (v : Verdict) : (verdictGiven s o v).ctu = verdictCtu s.ctu o v := by
  simp [verdictGiven_eq, verdictTold, verdictTaken]

theorem verdictGiven_reports {s : State} (o : OutTender) (v : Verdict) (latches : s.nu.latches.length = 24) :
    reported (verdictGiven s o v) .tenderOutcome o.index := by
  rw [verdictGiven_eq]
  exact reported_finishRequest nofun
    (reported_askCardSession (reported_raise (by simpa [verdictTaken, suMoveTender] using latches) nofun))

theorem verdictGiven_requestFrame (s : State) (o : OutTender) (v : Verdict) : requestFrame [.su, .ctu] s (verdictGiven s o v) := by
  rw [verdictGiven_eq]
  refine requestFrame_finish ?_ (by simp [verdictTold, verdictTaken, suMoveTender])
  exact askCardSession_frame _ _ (raise_frame _ _ _ (eventFrame_setCtu
    (suMoveTender_frame _ _ _ (.refl _ s) (by decide)) (by decide)))

/-- A moved tender changes the table and the header's state alone. -/
theorem moveTender_rest (u : Su) (m : TenderMove) (clock : Word) : (u.moveTender m clock).nextNumber = u.nextNumber
    ∧ (u.moveTender m clock).claim = u.claim ∧ (u.moveTender m clock).finished = u.finished := by
  unfold Su.moveTender
  split
  next => simp [Su.afterTender]
  next => exact ⟨rfl, rfl, rfl⟩

/-- The entry of a tender settled by verdict (R97, R135). -/
def verdictTender (x : Tender) (o : OutTender) (v : Verdict) (balance : Nat) (clock : Word) : Tender :=
  { x with
    state := verdictState v
    received := if v = .approved then o.amount else x.received
    applied := if v = .approved then min o.amount balance else 0
    entryMethod := 0, lastFour := zeros 4, code := zeros 6, byKey := true, final := clock }

theorem move_verdictMove (x : Tender) (o : OutTender) (v : Verdict) (balance : Nat) (clock : Word) :
    x.move (verdictMove o v) balance clock = verdictTender x o v balance clock := by
  cases v <;> simp [Tender.move, verdictMove, verdictState, stateMove, verdictTender]

/-- Settles O43: the checks as `tenderVerdict` makes them; a verdict that is taken is `verdictGiven`. -/
theorem tenderVerdictSettles : Obligations.TenderVerdictSettles := by
  unfold Obligations.TenderVerdictSettles
  intro s i high latches inHand ready index
  refine ⟨tenderVerdict s, exec_tenderVerdict high inHand ready, ?_⟩
  have refuses (r : ResultCode) (fails : tenderVerdict s = failRequest s r) :
      answeredWith (tenderVerdict s) r 0 0 ∧ requestFrame [] s (tenderVerdict s) := fails ▸ failRequest_refuses s r
  subst index
  split
  next bad => exact refuses _ (tenderVerdict_badParam bad)
  next good =>
  obtain ⟨fits, some_⟩ := not_or.mp good
  obtain ⟨given, named⟩ := Option.ne_none_iff_exists'.mp some_
  split
  next noKey => exact refuses _ (tenderVerdict_needKey fits named noKey)
  next key =>
  have key := Bool.not_eq_false _ ▸ key
  cases out : s.ctu.out with
  | none => exact refuses _ (tenderVerdict_wrongState fits named key (by simp [out]))
  | some o =>
    dsimp only
    split
    next other => exact refuses _ (tenderVerdict_wrongState fits named key (by simpa [out] using other))
    next unresolved =>
    obtain ⟨state, here⟩ := not_or.mp unresolved
    have state := not_not.mp state
    have here := not_not.mp here
    intro v x amount verdict entry amountIs
    rw [tenderVerdict_given fits verdict key out state here, ← here, amountIs]
    have decided := verdictGiven_decided s o v
    obtain ⟨-, lines, tenders, header⟩ := moveTender_fields (u := s.su) (m := verdictMove o v) s.re.clock (here ▸ entry)
    obtain ⟨number, claim, finished⟩ := moveTender_rest s.su (verdictMove o v) s.re.clock
    have table := decided.sale.tenders.trans tenders
    rw [move_verdictMove] at table
    refine ⟨finishRequest_answered _ _ _ _, verdictGiven_ctu s o v, table, ?su, fun y at_ => ?bytes, verdictGiven_asks s o v,
      verdictGiven_reports o v latches, askedFor_finishRequest (askedFor_askCardSession _ _), verdictGiven_requestFrame s o v⟩
    case su =>
      have all : (verdictGiven s o v).su = { s.su with
          header := (verdictGiven s o v).su.header, tenders := (verdictGiven s o v).su.tenders
          event := (verdictGiven s o v).su.event, inbox := (verdictGiven s o v).su.inbox } := by
        have linesKept := decided.sale.lines.trans lines
        have numberKept := decided.number.trans number
        have claimKept := decided.claim.trans claim
        have finishedKept := decided.finished.trans finished
        cases after : (verdictGiven s o v).su
        simp_all
      have headerIs := decided.sale.header.trans header
      rw [← decided.sale.balance] at headerIs
      exact all.trans (by rw [headerIs])
    case bytes =>
      have same : y = verdictTender x o v s.su.balance s.re.clock := by
        rw [table] at at_
        have inside : o.index < s.su.tenders.length := (List.getElem?_eq_some_iff.mp (here ▸ entry)).1
        simpa [verdictMove, stateMove, inside, eq_comm] using at_
      exact decided.writesTender y at_ (same ▸ rfl) (same ▸ rfl)

end Sys2Proof.Machine
end

section
/-! The till: edges of the sensor and of the key (R139, R143-R145; O44) and the timers (R141, R144; O45). -/

namespace Sys2Proof.Machine

/-! ### Two notices of one event -/

theorem look_latches_length (s : State) : (look s).nu.latches.length = s.nu.latches.length := by
  unfold look
  split
  next =>
    split
    next => simp [beginCompletion]
    next =>
      split
      next => split <;> simp
      next => rfl
  next => rfl

theorem raise_latches_length (s : State) (k : CondKind) (source : Nat) :
    (raise s k source).nu.latches.length = s.nu.latches.length := (look_latches_length _).trans (List.length_set ..)

/-! ### Edges -/

theorem nextEdge_front {s : State} {e : Edge} {rest : List Edge} (turn : unitTakes s .tu .edge = true)
    (front : s.tu.edges = e :: rest) : nextEdge s e.input = some e := by
  simp [nextEdge, turn, front]

theorem exec_sensorEdge {s : State} {level : Bool} {rest : List Edge} (high : s.bi.inReset = false)
    (turn : unitTakes s .tu .edge = true) (front : s.tu.edges = { input := .sense, level := level } :: rest) :
    exec .sensorEdge s = .next (sensorEdge s { input := .sense, level := level }) := by
  have runs : exec .sensorEdge s = execSensorEdge s := rfl
  have next : nextEdge s .sense = some { input := .sense, level := level } := nextEdge_front turn front
  rw [runs, execSensorEdge, next]
  exact stepIf_enabled high rfl

theorem exec_keyEdge {s : State} {level : Bool} {rest : List Edge} (high : s.bi.inReset = false)
    (turn : unitTakes s .tu .edge = true) (front : s.tu.edges = { input := .key, level := level } :: rest) :
    exec .keyEdge s = .next (keyEdge s { input := .key, level := level }) := by
  have runs : exec .keyEdge s = execKeyEdge s := rfl
  have next : nextEdge s .key = some { input := .key, level := level } := nextEdge_front turn front
  rw [runs, execKeyEdge, next]
  exact stepIf_enabled high rfl

theorem askedFor_askTuStatus (s : State) (ofRequest : Bool) : askedFor (askTuStatus s ofRequest) .tu .statusPage :=
  askedFor_askLiveAfter (List.mem_singleton_self _)

theorem askedFor_askTuEvent {s : State} (ready : s.re.device = .ready) : askedFor (askTuEvent s) .tu .statusPage := by
  rw [askTuEvent, if_pos (by simp [ready])]
  exact askedFor_askTuStatus s false

theorem reported_askTuEvent {s : State} {k : CondKind} {source : Nat} (h : reported s k source) : reported (askTuEvent s) k source :=
  reported_of_nu h (by simp) (by simp)

theorem reported_askTuStatus {s : State} {ofRequest : Bool} {k : CondKind} {source : Nat} (h : reported s k source) :
    reported (askTuStatus s ofRequest) k source := reported_of_nu h (by simp) (by simp)

theorem askTuEvent_till (s : State) : (askTuEvent s).tu = s.tu ∧ (askTuEvent s).ju = s.ju := by simp

/-! ### The drawer -/

/-- The Till Unit once it has taken a sensor edge. -/
def edgeTaken (s : State) (level : Bool) : State :=
  s.setTu { s.tu with edges := s.tu.edges.tail, sensor := level, sensorStamp := s.re.clock }

theorem sensorEdge_unconfigured {s : State} {level : Bool} (unconfigured : s.re.device = .unconfigured) :
    sensorEdge s { input := .sense, level := level } = askTuEvent (followSensor (edgeTaken s level) level) := by
  simp [sensorEdge, edgeTaken, unconfigured]

theorem sensorEdge_ready {s : State} {level : Bool} (ready : s.re.device = .ready) :
    sensorEdge s { input := .sense, level := level } = askTuEvent (sensorReady (edgeTaken s level) level) := by
  simp [sensorEdge, edgeTaken, ready]

theorem sensorReady_device (s : State) (level : Bool) : (sensorReady s level).re = s.re := by simp

/-- The Till Unit of a drawer that has just been opened. -/
def openTu (s : State) (forced : Bool) : Tu :=
  { s.tu with
    drawer := .opened, forced := forced, width := none, confirm := none, solenoid := false, openStamp := s.re.clock
    limitTimer := startTimer s ((cfg s).drawerLimit * 1000) }

theorem enterOpen_tu (s : State) (forced : Bool) : (enterOpen s forced).tu = openTu s forced := by
  simp [enterOpen, openTu]

theorem enterOpen_reports {s : State} (forced : Bool) (latches : s.nu.latches.length = 24) :
    reported (enterOpen s forced) .drawerOpened 0 := reported_raise latches nofun

/-- The count, the tell to the Journal Unit and DRAWER_FORCED, before the drawer enters OPEN (R143). -/
def openingForced (s : State) : State :=
  raise (((s.setTu { s.tu with forcedCount := sat s.tu.forcedCount }).setJu { s.ju with tells := s.ju.tells + 1 }).setTu
    { s.tu with forcedCount := sat s.tu.forcedCount, drawer := .opened, forced := true }) .drawerForced 0

theorem forcedOpening_eq (s : State) : forcedOpening s = enterOpen (openingForced s) true := rfl

theorem openingForced_reports {s : State} (latches : s.nu.latches.length = 24) : reported (openingForced s) .drawerForced 0 :=
  reported_raise (by simpa using latches) nofun

/-- Of a drawer that enters OPEN the notices before DRAWER_OPENED stay. -/
theorem enterOpen_keeps_forced {s : State} {forced : Bool} (h : reported s .drawerForced 0) :
    reported (enterOpen s forced) .drawerForced 0 := by
  unfold enterOpen
  exact reported_raise_other nofun (by decide) (reported_of_nu h (by simp) (by simp))

/-- A forced opening counts, and both its notices are raised (R143). -/
theorem forcedOpening_does {s : State} (latches : s.nu.latches.length = 24) :
    (forcedOpening s).tu = { openTu s true with forcedCount := sat s.tu.forcedCount }
      ∧ (forcedOpening s).ju = { s.ju with tells := s.ju.tells + 1 }
      ∧ reported (forcedOpening s) .drawerForced 0 ∧ reported (forcedOpening s) .drawerOpened 0 := by
  rw [forcedOpening_eq]
  exact ⟨by simp [enterOpen_tu, openTu, openingForced, startTimer, cfg], by simp [openingForced],
    enterOpen_keeps_forced (openingForced_reports latches), enterOpen_reports true ((raise_latches_length _ _ _).trans latches)⟩

theorem drawerShut_does {s : State} (latches : s.nu.latches.length = 24) :
    (drawerShut s).tu = { s.tu with drawer := .shut, forced := false, limitTimer := none, closeStamp := s.re.clock }
      ∧ (drawerShut s).ju = s.ju ∧ reported (drawerShut s) .drawerShut 0 :=
  ⟨by simp [drawerShut], by simp [drawerShut], reported_raise latches nofun⟩

/-- An edge that finds the drawer as it says only follows the reading. -/
theorem sensorReady_calm {s : State} {level : Bool}
    (calm : (level = true ∧ s.tu.drawer = .opened) ∨ (level = false ∧ s.tu.drawer ≠ .opened)) : sensorReady s level = s := by
  obtain ⟨rfl, opened⟩ | ⟨rfl, other⟩ := calm
  · simp [sensorReady, opened]
  · simp [sensorReady, other]

/-- Whatever the drawer does, the reading, its stamp and the edges that wait stay. -/
theorem sensorReady_readings (s : State) (level : Bool) : (sensorReady s level).tu.sensor = s.tu.sensor
    ∧ (sensorReady s level).tu.sensorStamp = s.tu.sensorStamp ∧ (sensorReady s level).tu.edges = s.tu.edges := by
  unfold sensorReady
  split
  next =>
    split
    · simp [enterOpen_tu, openTu]
    · simp [forcedOpening_eq, enterOpen_tu, openTu, openingForced]
    · simp [forcedOpening_eq, enterOpen_tu, openTu, openingForced]
    · simp
  next =>
    split
    · simp [drawerShut]
    · simp

theorem sensorEdge_tu (s : State) (level : Bool) : (sensorEdge s { input := .sense, level := level }).tu.sensor = level
    ∧ (sensorEdge s { input := .sense, level := level }).tu.sensorStamp = s.re.clock
    ∧ (sensorEdge s { input := .sense, level := level }).tu.edges = s.tu.edges.tail := by
  have kept := sensorReady_readings (edgeTaken s level) level
  cases device : s.re.device with
  | unconfigured =>
    rw [sensorEdge_unconfigured device]
    simp [followSensor, edgeTaken]
  | ready =>
    rw [sensorEdge_ready device]
    simpa [edgeTaken] using kept

/-- Settles O44: the sensor's edges by `enterOpen`, `forcedOpening`, `drawerShut` and `followSensor`; the key's by `keyEdge`. -/
theorem drawerFollowsTheSensor : Obligations.DrawerFollowsTheSensor := by
  unfold Obligations.DrawerFollowsTheSensor
  refine ⟨?sensor, ?key, fun s high told => stepIf_enabled high (decide_eq_true told)⟩
  case sensor =>
    intro s level rest high latches turn front
    obtain ⟨sensor, stamp, edges⟩ := sensorEdge_tu s level
    have tail : s.tu.edges.tail = rest := by rw [front, List.tail_cons]
    have taken : (edgeTaken s level).tu = { s.tu with edges := rest, sensor := level, sensorStamp := s.re.clock } := by
      rw [← tail]
      rfl
    refine ⟨_, exec_sensorEdge high turn front, sensor, stamp, edges.trans tail, fun device => ?follows, fun device up kicking => ?opens,
      fun device up shut => ?forced, fun device down opened => ?shuts, fun device calm => ?calm, fun device => ?asked,
      sensorEdge_frame s _ (.refl _ s) (by decide) (by decide)⟩
    case follows =>
      rw [sensorEdge_unconfigured device]
      simp [followSensor, edgeTaken, tail]
    case opens =>
      subst up
      rw [sensorEdge_ready device]
      have does : sensorReady (edgeTaken s true) true = enterOpen (edgeTaken s true) false := by
        simp [sensorReady, edgeTaken, kicking]
      rw [does]
      refine ⟨?_, by simp [edgeTaken], reported_askTuEvent (enterOpen_reports false latches)⟩
      simp [enterOpen_tu, openTu, edgeTaken, tail, startTimer, cfg]
    case forced =>
      subst up
      rw [sensorEdge_ready device]
      have does : sensorReady (edgeTaken s true) true = forcedOpening (edgeTaken s true) := by
        obtain shut | fault := shut
        · simp [sensorReady, edgeTaken, shut]
        · simp [sensorReady, edgeTaken, fault]
      obtain ⟨tu, ju, forced, opened⟩ := forcedOpening_does (s := edgeTaken s true) latches
      rw [does]
      refine ⟨?_, ?_, reported_askTuEvent forced, reported_askTuEvent opened⟩
      · rw [(askTuEvent_till _).1, tu, openTu, taken]
        simp [edgeTaken, startTimer, cfg]
      · rw [(askTuEvent_till _).2, ju]
        simp [edgeTaken]
    case shuts =>
      subst down
      rw [sensorEdge_ready device]
      have does : sensorReady (edgeTaken s false) false = drawerShut (edgeTaken s false) := by
        simp [sensorReady, edgeTaken, opened]
      obtain ⟨tu, ju, shut⟩ := drawerShut_does (s := edgeTaken s false) latches
      rw [does]
      refine ⟨?_, ?_, reported_askTuEvent shut⟩
      · rw [(askTuEvent_till _).1, tu, taken]
        simp [edgeTaken]
      · rw [(askTuEvent_till _).2, ju]
        simp [edgeTaken]
    case calm =>
      rw [sensorEdge_ready device, sensorReady_calm (by simpa [edgeTaken] using calm)]
      exact ⟨by simp [taken], by simp [edgeTaken], by simp [edgeTaken]⟩
    case asked =>
      rw [sensorEdge_ready device]
      exact askedFor_askTuEvent (by simpa [edgeTaken] using device)
  case key =>
    intro s level rest high turn front
    have tail : s.tu.edges.tail = rest := by rw [front, List.tail_cons]
    refine ⟨_, exec_keyEdge high turn front, ?_, by simp [keyEdge], fun device => ?_, keyEdge_frame s _ (.refl _ s) (by decide)⟩
    · simp [keyEdge, tail]
    · exact askedFor_askTuEvent device

/-! ### Timers -/

theorem exec_kickConfirmExpiry {s : State} (high : s.bi.inReset = false) (kicking : s.tu.drawer = .kicking)
    (due : timerDue s s.tu.confirm = true) (ended : s.tu.width = none) (turn : unitTakes s .tu (.timer .kickConfirm) = true) :
    exec .kickConfirmExpiry s = .next (kickConfirmExpired s) := stepIf_enabled high (by simp [kicking, due, ended, turn])

/-- Settles O45: the second attempt and the FAULT are the branches of `kickConfirmExpired`. -/
theorem tillTimers : Obligations.TillTimers := by
  unfold Obligations.TillTimers
  refine ⟨fun s high due turn => stepIf_enabled high (by simp [due, turn]), ?confirm, ?limit⟩
  case confirm =>
    intro s high latches kicking due ended turn
    refine ⟨_, exec_kickConfirmExpiry high kicking due ended turn, fun first => ?_, fun second => ?_, ?_,
      kickConfirmExpired_frame s (.refl _ s) (by decide)⟩
    · rw [kickConfirmExpired, if_pos first]
      simp [startPulse]
    · rw [kickConfirmExpired, if_neg second]
      exact ⟨by simp, reported_askTuStatus (reported_raise latches nofun)⟩
    · unfold kickConfirmExpired
      split <;> exact askedFor_askTuStatus _ _
  case limit =>
    intro s high latches opened due turn
    exact ⟨drawerLimitExpired s, stepIf_enabled high (by simp [opened, due, turn]), by simp [drawerLimitExpired],
      reported_raise latches nofun, drawerLimitExpired_frame s (.refl _ s) (by decide)⟩

end Sys2Proof.Machine
end

section
/-! The printer link's notices (R24, R153; log 44). A notice offers the frame that waits; after it the frame is taken, or finds the
queue full, or may not be sent, so the notices taken after it only count. -/

namespace Sys2Proof.Machine

/-- A notice leaves the mark `b`, and nothing else moves: no frame waits, or it may not be sent, or the queue is full. -/
def noticeKept (s : State) (b : Bool) : Prop :=
  (s.pu.ready = none ∧ b = false)
    ∨ ((∃ f, s.pu.ready = some f)
        ∧ ((s.pu.maySend = false ∧ b = true)
          ∨ (s.pu.maySend = true ∧ linkTakes s .printer = false ∧ (s.link .printer).state = .up ∧ b = false)))

theorem offerPrint_full {s : State} {f : ReadyFrame} (full : linkTakes s .printer = false) (up : (s.link .printer).state = .up) :
    offerPrint s f = s.setPu { s.pu with ready := some f, notice := false } := by
  simp [offerPrint, full, up]

theorem offerPrint_lost {s : State} {f : ReadyFrame} (down : (s.link .printer).state ≠ .up) :
    offerPrint s f = s.setPu { s.pu with ready := none, lost := true } := by
  simp [offerPrint, linkTakes, down]

theorem offerPrint_taken {s : State} {f : ReadyFrame} (takes : linkTakes s .printer = true) :
    offerPrint s f = askPu s.pu ((linkSend s .printer f.kind f.payload).setPu (s.pu.taken f)) false := by
  simp [offerPrint, takes]

/-- The mark of a notice is dropped. -/
def unmarked (s : State) : State := s.setPu { s.pu with notice := false }

theorem printOffers_none {s : State} (none_ : s.pu.ready = none) : printOffers s = s := by
  simp only [printOffers, none_]

theorem printOffers_kept {s : State} {f : ReadyFrame} (waits : s.pu.ready = some f) (not : s.pu.maySend = false) :
    printOffers s = s := by
  simp [printOffers, waits, not]

theorem printOffers_offers {s : State} {f : ReadyFrame} (waits : s.pu.ready = some f) (marked : s.pu.notice = true)
    (may : s.pu.maySend = true) : printOffers s = offerPrint (unmarked s) f := by
  simp only [printOffers, waits, marked, may, Bool.and_self, if_true, unmarked]

theorem takeSent_none {s : State} (none_ : s.pu.ready = none) : takeSent s = s.setPu { s.pu with notice := false } := by
  have none_marked : s.pu.ready.isSome = false := by simp [none_]
  rw [takeSent, none_marked]
  exact printOffers_none none_

theorem takeSent_waits {s : State} {f : ReadyFrame} (waits : s.pu.ready = some f) (not : s.pu.maySend = false) :
    takeSent s = s.setPu { s.pu with notice := true } := by
  have marked : s.pu.ready.isSome = true := by simp [waits]
  rw [takeSent, marked]
  exact printOffers_kept (s := s.setPu { s.pu with notice := true }) waits not

theorem takeSent_offers {s : State} {f : ReadyFrame} (waits : s.pu.ready = some f) (may : s.pu.maySend = true) :
    takeSent s = offerPrint (unmarked s) f := by
  have marked : s.pu.ready.isSome = true := by simp [waits]
  rw [takeSent, marked]
  exact printOffers_offers (s := s.setPu { s.pu with notice := true }) waits rfl may

theorem takeSent_kept {s : State} {b : Bool} (h : noticeKept s b) : takeSent s = s.setPu { s.pu with notice := b } := by
  obtain ⟨none_, rfl⟩ | ⟨⟨f, waits⟩, ⟨not, rfl⟩ | ⟨may, full, up, rfl⟩⟩ := h
  · exact takeSent_none none_
  · exact takeSent_waits waits not
  · rw [takeSent_offers waits may, offerPrint_full (s := unmarked s) full up, ← waits]
    rfl

theorem Pu.advance_fields (u : Pu) (k : FlightKind) : u.advance k = { u with
    nextUnsent := (u.advance k).nextUnsent, blockNext := (u.advance k).blockNext, jobs := (u.advance k).jobs } := by
  unfold Pu.advance
  split
  · rfl
  · split <;> rfl
  · rfl

/-- What the PU makes of a frame the link has taken (R153). -/
theorem Pu.taken_fields (u : Pu) (f : ReadyFrame) : u.taken f = { u with
    flight := u.flight ++ [{ seq := u.lineSeq, kind := f.flight }], credits := u.credits - 1, lineSeq := u.lineSeq + 1
    ready := none, nextUnsent := (u.taken f).nextUnsent, blockNext := (u.taken f).blockNext, jobs := (u.taken f).jobs } := by
  unfold Pu.taken
  exact Pu.advance_fields _ _

theorem Pu.taken_parts (u : Pu) (f : ReadyFrame) : (u.taken f).ready = none
    ∧ (u.taken f).flight = u.flight ++ [{ seq := u.lineSeq, kind := f.flight }] ∧ (u.taken f).credits = u.credits - 1
    ∧ (u.taken f).lineSeq = u.lineSeq + 1 ∧ (u.taken f).notices = u.notices ∧ (u.taken f).notice = u.notice := by
  rw [Pu.taken_fields]
  exact ⟨rfl, rfl, rfl, rfl, rfl, rfl⟩

theorem takeSent_settles (s : State) : noticeKept (takeSent s) (takeSent s).pu.notice := by
  cases waits : s.pu.ready with
  | none =>
    rw [takeSent_none waits]
    exact .inl ⟨waits, rfl⟩
  | some f =>
    cases may : s.pu.maySend with
    | false =>
      rw [takeSent_waits waits may]
      exact .inr ⟨⟨f, waits⟩, .inl ⟨may, rfl⟩⟩
    | true =>
      rw [takeSent_offers waits may]
      by_cases up : (s.link .printer).state = .up
      · cases takes : linkTakes s .printer with
        | false =>
          rw [offerPrint_full (s := unmarked s) takes up]
          exact .inr ⟨⟨f, rfl⟩, .inr ⟨may, takes, up, rfl⟩⟩
        | true =>
          rw [offerPrint_taken (s := unmarked s) takes]
          exact .inl (by simp [Pu.taken_parts, unmarked])
      · rw [offerPrint_lost (s := unmarked s) up]
        exact .inl ⟨rfl, rfl⟩

theorem takeSent_notices (s : State) : (takeSent s).pu.notices = s.pu.notices := by
  cases waits : s.pu.ready with
  | none => simp [takeSent_none waits]
  | some f =>
    cases may : s.pu.maySend with
    | false => simp [takeSent_waits waits may]
    | true =>
      rw [takeSent_offers waits may]
      unfold offerPrint
      dsimp only
      split
      next => simp [Pu.taken_parts, unmarked]
      next => split <;> rfl

/-- Of notices that find the frame as it stays only their count changes. -/
theorem takePrintNotices_kept {s : State} {b : Bool} (kept : noticeKept s b) (seen : s.pu.notice = b) {n : Nat}
    (count : s.pu.notices = n) :
    ∃ m ≤ n, takePrintNotices n s = s.setPu { s.pu with notices := m }
      ∧ (m = 0 ∨ unitTakes (takePrintNotices n s) .pu .sent = false) := by
  induction n generalizing s with
  | zero => exact ⟨0, Nat.le_refl _, by rw [takePrintNotices, ← count]; rfl, .inl rfl⟩
  | succ n ih =>
    by_cases takes : unitTakes s .pu .sent = true
    · have still : noticeKept (s.setPu { s.pu with notices := s.pu.notices - 1 }) b := kept
      obtain ⟨m, le, same, last⟩ := ih still seen (by simp [count])
      have step : takePrintNotices (n + 1) s = takePrintNotices n (s.setPu { s.pu with notices := s.pu.notices - 1 }) := by
        rw [takePrintNotices, if_pos takes, takeSent_kept still, ← seen]
        rfl
      exact ⟨m, Nat.le_succ_of_le le, step.trans same, step ▸ last⟩
    · have stop : takePrintNotices (n + 1) s = s := by rw [takePrintNotices, if_neg takes]
      exact ⟨n + 1, Nat.le_refl _, by rw [stop, ← count]; rfl, .inr (by rw [stop]; exact Bool.eq_false_iff.mpr takes)⟩

/-- A notice is counted as taken. -/
def noticeCounted (s : State) : State := s.setPu { s.pu with notices := s.pu.notices - 1 }

/-- The notices whose turn has come: the first offers the frame, and the others only count. -/
theorem printNotices_first {s : State} (some_ : s.pu.notices ≠ 0) (takes : unitTakes s .pu .sent = true) :
    ∃ m < s.pu.notices, printNotices s
        = (takeSent (noticeCounted s)).setPu { (takeSent (noticeCounted s)).pu with notices := m }
      ∧ (m = 0 ∨ unitTakes (printNotices s) .pu .sent = false) := by
  obtain ⟨n, count⟩ := Nat.exists_eq_succ_of_ne_zero some_
  have left : (takeSent (noticeCounted s)).pu.notices = n := by
    rw [takeSent_notices]
    simp [noticeCounted, count]
  obtain ⟨m, le, same, last⟩ := takePrintNotices_kept (takeSent_settles (noticeCounted s)) rfl left
  have step : printNotices s = takePrintNotices n (takeSent (noticeCounted s)) := by
    rw [printNotices, count, takePrintNotices, if_pos takes]
    rfl
  exact ⟨m, by omega, step.trans same, step ▸ last⟩

theorem maySend_iff (u : Pu) : u.maySend = true ↔ u.cond = .ready ∧ 0 < u.credits ∧ u.lost = false := by
  simp [Pu.maySend, and_assoc]

theorem printNotices_taken (t : State) : printNoticesTaken t (printNotices t) := by
  have frame : eventFrame [.pu, .lu] t (printNotices t) := takePrintNotices_frame _ _ (.refl _ t) (by decide) (by decide)
  by_cases stays : t.pu.notices = 0 ∨ unitTakes t .pu .sent = false
  · have same := printNotices_none t stays
    have never {P : Prop} (some_ : t.pu.notices ≠ 0) (takes : unitTakes t .pu .sent = true) : P :=
      (stays.elim some_ fun not => by simp [not] at takes).elim
    exact ⟨fun _ => same, fun a b => never a b, fun _ => by rw [same]; exact ⟨rfl, rfl, rfl⟩, fun _ _ a b => never a b,
      fun _ _ a b => never a b, fun _ _ => by rw [same], frame⟩
  · obtain ⟨some_, takes⟩ := not_or.mp stays
    have takes := Bool.not_eq_false _ ▸ takes
    obtain ⟨m, less, same, last⟩ := printNotices_first some_ takes
    have none_ (none_ : t.pu.ready = none) : takeSent (noticeCounted t) = (noticeCounted t).setPu
        { (noticeCounted t).pu with notice := false } := takeSent_none none_
    have pu : (printNotices t).pu = { (takeSent (noticeCounted t)).pu with notices := m } := by rw [same]; rfl
    have lu : (printNotices t).lu = (takeSent (noticeCounted t)).lu := by rw [same]; rfl
    have bi : (printNotices t).bi = (takeSent (noticeCounted t)).bi := by rw [same]; rfl
    have link (l : LinkId) : (printNotices t).link l = (takeSent (noticeCounted t)).link l := by rw [same]; rfl
    have may {f : ReadyFrame} (waits : t.pu.ready = some f) (ready : t.pu.cond = .ready) (credit : 0 < t.pu.credits)
        (told : t.pu.lost = false) : takeSent (noticeCounted t)
          = offerPrint (unmarked (noticeCounted t)) f :=
      takeSent_offers waits ((maySend_iff (noticeCounted t).pu).mpr ⟨ready, credit, told⟩)
    refine ⟨fun h => absurd h stays, fun _ _ => ⟨?_, ?_⟩, fun idle => ?idle, fun f waits _ _ not => ?waits,
      fun f waits _ _ ready credit told => ⟨fun up room => ?taken, fun up full => ?full, fun down => ?lost⟩, fun l other => ?links, frame⟩
    · rw [pu]
      exact less
    · rw [pu]
      exact last
    case idle =>
      rw [pu, lu, bi, none_ idle]
      exact ⟨rfl, rfl, rfl⟩
    case waits =>
      have cannot : (noticeCounted t).pu.maySend = false := by
        refine Bool.eq_false_iff.mpr fun may => ?_
        obtain ⟨ready, credit, told⟩ := (maySend_iff (noticeCounted t).pu).mp may
        obtain off | none_ | lost := not
        · exact off ready
        · exact absurd none_ (Nat.ne_of_gt credit)
        · exact absurd (lost.symm.trans told) nofun
      rw [pu, lu, bi, takeSent_waits (s := noticeCounted t) waits cannot]
      exact ⟨rfl, rfl, rfl⟩
    case taken =>
      have takes : linkTakes (unmarked (noticeCounted t)) .printer = true := by
        have upBool := decide_eq_true up
        have roomBool := decide_eq_true room
        exact Bool.and_eq_true_iff.mpr ⟨upBool, roomBool⟩
      have offered := (may waits ready credit told).trans (offerPrint_taken takes)
      have puIs : (takeSent (noticeCounted t)).pu
          = (unmarked (noticeCounted t)).pu.taken f := by rw [offered]; simp
      rw [pu, link, puIs]
      obtain ⟨readyNone, flight, credits, lineSeq, -, -⟩ := (unmarked (noticeCounted t)).pu.taken_parts f
      have pushed : (takeSent (noticeCounted t)).link .printer = (t.link .printer).push f.kind f.payload := by
        rw [offered]
        exact State.link_setLink_same (unmarked (noticeCounted t)) .printer _
      refine ⟨readyNone, flight, credits, lineSeq, ?_, ?_⟩
      · rw [pushed]
        exact Link.push_made _ _ _
      · refine askedFor_of_bi ?_ (congrArg Bi.waiting bi)
        rw [offered]
        exact askedFor_askPu
    case full =>
      have takes : linkTakes (unmarked (noticeCounted t)) .printer = false := by
        have fullBool : decide ((t.link .printer).tx.length < 4) = false := decide_eq_false (Nat.not_lt.mpr full)
        exact Bool.and_eq_false_iff.mpr (.inr fullBool)
      rw [pu, lu, bi, (may waits ready credit told).trans (offerPrint_full takes up), ← waits]
      exact ⟨rfl, rfl, rfl⟩
    case lost =>
      rw [pu, lu, bi, (may waits ready credit told).trans (offerPrint_lost down)]
      exact ⟨rfl, rfl, rfl, rfl⟩
    case links =>
      rw [link]
      cases waits : t.pu.ready with
      | none =>
        rw [none_ waits]
        rfl
      | some f =>
        cases sends : (noticeCounted t).pu.maySend with
        | false =>
          rw [takeSent_waits (s := noticeCounted t) waits sends]
          rfl
        | true =>
          rw [takeSent_offers (s := noticeCounted t) waits sends]
          unfold offerPrint
          dsimp only
          split
          next => exact State.link_setLink_other _ _ _ l other
          next => split <;> rfl

/-! ### Notices freed by a request that ends (R24) -/

theorem freedNotices_freed (s t : State) : noticesFreed s t (freedNotices s t) := by
  refine ⟨if unitBusy s .ctu then cardNotices t else t, fun busy => ?_, fun free => ?_, fun busy => ?_, fun free => ?_⟩
  · rw [if_pos busy]
    exact cardNotices_taken t
  · rw [if_neg (by simp [free])]
  · rw [freedNotices, if_pos busy]
    exact printNotices_taken _
  · rw [freedNotices, if_neg (by simp [free])]

end Sys2Proof.Machine
end

section
/-! CASH_TENDER with its kick (R146, R147; O46) and DRAWER_NOSALE with its entry (R148, R168, R169, R173; O47). -/

namespace Sys2Proof.Machine

/-! ### The bytes of a journal entry (R169, R179) -/

theorem journalBody_eq (e : JournalEntry) (incomplete : Bool) : journalBody e incomplete
    = entryBytes e ((if incomplete then 1 else 0) + (if e.byKey then 2 else 0)) := by
  simp only [journalBody, entryBytes, List.map_cons, List.map_nil, List.flatten_cons, List.flatten_nil, List.append_nil,
    List.append_assoc]
  rfl

theorem entryBytes_length (e : JournalEntry) (flags : Byte) : (entryBytes e flags).length = 62 := by
  simp [entryBytes, le4_length, le2_length]

/-- The 16 words of an entry are its bytes 0 to 61 and its check code. -/
theorem journal_bytesFrom (off : Nat) (e : JournalEntry) (incomplete : Bool) :
    bytesFrom off (wordsAt off (journalWords e incomplete)) (journalBody e incomplete ++ le2 e.check) := by
  refine bytesFrom_packWords _ ?_
  rw [List.length_append, journalBody_eq, entryBytes_length, le2_length]
  decide

/-! ### CASH_TENDER -/

theorem exec_cashTender {s : State} (high : s.bi.inReset = false) (inHand : awaits s .cashTender = true)
    (ready : saleReady s = true) : exec .cashTender s = .next (cashTender s) := stepIf_enabled high (by simp [inHand, ready])

theorem cashTender_refuses {s : State} {r : ResultCode} (check : cashTenderCheck s = some r) :
    answeredWith (cashTender s) r 0 0 ∧ requestFrame [] s (cashTender s) := by
  rw [cashTender, check]
  exact failRequest_refuses s r

theorem cardInProgress_iff (u : Su) : u.cardInProgress = true
    ↔ ∃ x ∈ u.tenders, x.state = .requested ∨ x.state = .cancelling ∨ x.state = .unresolved := by
  simp [Su.cardInProgress, or_assoc]

/-- A request that passes finds the sale OPEN or TENDERING. -/
theorem open_of_cashTender {s : State} (check : cashTenderCheck s = none) :
    s.su.header.state = .opened ∨ s.su.header.state = .tendering := by
  simp only [cashTenderCheck] at check
  grind

/-- The sale with the cash tender of amount `a`. -/
def cashSale (s : State) (a : Nat) : Su := s.su.create .cash .taken a a a 0 s.re.clock

theorem cashTendered_decided (s : State) :
    saleDecided (cashSale s (recCashAmount s.re.record))
      (saleWords s.su (cashSale s (recCashAmount s.re.record)) none (some s.su.tenders.length)) [.kick .cash] true
      (cashTendered s) := (suWrite_decided _ _ _ _ _).finish

theorem cashTendered_requestFrame (s : State) : requestFrame [.su] s (cashTendered s) :=
  requestFrame_finish (suWrite_frame _ _ _ _ _ (.refl _ s) (by decide)) (by simp)

/-! ### The kick after the window (R147) -/

/-- A live ask of the request waits, in a window of its own or gathered into another. -/
theorem gatherInto_ofRequest {owner : BlockId} {sections : List LaneSection} {live : List LiveBlock} {after : List After}
    {ws : List WindowAsk} (gathered : ws.any (gathers owner live) = true) :
    ((gatherInto owner sections live after true ws).any fun w => w.ofRequest) = true := by
  induction ws with
  | nil => exact nomatch gathered
  | cons w rest ih =>
    unfold gatherInto
    split
    next => simp
    next other =>
      have later : rest.any (gathers owner live) = true := by simpa [other] using gathered
      rw [List.any_cons, ih later, Bool.or_true]

theorem askTuStatus_waits (s : State) : ((askTuStatus s true).bi.waiting.any fun w => w.ofRequest) = true := by
  simp only [askTuStatus, askLive, askLiveAfter]
  split
  next gathered => exact gatherInto_ofRequest gathered
  next => simp [askWindow]

/-- An open window leaves. -/
def windowGone (s : State) (window : Nat) : State :=
  s.setBi { s.bi with opened := s.bi.opened.filter fun o => o.id != window }

/-- The window of a cash tender closes: the kick, and the SU's event ends. -/
def cashWindowClosed (s : State) (window : Nat) : State :=
  (beginKick (windowGone s window) .cash true).setSu { (beginKick (windowGone s window) .cash true).su with event := none }

theorem closeWindow_kick {s : State} {o : OpenWindow} (after : o.after = [.kick .cash, .suDone]) (calm : s.re.resetting = [])
    (free : ∀ a n, s.bi.hostStall ≠ some (.readHeld a n)) : closeWindow s o = requestProgress (cashWindowClosed s o.id) := by
  have followed : o.after.foldl runAfter (removeWindow s o.id) = cashWindowClosed s o.id := by
    rw [after, removeWindow_free o.id free]
    rfl
  rw [closeWindow, followed, resumeResets_none (by simp [cashWindowClosed, windowGone, calm])]

/-- A shut drawer is kicked. -/
theorem beginKick_shut {s : State} (cause : KickCause) (ofRequest : Bool) (shut : s.tu.drawer = .shut) :
    beginKick s cause ofRequest
      = askTuStatus (s.setTu (startPulse s { s.tu with drawer := .kicking, cause := cause, attempts := 1 })) ofRequest :=
  if_pos shut

theorem cashWindowClosed_frame (s : State) (window : Nat) : eventFrame [.bi, .re, .su, .tu] s (cashWindowClosed s window) :=
  eventFrame_setSu (beginKick_frame _ _ _ (eventFrame_setBi (.refl _ s) (by decide)) (by decide)) (by decide)

theorem cashWindowClosed_re (s : State) (window : Nat) : (cashWindowClosed s window).re = s.re := by
  simp [cashWindowClosed, windowGone]

/-- The kick's Status Page write belongs to the request, which goes on. -/
theorem cashWindowClosed_shut {s : State} (window : Nat) (shut : s.tu.drawer = .shut) :
    requestProgress (cashWindowClosed s window) = cashWindowClosed s window
      ∧ (cashWindowClosed s window).tu = startPulse s { s.tu with drawer := .kicking, cause := .cash, attempts := 1 }
      ∧ askedFor (cashWindowClosed s window) .tu .statusPage := by
  rw [cashWindowClosed, beginKick_shut (s := windowGone s window) .cash true shut]
  exact ⟨requestProgress_waits (askTuStatus_waits _), by simp [startPulse, startTimer, cfg, windowGone],
    askedFor_of_bi (askedFor_askTuStatus _ _) rfl⟩

theorem cashWindowClosed_notShut {s : State} (window : Nat) (other : s.tu.drawer ≠ .shut) : (cashWindowClosed s window).tu = s.tu := by
  simp [cashWindowClosed, windowGone, beginKick, other]

/-- Settles O46: the checks are those of `cashTenderCheck`; the kick is that of the window's close. -/
theorem cashTenderChecksInOrder : Obligations.CashTenderChecksInOrder := by
  unfold Obligations.CashTenderChecksInOrder
  refine ⟨?close, ?request⟩
  case close =>
    intro s i o high here other written after calm free
    have closed := closeWindow_kick after calm free
    refine ⟨closeWindow s o, freedNotices s (closeWindow s o), exec_windowClose high here other written,
      freedNotices_freed s _, ?_, fun shut => ?_, fun other => ?_, ?_, ?_, ?_⟩ <;> rw [closed]
    · simp [requestProgress_su, cashWindowClosed, windowGone]
    · obtain ⟨same, tu, asked⟩ := cashWindowClosed_shut o.id shut
      rw [same]
      exact ⟨tu, asked, cashWindowClosed_re s o.id⟩
    · simpa using cashWindowClosed_notShut o.id other
    · simp [cashWindowClosed, windowGone]
    · exact courseOnly_requestProgress (courseOnly_of_re (courseOnly.refl s) (cashWindowClosed_re s o.id))
    · exact requestProgress_frame _ (cashWindowClosed_frame s o.id) (by decide)
  case request =>
    intro s a high inHand ready amount
    refine ⟨cashTender s, exec_cashTender high inHand ready, ?_⟩
    subst amount
    refine ite_of_check ?range cashTender_refuses (ite_of_check ?state cashTender_refuses (ite_of_check ?held cashTender_refuses
      (ite_of_check ?busy cashTender_refuses (ite_of_check .rfl cashTender_refuses (ite_of_check .rfl cashTender_refuses
      (ite_of_check .rfl cashTender_refuses (ite_of_check ?key cashTender_refuses ?passed))))))) (cashTenderCheck.eq_1 s)
    case range => simp only [inRange, Bool.not_eq_true', Bool.and_eq_false_iff, decide_eq_false_iff_not, not_and_or]
    case state => simp
    case held => simp
    case busy => exact (cardInProgress_iff s.su).symm
    case key => simp
    case passed =>
      intro check
      have passed : cashTender s = cashTendered s := by rw [cashTender, check]
      rw [passed]
      have decided := cashTendered_decided s
      obtain ⟨tenders, lines, -, header⟩ := create_fields s.su .cash .taken (recCashAmount s.re.record) (recCashAmount s.re.record)
        (recCashAmount s.re.record) 0 s.re.clock
      have all := decided.sale.tenders.trans tenders
      refine ⟨finishRequest_answered _ _ _ _, all, decided.sale.header.trans ?header, decided.sale.lines.trans lines,
        by simp [cashTendered], fun x here => ?bytes, ⟨_, decided.event, rfl⟩,
        saleEventAsked_finish (saleEventAsked_suWrite _ _ _ _ _), cashTendered_requestFrame s⟩
      case header =>
        have met : s.su.balance - min (recCashAmount s.re.record) s.su.balance = 0 ↔ s.su.balance ≤ recCashAmount s.re.record := by
          omega
        rw [cashSale, header (open_of_cashTender check)]
        simp only [met]
      case bytes =>
        have entry : createdTender .cash .taken (recCashAmount s.re.record) (recCashAmount s.re.record)
            (min (recCashAmount s.re.record) s.su.balance) 0 s.re.clock = x := by simpa [all] using here
        exact decided.writesTender x here (entry ▸ rfl) (entry ▸ rfl)

/-! ### DRAWER_NOSALE -/

theorem exec_drawerNosale {s : State} (high : s.bi.inReset = false) (inHand : awaits s .drawerNosale = true)
    (ready : saleReady s = true) (told : s.ju.tells = 0) : exec .drawerNosale s = .next (drawerNosale s) :=
  stepIf_enabled high (by simp [inHand, ready, told])

theorem drawerNosale_refuses {s : State} {r : ResultCode} (check : drawerNosaleCheck s = some r) :
    answeredWith (drawerNosale s) r 0 0 ∧ requestFrame [] s (drawerNosale s) := by
  rw [drawerNosale, check]
  exact failRequest_refuses s r

/-- Bytes 0 to 61 of a NOSALE entry. -/
def nosaleBody (s : State) : List Byte :=
  le4 s.ju.head ++ [2, 0] ++ le2 (s.re.laneNumber.getD 0) ++ [0, 0, 0, 0] ++ le4 s.re.clock ++ le4 s.re.clock
    ++ List.replicate 22 0 ++ le2 (BitVec.ofNat 16 s.ju.forcedCarry) ++ le2 (BitVec.ofNat 16 (s.ju.nosaleCarry + 1))
    ++ List.replicate 16 0

theorem journalBody_nosale (s : State) : journalBody (nosaleEntry s) false = nosaleBody s := by
  have four : le4 0#32 = [0, 0, 0, 0] := by decide
  have two : le2 0#16 = [0, 0] := by decide
  simp [journalBody, nosaleEntry, nosaleBody, JournalEntry.checked, nat1, nat2, nat4, zeros, JournalKind.code, SaleMode.code, four,
    two]

/-- The check code is not among the bytes it covers. -/
theorem journalBody_withCheck (e : JournalEntry) (check : Half) (incomplete : Bool) :
    journalBody { e with check := check } incomplete = journalBody e incomplete := by
  rw [journalBody_eq, journalBody_eq]
  simp only [entryBytes]

theorem check_of_withCheck (e : JournalEntry) (check : Half) : ({ e with check := check } : JournalEntry).check = check := rfl

theorem checked_check (e : JournalEntry) : e.checked.check = crc16 (journalBody e.checked false) := by
  rw [JournalEntry.checked, journalBody_withCheck e (journalCheck e) false, check_of_withCheck e (journalCheck e), journalCheck]

/-- The words of a NOSALE entry (R169). -/
theorem nosale_bytesFrom (s : State) (off : Nat) : bytesFrom off (wordsAt off (journalWords (nosaleEntry s) false))
    (nosaleBody s ++ le2 (crc16 (nosaleBody s))) := by
  have bytes := journal_bytesFrom off (nosaleEntry s) false
  have check : (nosaleEntry s).check = crc16 (journalBody (nosaleEntry s) false) := checked_check _
  rw [check, journalBody_nosale] at bytes
  exact bytes

/-- The drawer kicked, and counted as a no-sale. -/
def nosaleKicked (s : State) : State := beginKick (s.setTu { s.tu with nosaleCount := sat s.tu.nosaleCount }) .nosale true

theorem nosaleOpened_eq (s : State) :
    nosaleOpened s = finishRequest (writeNosale (nosaleKicked s)) .done s.ju.head 0 := rfl

theorem nosaleEntry_kicked (s : State) : nosaleEntry (nosaleKicked s) = nosaleEntry s := by
  simp [nosaleEntry, nosaleKicked]

/-- The entry's window. -/
theorem writeNosale_window (s : State) : ∃ w ∈ (writeNosale s).bi.waiting, w.owner = .ju ∧ w.sections = [.journal, .statusPage]
    ∧ w.after = [.headAdvance] ∧ w.ofRequest = true
    ∧ w.fixed = wordsAt (0x10000 + s.ju.head.toNat % 2048 * 64) (journalWords (nosaleEntry s) false)
        ++ [(0x2024, s.ju.head + 1), (0x2028, s.bi.journalExport)] :=
  ⟨_, List.mem_append_right _ (List.mem_singleton_self _), rfl, rfl, rfl, rfl, rfl⟩

theorem nosaleOpened_window (s : State) : ∃ w ∈ (nosaleOpened s).bi.waiting, w.owner = .ju ∧ w.sections = [.journal, .statusPage]
    ∧ w.after = [.headAdvance] ∧ w.ofRequest = true
    ∧ w.fixed = wordsAt (0x10000 + s.ju.head.toNat % 2048 * 64) (journalWords (nosaleEntry s) false)
        ++ [(0x2024, s.ju.head + 1), (0x2028, s.bi.journalExport)] := by
  obtain ⟨w, asked, owner, sections, after, ofRequest, words⟩ := writeNosale_window (nosaleKicked s)
  have export_ : (nosaleKicked s).bi.journalExport = s.bi.journalExport := by simp [nosaleKicked]
  have head : (nosaleKicked s).ju.head = s.ju.head := by simp [nosaleKicked]
  rw [nosaleEntry_kicked, export_, head] at words
  exact ⟨w, finishRequest_waiting _ _ _ _ asked, owner, sections, after, ofRequest, words⟩

theorem nosaleOpened_requestFrame (s : State) : requestFrame [.tu, .ju] s (nosaleOpened s) := by
  rw [nosaleOpened_eq]
  refine requestFrame_finish ?_ (by simp [writeNosale, nosaleKicked])
  exact writeNosale_frame _ (beginKick_frame _ _ _ (eventFrame_setTu (.refl _ s) (by decide)) (by decide)) (by decide)

/-- Settles O47: the checks are those of `drawerNosaleCheck`; one that passes is `nosaleOpened`. -/
theorem drawerNosaleOpensAndRecords : Obligations.DrawerNosaleOpensAndRecords := by
  unfold Obligations.DrawerNosaleOpensAndRecords
  intro s high inHand ready told
  refine ⟨drawerNosale s, exec_drawerNosale high inHand ready told, ?_⟩
  refine ite_of_check .rfl drawerNosale_refuses (ite_of_check ?key drawerNosale_refuses (ite_of_check .rfl drawerNosale_refuses
    (ite_of_check .rfl drawerNosale_refuses (ite_of_check ?full drawerNosale_refuses ?passed)))) (drawerNosaleCheck.eq_1 s)
  case key => simp
  case full => rw [← journalFree_iff, Bool.not_eq_true, Bool.not_eq_true']
  case passed =>
    intro check
    have passed : drawerNosale s = nosaleOpened s := by rw [drawerNosale, check]
    have shut : s.tu.drawer = .shut := by
      simp only [drawerNosaleCheck] at check
      grind
    have kicked : nosaleKicked s = _ := beginKick_shut .nosale true shut
    rw [passed]
    obtain ⟨w, asked, owner, sections, after, ofRequest, words⟩ := nosaleOpened_window s
    refine ⟨finishRequest_answered _ _ _ _, ?tu, ?ju, ⟨w, asked, owner, sections, after, ofRequest, _, words, _, rfl,
      nosale_bytesFrom s _⟩, ?asked, nosaleOpened_requestFrame s⟩
    case tu => simp [nosaleOpened_eq, writeNosale, kicked, startPulse, startTimer, cfg]
    case ju => simp [nosaleOpened_eq, writeNosale, nosaleKicked]
    case asked =>
      rw [nosaleOpened_eq, kicked]
      exact askedFor_finishRequest (askedFor_askWindow_of (askedFor_of_bi (askedFor_askTuStatus _ _) rfl))

end Sys2Proof.Machine
end

section
/-! RECEIPT_ABANDON (R164; O52), the requests that enter CLOSING (R170, R171; O53) and its end (R172; O54). -/

namespace Sys2Proof.Machine

/-! ### RECEIPT_ABANDON -/

theorem exec_receiptAbandon {s : State} (high : s.bi.inReset = false) (inHand : awaits s .receiptAbandon = true)
    (told : s.pu.tells = []) : exec .receiptAbandon s = .next (receiptAbandon s) := stepIf_enabled high (by simp [inHand, told])

/-- While the printer is not READY the arbiter leaves an abandoned receipt's printer to nobody. -/
theorem arbitrate_abandoned {s : State} (off : s.pu.cond ≠ .ready) : arbitrate (s.setPu s.pu.abandon) = s.setPu s.pu.abandon := by
  have ended : s.pu.abandon.receipt = .ended := rfl
  have still : s.pu.abandon.cond ≠ .ready := off
  unfold arbitrate
  split
  next =>
    split
    next => rw [if_pos (by exact ended)]
    next => rw [if_neg (by exact still)]
  next => rfl

/-- The abandoned receipt before its completion, which waits for the SU's claim. -/
def receiptDropped (s : State) : State := suSend (askPu s.pu (s.setPu s.pu.abandon) true) (.receiptEnded true true)

theorem receiptAbandoned_eq {s : State} (off : s.pu.cond ≠ .ready) :
    receiptAbandoned s = finishRequest (receiptDropped s) .done s.su.header.number 0 := by
  rw [receiptAbandoned, arbitrate_abandoned off]
  rfl

theorem receiptDropped_frame (s : State) : eventFrame [.re, .pu] s (receiptDropped s) :=
  suSend_frame _ _ (askPu_frame _ _ _ (eventFrame_setPu (.refl _ s) (by decide)))

/-- A request with a claim of its own still to be taken stays in execution. -/
theorem finishRequest_pending {s : State} {r : ResultCode} {d1 d2 : Word} (executing : s.re.phase = .executing)
    (claims : s.su.inbox.any SaleItem.ofRequest = true) : (finishRequest s r d1 d2).re.phase = .executing := by
  have waits : requestProgress (s.setRe { s.re with outcome := some { result := r, detail1 := d1, detail2 := d2 } })
      = s.setRe { s.re with outcome := some { result := r, detail1 := d1, detail2 := d2 } } := by
    simp [requestProgress, executing, requestPending, claims]
  rw [finishRequest, waits]
  exact executing

theorem phase_of_awaits {s : State} {k : RequestKind} (inHand : awaits s k = true) : s.re.phase = .executing := by
  simp only [awaits, Bool.and_eq_true, decide_eq_true_eq] at inHand
  exact inHand.1.1.1

/-- No receipt slot is protected once the print index has reached the fill index (R5). -/
theorem slotProtected_printed {s : State} {slot : Nat} (stream : slot < 2048) (printed : s.pu.printIndex = fillCopy s) :
    slotProtected s slot = false := by
  simp [slotProtected, stream, printed, ahead]

theorem receiptAbandon_key {s : State} (either : s.pu.receipt = .closing ∨ s.pu.receipt = .block) (off : s.pu.cond ≠ .ready) :
    receiptAbandon s = if !s.tu.key then failRequest s .needKey else receiptAbandoned s := by
  obtain closing | block := either
  · simp [receiptAbandon, closing, off]
  · simp [receiptAbandon, block, off]

/-- Settles O52: the checks as `receiptAbandon` makes them; a request that passes is `receiptDropped` and its completion. -/
theorem receiptAbandonEndsTheReceipt : Obligations.ReceiptAbandonEndsTheReceipt := by
  unfold Obligations.ReceiptAbandonEndsTheReceipt
  intro s high inHand told
  refine ⟨receiptAbandon s, exec_receiptAbandon high inHand told, ?_⟩
  have refuses (r : ResultCode) (fails : receiptAbandon s = failRequest s r) :
      answeredWith (receiptAbandon s) r 0 0 ∧ requestFrame [] s (receiptAbandon s) := fails ▸ failRequest_refuses s r
  split
  next neither => exact refuses _ (by simp [receiptAbandon, neither])
  next either =>
  have either : s.pu.receipt = .closing ∨ s.pu.receipt = .block := by
    simpa only [ne_eq, not_and_or, not_not] using either
  split
  next ready => exact refuses _ (by simp [receiptAbandon, ready])
  next off =>
  split
  next noKey => exact refuses _ (by simp [receiptAbandon_key either off, noKey])
  next key =>
    have passed : receiptAbandon s = finishRequest (receiptDropped s) .done s.su.header.number 0 := by
      rw [← receiptAbandoned_eq off, receiptAbandon_key either off, if_neg (by simpa using key)]
    rw [passed]
    have pu : (finishRequest (receiptDropped s) .done s.su.header.number 0).pu = s.pu.abandon := by simp [receiptDropped]
    refine ⟨finishRequest_answered _ _ _ _, ?_, ?_, ?_, ?_, fun owner => ?_, fun j owner => ?_, ?_, ?_, fun filled slot stream => ?_, ?_,
      finishRequest_pending (by simp [receiptDropped, phase_of_awaits inHand]) (by simp [receiptDropped, suSend, SaleItem.ofRequest]),
      askedFor_finishRequest (askedFor_of_bi askedFor_askPu rfl),
      requestFrame_finish (receiptDropped_frame s) (by simp [receiptDropped])⟩
    · rw [pu]; rfl
    · rw [pu]; rfl
    · rw [pu]; rfl
    · rw [pu]; rfl
    · rw [pu]
      simp [Pu.abandon, owner]
    · rw [pu]
      simp [Pu.abandon, owner]
    · rw [pu]; rfl
    · rw [pu]; rfl
    · have copy : fillCopy (finishRequest (receiptDropped s) .done s.su.header.number 0) = fillCopy s := by
        simp [fillCopy, receiptDropped]
      exact slotProtected_printed stream (by rw [pu, copy, filled]; rfl)
    · rw [finishRequest_su]
      simp [receiptDropped, suSend]

/-! ### The fixed entry (R169) -/

theorem entryChecked_checked (e : JournalEntry) : entryChecked e.checked := by
  have flags : ((if false = true then 1 else 0) + (if e.checked.byKey then 2 else 0) : Byte) = if e.checked.byKey then 2 else 0 := by
    simp
  rw [entryChecked, checked_check, journalBody_eq, flags]

theorem saleEntry_closing (s : State) (outcome : SaleOutcome) (kind : JournalKind) :
    closingEntry s kind (saleEntry s (closingSale s outcome) kind) where
  entry := ⟨rfl, rfl, rfl, rfl⟩
  sale := ⟨rfl, rfl, rfl⟩
  counts := ⟨liveCount_eq s.su, voidCount_eq s.su⟩
  money := ⟨rfl, rfl, rfl, rfl⟩
  carries := ⟨rfl, rfl, rfl⟩
  flags := by simp [saleEntry, JournalEntry.checked, Su.byKey, closingSale]
  check := entryChecked_checked _

/-! ### Entering CLOSING -/

/-- The JU has fixed the entry and taken the carries; `k` is the state with the refund's kick, or `s`. -/
def entryFixed (k s : State) (outcome : SaleOutcome) (kind : JournalKind) : State :=
  k.setJu { s.ju with fixed := some (saleEntry s (closingSale s outcome) kind), forcedCarry := 0, nosaleCarry := 0 }

/-- The SU's event of a sale that enters CLOSING. -/
def closingDecided (k s : State) (outcome : SaleOutcome) (kind : JournalKind) (block : BlockKind) : State :=
  suWrite (entryFixed k s outcome kind) (closingSale s outcome) (saleWords s.su (closingSale s outcome) none none)
    [.tellPrint (.closeMark (fillCopy s) block), .tellBag .saleClosing] true

theorem enterClosing_of_kick {k s : State} (outcome : SaleOutcome) (kind : JournalKind) (block : BlockKind) (su : k.su = s.su)
    (ju : k.ju = s.ju) (re : k.re = s.re) (fill : k.bi.receiptFill = s.bi.receiptFill) :
    enterClosing k outcome kind block = finishRequest (closingDecided k s outcome kind block) .done s.su.header.number
      ((saleEntry s (closingSale s outcome) kind).check.setWidth 32) := by
  have sale : closingSale k outcome = closingSale s outcome := by rw [closingSale, closingSale, su, re, fillCopy, fillCopy, fill]
  have entry : saleEntry k (closingSale s outcome) kind = saleEntry s (closingSale s outcome) kind := by
    rw [saleEntry, saleEntry, ju, re]
  rw [enterClosing, sale, entry, su, ju]
  rfl

theorem closingDecided_does (k s : State) (outcome : SaleOutcome) (kind : JournalKind) (block : BlockKind) :
    saleDecided (closingSale s outcome) (saleWords s.su (closingSale s outcome) none none)
      [.tellPrint (.closeMark (fillCopy s) block), .tellBag .saleClosing] true (closingDecided k s outcome kind block) :=
  suWrite_decided _ _ _ _ _

theorem closingDecided_frame {bs : List BlockId} {k s : State} (outcome : SaleOutcome) (kind : JournalKind) (block : BlockKind)
    (frame : eventFrame bs s k) (su : .su ∈ bs) (ju : .ju ∈ bs) : eventFrame bs s (closingDecided k s outcome kind block) :=
  suWrite_frame _ _ _ _ _ (eventFrame_setJu frame ju) su

theorem closingDecided_ju (k s : State) (outcome : SaleOutcome) (kind : JournalKind) (block : BlockKind) :
    (closingDecided k s outcome kind block).ju
      = { s.ju with fixed := some (saleEntry s (closingSale s outcome) kind), forcedCarry := 0, nosaleCarry := 0 } := by
  simp [closingDecided, entryFixed]

theorem closingDecided_re (k s : State) (outcome : SaleOutcome) (kind : JournalKind) (block : BlockKind) :
    (closingDecided k s outcome kind block).re = k.re := by simp [closingDecided, entryFixed]

theorem closingDecided_tu (k s : State) (outcome : SaleOutcome) (kind : JournalKind) (block : BlockKind) :
    (closingDecided k s outcome kind block).tu = k.tu := by simp [closingDecided, entryFixed]

/-! ### SALE_CLOSE -/

theorem exec_saleClose {s : State} (high : s.bi.inReset = false) (front : suTakes s .saleClose = true) (told : s.ju.tells = 0) :
    exec .saleClose s = .next (saleClose s) := stepIf_enabled high (by simp [front, told])

theorem exec_saleAbort {s : State} (high : s.bi.inReset = false) (front : suTakes s .saleAbort = true) (told : s.ju.tells = 0) :
    exec .saleAbort s = .next (saleAbort s) := stepIf_enabled high (by simp [front, told])

theorem saleClose_refuses {s : State} {r : ResultCode} (check : saleCloseCheck s = some r) :
    answeredWith (saleClose s) r 0 0 ∧ requestFrame [] s (saleClose s) := by
  rw [saleClose, check]
  exact suFail_refuses s r

theorem saleAbort_refuses {s : State} {r : ResultCode} (check : saleAbortCheck s = some r) :
    answeredWith (saleAbort s) r 0 0 ∧ requestFrame [] s (saleAbort s) := by
  rw [saleAbort, check]
  exact suFail_refuses s r

theorem active_iff (x : SaleState) : (!x.active) = true ↔ x ≠ .opened ∧ x ≠ .tendering ∧ x ≠ .settled := by
  cases x <;> simp [SaleState.active]

/-! ### SALE_ABORT -/

/-- The refund's kick, of a sale that holds cash. -/
def refundKicked (s : State) : State := if refundAsked s.su then beginKick s .refund true else s

theorem refundKicked_keeps (s : State) : (refundKicked s).su = s.su ∧ (refundKicked s).ju = s.ju ∧ (refundKicked s).re = s.re
    ∧ (refundKicked s).bi.receiptFill = s.bi.receiptFill := by
  unfold refundKicked
  split <;> simp

theorem refundKicked_frame (s : State) : eventFrame [.re, .su, .ju, .tu] s (refundKicked s) := by
  unfold refundKicked
  split
  next => exact beginKick_frame _ _ _ (.refl _ s) (by decide)
  next => exact .refl _ s

theorem refundKicked_shut {s : State} (cash : refundAsked s.su = true) (shut : s.tu.drawer = .shut) :
    (refundKicked s).tu = startPulse s { s.tu with drawer := .kicking, cause := .refund, attempts := 1 }
      ∧ askedFor (refundKicked s) .tu .statusPage := by
  rw [refundKicked, if_pos cash, beginKick_shut .refund true shut]
  exact ⟨by simp, askedFor_askTuStatus _ _⟩

theorem refundKicked_none {s : State} (none_ : refundAsked s.su = false ∨ s.tu.drawer ≠ .shut) : (refundKicked s).tu = s.tu := by
  unfold refundKicked
  split
  next cash =>
    have other : s.tu.drawer ≠ .shut := none_.resolve_left (by simp [cash])
    simp [beginKick, other]
  next => rfl

/-- The till's answer to a refund, as two checks. -/
theorem refundRefusal_checks (s : State) : (if refundAsked s.su then refundRefusal s else none)
    = if refundAsked s.su = true ∧ s.tu.key = false then some .needKey
      else if refundAsked s.su = true ∧ s.tu.drawer = .fault then some .drawerFault else none := by
  unfold refundRefusal
  cases refundAsked s.su <;> cases s.tu.key <;> simp

theorem unsettled_iff (u : Su) : (u.cardInProgress || (u.tenders.any fun t => decide (t.state = .approved))) = true
    ↔ ∃ x ∈ u.tenders, x.state = .requested ∨ x.state = .cancelling ∨ x.state = .unresolved ∨ x.state = .approved := by
  simp only [Bool.or_eq_true, cardInProgress_iff, List.any_eq_true, decide_eq_true_eq, ← or_assoc, and_or_left, exists_or]

/-- Settles O53: the checks are those of `saleCloseCheck` and `saleAbortCheck`; one that passes enters CLOSING by
`closingDecided`. -/
theorem closeAndAbortEnterClosing : Obligations.CloseAndAbortEnterClosing := by
  unfold Obligations.CloseAndAbortEnterClosing
  refine ⟨?close, ?abort⟩
  case close =>
    intro s high front told
    refine ⟨saleClose s, exec_saleClose high front told, ?_⟩
    refine ite_of_check (active_iff _).symm saleClose_refuses (ite_of_check ?held saleClose_refuses
      (ite_of_check .rfl saleClose_refuses ?passed)) (saleCloseCheck.eq_1 s)
    case held => simp
    case passed =>
      intro check
      have passed : saleClose s = enterClosing s .sold .sale .closing := by rw [saleClose, check]
      rw [enterClosing_of_kick (k := s) .sold .sale .closing rfl rfl rfl rfl] at passed
      rw [passed]
      have decided := (closingDecided_does s s .sold .sale .closing).finish (r := .done) (d1 := s.su.header.number)
        (d2 := (saleEntry s (closingSale s .sold) .sale).check.setWidth 32)
      refine ⟨saleEntry s (closingSale s .sold) .sale, ?_, saleEntry_closing s .sold .sale, finishRequest_answered _ _ _ _,
        decided.sale.header, decided.sale.lines, decided.sale.tenders, ⟨_, decided.event, rfl⟩, decided.writesNoEntry,
        saleEventAsked_finish (saleEventAsked_suWrite _ _ _ _ _),
        requestFrame_finish (closingDecided_frame .sold .sale .closing (.refl _ s) (by decide) (by decide))
          (closingDecided_re s s .sold .sale .closing)⟩
      simpa using closingDecided_ju s s .sold .sale .closing
  case abort =>
    intro s cash high front told cashIs
    have refund : refundAsked s.su = cash := cashIs.symm
    refine ⟨saleAbort s, exec_saleAbort high front told, ?_⟩
    have chain := saleAbortCheck.eq_1 s
    rw [refundRefusal_checks, refund] at chain
    refine ite_of_check ?state saleAbort_refuses (ite_of_check ?unsettled saleAbort_refuses (ite_of_check .rfl saleAbort_refuses
      (ite_of_check .rfl saleAbort_refuses ?passed))) chain
    case state => simp
    case unsettled => exact (unsettled_iff s.su).symm
    case passed =>
      intro check
      obtain ⟨su, ju, re, fill⟩ := refundKicked_keeps s
      have passed : saleAbort s = enterClosing (refundKicked s) .voided .void .void := by
        rw [saleAbort, check]
        rfl
      rw [enterClosing_of_kick .voided .void .void su ju re fill] at passed
      rw [passed]
      have decided := (closingDecided_does (refundKicked s) s .voided .void .void).finish (r := .done) (d1 := s.su.header.number)
        (d2 := (saleEntry s (closingSale s .voided) .void).check.setWidth 32)
      have tu := closingDecided_tu (refundKicked s) s .voided .void .void
      refine ⟨saleEntry s (closingSale s .voided) .void, ?_, saleEntry_closing s .voided .void, finishRequest_answered _ _ _ _,
        decided.sale.header, decided.sale.lines, decided.sale.tenders, ⟨_, decided.event, rfl⟩, fun taken shut => ?kick,
        fun none_ => ?noKick, decided.writesNoEntry, saleEventAsked_finish (saleEventAsked_suWrite _ _ _ _ _),
        requestFrame_finish (closingDecided_frame .voided .void .void (refundKicked_frame s) (by decide) (by decide))
          ((closingDecided_re _ s .voided .void .void).trans re)⟩
      · simpa using closingDecided_ju (refundKicked s) s .voided .void .void
      case kick =>
        obtain ⟨kicked, asked⟩ := refundKicked_shut (refund.trans taken) shut
        refine ⟨?_, askedFor_finishRequest (askedFor_suWrite (askedFor_of_bi asked rfl))⟩
        simpa [tu, startPulse] using kicked
      case noKick =>
        have still : (refundKicked s).tu = s.tu := refundKicked_none (refund ▸ none_)
        simpa [tu] using still

end Sys2Proof.Machine
end

section
/-! The end of CLOSING (R169, R172; O54). -/

namespace Sys2Proof.Machine

/-! ### The claim of the receipt's end -/

theorem exec_receiptEndedClaim {s : State} {incomplete q : Bool} (high : s.bi.inReset = false)
    (front : suFront s = some (.receiptEnded incomplete q)) :
    exec .receiptEndedClaim s = .next (receiptEnded (suPop s) incomplete q) := by
  have runs : exec .receiptEndedClaim s = execReceiptEndedClaim s := rfl
  simp only [runs, execReceiptEndedClaim, front]
  exact stepIf_enabled high rfl

/-- The SU whose sale is over. -/
def finishedSale (u : Su) (e : JournalEntry) (incomplete : Bool) : Su :=
  { u with
    header := { u.header with state := .idle }
    finished := { number := u.header.number, outcome := u.header.outcome, entry := e.number
                  incomplete := incomplete, byKey := e.byKey } }

/-- The JU has asked for the window of the fixed entry. -/
def entryAsked (s : State) (e : JournalEntry) (incomplete q : Bool) : State :=
  askFixed ((suPop s).setJu { (suPop s).ju with fixed := none }) .ju [.journal, .statusPage]
    (journalEntryWords (suPop s) e incomplete) [.headAdvance, .suWrite] q

theorem receiptEnded_fixed {s : State} {e : JournalEntry} (incomplete q : Bool) (fixed : s.ju.fixed = some e) :
    receiptEnded (suPop s) incomplete q = suDecide (entryAsked s e incomplete q) (finishedSale (suPop s).su e incomplete)
      (saleWords (suPop s).su (finishedSale (suPop s).su e incomplete) none none)
      [.saleFinished, .tellBag .saleEnded, .tellPrint .saleIdle] q := by
  have there : (suPop s).ju.fixed = some e := fixed
  simp only [receiptEnded, there]
  rfl

theorem receiptEnded_decided {s : State} {e : JournalEntry} (incomplete q : Bool) (fixed : s.ju.fixed = some e) :
    saleDecided (finishedSale (suPop s).su e incomplete) (saleWords s.su (finishedSale (suPop s).su e incomplete) none none)
      [.saleFinished, .tellBag .saleEnded, .tellPrint .saleIdle] q (receiptEnded (suPop s) incomplete q) := by
  rw [receiptEnded_fixed incomplete q fixed, ← (suPop_sameSale s).saleWords]
  exact suDecide_decided _ _ _ _ _

/-- The 64 bytes of the entry, and the head that follows it (R169, R179). -/
theorem entryAsked_window (s : State) (e : JournalEntry) (incomplete q : Bool) :
    ∃ w ∈ (entryAsked s e incomplete q).bi.waiting, w.owner = .ju ∧ w.sections = [.journal, .statusPage]
      ∧ w.after = [.headAdvance, .suWrite]
      ∧ ∃ entry, w.fixed = entry ++ [(0x2024, e.number + 1), (0x2028, s.bi.journalExport)]
        ∧ bytesFrom (0x10000 + e.number.toNat % 2048 * 64) entry
            (entryBytes e ((if incomplete then 1 else 0) + (if e.byKey then 2 else 0)) ++ le2 e.check) := by
  have bytes := journal_bytesFrom (0x10000 + e.number.toNat % 2048 * 64) e incomplete
  rw [journalBody_eq] at bytes
  exact ⟨_, List.mem_append_right _ (List.mem_singleton_self _), rfl, rfl, rfl, _, rfl, bytes⟩

/-! ### The close of its last window -/

/-- What follows the window of the sale's end: SALE_FINISHED, the tells to the BWU and the PU, and the end of the SU's event. -/
def saleOver (s : State) : State :=
  let raised := raise s .saleFinished 0
  let bag := (arrive raised .bwu .tell).setBwu { raised.bwu with tells := raised.bwu.tells ++ [.saleEnded] }
  let print := (arrive bag .pu .tell).setPu { bag.pu with tells := bag.pu.tells ++ [.saleIdle] }
  print.setSu { print.su with event := none }

theorem saleOver_frame {bs : List BlockId} {z s : State} (h : eventFrame bs z s) (bwu : .bwu ∈ bs) (pu : .pu ∈ bs) (su : .su ∈ bs) :
    eventFrame bs z (saleOver s) :=
  eventFrame_setSu (eventFrame_setPu (arrive_frame _ _ _ (eventFrame_setBwu (arrive_frame _ _ _ (raise_frame _ _ _ h)) bwu)) pu) su

theorem saleOver_does {s : State} (latches : s.nu.latches.length = 24) :
    reported (saleOver s) .saleFinished 0 ∧ (saleOver s).bwu = { s.bwu with tells := s.bwu.tells ++ [.saleEnded] }
      ∧ (saleOver s).pu = { s.pu with tells := s.pu.tells ++ [.saleIdle] } ∧ (saleOver s).su.event = none
      ∧ (saleOver s).su.header = s.su.header ∧ (saleOver s).re = s.re := by
  refine ⟨reported_of_nu (reported_raise latches nofun) rfl rfl, ?_, ?_, rfl, ?_, ?_⟩ <;> simp [saleOver]

theorem closeWindow_saleOver {s : State} {o : OpenWindow}
    (after : o.after = [.saleFinished, .tellBag .saleEnded, .tellPrint .saleIdle, .suDone]) (calm : s.re.resetting = [])
    (free : ∀ a n, s.bi.hostStall ≠ some (.readHeld a n)) :
    closeWindow s o = requestProgress (saleOver (windowGone s o.id)) := by
  have followed : o.after.foldl runAfter (removeWindow s o.id) = saleOver (windowGone s o.id) := by
    rw [after, removeWindow_free o.id free]
    rfl
  rw [closeWindow, followed, resumeResets_none (by simp [saleOver, windowGone, calm])]

/-- Settles O54: the claim by `receiptEnded`, the close by `saleOver`. -/
theorem endedReceiptFinishesTheSale : Obligations.EndedReceiptFinishesTheSale := by
  unfold Obligations.EndedReceiptFinishesTheSale
  refine ⟨?claim, ?close⟩
  case claim =>
    intro s incomplete q e high front fixed
    have decided := receiptEnded_decided incomplete q fixed
    have same := receiptEnded_fixed incomplete q fixed
    refine ⟨_, exec_receiptEndedClaim high front, ?_, decided.sale.header, decided.sale.lines, decided.sale.tenders, ?_,
      decided.finished, ?_, decided.writesNoEntry, ⟨_, decided.event, rfl, rfl⟩,
      receiptEnded_frame _ _ _ (suPop_frame _ (.refl _ s)) (by decide) (by decide)⟩
    · rw [same]
      rfl
    · rw [same]
      rfl
    · rw [same]
      exact entryAsked_window s e incomplete q
  case close =>
    intro s i o high latches here other written after calm free
    have closed := closeWindow_saleOver after calm free
    obtain ⟨notice, bwu, pu, event, header, -⟩ := saleOver_does (s := windowGone s o.id) latches
    refine ⟨closeWindow s o, freedNotices s (closeWindow s o), exec_windowClose high here other written,
      freedNotices_freed s _, ?_, ?_, ?_, ?_, ?_, ?_⟩ <;> rw [closed]
    · exact reported_requestProgress nofun notice
    · simpa [windowGone] using bwu
    · simpa [windowGone] using pu
    · rw [requestProgress_su]
      exact event
    · rw [requestProgress_su]
      exact header
    · exact requestProgress_frame _ (saleOver_frame (eventFrame_setBi (.refl _ s) (by decide)) (by decide) (by decide) (by decide))
        (by decide)

end Sys2Proof.Machine
end

section
/-! The arbiter (R162) and PRINT_SUBMIT (R161; O51). -/

namespace Sys2Proof.Machine

/-! ### The job submitted earliest -/

/-- Entry `j` is compared with the best so far. -/
def earlierJob (u : Pu) (best : Option Nat) (j : Nat) : Option Nat :=
  if (u.jobs.getD j Job.free).state = .queued then
    match best with
    | none => some j
    | some k =>
        if ahead u.submissions (u.jobs.getD k Job.free).submission < ahead u.submissions (u.jobs.getD j Job.free).submission then
          some j
        else best
  else best

theorem earliestJob_eq (u : Pu) : earliestJob u = (List.range 8).foldl (earlierJob u) none := rfl

/-- The best of the first `n` entries: none is QUEUED, or it is the one submitted earliest. -/
def bestOf (u : Pu) (n : Nat) : Option Nat → Prop
  | none => ∀ j < n, (u.jobs.getD j Job.free).state ≠ .queued
  | some k => k < n ∧ (u.jobs.getD k Job.free).state = .queued
      ∧ ∀ j < n, (u.jobs.getD j Job.free).state = .queued →
          ahead u.submissions (u.jobs.getD j Job.free).submission ≤ ahead u.submissions (u.jobs.getD k Job.free).submission

theorem forall_lt_succ {n : Nat} {P : Nat → Prop} (below : ∀ j < n, P j) (last : P n) : ∀ j < n + 1, P j := fun j less =>
  (Nat.lt_succ_iff_lt_or_eq.mp less).elim (below j) fun same => same ▸ last

theorem bestOf_succ {u : Pu} {n : Nat} {best : Option Nat} (h : bestOf u n best) : bestOf u (n + 1) (earlierJob u best n) := by
  unfold earlierJob
  split
  next queued =>
    cases best with
    | none => exact ⟨Nat.lt_succ_self n, queued, forall_lt_succ (fun j less is => absurd is (h j less)) fun _ => Nat.le_refl _⟩
    | some k =>
      obtain ⟨less, kQueued, earliest⟩ := h
      dsimp only
      split
      next earlier =>
        exact ⟨Nat.lt_succ_self n, queued,
          forall_lt_succ (fun j below is => Nat.le_trans (earliest j below is) (Nat.le_of_lt earlier)) fun _ => Nat.le_refl _⟩
      next later =>
        exact ⟨Nat.lt_succ_of_lt less, kQueued, forall_lt_succ earliest fun _ => Nat.le_of_not_lt later⟩
  next notQueued =>
    cases best with
    | none => exact forall_lt_succ h notQueued
    | some k =>
      obtain ⟨less, kQueued, earliest⟩ := h
      exact ⟨Nat.lt_succ_of_lt less, kQueued, forall_lt_succ earliest fun is => absurd is notQueued⟩

theorem bestOf_range (u : Pu) (n : Nat) : bestOf u n ((List.range n).foldl (earlierJob u) none) := by
  induction n with
  | zero => exact fun j less => absurd less (Nat.not_lt_zero j)
  | succ n ih =>
    rw [List.range_succ, List.foldl_append]
    exact bestOf_succ ih

theorem earliestJob_none {u : Pu} (none_ : earliestJob u = none) : ∀ j < 8, (u.jobs.getD j Job.free).state ≠ .queued := by
  have best := bestOf_range u 8
  rwa [← earliestJob_eq, none_] at best

theorem earliestJob_some {u : Pu} {k : Nat} (found : earliestJob u = some k) : earliestQueued u k := by
  have best := bestOf_range u 8
  rwa [← earliestJob_eq, found] at best

/-! ### The arbiter -/

theorem arbitrate_owned {s : State} (owned : s.pu.owner ≠ .none) : arbitrate s = s := by
  unfold arbitrate
  split
  next none_ => exact absurd none_ owned
  next => rfl

theorem arbitrate_bound {s : State} (none_ : s.pu.owner = .none) (bound : s.pu.bound = true) :
    arbitrate s = if s.pu.receipt = .ended then s else s.setPu { s.pu with owner := .receipt } := by
  simp only [arbitrate, none_, bound, if_true]

theorem arbitrate_stopped {s : State} (bound : s.pu.bound = false) (off : s.pu.cond ≠ .ready) : arbitrate s = s := by
  cases owner : s.pu.owner with
  | none => simp [arbitrate, owner, bound, off]
  | receipt => exact arbitrate_owned (by simp [owner])
  | job j => exact arbitrate_owned (by simp [owner])

/-- The printer with job `j` PRINTING. -/
def jobStarted (s : State) (j : Nat) : State :=
  s.setPu { setJob s.pu j { jobAt s j with state := .printing, started := s.re.clock } with owner := .job j }

theorem jobAt_jobStarted {s : State} {j : Nat} (inside : j < s.pu.jobs.length) :
    jobAt (jobStarted s j) j = { jobAt s j with state := .printing, started := s.re.clock } := by
  simp [jobAt, jobStarted, setJob, inside]

theorem arbitrate_none {s : State} (none_ : s.pu.owner = .none) (bound : s.pu.bound = false) (ready : s.pu.cond = .ready)
    (empty : earliestJob s.pu = none) : arbitrate s = s := by
  simp [arbitrate, none_, bound, ready, empty]

theorem arbitrate_starts {s : State} {j : Nat} (none_ : s.pu.owner = .none) (bound : s.pu.bound = false) (ready : s.pu.cond = .ready)
    (found : earliestJob s.pu = some j) : arbitrate s = jobStarted s j := by
  simp only [arbitrate, none_, bound, ready, found, if_true, Bool.false_eq_true, if_false]
  rfl

/-- The owner is chosen as R162 says. -/
theorem arbitrate_chose {s : State} (none_ : s.pu.owner = .none) : arbiterChose s.re.clock s.pu (arbitrate s).pu := by
  refine ⟨fun bound => ?bound, fun free ready queued => ?starts, fun free idle => ?idle⟩
  case bound =>
    rw [arbitrate_bound none_ bound]
    split
    next => exact ⟨rfl, none_⟩
    next => exact ⟨rfl, rfl⟩
  case starts =>
    cases found : earliestJob s.pu with
    | none =>
      obtain ⟨j, less, is⟩ := queued
      exact absurd is (earliestJob_none found j less)
    | some k =>
      have earliest := earliestJob_some found
      rw [arbitrate_starts none_ free ready found]
      exact ⟨k, earliest.1, earliest, rfl, rfl⟩
  case idle =>
    by_cases ready : s.pu.cond = .ready
    · have empty : earliestJob s.pu = none := by
        cases found : earliestJob s.pu with
        | none => rfl
        | some k =>
          obtain ⟨less, is, -⟩ := earliestJob_some found
          exact absurd is (idle.resolve_left (by simp [ready]) k less)
      rw [arbitrate_none none_ free ready empty]
      exact ⟨none_, rfl⟩
    · rw [arbitrate_stopped free ready]
      exact ⟨none_, rfl⟩

/-! ### PRINT_SUBMIT -/

theorem exec_printSubmit {s : State} (high : s.bi.inReset = false) (inHand : awaits s .printSubmit = true) (told : s.pu.tells = []) :
    exec .printSubmit s = .next (printSubmit s) := stepIf_enabled high (by simp [inHand, told])

theorem rangeMapped_iff (s : State) (first count : Nat) : rangeMapped s first count = false
    ↔ ∃ p < 64, (first / 64 ≤ p ∧ p ≤ (first + count - 1) / 64) ∧ entryMaps s (pageEntry s p) = false := by
  simp [rangeMapped, and_assoc]

/-- The Print Unit with the job in its table. -/
def jobQueued (s : State) (j : Nat) : State :=
  s.setPu { setJob s.pu j (submittedJob s) with submissions := s.pu.submissions + 1 }

theorem jobSubmitted_eq (s : State) (j : Nat) : jobSubmitted s j =
    finishRequest (askPu s.pu (arbitrate (jobQueued s j)) true) .done (BitVec.ofNat 32 j)
      (BitVec.ofNat 32 (recFirstSlot s.re.record)) := rfl

theorem jobSubmitted_pu_eq (s : State) (j : Nat) : (jobSubmitted s j).pu = (arbitrate (jobQueued s j)).pu := by
  simp [jobSubmitted_eq]

theorem jobAt_jobQueued {s : State} {j : Nat} (inside : j < s.pu.jobs.length) (k : Nat) :
    jobAt (jobQueued s j) k = if k = j then submittedJob s else jobAt s k := by
  by_cases same : k = j
  · simp [jobAt, jobQueued, setJob, same, inside]
  · simp [jobAt, jobQueued, setJob, same, Ne.symm same]

/-- What the arbiter does to one job: nothing, or it starts it. -/
theorem jobAt_arbitrate (s : State) (k : Nat) : jobAt (arbitrate s) k = jobAt s k
    ∨ jobAt (arbitrate s) k = { jobAt s k with state := .printing, started := s.re.clock } := by
  by_cases owned : s.pu.owner = .none
  · by_cases bound : s.pu.bound = true
    · rw [arbitrate_bound owned bound]
      split <;> exact .inl rfl
    have free := Bool.eq_false_iff.mpr bound
    by_cases ready : s.pu.cond = .ready
    · cases found : earliestJob s.pu with
      | none => exact .inl (by rw [arbitrate_none owned free ready found])
      | some j =>
        rw [arbitrate_starts owned free ready found]
        by_cases same : j = k
        · by_cases inside : k < s.pu.jobs.length
          · exact .inr (by simp [jobAt, jobStarted, setJob, same, inside])
          · exact .inl (by simp [jobAt, jobStarted, setJob, inside])
        · exact .inl (by simp [jobAt, jobStarted, setJob, same])
    · exact .inl (by rw [arbitrate_stopped free ready])
  · exact .inl (by rw [arbitrate_owned owned])

/-- The arbiter starts no job while the printer has an owner, a receipt is bound to it, or it is not READY. -/
theorem arbitrate_jobs {s : State} (busy : s.pu.owner ≠ .none ∨ s.pu.bound = true ∨ s.pu.cond ≠ .ready) :
    (arbitrate s).pu.jobs = s.pu.jobs := by
  by_cases owned : s.pu.owner = .none
  · obtain bound | off := busy.resolve_left (by simp [owned])
    · rw [arbitrate_bound owned bound]
      split <;> rfl
    · cases bound : s.pu.bound with
      | true =>
        rw [arbitrate_bound owned bound]
        split <;> rfl
      | false => rw [arbitrate_stopped bound off]
  · rw [arbitrate_owned owned]

theorem arbitrate_jobs_length (s : State) : (arbitrate s).pu.jobs.length = s.pu.jobs.length := by
  unfold arbitrate
  split
  next =>
    split
    next => split <;> rfl
    next =>
      split
      next =>
        split
        next => exact List.length_set ..
        next => rfl
      next => rfl
  next => rfl

/-- The fields of the submitted job that the arbiter leaves (R161). -/
structure submittedKept (s : State) (b : Job) : Prop where
  first : b.first = recFirstSlot s.re.record
  count : b.count = recLineCount s.re.record
  next : b.next = recFirstSlot s.re.record
  acked : b.acked = 0
  cutSent : b.cutSent = false
  submission : b.submission = s.pu.submissions
  submitted : b.submitted = s.re.clock
  finished : b.finished = 0
  again : { b with state := .queued, started := 0 } = submittedJob s
  active : b.active = true

theorem submittedKept_jobSubmitted {s : State} {j : Nat} (inside : j < s.pu.jobs.length) :
    submittedKept s (jobAt (jobSubmitted s j) j) := by
  have entry := (jobAt_jobQueued inside j).trans (if_pos rfl)
  have same : jobAt (jobSubmitted s j) j = jobAt (arbitrate (jobQueued s j)) j := by rw [jobAt, jobSubmitted_pu_eq]; rfl
  rw [same]
  obtain kept | started := jobAt_arbitrate (jobQueued s j) j
  · rw [kept, entry]
    exact ⟨rfl, rfl, rfl, rfl, rfl, rfl, rfl, rfl, rfl, rfl⟩
  · rw [started, entry]
    exact ⟨rfl, rfl, rfl, rfl, rfl, rfl, rfl, rfl, rfl, rfl⟩

theorem jobSubmitted_requestFrame (s : State) (j : Nat) : requestFrame [.pu] s (jobSubmitted s j) :=
  requestFrame_finish (askPu_frame _ _ _ (arbitrate_frame _ (eventFrame_setPu (.refl _ s) (by decide)) (by decide)))
    (by simp)

/-- The slots of an active job are protected (R5). -/
theorem slotProtected_job {s : State} {j slot : Nat} (inside : j < s.pu.jobs.length) (high : 2048 ≤ slot)
    (active : (jobAt s j).active = true) (from_ : (jobAt s j).first ≤ slot) (below : slot < (jobAt s j).first + (jobAt s j).count) :
    slotProtected s slot = true := by
  have member : jobAt s j ∈ s.pu.jobs := by
    rw [jobAt, List.getD_eq_getElem _ _ inside]
    exact List.getElem_mem inside
  rw [slotProtected, if_neg (Nat.not_lt.mpr high), List.any_eq_true]
  exact ⟨_, member, by simp [active, from_, below]⟩

/-- The first entry that is FREE or DONE. -/
theorem freeJob_some {u : Pu} {j : Nat} (found : freeJob u = some j) :
    j < u.jobs.length ∧ ((u.jobs.getD j Job.free).state = .free ∨ (u.jobs.getD j Job.free).state = .done) := by
  obtain ⟨inside, here, -⟩ := List.findIdx?_eq_some_iff_getElem.mp found
  rw [List.getD_eq_getElem _ _ inside]
  exact ⟨inside, by simpa using here⟩

/-- The slots named lie in the document slots. -/
def submitInside (s : State) : Prop := 2048 ≤ recFirstSlot s.re.record ∧ recFirstSlot s.re.record ≤ 4095
  ∧ 1 ≤ recLineCount s.re.record ∧ recLineCount s.re.record ≤ 2048 ∧ recFirstSlot s.re.record + recLineCount s.re.record ≤ 4096

theorem submitInside_iff (s : State) : (inRange (recFirstSlot s.re.record) 2048 4095 && inRange (recLineCount s.re.record) 1 2048
    && decide (recFirstSlot s.re.record + recLineCount s.re.record ≤ 4096)) = true ↔ submitInside s := by
  simp only [inRange, Bool.and_eq_true, decide_eq_true_eq, submitInside, and_assoc]

theorem inactive_of_idle {b : Job} (idle : b.state = .free ∨ b.state = .done) : b.active = false := by
  obtain free | done := idle
  · simp [Job.active, free]
  · simp [Job.active, done]

theorem printSubmit_outside {s : State} (outside : ¬ submitInside s) : printSubmit s = failRequest s .badParam := by
  have not := Bool.not_eq_true _ ▸ mt (submitInside_iff s).mp outside
  simp only [printSubmit, not, Bool.not_false, if_true]

theorem printSubmit_unmapped {s : State} (inside : submitInside s)
    (unmapped : rangeMapped s (recFirstSlot s.re.record) (recLineCount s.re.record) = false) :
    printSubmit s = failRequest s .badParam := by
  simp only [printSubmit, (submitInside_iff s).mpr inside, unmapped, Bool.not_true, Bool.not_false, Bool.false_eq_true, if_false,
    if_true]

theorem printSubmit_full {s : State} (inside : submitInside s)
    (mapped : rangeMapped s (recFirstSlot s.re.record) (recLineCount s.re.record) = true) (full : freeJob s.pu = none) :
    printSubmit s = failRequest s .tableFull := by
  simp only [printSubmit, (submitInside_iff s).mpr inside, mapped, full, Bool.not_true, Bool.false_eq_true, if_false]

theorem printSubmit_passed {s : State} {j : Nat} (inside : submitInside s)
    (mapped : rangeMapped s (recFirstSlot s.re.record) (recLineCount s.re.record) = true) (entry : freeJob s.pu = some j) :
    printSubmit s = jobSubmitted s j := by
  simp only [printSubmit, (submitInside_iff s).mpr inside, mapped, entry, Bool.not_true, Bool.false_eq_true, if_false]

theorem not_queued_getD {jobs : List Job} (none_ : ∀ b ∈ jobs, b.state ≠ .queued) (k : Nat) : (jobs.getD k Job.free).state ≠ .queued := by
  by_cases inside : k < jobs.length
  · rw [List.getD_eq_getElem _ _ inside]
    exact none_ _ (List.getElem_mem inside)
  · rw [List.getD_eq_default _ _ (Nat.le_of_not_lt inside)]
    exact nofun

/-- The submitted job is the only one QUEUED, so the arbiter starts it. -/
theorem arbitrate_jobQueued {s : State} {j : Nat} (inside : j < s.pu.jobs.length) (eight : s.pu.jobs.length = 8)
    (owner : s.pu.owner = .none) (free : s.pu.bound = false) (ready : s.pu.cond = .ready) (none_ : ∀ b ∈ s.pu.jobs, b.state ≠ .queued) :
    arbitrate (jobQueued s j) = jobStarted (jobQueued s j) j := by
  refine arbitrate_starts owner free ready ?_
  cases found : earliestJob (jobQueued s j).pu with
  | none =>
    have queued := earliestJob_none found j (eight ▸ inside)
    have entry := (jobAt_jobQueued inside j).trans (if_pos rfl)
    exact absurd (congrArg Job.state entry) queued
  | some k =>
    obtain ⟨-, queued, -⟩ := earliestJob_some found
    by_cases same : k = j
    · rw [same]
    · have other := (jobAt_jobQueued inside k).trans (if_neg same)
      exact absurd ((congrArg Job.state other).symm.trans queued) (not_queued_getD none_ k)

theorem askedFor_jobTable {old : Pu} {s : State} {ofRequest : Bool} {k : Nat} (eight : k < 8)
    (changed : (old.jobs.getD k Job.free).state ≠ (jobAt s k).state) : askedFor (askPu old s ofRequest) .pu .jobTable :=
  askedFor_askPu_jobs (changedJobs_of_state eight changed)

/-- Settles O51: the checks as `printSubmit` makes them; the job by `submittedKept_jobSubmitted`, its owner by `arbitrate_chose`. -/
theorem printSubmitQueuesAJob : Obligations.PrintSubmitQueuesAJob := by
  unfold Obligations.PrintSubmitQueuesAJob
  intro s first count high inHand told eight firstIs countIs
  subst firstIs countIs
  refine ⟨printSubmit s, exec_printSubmit high inHand told, ?_⟩
  have refuses (r : ResultCode) (fails : printSubmit s = failRequest s r) :
      answeredWith (printSubmit s) r 0 0 ∧ requestFrame [] s (printSubmit s) := fails ▸ failRequest_refuses s r
  split
  next outside => exact refuses _ (printSubmit_outside outside)
  next range =>
  have range := not_not.mp range
  split
  next unmapped =>
    exact refuses _ (printSubmit_unmapped range ((rangeMapped_iff s _ _).mpr unmapped))
  next mapped =>
  have mapped : rangeMapped s (recFirstSlot s.re.record) (recLineCount s.re.record) = true := by
    rwa [← rangeMapped_iff, Bool.not_eq_false] at mapped
  cases found : s.pu.jobs.findIdx? fun b => decide (b.state = .free) || decide (b.state = .done) with
  | none =>
    exact refuses _ (printSubmit_full range mapped found)
  | some j =>
    have entry : freeJob s.pu = some j := found
    have passed : printSubmit s = jobSubmitted s j := printSubmit_passed range mapped entry
    obtain ⟨inside, idle⟩ := freeJob_some entry
    have kept := submittedKept_jobSubmitted inside
    have here := (jobAt_jobQueued inside j).trans (if_pos rfl)
    obtain ⟨puIs, ownerKept⟩ := jobSubmitted_pu s j
    dsimp only
    rw [passed]
    refine ⟨finishRequest_answered _ _ _ _, by rw [puIs], kept.first, kept.count, kept.next, kept.acked, kept.cutSent,
      kept.submission, kept.submitted, kept.finished, fun i less => ?slots, fun busy => ?waits, fun owner => ?chosen,
      fun owner free ready none_ => ?starts, ownerKept, puIs, ?jobs, askedFor_finishRequest askedFor_askPu,
      jobSubmitted_requestFrame s j⟩
    case slots =>
      have size : (jobSubmitted s j).pu.jobs.length = s.pu.jobs.length := by
        rw [jobSubmitted_pu_eq, arbitrate_jobs_length]
        simp [jobQueued, setJob]
      refine slotProtected_job (size ▸ inside) (Nat.le_add_right_of_le range.1) kept.active ?_ ?_
      · rw [kept.first]
        exact Nat.le_add_right _ _
      · rw [kept.first, kept.count]
        exact Nat.add_lt_add_left less _
    case waits =>
      have jobs : (jobSubmitted s j).pu.jobs = (jobQueued s j).pu.jobs := by
        rw [jobSubmitted_pu_eq]
        exact arbitrate_jobs (s := jobQueued s j) busy
      have same (k : Nat) : jobAt (jobSubmitted s j) k = jobAt (jobQueued s j) k := by rw [jobAt, jobs]; rfl
      refine ⟨by rw [same, here]; rfl, by rw [same, here]; rfl, fun k other => ?_⟩
      rw [same, jobAt_jobQueued inside, if_neg other]
    case chosen =>
      rw [kept.again, jobSubmitted_pu_eq]
      exact arbitrate_chose (s := jobQueued s j) owner
    case starts =>
      have started := arbitrate_jobQueued inside eight owner free ready none_
      have there : j < (jobQueued s j).pu.jobs.length := by simpa [jobQueued, setJob] using inside
      have now : jobAt (jobSubmitted s j) j = jobAt (jobStarted (jobQueued s j) j) j := by
        rw [jobAt, jobSubmitted_pu_eq, started]
        rfl
      rw [now, jobAt_jobStarted there, jobSubmitted_pu_eq, started]
      exact ⟨rfl, rfl, rfl⟩
    case jobs =>
      rw [jobSubmitted_eq]
      refine askedFor_finishRequest (askedFor_jobTable (k := j) (eight ▸ inside) ?_)
      have now : jobAt (jobSubmitted s j) j = jobAt (arbitrate (jobQueued s j)) j := by rw [jobAt, jobSubmitted_pu_eq]; rfl
      rw [← now]
      intro same
      rw [same] at idle
      exact absurd kept.active (by simp [inactive_of_idle idle])

end Sys2Proof.Machine
end

section
/-! PRINTER_STATUS and the printer link's changes (R155, R156; O48). -/

namespace Sys2Proof.Machine

/-! ### Frames of the printer's link -/

theorem exec_printerStatus {s : State} {p : List Byte} (high : s.bi.inReset = false)
    (frame : printerFrame s = some (kPrinterStatus, p)) : exec .printerStatus s = .next (printNotices (printerStatus s p)) := by
  have runs : exec .printerStatus s = execPrinterStatus s := rfl
  rw [runs, execPrinterStatus, frame]
  exact stepIf_enabled high (by simp)

theorem exec_printerLinkChange {s : State} {old new : LinkState} (high : s.bi.inReset = false)
    (front : frontChange s .printer = some (old, new)) (turn : unitTakes s .pu .link = true) :
    exec .printerLinkChange s = .next (printNotices (printerLinkChange s old new)) := by
  have runs : exec .printerLinkChange s = execPrinterLinkChange s := rfl
  rw [runs, execPrinterLinkChange, front]
  exact stepIf_enabled high turn

theorem reported_askPu {old : Pu} {s : State} {ofRequest : Bool} {k : CondKind} {source : Nat} (h : reported s k source) :
    reported (askPu old s ofRequest) k source := reported_of_nu h (by simp) (by simp)

/-- While the writer is busy a raise moves its own latch alone. -/
theorem latchAt_raise_busy {s : State} {k : CondKind} {source i : Nat} (busy : s.nu.writer ≠ .free)
    (other : latchIndex k source ≠ i) : latchAt (raise s k source) i = latchAt s i := by
  unfold raise
  dsimp only
  rw [look_busy]
  · simp [latchAt, other]
  · exact busy

/-! ### The condition leaves READY (R156) -/

theorem printSuspend_pu (s : State) : (printSuspend s).pu = s.pu.suspend := by simp [printSuspend]

theorem printSuspend_reports {s : State} (latches : s.nu.latches.length = 24) : reported (printSuspend s) .printStopped 0 :=
  reported_raise latches nofun

theorem printSuspend_keeps_low {s : State} (h : reported s .paperLow 0) : reported (printSuspend s) .paperLow 0 :=
  reported_raise_other nofun (by decide) (reported_of_nu h rfl rfl)

theorem latchAt_printSuspend {s : State} {i : Nat} (busy : s.nu.writer ≠ .free) (other : latchIndex .printStopped 0 ≠ i) :
    latchAt (printSuspend s) i = latchAt s i := latchAt_raise_busy (s := s.setPu s.pu.suspend) busy other

/-- A fetch that goes on after a suspension is unwanted. -/
theorem dropFetch_unwanted {u : Pu} {f : SlotFetch} (h : u.dropFetch = some f) : f.wanted = false := by
  unfold Pu.dropFetch at h
  split at h
  next g _ =>
    split at h
    next => exact nomatch h
    next => exact (Option.some.inj h) ▸ rfl
  next => exact nomatch h

theorem suspend_job {u : Pu} {j : Nat} (owner : u.owner = .job j) (inside : j < u.jobs.length) :
    u.suspend.jobs.getD j Job.free = { u.jobs.getD j Job.free with
      state := .suspended, next := (u.jobs.getD j Job.free).first + (u.jobs.getD j Job.free).acked, cutSent := false } := by
  rw [(suspend_only u).2.1 j owner]
  simp [inside]

/-! ### The condition becomes READY (R156) -/

/-- The owner's SUSPENDED job prints on. -/
def jobResumed (s : State) : State :=
  match s.pu.owner with
  | .job j => if (jobAt s j).state = .suspended then s.setPu (setJob s.pu j { jobAt s j with state := .printing }) else s
  | _ => s

/-- A suspension that was reported is over. -/
def resumeTold (s : State) : State :=
  if s.pu.reported then raise (s.setPu { s.pu with reported := false }) .printResumed 0 else s

theorem printResume_eq (s : State) : printResume s = arbitrate (resumeTold (jobResumed s)) := rfl

theorem resumeTold_pu (s : State) : (resumeTold s).pu = { s.pu with reported := false } := by
  unfold resumeTold
  split
  next => simp
  next not =>
    have still : s.pu.reported = false := Bool.eq_false_iff.mpr not
    rw [← still]

theorem resumeTold_re (s : State) : (resumeTold s).re = s.re := by
  unfold resumeTold
  split <;> simp

theorem jobResumed_other {s : State} (other : ∀ j, s.pu.owner ≠ .job j) : jobResumed s = s := by
  unfold jobResumed
  split
  next j owner => exact absurd owner (other j)
  next => rfl

theorem jobResumed_job {s : State} {j : Nat} (owner : s.pu.owner = .job j) : (jobResumed s).pu
    = { s.pu with jobs := if (jobAt s j).state = .suspended then s.pu.jobs.set j { jobAt s j with state := .printing } else s.pu.jobs } := by
  have resumed : jobResumed s = if (jobAt s j).state = .suspended then s.setPu (setJob s.pu j { jobAt s j with state := .printing })
      else s := by
    unfold jobResumed
    rw [owner]
  rw [resumed]
  split <;> rfl

theorem jobResumed_nu (s : State) : (jobResumed s).nu = s.nu := by
  unfold jobResumed
  split
  next => split <;> rfl
  next => rfl

theorem jobResumed_reported (s : State) : (jobResumed s).pu.reported = s.pu.reported := by
  unfold jobResumed
  split
  next => split <;> rfl
  next => rfl

theorem reported_arbitrate {s : State} {k : CondKind} {source : Nat} (h : reported s k source) : reported (arbitrate s) k source := by
  rw [arbitrate_only]
  exact reported_of_nu h rfl rfl

theorem printResume_reports {s : State} (latches : s.nu.latches.length = 24) (told : s.pu.reported = true) :
    reported (printResume s) .printResumed 0 := by
  rw [printResume_eq, resumeTold, if_pos (by rw [jobResumed_reported]; exact told)]
  exact reported_arbitrate (reported_raise (by simpa [jobResumed_nu] using latches) nofun)

theorem printResume_keeps_low {s : State} (h : reported s .paperLow 0) : reported (printResume s) .paperLow 0 := by
  have resumed : reported (jobResumed s) .paperLow 0 := reported_of_nu h (by rw [jobResumed_nu]) (by rw [jobResumed_nu])
  rw [printResume_eq, resumeTold]
  split
  next => exact reported_arbitrate (reported_raise_other nofun (by decide) (reported_of_nu resumed rfl rfl))
  next => exact reported_arbitrate resumed

theorem latchAt_printResume {s : State} {i : Nat} (busy : s.nu.writer ≠ .free) (other : latchIndex .printResumed 0 ≠ i) :
    latchAt (printResume s) i = latchAt s i := by
  have told : latchAt (resumeTold (jobResumed s)) i = latchAt s i := by
    unfold resumeTold
    split
    next => exact (latchAt_raise_busy (by simpa [jobResumed_nu] using busy) other).trans (by simp [latchAt, jobResumed_nu])
    next => simp [latchAt, jobResumed_nu]
  rw [printResume_eq, arbitrate_only]
  exact told

theorem arbiterChose.of_same {clock : Word} {u u' v : Pu} (h : arbiterChose clock u v) (bound : u'.bound = u.bound)
    (jobs : u'.jobs = u.jobs) (receipt : u'.receipt = u.receipt) (cond : u'.cond = u.cond) (submissions : u'.submissions = u.submissions) :
    arbiterChose clock u' v := by
  unfold arbiterChose earliestQueued at *
  rw [bound, jobs, receipt, cond, submissions]
  exact h

/-- A printer without an owner that becomes READY has one chosen. -/
theorem printResume_chose {s : State} (owner : s.pu.owner = .none) : arbiterChose s.re.clock s.pu (printResume s).pu := by
  have chose := arbitrate_chose (s := resumeTold s) (by rw [resumeTold_pu]; exact owner)
  rw [resumeTold_re, resumeTold_pu] at chose
  rw [printResume_eq, jobResumed_other (by simp [owner])]
  exact chose.of_same rfl rfl rfl rfl rfl

theorem printResume_receipt {s : State} (owner : s.pu.owner = .receipt) :
    (printResume s).pu.owner = .receipt ∧ (printResume s).pu.jobs = s.pu.jobs := by
  rw [printResume_eq, jobResumed_other (by simp [owner]), arbitrate_owned (by simp [resumeTold_pu, owner]), resumeTold_pu]
  exact ⟨owner, rfl⟩

theorem printResume_job {s : State} {j : Nat} (owner : s.pu.owner = .job j) : (printResume s).pu.owner = .job j
    ∧ (printResume s).pu.jobs
      = if (jobAt s j).state = .suspended then s.pu.jobs.set j { jobAt s j with state := .printing } else s.pu.jobs := by
  rw [printResume_eq, arbitrate_owned (by simp [resumeTold_pu, jobResumed_job owner, owner]), resumeTold_pu, jobResumed_job owner]
  exact ⟨owner, rfl⟩

/-! ### PRINTER_STATUS (R155) -/

/-- The status is taken, and a paper low that is new is reported. -/
def statusTaken (s : State) (p : List Byte) : State :=
  if paperOf p = .low ∧ s.pu.prevPaper ≠ some .low then
    raise ((popPath s .printer).setPu (s.pu.takeStatus p)) .paperLow 0
  else (popPath s .printer).setPu (s.pu.takeStatus p)

theorem statusTaken_keeps (s : State) (p : List Byte) : (statusTaken s p).pu = s.pu.takeStatus p ∧ (statusTaken s p).re = s.re
    ∧ (statusTaken s p).lu = (popPath s .printer).lu ∧ (statusTaken s p).nu.latches.length = s.nu.latches.length := by
  unfold statusTaken
  split
  next => exact ⟨by simp, by simp, by simp, (raise_latches_length _ _ _).trans (by simp)⟩
  next => exact ⟨rfl, by simp, rfl, by simp⟩

theorem statusTaken_calm {s : State} {p : List Byte} (calm : paperOf p ≠ .low ∨ s.pu.prevPaper = some .low) :
    statusTaken s p = (popPath s .printer).setPu (s.pu.takeStatus p) := if_neg (by grind)

theorem statusTaken_low {s : State} {p : List Byte} (latches : s.nu.latches.length = 24) (low : paperOf p = .low)
    (new : s.pu.prevPaper ≠ some .low) : reported (statusTaken s p) .paperLow 0 := by
  rw [statusTaken, if_pos ⟨low, new⟩]
  exact reported_raise (by simpa using latches) nofun

theorem printerStatus_eq (s : State) (p : List Byte) : printerStatus s p = askPu s.pu
    (if s.pu.cond = .ready ∧ (s.pu.takeStatus p).cond ≠ .ready then printSuspend (statusTaken s p)
     else if s.pu.cond ≠ .ready ∧ (s.pu.takeStatus p).cond = .ready then printResume (statusTaken s p)
     else statusTaken s p) false := by
  have taken : (if paperOf p = .low && decide (s.pu.prevPaper ≠ some .low) then
      raise ((popPath s .printer).setPu (s.pu.takeStatus p)) .paperLow 0
    else (popPath s .printer).setPu (s.pu.takeStatus p)) = statusTaken s p := by
    simp only [statusTaken, Bool.and_eq_true, decide_eq_true_eq]
  unfold printerStatus
  dsimp only
  rw [taken, (statusTaken_keeps s p).1]
  simp only [Bool.and_eq_true, decide_eq_true_eq]

theorem printerStatus_left {s : State} {p : List Byte} (was : s.pu.cond = .ready) (off : (s.pu.takeStatus p).cond ≠ .ready) :
    printerStatus s p = askPu s.pu (printSuspend (statusTaken s p)) false := by
  rw [printerStatus_eq, if_pos ⟨was, off⟩]

theorem printerStatus_came {s : State} {p : List Byte} (was : s.pu.cond ≠ .ready) (ready : (s.pu.takeStatus p).cond = .ready) :
    printerStatus s p = askPu s.pu (printResume (statusTaken s p)) false := by
  rw [printerStatus_eq, if_neg (fun h => was h.1), if_pos ⟨was, ready⟩]

theorem printerStatus_same {s : State} {p : List Byte} (same : s.pu.cond = .ready ↔ (s.pu.takeStatus p).cond = .ready) :
    printerStatus s p = askPu s.pu (statusTaken s p) false := by
  rw [printerStatus_eq, if_neg (fun h => h.2 (same.mp h.1)), if_neg (fun h => h.1 (same.mpr h.2))]

/-- The condition and the counts of the status are those of the frame. -/
structure statusShown (u : Pu) (p : List Byte) (v : Pu) : Prop where
  paper : v.paper = paperOf p
  cover : v.coverOpen = coverOpenOf p
  previous : v.prevPaper = some (paperOf p)
  cond : v.cond = (u.takeStatus p).cond
  cause : v.cause = (u.takeStatus p).cause
  credits : v.credits = min (creditsOf p) 16 - u.flight.length

theorem askPu_pu (old : Pu) (s : State) (ofRequest : Bool) : (askPu old s ofRequest).pu = s.pu := by simp

theorem printerStatus_same_pu {s : State} {p : List Byte} (same : s.pu.cond = .ready ↔ (s.pu.takeStatus p).cond = .ready) :
    (printerStatus s p).pu = s.pu.takeStatus p := by
  rw [printerStatus_same same, askPu_pu, (statusTaken_keeps s p).1]

theorem printerStatus_left_pu {s : State} {p : List Byte} (was : s.pu.cond = .ready) (off : (s.pu.takeStatus p).cond ≠ .ready) :
    (printerStatus s p).pu = (s.pu.takeStatus p).suspend := by
  rw [printerStatus_left was off, askPu_pu, printSuspend_pu, (statusTaken_keeps s p).1]

theorem printerStatus_came_pu {s : State} {p : List Byte} (was : s.pu.cond ≠ .ready) (ready : (s.pu.takeStatus p).cond = .ready) :
    (printerStatus s p).pu = (printResume (statusTaken s p)).pu := by
  rw [printerStatus_came was ready, askPu_pu]

theorem takeStatus_cond (u : Pu) (p : List Byte) :
    (u.takeStatus p).cond = if paperOf p = .out ∨ coverOpenOf p = true then .stopped else .ready := by
  simp only [Pu.takeStatus, Bool.or_eq_true, decide_eq_true_eq]

theorem takeStatus_cause_ready {u : Pu} {p : List Byte} (ready : (u.takeStatus p).cond = .ready) : (u.takeStatus p).cause = .none := by
  rw [takeStatus_cond] at ready
  split at ready
  next => exact nomatch ready
  next ok =>
    rw [not_or] at ok
    simp only [Pu.takeStatus, if_neg ok.1, if_neg ok.2]

theorem coverOpenOf_eq (p : List Byte) : coverOpenOf p = !decide (payByte p 1 = 0) := rfl

theorem printerStatus_shown (s : State) (p : List Byte) : statusShown s.pu p (printerStatus s p).pu := by
  by_cases was : s.pu.cond = .ready <;> by_cases now : (s.pu.takeStatus p).cond = .ready
  · rw [printerStatus_same_pu (by simp [was, now])]
    exact ⟨rfl, rfl, rfl, rfl, rfl, rfl⟩
  · rw [printerStatus_left_pu was now, (suspend_only _).1]
    exact ⟨rfl, rfl, rfl, rfl, rfl, rfl⟩
  · rw [printerStatus_came_pu was now, printResume_pu, (statusTaken_keeps s p).1]
    exact ⟨rfl, rfl, rfl, rfl, rfl, rfl⟩
  · rw [printerStatus_same_pu (by simp [was, now])]
    exact ⟨rfl, rfl, rfl, rfl, rfl, rfl⟩

theorem printerStatus_reports_low {s : State} {p : List Byte} (latches : s.nu.latches.length = 24) (low : paperOf p = .low)
    (new : s.pu.prevPaper ≠ some .low) : reported (printerStatus s p) .paperLow 0 := by
  have taken := statusTaken_low latches low new
  rw [printerStatus_eq]
  refine reported_askPu ?_
  split
  next => exact printSuspend_keeps_low taken
  next => split <;> [exact printResume_keeps_low taken; exact taken]

theorem printerStatus_quiet_latch {s : State} {p : List Byte} (calm : paperOf p ≠ .low ∨ s.pu.prevPaper = some .low)
    (busy : s.nu.writer ≠ .free) : latchAt (printerStatus s p) (latchIndex .paperLow 0) = latchAt s (latchIndex .paperLow 0) := by
  have same (t : State) : latchAt (askPu s.pu t false) (latchIndex .paperLow 0) = latchAt t (latchIndex .paperLow 0) := by
    simp [latchAt]
  have still : (statusTaken s p).nu = s.nu := by simp [statusTaken_calm calm]
  have waits : (statusTaken s p).nu.writer ≠ .free := by rwa [still]
  have kept : latchAt (statusTaken s p) (latchIndex .paperLow 0) = latchAt s (latchIndex .paperLow 0) := by rw [latchAt, still]; rfl
  rw [printerStatus_eq, same]
  split
  next => exact (latchAt_printSuspend waits (by decide)).trans kept
  next => split <;> [exact (latchAt_printResume waits (by decide)).trans kept; exact kept]

theorem printerStatus_lu (s : State) (p : List Byte) : (printerStatus s p).lu = (popPath s .printer).lu := by
  have taken := (statusTaken_keeps s p).2.2.1
  rw [printerStatus_eq]
  split
  next => simpa using taken
  next => split <;> simpa using taken

/-! ### What the change of condition does to the owner (R156, R162, R163) -/

theorem printerStatus_left_jobs {s : State} {p : List Byte} (was : s.pu.cond = .ready) (off : (s.pu.takeStatus p).cond ≠ .ready) :
    (∀ j, s.pu.owner = .job j → (printerStatus s p).pu.jobs = s.pu.jobs.set j { jobAt s j with
        state := .suspended, next := (jobAt s j).first + (jobAt s j).acked, cutSent := false })
    ∧ ((∀ j, s.pu.owner ≠ .job j) → (printerStatus s p).pu.jobs = s.pu.jobs) := by
  rw [printerStatus_left_pu was off]
  exact (suspend_only (s.pu.takeStatus p)).2

theorem printerStatus_came_chose {s : State} {p : List Byte} (was : s.pu.cond ≠ .ready) (ready : (s.pu.takeStatus p).cond = .ready)
    (owner : s.pu.owner = .none) : arbiterChose s.re.clock { s.pu with cond := .ready } (printerStatus s p).pu := by
  have taken := statusTaken_keeps s p
  have chose := printResume_chose (s := statusTaken s p) (by rw [taken.1]; exact owner)
  rw [taken.2.1, taken.1] at chose
  rw [printerStatus_came_pu was ready]
  exact chose.of_same rfl rfl rfl ready.symm rfl

theorem printerStatus_came_receipt {s : State} {p : List Byte} (was : s.pu.cond ≠ .ready)
    (ready : (s.pu.takeStatus p).cond = .ready) (owner : s.pu.owner = .receipt) :
    (printerStatus s p).pu.owner = .receipt ∧ (printerStatus s p).pu.jobs = s.pu.jobs := by
  have kept := printResume_receipt (s := statusTaken s p) (by rw [(statusTaken_keeps s p).1]; exact owner)
  rw [(statusTaken_keeps s p).1] at kept
  rw [printerStatus_came_pu was ready]
  exact kept

theorem printerStatus_came_job {s : State} {p : List Byte} {j : Nat} (was : s.pu.cond ≠ .ready)
    (ready : (s.pu.takeStatus p).cond = .ready) (owner : s.pu.owner = .job j) : (printerStatus s p).pu.owner = .job j
    ∧ (printerStatus s p).pu.jobs
      = if (jobAt s j).state = .suspended then s.pu.jobs.set j { jobAt s j with state := .printing } else s.pu.jobs := by
  have taken := (statusTaken_keeps s p).1
  have kept := printResume_job (s := statusTaken s p) (by rw [taken]; exact owner)
  have same : jobAt (statusTaken s p) j = jobAt s j := by rw [jobAt, taken]; rfl
  rw [same, taken] at kept
  rw [printerStatus_came_pu was ready]
  exact kept

/-- A printer status that changes the state of a job has the table written (R163). -/
theorem printerStatus_asks_jobTable {s : State} {p : List Byte} {k : Nat} (eight : k < 8)
    (changed : (jobAt s k).state ≠ (jobAt (printerStatus s p) k).state) : askedFor (printerStatus s p) .pu .jobTable := by
  have same (t : State) : jobAt (askPu s.pu t false) k = jobAt t k := by simp [jobAt]
  rw [printerStatus_eq] at changed ⊢
  rw [same] at changed
  exact askedFor_jobTable eight changed

theorem jobAt_of_jobs {s : State} {jobs : List Job} {j : Nat} {b : Job} (h : s.pu.jobs = jobs.set j b) (inside : j < jobs.length) :
    jobAt s j = b := by
  simp [jobAt, h, inside]

theorem printerStatus_asks_left {s : State} {p : List Byte} {j : Nat} (was : s.pu.cond = .ready)
    (off : (s.pu.takeStatus p).cond ≠ .ready) (owner : s.pu.owner = .job j) (eight : j < 8) (inside : j < s.pu.jobs.length)
    (going : (jobAt s j).state ≠ .suspended) : askedFor (printerStatus s p) .pu .jobTable := by
  refine printerStatus_asks_jobTable eight ?_
  rw [jobAt_of_jobs ((printerStatus_left_jobs was off).1 j owner) inside]
  exact going

theorem printerStatus_asks_came {s : State} {p : List Byte} {j : Nat} (was : s.pu.cond ≠ .ready)
    (ready : (s.pu.takeStatus p).cond = .ready) (owner : s.pu.owner = .job j) (eight : j < 8) (inside : j < s.pu.jobs.length)
    (suspended : (jobAt s j).state = .suspended) : askedFor (printerStatus s p) .pu .jobTable := by
  have jobs := (printerStatus_came_job was ready owner).2
  rw [if_pos suspended] at jobs
  refine printerStatus_asks_jobTable eight ?_
  rw [jobAt_of_jobs jobs inside, suspended]
  exact nofun

theorem inside_of_queued {u : Pu} {k : Nat} (queued : (u.jobs.getD k Job.free).state = .queued) : k < u.jobs.length := by
  by_contra outside
  rw [List.getD_eq_default _ _ (Nat.le_of_not_lt outside)] at queued
  exact nomatch queued

theorem printerStatus_asks_chosen {s : State} {p : List Byte} (was : s.pu.cond ≠ .ready)
    (ready : (s.pu.takeStatus p).cond = .ready) (owner : s.pu.owner = .none) (bound : s.pu.bound = false)
    (queued : ∃ k < 8, (jobAt s k).state = .queued) : askedFor (printerStatus s p) .pu .jobTable := by
  obtain ⟨k, eight, ⟨-, is, -⟩, -, jobs⟩ := (printerStatus_came_chose was ready owner).2.1 bound rfl queued
  refine printerStatus_asks_jobTable eight ?_
  rw [jobAt_of_jobs jobs (inside_of_queued is)]
  exact fun same => nomatch is.symm.trans same

/-! ### The printer link's changes (R155) -/

theorem printerLinkChange_quiet {s : State} {old new : LinkState} (quiet : wentQuiet s .printer = true) :
    printerLinkChange s old new = popPath s .printer := by simp only [printerLinkChange, quiet, if_true]

theorem printerLinkChange_between {s : State} {old new : LinkState} (off : new ≠ .up) (was : old ≠ .up) :
    printerLinkChange s old new = popPath s .printer := by simp [printerLinkChange, off, was]

/-- The Print Unit whose link has come back. -/
def backPu (u : Pu) : Pu := { u with cond := .stopped, cause := .linkDown, prevPaper := none }

/-- The Print Unit whose link has gone. -/
def offlinePu (u : Pu) : Pu := { u with cond := .offline, cause := .linkDown, credits := 0, lost := false }

theorem printerLinkChange_back {s : State} {old new : LinkState} (quiet : wentQuiet s .printer = false) (up : new = .up) :
    printerLinkChange s old new = askPu s.pu ((popPath s .printer).setPu (backPu s.pu)) false := by
  simp [printerLinkChange, quiet, up, backPu]

theorem printerLinkChange_down_ready {s : State} {old new : LinkState} (quiet : wentQuiet s .printer = false) (off : new ≠ .up)
    (was : old = .up) (ready : s.pu.cond = .ready) :
    printerLinkChange s old new = askPu s.pu (printSuspend ((popPath s .printer).setPu (offlinePu s.pu))) false := by
  simp [printerLinkChange, quiet, off, was, ready, offlinePu]

theorem printerLinkChange_down_idle {s : State} {old new : LinkState} (quiet : wentQuiet s .printer = false) (off : new ≠ .up)
    (was : old = .up) (idle : s.pu.cond ≠ .ready) :
    printerLinkChange s old new = askPu s.pu ((popPath s .printer).setPu (offlinePu s.pu)) false := by
  simp [printerLinkChange, quiet, off, was, idle, offlinePu]

theorem printerLinkChange_lu (s : State) (old new : LinkState) : (printerLinkChange s old new).lu = (popPath s .printer).lu := by
  by_cases quiet : wentQuiet s .printer = true
  · rw [printerLinkChange_quiet quiet]
  have open_ := Bool.not_eq_true _ ▸ quiet
  by_cases up : new = .up
  · rw [printerLinkChange_back open_ up]
    simp
  by_cases was : old = .up
  · by_cases ready : s.pu.cond = .ready
    · rw [printerLinkChange_down_ready open_ up was ready]
      simp
    · rw [printerLinkChange_down_idle open_ up was ready]
      simp
  · rw [printerLinkChange_between up was]

theorem printerLinkChange_down_ready_pu {s : State} {old new : LinkState} (quiet : wentQuiet s .printer = false) (off : new ≠ .up)
    (was : old = .up) (ready : s.pu.cond = .ready) : (printerLinkChange s old new).pu = (offlinePu s.pu).suspend := by
  rw [printerLinkChange_down_ready quiet off was ready, askPu_pu, printSuspend_pu]
  rfl

theorem printerLinkChange_down_idle_pu {s : State} {old new : LinkState} (quiet : wentQuiet s .printer = false) (off : new ≠ .up)
    (was : old = .up) (idle : s.pu.cond ≠ .ready) : (printerLinkChange s old new).pu = offlinePu s.pu := by
  rw [printerLinkChange_down_idle quiet off was idle, askPu_pu]
  rfl

theorem printerLinkChange_asks_down {s : State} {old new : LinkState} (quiet : wentQuiet s .printer = false) (off : new ≠ .up)
    (was : old = .up) : askedFor (printerLinkChange s old new) .pu .statusPage := by
  by_cases ready : s.pu.cond = .ready
  · rw [printerLinkChange_down_ready quiet off was ready]
    exact askedFor_askPu
  · rw [printerLinkChange_down_idle quiet off was ready]
    exact askedFor_askPu

theorem printerLinkChange_asks_jobTable {s : State} {old new : LinkState} {j : Nat} (quiet : wentQuiet s .printer = false)
    (off : new ≠ .up) (was : old = .up) (ready : s.pu.cond = .ready) (owner : s.pu.owner = .job j) (eight : j < 8)
    (inside : j < s.pu.jobs.length) (going : (jobAt s j).state ≠ .suspended) :
    askedFor (printerLinkChange s old new) .pu .jobTable := by
  rw [printerLinkChange_down_ready quiet off was ready]
  refine askedFor_jobTable eight ?_
  have jobs := (suspend_only (offlinePu s.pu)).2.1 j owner
  have now : (printSuspend ((popPath s .printer).setPu (offlinePu s.pu))).pu.jobs = (offlinePu s.pu).suspend.jobs := by
    rw [printSuspend_pu]
    rfl
  rw [jobAt_of_jobs (now.trans jobs) inside]
  exact going

/-- Settles O48: a status by whether the condition leaves READY, becomes READY or stays (`printerStatus_left`, `_came`, `_same`);
a link change by its direction. -/
theorem printerConditionFollows : Obligations.PrinterConditionFollows := by
  unfold Obligations.PrinterConditionFollows
  refine ⟨?status, ?change⟩
  case status =>
    intro s p paper shut high latches frame paperIs shutIs
    have paperSame : paper = paperOf p := paperIs
    have shutSame : coverOpenOf p = !shut := shutIs ▸ coverOpenOf_eq p
    have shown := printerStatus_shown s p
    have condIs : (printerStatus s p).pu.cond = if paper = .out ∨ shut = false then .stopped else .ready := by
      rw [shown.cond, takeStatus_cond, paperSame, shutSame]
      simp
    rw [paperSame] at condIs ⊢
    rw [← shutSame]
    refine ⟨printerStatus s p, _, exec_printerStatus high frame, printNotices_taken _, shown.paper, shown.cover, shown.previous,
      condIs, ?cause, shown.credits, printerStatus_reports_low latches, fun calm same => ?still,
      printerStatus_quiet_latch, fun same => ?same, fun was off => ⟨?left, ?leftJobs⟩, fun was ready => ?came,
      fun was off => ?suspended, fun was ready told => ?resumed, fun was ready => ?owner, fun was off j owner eight inside going => ?asksLeft,
      fun was ready => ⟨fun j owner eight inside suspended => ?asksCame, fun owner bound queued => ?asksChosen⟩,
      fun was ready => ?kept, ?path, ?links, ?asked,
      printerStatus_frame s p (.refl _ s) (by decide) (by decide)⟩
    case cause =>
      rw [shown.cause]
      have open_ : (coverOpenOf p = true) = (shut = false) := by rw [shutSame]; simp
      simp only [Pu.takeStatus, open_]
    case still =>
      rw [printerStatus_same (shown.cond ▸ same), statusTaken_calm calm]
      exact ⟨by simp, by simp⟩
    case same =>
      rw [printerStatus_same_pu (shown.cond ▸ same)]
      rfl
    case left =>
      rw [printerStatus_left_pu was (shown.cond ▸ off), (suspend_only _).1]
      rfl
    case leftJobs =>
      have jobs := printerStatus_left_jobs was (shown.cond ▸ off)
      exact ⟨fun j owner _ => jobs.1 j owner, jobs.2⟩
    case came =>
      have now : (s.pu.takeStatus p).cond = .ready := shown.cond ▸ ready
      rw [printerStatus_came_pu was now, printResume_pu, (statusTaken_keeps s p).1, ← now, ← takeStatus_cause_ready now]
      rfl
    case suspended =>
      have now : (s.pu.takeStatus p).cond ≠ .ready := shown.cond ▸ off
      have reports : reported (printerStatus s p) .printStopped 0 := by
        rw [printerStatus_left was now]
        exact reported_askPu (printSuspend_reports ((statusTaken_keeps s p).2.2.2.trans latches))
      have jobs := (printerStatus_left_jobs was now).1
      refine ⟨reports, ?_⟩
      have puIs := printerStatus_left_pu was now
      generalize printerStatus s p = t at *
      rw [(suspend_only _).1] at puIs
      have job := fun j owner inside => jobAt_of_jobs (jobs j owner) inside
      rw [puIs]
      exact ⟨rfl, rfl, fun f h => dropFetch_unwanted h, rfl, rfl, rfl, rfl, rfl, job⟩
    case resumed =>
      have now : (s.pu.takeStatus p).cond = .ready := shown.cond ▸ ready
      have taken := statusTaken_keeps s p
      constructor
      · rw [printerStatus_came was now]
        exact reported_askPu (printResume_reports (taken.2.2.2.trans latches) (by rw [taken.1]; exact told))
      · rw [printerStatus_came_pu was now, printResume_pu]
    case owner =>
      have now : (s.pu.takeStatus p).cond = .ready := shown.cond ▸ ready
      exact ⟨printerStatus_came_chose was now, printerStatus_came_receipt was now, fun j => printerStatus_came_job was now⟩
    case asksLeft => exact printerStatus_asks_left was (shown.cond ▸ off) owner eight inside going
    case asksCame => exact printerStatus_asks_came was (shown.cond ▸ ready) owner eight inside suspended
    case asksChosen => exact printerStatus_asks_chosen was (shown.cond ▸ ready) owner bound queued
    case kept =>
      rw [printerStatus_same_pu (by simp [was, ← shown.cond, ready])]
      exact ⟨rfl, rfl, rfl, rfl, rfl⟩
    case path => exact (pathTaken_of_lu (popPath_taken s .printer) (printerStatus_lu s p)).1
    case links => exact (pathTaken_of_lu (popPath_taken s .printer) (printerStatus_lu s p)).2
    case asked =>
      rw [printerStatus_eq]
      exact askedFor_askPu
  case change =>
    intro s old new high latches front turn
    have taken : pathTaken s (printerLinkChange s old new) .printer :=
      pathTaken_of_lu (popPath_taken s .printer) (printerLinkChange_lu s old new)
    refine ⟨printerLinkChange s old new, _, exec_printerLinkChange high front turn, printNotices_taken _, fun quiet => ?quiet,
      fun open_ up => ?back, fun open_ off was => ?down, fun off was => ?between, taken.1, taken.2,
      printerLinkChange_frame s old new (.refl _ s) (by decide) (by decide)⟩
    case quiet =>
      rw [printerLinkChange_quiet quiet]
      exact ⟨rfl, rfl, rfl⟩
    case back =>
      rw [printerLinkChange_back open_ up]
      exact ⟨askPu_pu _ _ _, askedFor_askPu⟩
    case between =>
      rw [printerLinkChange_between off was]
      exact ⟨rfl, rfl, rfl⟩
    case down =>
      have asked := printerLinkChange_asks_down open_ off was
      by_cases ready : s.pu.cond = .ready
      · have puIs := printerLinkChange_down_ready_pu open_ off was ready
        have suspended := suspend_only (offlinePu s.pu)
        have reports : reported (printerLinkChange s old new) .printStopped 0 := by
          rw [printerLinkChange_down_ready open_ off was ready]
          exact reported_askPu (printSuspend_reports (by simpa using latches))
        have asksTable := fun j owner inside eight going =>
          printerLinkChange_asks_jobTable (j := j) open_ off was ready owner eight inside going
        generalize printerLinkChange s old new = t at *
        rw [puIs]
        obtain ⟨fields, ofJob, other⟩ := suspended
        rw [fields]
        exact ⟨rfl, rfl, rfl, asked, fun _ => ⟨reports, rfl, rfl, rfl, rfl, rfl, rfl, rfl, fun f h => dropFetch_unwanted h, rfl, rfl,
          rfl, fun j owner inside => ⟨ofJob j owner, asksTable j owner inside⟩, other⟩, rfl, fun idle => absurd ready idle⟩
      · rw [printerLinkChange_down_idle_pu open_ off was ready]
        exact ⟨rfl, rfl, rfl, asked, fun is => absurd is ready, rfl, fun _ => rfl⟩

end Sys2Proof.Machine
end

section
/-! LINE_DONE (R154, R160, R163), decimal digits and the block's frames (R159; O49). -/

namespace Sys2Proof.Machine

theorem exec_lineDone {s : State} {p : List Byte} (high : s.bi.inReset = false) (frame : printerFrame s = some (kLineDone, p)) :
    exec .lineDone s = .next (printNotices (lineDone s p)) := by
  have runs : exec .lineDone s = execLineDone s := rfl
  rw [runs, execLineDone, frame]
  exact stepIf_enabled high (by simp)

/-! ### A stray sequence -/

theorem takeLineDone_stray {s : State} {seq : Half} (stray : ∀ f rest, s.pu.flight = f :: rest → f.seq ≠ seq) :
    takeLineDone s seq = s.setPu { s.pu with stray := sat s.pu.stray } := by
  unfold takeLineDone
  split
  next f rest flight => rw [if_neg (stray f rest flight)]
  next => rfl

/-! ### An acknowledgement -/

/-- The oldest frame has left the flight list, and its credit is back. -/
def lineTaken (s : State) (rest : List Flight) : State :=
  (popPath s .printer).setPu { s.pu with flight := rest, credits := min (s.pu.credits + 1) 16 }

theorem lineDone_acknowledges {s : State} {p : List Byte} {f : Flight} {rest : List Flight} (flight : s.pu.flight = f :: rest)
    (same : f.seq = payHalf p 0) : lineDone s p = askPu s.pu (acknowledge (lineTaken s rest) f.kind) false := by
  have takes : takeLineDone (popPath s .printer) (payHalf p 0) = acknowledge (lineTaken s rest) f.kind := by
    unfold takeLineDone
    split
    next g others now =>
      obtain ⟨rfl, rfl⟩ := List.cons.inj (now.symm.trans flight)
      rw [if_pos same]
      rfl
    next now => exact nomatch now.symm.trans flight
  rw [lineDone, takes]

/-- A line of the stream moves the print index, and begins the block at the close mark (R158). -/
theorem acknowledge_stream (s : State) : (acknowledge s .stream).pu.printIndex = s.pu.printIndex + 1
    ∧ (s.pu.receipt = .closing → s.pu.printIndex + 1 = s.pu.closeMark → (acknowledge s .stream).pu.receipt = .block
        ∧ (acknowledge s .stream).pu.block = blockFrames s s.pu.blockKind ∧ (acknowledge s .stream).pu.blockNext = 0
        ∧ (acknowledge s .stream).pu.blockAcked = 0)
    ∧ (s.pu.receipt ≠ .closing ∨ s.pu.printIndex + 1 ≠ s.pu.closeMark → (acknowledge s .stream).pu.receipt = s.pu.receipt
        ∧ (acknowledge s .stream).pu.block = s.pu.block ∧ (acknowledge s .stream).pu.blockNext = s.pu.blockNext
        ∧ (acknowledge s .stream).pu.blockAcked = s.pu.blockAcked) := by
  have runs : acknowledge s .stream = composeBlock (s.setPu { s.pu with printIndex := s.pu.printIndex + 1 }) := rfl
  have check : ((decide (s.pu.receipt = .closing) && decide (s.pu.printIndex + 1 = s.pu.closeMark)) = true)
      = (s.pu.receipt = .closing ∧ s.pu.printIndex + 1 = s.pu.closeMark) := by rw [Bool.and_eq_true, decide_eq_true_eq, decide_eq_true_eq]
  by_cases reached : s.pu.receipt = .closing ∧ s.pu.printIndex + 1 = s.pu.closeMark
  · rw [runs, composeBlock, if_pos (check ▸ reached)]
    exact ⟨rfl, fun _ _ => ⟨rfl, rfl, rfl, rfl⟩, fun not => absurd reached (by grind)⟩
  · rw [runs, composeBlock, if_neg (check ▸ reached)]
    exact ⟨rfl, fun closing mark => absurd ⟨closing, mark⟩ reached, fun _ => ⟨rfl, rfl, rfl, rfl⟩⟩

theorem acknowledge_jobLine {s : State} {j : Nat} (owner : s.pu.owner = .job j) : acknowledge s .jobLine
    = s.setPu (setJob s.pu j { jobAt s j with acked := (jobAt s j).acked + 1 }) := by simp only [acknowledge, owner]

theorem acknowledge_cutJob {s : State} {j : Nat} (owner : s.pu.owner = .job j) : acknowledge s .cut = endJob s j := by
  simp only [acknowledge, owner]

theorem acknowledge_cutReceipt {s : State} (owner : s.pu.owner = .receipt) : acknowledge s .cut = endReceipt s := by
  simp only [acknowledge, owner]

/-! ### The ends (R160, R163) -/

/-- The arbiter leaves a job that is not QUEUED. -/
theorem jobAt_arbitrate_unqueued {s : State} {k : Nat} (not : (jobAt s k).state ≠ .queued) : jobAt (arbitrate s) k = jobAt s k := by
  by_cases owner : s.pu.owner = .none
  · obtain ⟨held, starts, idle⟩ := arbitrate_chose owner
    by_cases bound : s.pu.bound = true
    · simp only [jobAt, (held bound).1]
    have free := Bool.eq_false_iff.mpr bound
    by_cases ready : s.pu.cond = .ready ∧ ∃ j < 8, (jobAt s j).state = .queued
    · obtain ⟨j, -, ⟨-, queued, -⟩, -, jobs⟩ := starts free ready.1 ready.2
      have other : j ≠ k := fun same => not (same ▸ queued)
      simp [jobAt, jobs, other]
    · rw [not_and_or, not_exists] at ready
      have waits := (idle free (ready.imp_right fun none_ j less is => none_ j ⟨less, is⟩)).2
      simp only [jobAt, waits]
  · rw [arbitrate_owned owner]

/-- The Print Unit at the end of job `j`, before the arbiter looks. -/
def jobEnded (s : State) (j : Nat) : State :=
  raise (s.setPu { setJob s.pu j { jobAt s j with state := .done, finished := s.re.clock } with
    jobsDone := s.pu.jobsDone + 1, owner := .none, lastDone := j, lastDoneFirst := (jobAt s j).first }) .documentDone j

theorem endJob_eq (s : State) (j : Nat) : endJob s j = arbitrate (jobEnded s j) := rfl

theorem jobEnded_pu (s : State) (j : Nat) : (jobEnded s j).pu
    = { s.pu with
        jobs := s.pu.jobs.set j { jobAt s j with state := .done, finished := s.re.clock }, jobsDone := s.pu.jobsDone + 1
        owner := .none, lastDone := j, lastDoneFirst := (jobAt s j).first } := by
  simp [jobEnded, setJob]

theorem jobAt_jobEnded {s : State} {j : Nat} (inside : j < s.pu.jobs.length) :
    jobAt (jobEnded s j) j = { jobAt s j with state := .done, finished := s.re.clock } :=
  jobAt_of_jobs (congrArg Pu.jobs (jobEnded_pu s j)) inside

theorem endJob_job {s : State} {j : Nat} (inside : j < s.pu.jobs.length) :
    jobAt (endJob s j) j = { jobAt s j with state := .done, finished := s.re.clock } := by
  rw [endJob_eq, jobAt_arbitrate_unqueued] <;> rw [jobAt_jobEnded inside]
  exact nofun

theorem endJob_reports {s : State} {j : Nat} (latches : s.nu.latches.length = 24) : reported (endJob s j) .documentDone j :=
  reported_arbitrate (reported_raise latches nofun)

theorem endJob_chose (s : State) (j : Nat) : arbiterChose s.re.clock
    { s.pu with jobs := s.pu.jobs.set j { jobAt s j with state := .done, finished := s.re.clock } } (endJob s j).pu := by
  have chose := arbitrate_chose (s := jobEnded s j) (by rw [jobEnded_pu])
  have clock : (jobEnded s j).re = s.re := by simp [jobEnded]
  rw [clock, jobEnded_pu] at chose
  exact chose.of_same rfl rfl rfl rfl rfl

theorem endReceipt_ended (s : State) : (endReceipt s).pu.receipt = .ended
    ∧ .receiptEnded false false ∈ (endReceipt s).su.inbox
    ∧ arbiterChose s.re.clock { s.pu with receipt := .ended } (endReceipt s).pu := by
  refine ⟨?_, ?_, ?_⟩
  · rw [endReceipt, arbitrate_only]
    rfl
  · rw [endReceipt, arbitrate_only]
    exact List.mem_append_right _ List.mem_cons_self
  · have chose := arbitrate_chose (s := suSend (s.setPu { s.pu with receipt := .ended, owner := .none }) (.receiptEnded false false)) rfl
    exact chose.of_same rfl rfl rfl rfl rfl

/-! ### Decimal digits (R159) -/

/-- Decimal digits whose first is not 0 unless the number is. -/
def writesNumber (n : Nat) (digits : List Byte) : Prop := decimalDigits n digits ∧ (0 < n → digits.head? ≠ some 48)

theorem digit_toNat {d : Nat} (less : d < 10) : (nat1 (48 + d)).toNat = 48 + d := by
  simp only [nat1, BitVec.toNat_ofNat]
  omega

theorem writesNumber_digit {n : Nat} (less : n < 10) : writesNumber n [nat1 (48 + n)] := by
  have value := digit_toNat less
  refine ⟨⟨List.cons_ne_nil _ _, fun d is => ?range, ?value, fun long => absurd long (Nat.lt_irrefl 1)⟩, fun positive zero => ?head⟩
  case range =>
    rw [List.mem_singleton.mp is, value]
    omega
  case value => simp [value]
  case head =>
    have same := congrArg BitVec.toNat (Option.some.inj zero)
    rw [value] at same
    have fortyEight : (48 : Byte).toNat = 48 := rfl
    omega

theorem writesNumber_append {n : Nat} {digits : List Byte} (tens : 10 ≤ n) (h : writesNumber (n / 10) digits) :
    writesNumber n (digits ++ [nat1 (48 + n % 10)]) := by
  obtain ⟨⟨some_, range, value, -⟩, head⟩ := h
  have last := digit_toNat (Nat.mod_lt n (Nat.zero_lt_succ 9))
  have first : (digits ++ [nat1 (48 + n % 10)]).head? ≠ some 48 := by
    rw [List.head?_append_of_ne_nil _ some_]
    exact head (by omega)
  refine ⟨⟨by simp, fun d is => ?range, ?value, fun _ => first⟩, fun _ => first⟩
  case range =>
    obtain before | here := List.mem_append.mp is
    · exact range d before
    · rw [List.mem_singleton.mp here, last]
      omega
  case value =>
    rw [List.foldl_append, value]
    simp only [List.foldl_cons, List.foldl_nil, last]
    omega

/-- Enough fuel writes the whole number before what stands there. -/
theorem decimalFrom_writes (fuel : Nat) {n : Nat} (less : n < 10 ^ (fuel + 1)) (rest : List Byte) :
    ∃ digits, decimalFrom (fuel + 1) n rest = digits ++ rest ∧ writesNumber n digits := by
  induction fuel generalizing n rest with
  | zero =>
    rw [decimalFrom, if_pos (by simpa using less)]
    exact ⟨_, rfl, writesNumber_digit (by simpa using less)⟩
  | succ fuel ih =>
    rw [decimalFrom]
    split
    next small => exact ⟨_, rfl, writesNumber_digit small⟩
    next tens =>
      obtain ⟨digits, written, number⟩ := ih (n := n / 10) (by rw [pow_succ] at less; omega) (nat1 (48 + n % 10) :: rest)
      exact ⟨digits ++ [nat1 (48 + n % 10)], by simp [written], writesNumber_append (by omega) number⟩

theorem decimal_digits {n : Nat} (less : n < 10 ^ 24) : decimalDigits n (decimal n) := by
  obtain ⟨digits, written, number⟩ := decimalFrom_writes 23 less []
  rw [decimal, written, List.append_nil]
  exact number.1

/-! ### The frames of a block (R159) -/

theorem hexDigit_eq {n : Nat} (less : n < 16) :
    hexDigit n = ([48, 49, 50, 51, 52, 53, 54, 55, 56, 57, 65, 66, 67, 68, 69, 70] : List Byte).getD n 0 := by
  have all : ∀ d : Fin 16, hexDigit d
      = ([48, 49, 50, 51, 52, 53, 54, 55, 56, 57, 65, 66, 67, 68, 69, 70] : List Byte).getD d 0 := by decide
  exact all ⟨n, less⟩

theorem labelValue_eq (label value : List Byte) :
    labelValue label value = label ++ List.replicate (48 - (label.length + value.length)) 32 ++ value := by
  rw [labelValue, spaces, Nat.sub_sub]

theorem cardValue_eq (t : Tender) : cardValue t = [42, 42, 42, 42] ++ t.lastFour ++ [32]
    ++ (if ∀ c ∈ t.code, c = 0 then [] else t.code ++ [32]) ++ amountText t.applied := by
  simp only [cardValue, List.all_eq_true, beq_iff_eq]

theorem tenderLine_eq (s : State) (t : Tender) : tenderLine s t
    = if t.state = .approved then some (.line (labelValue (labelText s 1) (cardValue t)))
      else if t.state = .taken then some (.line (labelValue (labelText s 2) (amountText t.received))) else none := by
  unfold tenderLine
  split
  next approved => rw [if_pos approved]
  next taken => rw [if_neg (by simp [taken]), if_pos taken]
  next other cash => rw [if_neg other, if_neg cash]

theorem hexText_eq (h : Half) : hexText h = [h.toNat / 4096, h.toNat / 256, h.toNat / 16, h.toNat].map fun n =>
    ([48, 49, 50, 51, 52, 53, 54, 55, 56, 57, 65, 66, 67, 68, 69, 70] : List Byte).getD (n % 16) 0 := by
  have digit (n : Nat) := hexDigit_eq (Nat.mod_lt n (Nat.zero_lt_succ 15))
  simp only [hexText, digit, List.map_cons, List.map_nil]

/-- The change line stands where a tender is TAKEN. -/
theorem changeLines_eq (tenders : List Tender) (lines : List BlockFrame) :
    (if tenders.any fun t => decide (t.state = .taken) then lines else [])
      = if ∃ x ∈ tenders, x.state = .taken then lines else [] := if_congr (by simp) rfl rfl

/-- The frames both blocks end with, for a check code. -/
theorem blockEnd_eq (s : State) {check : Nat} (fixed : (fixedCheck s).toNat = check) : blockEnd s
    = [.line (saleLaneText s), .line (labelText s 6 ++ [32] ++ ([check / 4096, check / 256, check / 16, check].map fun n =>
        ([48, 49, 50, 51, 52, 53, 54, 55, 56, 57, 65, 66, 67, 68, 69, 70] : List Byte).getD (n % 16) 0)), .feed 4, .cut] := by
  rw [blockEnd, hexText_eq, fixed]

theorem blockFrames_rule (s : State) (kind : BlockKind) : blockFrames s kind = blockRule s decimal kind := by
  have tender := funext (tenderLine_eq s)
  cases kind <;> cases fixed : s.ju.fixed
  all_goals
    have ends := blockEnd_eq s (check := (fixedCheck s).toNat) rfl
    simp only [fixedCheck, fixed] at ends
    simp only [blockFrames, blockRule, ends, fixed, tender, changeLines_eq, labelValue_eq, cardValue_eq, saleLaneText, List.append_assoc, List.cons_append,
      List.nil_append]
    rfl

/-! ### LINE_DONE -/

theorem jobAt_askPu (old : Pu) (s : State) (ofRequest : Bool) (k : Nat) : jobAt (askPu old s ofRequest) k = jobAt s k := by
  simp [jobAt]

theorem askedFor_jobTable_acked {old : Pu} {s : State} {ofRequest : Bool} {k : Nat} (eight : k < 8)
    (changed : (old.jobs.getD k Job.free).acked ≠ (jobAt s k).acked) : askedFor (askPu old s ofRequest) .pu .jobTable :=
  askedFor_askPu_jobs (List.ne_nil_of_mem (List.mem_filter.mpr
    ⟨List.mem_range.mpr eight, by rw [Bool.or_eq_true]; exact .inr (decide_eq_true changed)⟩))

theorem lineDone_lu (s : State) (p : List Byte) : (lineDone s p).lu = (popPath s .printer).lu := by simp [lineDone]

/-- A line of a job is acknowledged (R163). -/
theorem jobLine_acknowledged {s : State} {j : Nat} (owner : s.pu.owner = .job j) (inside : j < s.pu.jobs.length) :
    jobAt (acknowledge s .jobLine) j = { jobAt s j with acked := (jobAt s j).acked + 1 }
    ∧ ∀ k, k ≠ j → jobAt (acknowledge s .jobLine) k = jobAt s k := by
  rw [acknowledge_jobLine owner]
  exact ⟨by simp [jobAt, setJob, inside], fun k other => by simp [jobAt, setJob, other.symm]⟩

/-- Settles O49: an acknowledgement moves what `acknowledge_only` says; the ends by `endJob_chose` and `endReceipt_ended`. -/
theorem lineDoneAcknowledges : Obligations.LineDoneAcknowledges := by
  unfold Obligations.LineDoneAcknowledges
  refine ⟨?stray, ?acknowledged, fun n less => decimal_digits less, blockFrames_rule⟩
  case stray =>
    intro s p high frame stray
    have same : lineDone s p = askPu s.pu ((popPath s .printer).setPu { s.pu with stray := sat s.pu.stray }) false := by
      rw [lineDone, takeLineDone_stray (s := popPath s .printer) stray]
      rfl
    refine ⟨lineDone s p, _, exec_lineDone high frame, printNotices_taken _, ?_, ?_, ?_,
      pathTaken_of_lu (popPath_taken s .printer) (lineDone_lu s p), lineDone_frame s p (.refl _ s) (by decide) (by decide)⟩
    · rw [same, askPu_pu]
      rfl
    · exact askedFor_askPu
    · rw [same]
      simp
  case acknowledged =>
    intro s p f rest high latches frame flight sameSeq
    have taken := pathTaken_of_lu (popPath_taken s .printer) (lineDone_lu s p)
    have whole := lineDone_frame s p (.refl [.pu, .lu] s) (by decide) (by decide)
    have runs := exec_lineDone high frame
    rw [lineDone_acknowledges flight sameSeq] at taken whole runs
    have moved := acknowledge_only (lineTaken s rest) f.kind
    refine ⟨_, _, runs, printNotices_taken _, ?flight, ?credits, taken.1, taken.2, ?fields, ?running, ?stream, ?block, ?jobs,
      ?done, ?receipt, ?unowned, fun isStream => ?isStream, fun isBlock => ?isBlock, fun j isLine owner inside => ?isLine,
      fun j isCut owner inside => ?isCutJob, fun isCut owner => ?isCutReceipt, askedFor_askPu, whole⟩
    case isLine =>
      have here := jobLine_acknowledged (s := lineTaken s rest) owner inside
      rw [isLine]
      refine ⟨by rw [jobAt_askPu, here.1]; rfl, fun k other => by rw [jobAt_askPu, here.2 k other]; rfl, fun eight => ?_⟩
      refine askedFor_jobTable_acked eight ?_
      rw [here.1]
      exact Nat.ne_of_lt (Nat.lt_succ_self _)
    case isCutJob =>
      have moved := moved.ended j isCut owner
      have job := endJob_job (s := lineTaken s rest) (j := j) inside
      have ends := acknowledge_cutJob (s := lineTaken s rest) owner
      have chose := endJob_chose (lineTaken s rest) j
      rw [isCut, ends] at moved ⊢
      rw [jobAt_askPu, askPu_pu, job]
      refine ⟨rfl, rfl, moved.1, moved.2.1, moved.2.2, reported_askPu (endJob_reports (by simpa [lineTaken] using latches)),
        fun eight going => askedFor_jobTable eight ?_, chose.of_same rfl rfl rfl rfl rfl⟩
      rw [job]
      exact going
    case isCutReceipt =>
      have ended := endReceipt_ended (lineTaken s rest)
      rw [isCut, acknowledge_cutReceipt (s := lineTaken s rest) owner, askPu_pu]
      exact ⟨ended.1, by simpa using ended.2.1, ended.2.2.of_same rfl rfl rfl rfl rfl⟩
    case isStream =>
      have moved := acknowledge_stream (lineTaken s rest)
      rw [isStream, askPu_pu]
      exact moved
    case isBlock =>
      rw [isBlock, askPu_pu]
      exact ⟨rfl, rfl⟩
    case unowned =>
      intro isCut owner
      rw [moved.unowned isCut owner, askPu_pu]
      exact ⟨owner, rfl, by simp [lineTaken], by simp [lineTaken]⟩
    case running =>
      intro not
      obtain ⟨owner, nu, su⟩ := moved.running not
      rw [askPu_pu]
      exact ⟨owner, by simpa [lineTaken] using nu, by simpa [lineTaken] using su⟩
    all_goals rw [askPu_pu]
    case flight => rw [moved.fields]; rfl
    case credits => rw [moved.fields]; rfl
    case fields =>
      have fields := moved.fields
      generalize acknowledge (lineTaken s rest) f.kind = t at fields
      rw [fields]
      rfl
    case stream => exact moved.stream
    case block => exact moved.block
    case jobs => exact moved.jobs
    case done => exact moved.done
    case receipt => exact moved.receipt

end Sys2Proof.Machine
end

section
/-! The print frames and the SU's tells (R152, R153, R157, R158, R160; O50). -/

namespace Sys2Proof.Machine

/-! ### The words of a slot -/

/-- The bytes of consecutive words are the bytes of the memory. -/
theorem bytesOfWords_readWords (m : List Host.Cell) (a n : Nat) :
    bytesOfWords (Memory.readWords m a n) = (List.range (4 * n)).map fun i => Memory.readByte m (a + i) := by
  induction n generalizing a with
  | zero => rfl
  | succ n ih =>
    have split4 : List.range (4 * (n + 1)) = List.range 4 ++ (List.range (4 * n)).map (4 + ·) := by
      rw [Nat.mul_succ, Nat.add_comm, List.range_add]
    rw [Memory.readWords, bytesOfWords, Memory.readWord, le4_wordOfBytes, ih, split4, List.map_append, List.map_map]
    simp only [Function.comp_def, Nat.add_assoc]
    rfl

theorem bytesOfWords_append (a b : List Word) : bytesOfWords (a ++ b) = bytesOfWords a ++ bytesOfWords b := by
  induction a with
  | nil => rfl
  | cons w rest ih => simp only [List.cons_append, bytesOfWords, ih, List.append_assoc]

/-- The 52 bytes of a slot as R152 lists them. -/
theorem slotBytes_eq (m : List Host.Cell) (fr : Nat) : bytesOfWords (Memory.readWords m fr 8 ++ Memory.readWords m (fr + 32) 5)
    = (List.range 52).map fun i => Memory.readByte m (fr + i) := by
  have split32 : List.range 52 = List.range 32 ++ (List.range 20).map (32 + ·) := List.range_add (n := 32) (m := 20)
  rw [bytesOfWords_append, bytesOfWords_readWords, bytesOfWords_readWords, split32, List.map_append, List.map_map]
  simp only [Function.comp_def, Nat.add_assoc]

/-- Attribute and text of a slot, byte by byte. -/
theorem slotText_read {m : List Host.Cell} {fr n : Nat} (length : n = min (Memory.readByte m (fr + 1)).toNat 48) :
    slotText (Memory.readWords m fr 8 ++ Memory.readWords m (fr + 32) 5)
      = Memory.readByte m fr :: (List.range n).map fun i => Memory.readByte m (fr + 2 + i) := by
  have text : (List.range 52).drop 2 = (List.range 50).map (2 + ·) := by decide
  have fits : min n 50 = n := by omega
  rw [slotText, slotBytes_eq]
  simp only [← List.map_drop, text, ← List.map_take, List.map_map, List.take_range]
  have first : ((List.range 52).map fun i => Memory.readByte m (fr + i)).getD 0 0 = Memory.readByte m fr := rfl
  have second : ((List.range 52).map fun i => Memory.readByte m (fr + i)).getD 1 0 = Memory.readByte m (fr + 1) := rfl
  rw [first, second, ← length, fits]
  simp only [Function.comp_def, Nat.add_assoc]

/-! ### A frame is offered (R153) -/

theorem exec_printFrameOffer {s : State} (high : s.bi.inReset = false) (ready : s.pu.cond = .ready) (credit : 0 < s.pu.credits)
    (told : s.pu.lost = false) (free : unitBusy s .pu = false) (none_ : unitHolds s .pu = false) :
    exec .printFrameOffer s = .next (printFrameOffer s) :=
  stepIf_enabled high (by simp [(maySend_iff s.pu).mpr ⟨ready, credit, told⟩, free, none_])

/-- The fetch in hand is what it says. -/
def fetchLeft (s : State) (fetch : Option SlotFetch) : State := s.setPu { s.pu with fetch := fetch }

theorem printFrameOffer_next {s : State} {x : NextFrame} (none_ : s.pu.ready = none) (next : nextFrame s = some x) :
    printFrameOffer s = makeFrame s x := by simp only [printFrameOffer, none_, next]

theorem printFrameOffer_made {s : State} {f : ReadyFrame} (none_ : s.pu.ready = none) (next : nextFrame s = some (.made f)) :
    printFrameOffer s = offerPrint (fetchLeft s s.pu.fetch) f := printFrameOffer_next none_ next

theorem SlotFetch.serves_iff (g : SlotFetch) (slot : Nat) (flight : FlightKind) :
    g.serves slot flight = true ↔ g.wanted = true ∧ g.slot = slot ∧ g.flight = flight := by
  simp [SlotFetch.serves, and_assoc]

theorem printFrameOffer_fetched {s : State} {g : SlotFetch} (none_ : s.pu.ready = none) (fetch : s.pu.fetch = some g)
    (next : nextFrame s = some (.slot g.slot g.flight)) (wanted : g.wanted = true) (whole : g.left = 0) :
    printFrameOffer s = offerPrint (fetchLeft s none) (lineFrame s g.words g.flight) := by
  have serves : g.serves g.slot g.flight = true := (g.serves_iff _ _).mpr ⟨wanted, rfl, rfl⟩
  rw [printFrameOffer_next none_ next]
  simp only [makeFrame, fetch, serves, whole, Bool.not_true, Bool.false_eq_true, if_false, if_true]
  rfl

/-- Where the owner's place moves on. -/
theorem taken_place (u : Pu) (f : ReadyFrame) : (u.taken f).owner = u.owner ∧ (u.taken f).receipt = u.receipt
    ∧ (u.taken f).fetch = u.fetch
    ∧ (u.owner = .receipt → u.receipt ≠ .block → (u.taken f).nextUnsent = u.nextUnsent + 1)
    ∧ (u.owner = .receipt → u.receipt = .block → (u.taken f).blockNext = u.blockNext + 1)
    ∧ (∀ j, u.owner = .job j → (u.taken f).jobs = u.jobs.set j (if f.flight = .cut then { u.jobs.getD j Job.free with cutSent := true }
        else { u.jobs.getD j Job.free with next := (u.jobs.getD j Job.free).next + 1 }))
    ∧ ((∀ j, u.owner ≠ .job j) → (u.taken f).jobs = u.jobs) := by
  unfold Pu.taken Pu.advance
  rcases owner : u.owner with _ | _ | j
  · simp
  · by_cases block : u.receipt = .block <;> simp [block]
  · simp [setJob]

theorem offerPrint_fetch (s : State) (f : ReadyFrame) : (offerPrint s f).pu.fetch = s.pu.fetch := by
  unfold offerPrint
  dsimp only
  split
  next =>
    rw [askPu_pu]
    exact (taken_place (linkSend s .printer f.kind f.payload).pu f).2.2.1
  next => split <;> rfl

theorem offerPrint_links_other {s : State} {f : ReadyFrame} {l : LinkId} (other : l ≠ .printer) :
    (offerPrint s f).link l = s.link l := by
  unfold offerPrint
  dsimp only
  split
  next =>
    have sent : (linkSend s .printer f.kind f.payload).link l = s.link l := State.link_setLink_other _ _ _ l other
    simpa [State.link] using sent
  next => split <;> rfl

/-- What becomes of a slot's fetch (R152). -/
theorem printFrameOffer_slot {s : State} {slot : Nat} {flight : FlightKind} (none_ : s.pu.ready = none)
    (next : nextFrame s = some (.slot slot flight)) :
    (s.pu.fetch = none → printFrameOffer s = beginFetch s slot flight)
    ∧ (∀ g, s.pu.fetch = some g → g.wanted = true → g.slot = slot → g.flight = flight → g.left ≠ 0 → printFrameOffer s = s)
    ∧ (∀ g, s.pu.fetch = some g → g.wanted = false ∨ g.slot ≠ slot ∨ g.flight ≠ flight →
        printFrameOffer s = fetchLeft s (if g.left = 0 then none else some { g with wanted := false })) := by
  rw [printFrameOffer_next none_ next]
  refine ⟨fun fetch => by simp only [makeFrame, fetch], fun g fetch wanted atSlot ofKind left => ?_, fun g fetch not => ?_⟩
  · have serves := (g.serves_iff slot flight).mpr ⟨wanted, atSlot, ofKind⟩
    simp only [makeFrame, fetch, serves, left, Bool.not_true, Bool.false_eq_true, if_false]
  · have serves : g.serves slot flight = false := by
      refine Bool.eq_false_iff.mpr fun is => ?_
      obtain ⟨wanted, atSlot, ofKind⟩ := (g.serves_iff slot flight).mp is
      simp [wanted, atSlot, ofKind] at not
    simp only [makeFrame, fetch, serves, Bool.not_false, if_true, Pu.dropFetch]
    rfl

/-! ### The SU's tells (R157, R158, R160) -/

theorem printTell_eq {s : State} {x : PrintTell} {rest : List PrintTell} (turn : unitTakes s .pu .tell = true)
    (front : s.pu.tells = x :: rest) : printTell s = some x := by simp only [printTell, turn, front, if_true, List.head?_cons]

theorem exec_receiptBegin {s : State} {rest : List PrintTell} (high : s.bi.inReset = false) (turn : unitTakes s .pu .tell = true)
    (front : s.pu.tells = .receiptBegins :: rest) : exec .receiptBegin s = .next (printNotices (receiptBegin s)) := by
  have runs : exec .receiptBegin s = execReceiptBegin s := rfl
  rw [runs, execReceiptBegin, printTell_eq turn front]
  exact stepIf_enabled high rfl

theorem exec_receiptCloseMark {s : State} {mark : Half} {kind : BlockKind} {rest : List PrintTell} (high : s.bi.inReset = false)
    (turn : unitTakes s .pu .tell = true) (front : s.pu.tells = .closeMark mark kind :: rest) :
    exec .receiptCloseMark s = .next (printNotices (receiptCloseMark s mark kind)) := by
  have runs : exec .receiptCloseMark s = execReceiptCloseMark s := rfl
  rw [runs, execReceiptCloseMark, printTell_eq turn front]
  exact stepIf_enabled high rfl

theorem exec_saleIdleTell {s : State} {rest : List PrintTell} (high : s.bi.inReset = false) (turn : unitTakes s .pu .tell = true)
    (front : s.pu.tells = .saleIdle :: rest) : exec .saleIdleTell s = .next (printNotices (saleIdleTold s)) := by
  have runs : exec .saleIdleTell s = execSaleIdleTell s := rfl
  rw [runs, execSaleIdleTell, printTell_eq turn front]
  exact stepIf_enabled high rfl

/-- The Print Unit with a receipt bound to it. -/
def receiptBound (s : State) : State := s.setPu { s.pu with tells := s.pu.tells.tail, bound := true, receipt := .printing }

theorem receiptBegin_arbitrates (s : State) : (receiptBegin s).pu = (arbitrate (receiptBound s)).pu := askPu_pu _ _ _

/-- The Print Unit that no receipt binds. -/
def receiptFreed (s : State) : State := s.setPu { s.pu with tells := s.pu.tells.tail, bound := false, receipt := .none }

theorem saleIdleTold_eq (s : State) : saleIdleTold s = askPu s.pu (arbitrate (receiptFreed s)) false := rfl

theorem saleIdleTold_chose {s : State} (owner : s.pu.owner = .none) :
    arbiterChose s.re.clock { s.pu with bound := false, receipt := .none } (saleIdleTold s).pu := by
  have chose := arbitrate_chose (s := receiptFreed s) owner
  rw [saleIdleTold_eq, askPu_pu]
  exact chose.of_same rfl rfl rfl rfl rfl

theorem saleIdleTold_asks_jobTable {s : State} (owner : s.pu.owner = .none) (ready : s.pu.cond = .ready)
    (queued : ∃ k < 8, (jobAt s k).state = .queued) : askedFor (saleIdleTold s) .pu .jobTable := by
  obtain ⟨k, eight, ⟨-, is, -⟩, -, jobs⟩ := (saleIdleTold_chose owner).2.1 rfl ready queued
  rw [saleIdleTold_eq] at jobs ⊢
  rw [askPu_pu] at jobs
  refine askedFor_jobTable eight ?_
  rw [jobAt_of_jobs jobs (inside_of_queued is)]
  exact fun same => nomatch is.symm.trans same

/-- Settles O50: the offer by `offerPrint_taken`, `_full`, `_lost`; the fetch by `printFrameOffer_slot`; the text by `slotText_read`;
the tells by `arbitrate_chose` and `composeBlock`. -/
theorem printFramesAndReceiptTells : Obligations.PrintFramesAndReceiptTells := by
  unfold Obligations.PrintFramesAndReceiptTells
  refine ⟨?offer, ?fetch, ?receiptNext, fun s => ⟨fun _ => rfl, fun _ => rfl, rfl, rfl⟩, ?jobNext, ?text, ?begins, ?mark, ?idle⟩
  case offer =>
    intro s f fetch high ready credit told none_ free holds next
    have offered : printFrameOffer s = offerPrint (fetchLeft s fetch) f := by
      obtain ⟨made, rfl⟩ | ⟨g, have_, slot, wanted, whole, rfl, rfl⟩ := next
      · exact printFrameOffer_made none_ made
      · exact printFrameOffer_fetched none_ have_ slot wanted whole
    have runs := exec_printFrameOffer high ready credit told free holds
    rw [offered] at runs
    refine ⟨_, runs, ?kept, fun up room => ?taken, fun up full => ?full, fun down => ?lost, fun l other => offerPrint_links_other other,
      offerPrint_frame _ _ (eventFrame_setPu (.refl _ s) (by decide)) (by decide) (by decide)⟩
    case taken =>
      have takes : linkTakes (fetchLeft s fetch) .printer = true := Bool.and_eq_true_iff.mpr ⟨decide_eq_true up, decide_eq_true room⟩
      obtain ⟨readyNone, flight, credits, lineSeq, -, -⟩ := (fetchLeft s fetch).pu.taken_parts f
      obtain ⟨owner, receipt, -, stream, block, job, noJob⟩ := taken_place (fetchLeft s fetch).pu f
      have puIs : (offerPrint (fetchLeft s fetch) f).pu = (fetchLeft s fetch).pu.taken f := by
        rw [offerPrint_taken takes]
        simp
      have pushed : (offerPrint (fetchLeft s fetch) f).link .printer = (s.link .printer).push f.kind f.payload := by
        rw [offerPrint_taken takes]
        exact State.link_setLink_same (fetchLeft s fetch) .printer _
      rw [puIs, pushed]
      refine ⟨flight, credits, lineSeq, readyNone, owner, receipt, Link.push_made _ _ _, stream, block, fun j is _ => job j is, noJob, ?_⟩
      rw [offerPrint_taken takes]
      exact askedFor_askPu
    case full =>
      have takes : linkTakes (fetchLeft s fetch) .printer = false := by
        have fullBool : decide ((s.link .printer).tx.length < 4) = false := decide_eq_false (Nat.not_lt.mpr full)
        exact Bool.and_eq_false_iff.mpr (.inr fullBool)
      rw [offerPrint_full takes up]
      rfl
    case lost =>
      rw [offerPrint_lost (s := fetchLeft s fetch) down, ← none_]
      rfl
    case kept => exact offerPrint_fetch _ f
  case fetch =>
    intro s slot flight high ready credit told none_ free holds next
    exact ⟨_, exec_printFrameOffer high ready credit told free holds, printFrameOffer_slot none_ next⟩
  case receiptNext =>
    intro s owner
    exact ⟨fun block => by simp only [nextFrame, owner, block, if_true], fun other => by simp only [nextFrame, owner, other, if_false]⟩
  case jobNext =>
    intro s j owner
    simp only [nextFrame, owner]
  case text =>
    intro m fr n length
    rw [slotText_read length]
    exact ⟨by simp, rfl, fun i less => by simp [less], rfl⟩
  case begins =>
    intro s rest high turn front
    have puIs := receiptBegin_pu s
    have tail : s.pu.tells.tail = rest := by rw [front]; rfl
    rw [tail] at puIs
    refine ⟨receiptBegin s, _, exec_receiptBegin high turn front, printNotices_taken _, by rw [puIs], by rw [puIs], by rw [puIs], puIs,
      by rw [puIs], fun owner => ?chosen, fun owner => ?stays, by rw [puIs], by rw [puIs], askedFor_askPu,
      receiptBegin_frame s (.refl _ s) (by decide)⟩
    case chosen =>
      rw [receiptBegin_arbitrates]
      exact (arbitrate_chose (s := receiptBound s) owner).of_same rfl rfl rfl rfl rfl
    case stays => rw [receiptBegin_arbitrates, arbitrate_owned (s := receiptBound s) owner]; rfl
  case mark =>
    intro s mark kind rest high turn front
    have puIs := receiptCloseMark_pu s mark kind
    have tail : s.pu.tells.tail = rest := by rw [front]; rfl
    rw [tail] at puIs
    have runs := exec_receiptCloseMark high turn front
    have whole := receiptCloseMark_frame s mark kind (.refl [.pu] s) (by decide)
    have asked : askedFor (receiptCloseMark s mark kind) .pu .statusPage := askedFor_askPu
    generalize receiptCloseMark s mark kind = t at puIs runs whole asked
    refine ⟨t, _, runs, printNotices_taken _, ?_⟩
    by_cases reached : s.pu.printIndex = mark
    · rw [if_pos reached] at puIs
      rw [puIs]
      exact ⟨rfl, rfl, rfl, fun _ => ⟨rfl, rfl, rfl, rfl⟩, fun not => absurd reached not, rfl, rfl, asked, whole⟩
    · rw [if_neg reached] at puIs
      rw [puIs]
      exact ⟨rfl, rfl, rfl, fun is => absurd is reached, fun _ => ⟨rfl, rfl, rfl, rfl⟩, rfl, rfl, asked, whole⟩
  case idle =>
    intro s rest high turn front
    have puIs := saleIdleTold_pu s
    have tail : s.pu.tells.tail = rest := by rw [front]; rfl
    rw [tail] at puIs
    refine ⟨saleIdleTold s, _, exec_saleIdleTell high turn front, printNotices_taken _, by rw [puIs], by rw [puIs], by rw [puIs], puIs,
      saleIdleTold_chose, fun owner => ?stays, saleIdleTold_asks_jobTable, askedFor_askPu, saleIdleTold_frame s (.refl _ s) (by decide)⟩
    rw [saleIdleTold_eq, askPu_pu, arbitrate_owned (s := receiptFreed s) owner]
    exact ⟨rfl, rfl⟩

end Sys2Proof.Machine
end

section
/-! The platter's weight, link and requests (R73, R77, R80, R84-R87; O26, O27). -/

namespace Sys2Proof.Machine

/-! ### Rounding (R73) -/

/-- Halves away from zero: the value is a whole number of divisions, at most half a division away. -/
theorem roundDivision_rounded (net : Int) {d : Nat} (positive : 0 < d) : roundedTo net d (roundDivision net d) := by
  have below := Nat.div_mul_le_self (2 * net.natAbs + 10 * d) (20 * d)
  have above := Nat.lt_div_mul_add (a := 2 * net.natAbs + 10 * d) (b := 20 * d) (by omega)
  have whole : roundDivision net d = if net < 0 then -(((2 * net.natAbs + 10 * d) / (20 * d) * d : Nat) : Int)
      else (((2 * net.natAbs + 10 * d) / (20 * d) * d : Nat) : Int) := rfl
  have product : (2 * net.natAbs + 10 * d) / (20 * d) * (20 * d) = 20 * ((2 * net.natAbs + 10 * d) / (20 * d) * d) := by ring
  generalize (2 * net.natAbs + 10 * d) / (20 * d) = q at *
  rw [product] at below above
  refine ⟨if net < 0 then -(q : Int) else q, ?_, ?_⟩
  · rw [whole]
    split <;> push_cast <;> ring
  · rw [whole]
    generalize q * d = divisions at *
    split <;> omega

/-! ### Shared steps -/

theorem recompute_live {u : Pwu} {c : Setup} (live : u.limit ≠ .offline) : u.recompute c = { u with
    weight := roundDivision u.net c.platDivision
    zone := if (roundDivision u.net c.platDivision).natAbs < c.platMinNet * c.platDivision then .empty else .loaded } := by
  simp only [Pwu.recompute, if_neg live]

theorem tracks_iff (u : Pwu) (c : Setup) : u.tracks c = true ↔ c.platTracking = true ∧ u.machine = .armed ∧ u.limit = .normal
    ∧ isStable u.window c.platWindow = true ∧ u.tare = 0 ∧ u.net.natAbs ≤ 5 * c.platDivision := by
  simp [Pwu.tracks, Pwu.stable, and_assoc]

/-- The judgement moves the tracking timer alone (R85). -/
theorem judgeTracking_eq (u : Pwu) (c : Setup) (clock : Word) : u.judgeTracking c clock = { u with
    zeroTimer := if u.tracks c = true then (if u.zeroTimer = none then some { start := clock, limit := 1000 } else u.zeroTimer)
      else none } := by
  unfold Pwu.judgeTracking
  simp only [Option.isNone_iff_eq_none]
  split
  next => split <;> rfl
  next => rfl

theorem isStable_nil (w : Nat) : isStable [] w = false := by
  cases w <;> simp [isStable]

theorem staleCurrent_captured {old s : State} {u : Pwu} {ofRequest : Bool} (captured : u.machine = .captured) :
    staleCurrent old s u ofRequest = askPwu old (raise (s.setPwu u.makeStale) .captureStale 0) (some u.curSlot) ofRequest :=
  if_pos captured

theorem staleCurrent_other {old s : State} {u : Pwu} {ofRequest : Bool} (other : u.machine ≠ .captured) :
    staleCurrent old s u ofRequest = askPwu old (s.setPwu u) none ofRequest := if_neg other

theorem askedFor_askPwu_status {old s : State} {slot : Option Nat} {ofRequest : Bool} :
    askedFor (askPwu old s slot ofRequest) .pwu .statusPage := by
  cases slot <;> exact askedFor_askPwuLive (by simp)

theorem askedFor_askPwu_table {old s : State} {k : Nat} {ofRequest : Bool} :
    askedFor (askPwu old s (some k) ofRequest) .pwu .captureTable := askedFor_askPwuLive (by simp)

theorem askedFor_setPwu {s : State} {u : Pwu} {o : BlockId} {x : LaneSection} (h : askedFor s o x) : askedFor (s.setPwu u) o x :=
  askedFor_of_bi h rfl

theorem reported_askPwu {old s : State} {slot : Option Nat} {ofRequest : Bool} {k : CondKind} {source : Nat}
    (h : reported s k source) : reported (askPwu old s slot ofRequest) k source := reported_of_nu h (by simp) (by simp)

theorem askPwu_pwu (old s : State) (slot : Option Nat) (ofRequest : Bool) : (askPwu old s slot ofRequest).pwu = s.pwu := by simp

theorem staleCurrent_asks_status {old s : State} {u : Pwu} {ofRequest : Bool} :
    askedFor (staleCurrent old s u ofRequest) .pwu .statusPage := by
  unfold staleCurrent
  split <;> exact askedFor_askPwu_status

theorem staleCurrent_captured_pwu {old s : State} {u : Pwu} {ofRequest : Bool} (captured : u.machine = .captured) :
    (staleCurrent old s u ofRequest).pwu = u.makeStale := by
  rw [staleCurrent_captured captured, askPwu_pwu]
  simp

theorem staleCurrent_other_pwu {old s : State} {u : Pwu} {ofRequest : Bool} (other : u.machine ≠ .captured) :
    (staleCurrent old s u ofRequest).pwu = u := by
  rw [staleCurrent_other other, askPwu_pwu]
  rfl

theorem staleCurrent_reports {old s : State} {u : Pwu} {ofRequest : Bool} (captured : u.machine = .captured)
    (latches : s.nu.latches.length = 24) : reported (staleCurrent old s u ofRequest) .captureStale 0 := by
  rw [staleCurrent_captured captured]
  exact reported_askPwu (reported_raise (by simpa using latches) nofun)

theorem staleCurrent_asks_table {old s : State} {u : Pwu} {ofRequest : Bool} (captured : u.machine = .captured) :
    askedFor (staleCurrent old s u ofRequest) .pwu .captureTable := by
  rw [staleCurrent_captured captured]
  exact askedFor_askPwu_table

/-- The PWU's ask of a request holds the request in execution. -/
theorem askPwu_waits (old s : State) (slot : Option Nat) : ((askPwu old s slot true).bi.waiting.any fun w => w.ofRequest) = true := by
  have waits (s : State) (sections : List LaneSection) (live : List LiveBlock) (after : List After) :
      ((askLiveAfter s .pwu sections live after true).bi.waiting.any fun w => w.ofRequest) = true := by
    unfold askLiveAfter
    split
    next gathered => exact gatherInto_ofRequest gathered
    next => simp [askWindow]
  cases slot <;> exact waits _ _ _ _

theorem staleCurrent_waits (old s : State) (u : Pwu) :
    ((staleCurrent old s u true).bi.waiting.any fun w => w.ofRequest) = true := by
  unfold staleCurrent
  split <;> exact askPwu_waits _ _ _

theorem finishRequest_held {s : State} {r : ResultCode} {d1 d2 : Word} (waits : (s.bi.waiting.any fun w => w.ofRequest) = true) :
    finishRequest s r d1 d2 = s.setRe { s.re with outcome := some { result := r, detail1 := d1, detail2 := d2 } } :=
  requestProgress_waits (s := s.setRe _) waits

/-! ### A change of zero or tare (R73, R80, R85) -/

/-- The Platter Weighing Unit with the new zero or tare, its weight anew and its timer stopped. -/
def offsetPwu (s : State) (u : Pwu) : Pwu := { u.recompute (cfg s) with zeroTimer := none }

theorem offsetChanged_eq (s : State) (u : Pwu) (ofRequest : Bool) : offsetChanged s u ofRequest
    = (staleCurrent s s (offsetPwu s u) ofRequest).setPwu
        ((staleCurrent s s (offsetPwu s u) ofRequest).pwu.judgeTracking (cfg s) s.re.clock) := by
  have re : (staleCurrent s s (offsetPwu s u) ofRequest).re = s.re := by simp
  have judged : offsetChanged s u ofRequest = (staleCurrent s s (offsetPwu s u) ofRequest).setPwu
      ((staleCurrent s s (offsetPwu s u) ofRequest).pwu.judgeTracking (cfg (staleCurrent s s (offsetPwu s u) ofRequest))
        (staleCurrent s s (offsetPwu s u) ofRequest).re.clock) := rfl
  rw [judged, cfg, re]
  rfl

theorem offsetPwu_live {s : State} {u : Pwu} (live : u.limit ≠ .offline) : offsetPwu s u = { u with
    weight := (offsetPwu s u).weight, zone := (offsetPwu s u).zone, zeroTimer := none } := by
  have runs : offsetPwu s u = { u.recompute (cfg s) with zeroTimer := none } := rfl
  rw [runs, recompute_live live]

theorem offsetPwu_weight {s : State} {u : Pwu} (live : u.limit ≠ .offline) :
    (offsetPwu s u).weight = roundDivision u.net (cfg s).platDivision
    ∧ (offsetPwu s u).zone = if (offsetPwu s u).weight.natAbs < (cfg s).platMinNet * (cfg s).platDivision then .empty else .loaded := by
  have runs : offsetPwu s u = { u.recompute (cfg s) with zeroTimer := none } := rfl
  rw [runs, recompute_live live]
  exact ⟨rfl, rfl⟩

/-- Nothing is tracked with an empty window. -/
theorem makeStale_tracks (u : Pwu) (c : Setup) : u.makeStale.tracks c = false := by
  refine Bool.eq_false_iff.mpr fun tracks => ?_
  obtain ⟨-, -, -, stable, -⟩ := (tracks_iff _ c).mp tracks
  exact absurd stable (by rw [Pwu.makeStale, isStable_nil]; exact nofun)

theorem makeStale_judged (u : Pwu) (c : Setup) (clock : Word) : u.makeStale.judgeTracking c clock
    = { u.makeStale with zeroTimer := none } := by
  rw [judgeTracking_eq, makeStale_tracks]
  rfl

theorem offsetChanged_waits (s : State) (u : Pwu) : ((offsetChanged s u true).bi.waiting.any fun w => w.ofRequest) = true := by
  rw [offsetChanged_eq]
  exact staleCurrent_waits s s (offsetPwu s u)

/-- A change of zero or tare weighs anew; a capture becomes STALE, and the tracking is judged (R73, R80, R85). -/
theorem offsetChanged_reweighed {s : State} {u : Pwu} {zero tare : Int} {r : ResultCode} {d1 d2 : Word}
    (live : s.pwu.limit ≠ .offline) (positive : 0 < (cfg s).platDivision) (latches : s.nu.latches.length = 24)
    (moved : u = { s.pwu with zero := zero, tare := tare }) :
    reweighed s (finishRequest (offsetChanged s u true) r d1 d2) zero tare := by
  have puIs : (finishRequest (offsetChanged s u true) r d1 d2).pwu
      = (staleCurrent s s (offsetPwu s u) true).pwu.judgeTracking (cfg s) s.re.clock := by
    rw [offsetChanged_eq]
    simp
  have nuIs : (finishRequest (offsetChanged s u true) r d1 d2).nu = (staleCurrent s s (offsetPwu s u) true).nu := by
    rw [finishRequest_held (offsetChanged_waits s u), offsetChanged_eq]
    rfl
  have keeps {o : BlockId} {x : LaneSection} (h : askedFor (staleCurrent s s (offsetPwu s u) true) o x) :
      askedFor (finishRequest (offsetChanged s u true) r d1 d2) o x := by
    rw [offsetChanged_eq]
    exact askedFor_finishRequest (askedFor_setPwu h)
  have off : u.limit ≠ .offline := by rw [moved]; exact live
  have weighed := offsetPwu_live (s := s) off
  obtain ⟨weight, zone⟩ := offsetPwu_weight (s := s) off
  have asked := keeps (staleCurrent_asks_status (old := s) (s := s) (u := offsetPwu s u) (ofRequest := true))
  generalize finishRequest (offsetChanged s u true) r d1 d2 = t at *
  have machine : (offsetPwu s u).machine = s.pwu.machine := by rw [weighed, moved]
  have shown : t.pwu.weight = (offsetPwu s u).weight ∧ t.pwu.zone = (offsetPwu s u).zone := by
    rw [puIs, judgeTracking_eq]
    by_cases captured : (offsetPwu s u).machine = .captured
    · rw [staleCurrent_captured_pwu captured]
      exact ⟨rfl, rfl⟩
    · rw [staleCurrent_other_pwu captured]
      exact ⟨rfl, rfl⟩
  have net : u.net = s.pwu.gross - zero - 10 * tare := by rw [moved]; rfl
  refine ⟨by rw [shown.1, weight, net]; exact roundDivision_rounded _ positive, by rw [shown.2, zone, shown.1], fun captured => ?stale,
    fun other => ?kept, asked⟩
  case stale =>
    rw [← machine] at captured
    refine ⟨?_, reported_of_nu (staleCurrent_reports captured latches) (by rw [nuIs]) (by rw [nuIs]), keeps (staleCurrent_asks_table captured)⟩
    have after : t.pwu = { (offsetPwu s u).makeStale with zeroTimer := none } := by
      rw [puIs, staleCurrent_captured_pwu captured, makeStale_judged]
    rw [shown.1, shown.2, after, weighed, moved]
    rfl
  case kept =>
    rw [← machine] at other
    have after : t.pwu = { offsetPwu s u with
        zeroTimer := if (offsetPwu s u).tracks (cfg s) = true then some { start := s.re.clock, limit := 1000 } else none } := by
      rw [puIs, staleCurrent_other_pwu other, judgeTracking_eq, weighed]
      rfl
    refine ⟨?_, ?_⟩
    · have tracked : (offsetPwu s u).tracks (cfg s) = true ↔ (cfg s).platTracking = true ∧ s.pwu.machine = .armed
          ∧ s.pwu.limit = .normal ∧ isStable s.pwu.window (cfg s).platWindow = true ∧ tare = 0
          ∧ (s.pwu.gross - zero).natAbs ≤ 5 * (cfg s).platDivision := by
        have same : (offsetPwu s u).net = s.pwu.gross - zero - 10 * tare := by rw [weighed, moved]; rfl
        have fields : (offsetPwu s u).machine = s.pwu.machine ∧ (offsetPwu s u).limit = s.pwu.limit
            ∧ (offsetPwu s u).window = s.pwu.window ∧ (offsetPwu s u).tare = tare := by
          rw [weighed, moved]
          exact ⟨rfl, rfl, rfl, rfl⟩
        rw [tracks_iff, same, fields.1, fields.2.1, fields.2.2.1, fields.2.2.2]
        refine and_congr_right fun _ => and_congr_right fun _ => and_congr_right fun _ => and_congr_right fun _ =>
          and_congr_right fun none_ => ?_
        rw [none_, Int.mul_zero, Int.sub_zero]
      rw [shown.1, shown.2, after, if_congr tracked rfl rfl, weighed, moved]
      rfl
    · rw [nuIs, staleCurrent_other other]
      simp

/-! ### The requests (R84, R86, R87) -/

theorem exec_scaleZero {s : State} (high : s.bi.inReset = false) (inHand : awaits s .scaleZero = true) :
    exec .scaleZero s = .next (scaleZero s) := stepIf_enabled high inHand

theorem exec_scaleTare {s : State} (high : s.bi.inReset = false) (inHand : awaits s .scaleTare = true) :
    exec .scaleTare s = .next (scaleTare s) := stepIf_enabled high inHand

theorem exec_tareClear {s : State} (high : s.bi.inReset = false) (inHand : awaits s .tareClear = true) :
    exec .tareClear s = .next (tareClear s) := stepIf_enabled high inHand

/-- A refused request of the scale changes nothing there. -/
theorem scaleRefused (s : State) (r : ResultCode) : requestFrame [.pwu] s (failRequest s r)
    ∧ answeredWith (failRequest s r) r 0 0 ∧ (failRequest s r).pwu = s.pwu :=
  ⟨requestFrame_finish (.refl _ s) rfl, finishRequest_answered _ _ _ _, by simp [failRequest]⟩

theorem offsetChanged_finishes (s : State) (u : Pwu) (d1 : Word) :
    requestFrame [.pwu] s (finishRequest (offsetChanged s u true) .done d1 0)
    ∧ answeredWith (finishRequest (offsetChanged s u true) .done d1 0) .done d1 0 :=
  ⟨requestFrame_finish (offsetChanged_frame s u true (.refl _ s) (by decide)) (by simp), finishRequest_answered _ _ _ _⟩

theorem inZeroRange_iff (c : Setup) (g : Int) : inZeroRange c g = true ↔ ¬ (c.platCapacity / 5 : Nat) < g.natAbs := by
  rw [inZeroRange, zeroRange, Bool.and_eq_true, decide_eq_true_eq, decide_eq_true_eq]
  constructor
  · rintro ⟨low, high⟩
    omega
  · intro near
    omega

theorem scaleZero_answers {s : State} (latches : s.nu.latches.length = 24) (positive : 0 < (cfg s).platDivision) :
    requestFrame [.pwu] s (scaleZero s)
      ∧ if s.pwu.limit = .offline then answeredWith (scaleZero s) .linkDown 0 0 ∧ (scaleZero s).pwu = s.pwu
        else if s.pwu.limit ≠ .normal ∨ s.pwu.tare ≠ 0 ∨ isStable s.pwu.window (cfg s).platWindow = false then
          answeredWith (scaleZero s) .wrongState 0 0 ∧ (scaleZero s).pwu = s.pwu
        else if ((cfg s).platCapacity / 5 : Nat) < s.pwu.gross.natAbs then
          answeredWith (scaleZero s) .limit 0 0 ∧ (scaleZero s).pwu = s.pwu
        else answeredWith (scaleZero s) .done (BitVec.ofInt 32 s.pwu.gross) 0 ∧ reweighed s (scaleZero s) s.pwu.gross 0 := by
  have refused := scaleRefused s
  by_cases off : s.pwu.limit = .offline
  · have same : scaleZero s = failRequest s .linkDown := by simp [scaleZero, platterUp, off]
    rw [if_pos off, same]
    exact refused _
  rw [if_neg off]
  by_cases wrong : s.pwu.limit ≠ .normal ∨ s.pwu.tare ≠ 0 ∨ isStable s.pwu.window (cfg s).platWindow = false
  · have same : scaleZero s = failRequest s .wrongState := by
      have stable : s.pwu.stable (cfg s) = isStable s.pwu.window (cfg s).platWindow := rfl
      by_cases limit : s.pwu.limit = .normal <;> by_cases tare : s.pwu.tare = 0 <;> simp_all [scaleZero, platterUp]
    rw [if_pos wrong, same]
    exact refused _
  rw [if_neg wrong]
  simp only [not_or, not_not, Bool.not_eq_false] at wrong
  obtain ⟨normal, tare, stable⟩ := wrong
  have stable : s.pwu.stable (cfg s) = true := stable
  by_cases far : (cfg s).platCapacity / 5 < s.pwu.gross.natAbs
  · have range : inZeroRange (cfg s) s.pwu.gross = false := Bool.eq_false_iff.mpr fun is => (inZeroRange_iff _ _).mp is far
    have same : scaleZero s = failRequest s .limit := by simp [scaleZero, platterUp, normal, tare, stable, range]
    rw [if_pos far, same]
    exact refused _
  · have range := (inZeroRange_iff (cfg s) s.pwu.gross).mpr far
    have same : scaleZero s = finishRequest (offsetChanged s { s.pwu with zero := s.pwu.gross } true) .done
        (BitVec.ofInt 32 s.pwu.gross) 0 := by simp [scaleZero, platterUp, normal, tare, stable, range]
    have moved : ({ s.pwu with zero := s.pwu.gross } : Pwu) = { s.pwu with zero := s.pwu.gross, tare := 0 } := by rw [← tare]
    rw [if_neg far, same]
    exact ⟨(offsetChanged_finishes _ _ _).1, (offsetChanged_finishes _ _ _).2, offsetChanged_reweighed off positive latches moved⟩

/-- A tare that passes: one equal to the tare before changes nothing (R86). -/
theorem setTare_answers {s : State} {tare : Int} (live : s.pwu.limit ≠ .offline) (latches : s.nu.latches.length = 24)
    (positive : 0 < (cfg s).platDivision) : requestFrame [.pwu] s (setTare s tare)
    ∧ answeredWith (setTare s tare) .done (BitVec.ofInt 32 tare) 0 ∧ askedFor (setTare s tare) .pwu .statusPage
    ∧ (tare = s.pwu.tare → (setTare s tare).pwu = s.pwu ∧ (setTare s tare).nu = s.nu)
    ∧ (tare ≠ s.pwu.tare → reweighed s (setTare s tare) s.pwu.zero tare) := by
  by_cases same : tare = s.pwu.tare
  · have passed : setTare s tare = finishRequest (askPwu s s none true) .done (BitVec.ofInt 32 tare) 0 := by
      rw [setTare, if_pos same]
    rw [passed]
    refine ⟨requestFrame_finish (askPwu_frame _ _ _ _ (.refl _ s)) (by simp), finishRequest_answered _ _ _ _,
      askedFor_finishRequest askedFor_askPwu_status, fun _ => ⟨by simp, ?_⟩, fun other => absurd same other⟩
    rw [finishRequest_held (askPwu_waits s s none)]
    simp
  · have passed : setTare s tare = finishRequest (offsetChanged s { s.pwu with tare := tare } true) .done (BitVec.ofInt 32 tare) 0 := by
      rw [setTare, if_neg same]
    have weighed := offsetChanged_reweighed (s := s) (r := .done) (d1 := BitVec.ofInt 32 tare) (d2 := 0) live positive latches
      (u := { s.pwu with tare := tare }) (zero := s.pwu.zero) (tare := tare) rfl
    rw [passed]
    exact ⟨(offsetChanged_finishes _ _ _).1, (offsetChanged_finishes _ _ _).2, weighed.asked, fun is => absurd is same, fun _ => weighed⟩

/-- The tare of the load that stands on the platter (R86). -/
theorem scaleTare_measured {s : State} (latches : s.nu.latches.length = 24) (positive : 0 < (cfg s).platDivision)
    (none_ : recTare s.re.record = none) {w : Int} (rounded : w = roundDivision (s.pwu.gross - s.pwu.zero) (cfg s).platDivision) :
    requestFrame [.pwu] s (scaleTare s)
      ∧ if s.pwu.limit = .offline then answeredWith (scaleTare s) .linkDown 0 0 ∧ (scaleTare s).pwu = s.pwu
        else if s.pwu.limit ≠ .normal ∨ isStable s.pwu.window (cfg s).platWindow = false then
          answeredWith (scaleTare s) .wrongState 0 0 ∧ (scaleTare s).pwu = s.pwu
        else if w ≤ 0 ∨ ((cfg s).platTareLimit : Int) < w then
          answeredWith (scaleTare s) .limit 0 0 ∧ (scaleTare s).pwu = s.pwu
        else answeredWith (scaleTare s) .done (BitVec.ofInt 32 w) 0 ∧ askedFor (scaleTare s) .pwu .statusPage
          ∧ (w = s.pwu.tare → (scaleTare s).pwu = s.pwu ∧ (scaleTare s).nu = s.nu)
          ∧ (w ≠ s.pwu.tare → reweighed s (scaleTare s) s.pwu.zero w) := by
  have refused := scaleRefused s
  have stable : s.pwu.stable (cfg s) = isStable s.pwu.window (cfg s).platWindow := rfl
  have runs : scaleTare s = if !platterUp s then failRequest s .linkDown
      else if s.pwu.limit ≠ .normal then failRequest s .wrongState
      else if !isStable s.pwu.window (cfg s).platWindow then failRequest s .wrongState
      else if !(decide (0 < w) && decide (w ≤ ((cfg s).platTareLimit : Int))) then failRequest s .limit
      else setTare s w := by
    simp only [scaleTare, none_, rounded]
    rfl
  by_cases off : s.pwu.limit = .offline
  · have same : scaleTare s = failRequest s .linkDown := by rw [runs, if_pos (by simp [platterUp, off])]
    rw [if_pos off, same]
    exact refused _
  rw [if_neg (by simp [platterUp, off])] at runs
  rw [if_neg off]
  by_cases limit : s.pwu.limit ≠ .normal
  · rw [if_pos (.inl limit), runs, if_pos limit]
    exact refused _
  rw [if_neg limit] at runs
  by_cases moving : isStable s.pwu.window (cfg s).platWindow = false
  · rw [if_pos (.inr moving), runs, if_pos (by simp [moving])]
    exact refused _
  rw [if_neg (by simpa using moving)] at runs
  rw [if_neg (not_or.mpr ⟨limit, moving⟩)]
  by_cases outside : w ≤ 0 ∨ ((cfg s).platTareLimit : Int) < w
  · rw [if_pos outside, runs, if_pos (by rw [Bool.not_eq_true', Bool.and_eq_false_iff, decide_eq_false_iff_not, decide_eq_false_iff_not]; omega)]
    exact refused _
  · rw [if_neg (by simpa [not_or] using outside)] at runs
    obtain ⟨frame, answered, asked, same, other⟩ := setTare_answers (s := s) (tare := w) off latches positive
    rw [if_neg outside, runs]
    exact ⟨frame, answered, asked, same, other⟩

/-- A tare that the request gives (R86). -/
theorem scaleTare_given {s : State} {v : Nat} (latches : s.nu.latches.length = 24) (positive : 0 < (cfg s).platDivision)
    (given : recTare s.re.record = some v) : requestFrame [.pwu] s (scaleTare s)
      ∧ if v = 0 ∨ (cfg s).platTareLimit < v ∨ v % (cfg s).platDivision ≠ 0 then
          answeredWith (scaleTare s) .badParam 0 0 ∧ (scaleTare s).pwu = s.pwu
        else if s.pwu.limit = .offline then answeredWith (scaleTare s) .linkDown 0 0 ∧ (scaleTare s).pwu = s.pwu
        else if s.pwu.limit = .fault ∨ isStable s.pwu.window (cfg s).platWindow = false then
          answeredWith (scaleTare s) .wrongState 0 0 ∧ (scaleTare s).pwu = s.pwu
        else answeredWith (scaleTare s) .done (BitVec.ofNat 32 v) 0 ∧ askedFor (scaleTare s) .pwu .statusPage
          ∧ ((v : Int) = s.pwu.tare → (scaleTare s).pwu = s.pwu ∧ (scaleTare s).nu = s.nu)
          ∧ ((v : Int) ≠ s.pwu.tare → reweighed s (scaleTare s) s.pwu.zero (v : Int)) := by
  have refused := scaleRefused s
  have runs : scaleTare s = if !(decide (0 < v) && decide (v ≤ (cfg s).platTareLimit) && decide (v % (cfg s).platDivision = 0)) then
        failRequest s .badParam
      else if !platterUp s then failRequest s .linkDown
      else if s.pwu.limit = .fault then failRequest s .wrongState
      else if !isStable s.pwu.window (cfg s).platWindow then failRequest s .wrongState
      else setTare s (v : Int) := by
    simp only [scaleTare, given]
    rfl
  by_cases bad : v = 0 ∨ (cfg s).platTareLimit < v ∨ v % (cfg s).platDivision ≠ 0
  · have fails : (!(decide (0 < v) && decide (v ≤ (cfg s).platTareLimit) && decide (v % (cfg s).platDivision = 0))) = true := by
      rw [Bool.not_eq_true', Bool.and_eq_false_iff, Bool.and_eq_false_iff, decide_eq_false_iff_not, decide_eq_false_iff_not,
        decide_eq_false_iff_not]
      omega
    rw [if_pos bad, runs, if_pos fails]
    exact refused _
  have passes : (decide (0 < v) && decide (v ≤ (cfg s).platTareLimit) && decide (v % (cfg s).platDivision = 0)) = true := by
    rw [Bool.and_eq_true, Bool.and_eq_true, decide_eq_true_eq, decide_eq_true_eq, decide_eq_true_eq]
    omega
  rw [passes, Bool.not_true, if_neg Bool.false_ne_true] at runs
  rw [if_neg bad]
  by_cases off : s.pwu.limit = .offline
  · rw [if_pos off, runs, if_pos (by simp [platterUp, off])]
    exact refused _
  rw [if_neg (by simp [platterUp, off])] at runs
  rw [if_neg off]
  by_cases fault : s.pwu.limit = .fault
  · rw [if_pos (.inl fault), runs, if_pos fault]
    exact refused _
  rw [if_neg fault] at runs
  by_cases moving : isStable s.pwu.window (cfg s).platWindow = false
  · rw [if_pos (.inr moving), runs, if_pos (by simp [moving])]
    exact refused _
  rw [if_neg (by simpa using moving)] at runs
  obtain ⟨frame, answered, asked, same, other⟩ := setTare_answers (s := s) (tare := (v : Int)) off latches positive
  rw [if_neg (not_or.mpr ⟨fault, moving⟩), runs]
  exact ⟨frame, answered, asked, same, other⟩

theorem tareClear_answers {s : State} (latches : s.nu.latches.length = 24) (positive : 0 < (cfg s).platDivision) :
    requestFrame [.pwu] s (tareClear s)
      ∧ if s.pwu.limit = .offline then answeredWith (tareClear s) .linkDown 0 0 ∧ (tareClear s).pwu = s.pwu
        else answeredWith (tareClear s) .done 0 0 ∧ (s.pwu.tare = 0 → (tareClear s).pwu = s.pwu)
          ∧ (s.pwu.tare ≠ 0 → reweighed s (tareClear s) s.pwu.zero 0) := by
  by_cases off : s.pwu.limit = .offline
  · have same : tareClear s = failRequest s .linkDown := by simp [tareClear, platterUp, off]
    rw [if_pos off, same]
    exact scaleRefused s _
  rw [if_neg off]
  by_cases tare : s.pwu.tare = 0
  · have same : tareClear s = finishRequest s .done 0 0 := by simp [tareClear, platterUp, off, tare]
    rw [same]
    exact ⟨requestFrame_finish (.refl _ s) rfl, finishRequest_answered _ _ _ _, fun _ => by simp, fun other => absurd tare other⟩
  · have same : tareClear s = finishRequest (offsetChanged s { s.pwu with tare := 0 } true) .done 0 0 := by
      simp [tareClear, platterUp, off, tare]
    rw [same]
    exact ⟨(offsetChanged_finishes _ _ _).1, (offsetChanged_finishes _ _ _).2, fun is => absurd is tare,
      fun _ => offsetChanged_reweighed off positive latches rfl⟩

/-- Settles O27: each request's checks in order, and `offsetChanged_reweighed` for one that passes. -/
theorem scaleRequests : Obligations.ScaleRequests := by
  unfold Obligations.ScaleRequests
  refine ⟨fun s high latches inHand positive => ?zero, fun s high latches inHand positive none_ => ?measured,
    fun s v high latches inHand positive given => ?given, fun s high latches inHand positive => ?clear⟩
  case zero => exact ⟨_, exec_scaleZero high inHand, scaleZero_answers latches positive⟩
  case measured =>
    obtain ⟨frame, answers⟩ := scaleTare_measured latches positive none_ rfl
    exact ⟨_, _, exec_scaleTare high inHand, frame, roundDivision_rounded _ positive, answers⟩
  case given => exact ⟨_, exec_scaleTare high inHand, scaleTare_given latches positive given⟩
  case clear => exact ⟨_, exec_tareClear high inHand, tareClear_answers latches positive⟩

end Sys2Proof.Machine
end

section
/-! The platter link and the zero tracking (R77, R80, R85; O26), and a SAMPLE (R72-R81; O25). -/

namespace Sys2Proof.Machine

/-! ### The platter link's changes (R77, R80) -/

theorem exec_platterLinkChange {s : State} {old new : LinkState} (high : s.bi.inReset = false)
    (front : frontChange s .platter = some (old, new)) (turn : unitTakes s .pwu .link = true) :
    exec .platterLinkChange s = .next (platterLinkChange s old new) := by
  have runs : exec .platterLinkChange s = execPlatterLinkChange s := rfl
  rw [runs, execPlatterLinkChange, front]
  exact stepIf_enabled high turn

theorem platterLinkChange_quiet {s : State} {old new : LinkState} (quiet : wentQuiet s .platter = true) :
    platterLinkChange s old new = popPath s .platter := by simp only [platterLinkChange, quiet, if_true]

theorem platterLinkChange_between {s : State} {old new : LinkState} (off : new ≠ .up) (was : old ≠ .up) :
    platterLinkChange s old new = popPath s .platter := by simp [platterLinkChange, off, was]

theorem platterLinkChange_back {s : State} {old new : LinkState} (quiet : wentQuiet s .platter = false) (up : new = .up) :
    platterLinkChange s old new
      = askPwu s ((popPath s .platter).setPwu { s.pwu with limit := .normal, window := [] }) none false := by
  simp [platterLinkChange, quiet, up]

/-- The Platter Weighing Unit without its link. -/
def platterOff (u : Pwu) : Pwu := { u with limit := .offline, window := [], zone := .empty, zeroTimer := none }

theorem platterLinkChange_down {s : State} {old new : LinkState} (quiet : wentQuiet s .platter = false) (off : new ≠ .up)
    (was : old = .up) : platterLinkChange s old new = staleCurrent s (popPath s .platter) (platterOff s.pwu) false := by
  simp [platterLinkChange, quiet, off, was, platterOff]

theorem platterLinkChange_lu (s : State) (old new : LinkState) : (platterLinkChange s old new).lu = (popPath s .platter).lu := by
  by_cases quiet : wentQuiet s .platter = true
  · rw [platterLinkChange_quiet quiet]
  have live := Bool.not_eq_true _ ▸ quiet
  by_cases up : new = .up
  · rw [platterLinkChange_back live up]
    simp
  by_cases was : old = .up
  · rw [platterLinkChange_down live up was]
    simp
  · rw [platterLinkChange_between up was]

/-! ### Zero tracking (R85) -/

theorem exec_zeroTrackExpiry {s : State} (high : s.bi.inReset = false) (due : timerDue s s.pwu.zeroTimer = true)
    (turn : unitTakes s .pwu (.timer .zeroTrack) = true) : exec .zeroTrackExpiry s = .next (zeroTracked s) :=
  stepIf_enabled high (by simp [due, turn])

/-- The zero offset at the gross, or at the nearer end of the zero range. -/
def trackedZero (s : State) : Int := max (-(zeroRange (cfg s))) (min s.pwu.gross (zeroRange (cfg s)))

theorem trackedZero_eq {s : State} {limit : Int} (range : limit = (((cfg s).platCapacity / 5 : Nat) : Int)) : trackedZero s
    = if s.pwu.gross < -limit then -limit else if limit < s.pwu.gross then limit else s.pwu.gross := by
  have same : zeroRange (cfg s) = limit := range.symm
  have positive : 0 ≤ limit := range ▸ Int.natCast_nonneg _
  rw [trackedZero, same]
  split <;> [skip; split] <;> omega

/-- The Platter Weighing Unit with the tracked zero, weighed anew. -/
def trackedPwu (s : State) : Pwu := Pwu.recompute { s.pwu with zero := trackedZero s, zeroTimer := none } (cfg s)

theorem zeroTracked_eq (s : State) :
    zeroTracked s = askPwu s (s.setPwu ((trackedPwu s).judgeTracking (cfg s) s.re.clock)) none false := rfl

theorem tracks_zeroTimer (u : Pwu) (c : Setup) (timer : Option Timer) : ({ u with zeroTimer := timer } : Pwu).tracks c = u.tracks c := rfl

/-- Settles O26: a change by its direction, a capture's end by `staleCurrent_captured`; the expiry by `trackedPwu`. -/
theorem platterLinkAndTracking : Obligations.PlatterLinkAndTracking := by
  unfold Obligations.PlatterLinkAndTracking
  refine ⟨?change, ?expiry⟩
  case change =>
    intro s old new high latches front turn
    have taken : pathTaken s (platterLinkChange s old new) .platter :=
      pathTaken_of_lu (popPath_taken s .platter) (platterLinkChange_lu s old new)
    refine ⟨_, exec_platterLinkChange high front turn, taken.1, fun quiet => ?quiet, fun live up => ?back, fun live off was other => ?other,
      fun live off was captured => ?captured, fun off was => ?between, taken.2,
      platterLinkChange_frame s old new (.refl _ s) (by decide) (by decide)⟩
    case quiet =>
      rw [platterLinkChange_quiet quiet]
      exact ⟨rfl, rfl, rfl⟩
    case back =>
      rw [platterLinkChange_back live up, askPwu_pwu]
      exact ⟨rfl, askedFor_askPwu_status⟩
    case other =>
      rw [platterLinkChange_down live off was, staleCurrent_other_pwu (u := platterOff s.pwu) other]
      exact ⟨rfl, staleCurrent_asks_status⟩
    case captured =>
      have reports := staleCurrent_reports (old := s) (s := popPath s .platter) (u := platterOff s.pwu) (ofRequest := false) captured
        latches
      rw [platterLinkChange_down live off was, staleCurrent_captured_pwu (u := platterOff s.pwu) captured]
      exact ⟨rfl, reports, staleCurrent_asks_table (u := platterOff s.pwu) captured⟩
    case between =>
      rw [platterLinkChange_between off was]
      exact ⟨rfl, rfl, rfl⟩
  case expiry =>
    intro s c limit high due turn live config positive range
    subst config
    have whole := zeroTracked_frame s (.refl [.pwu] s) (by decide)
    have puIs : (zeroTracked s).pwu = (trackedPwu s).judgeTracking (cfg s) s.re.clock := by rw [zeroTracked_eq, askPwu_pwu]; rfl
    have weighed : trackedPwu s = _ := recompute_live (u := { s.pwu with zero := trackedZero s, zeroTimer := none }) (c := cfg s) live
    have fields : (trackedPwu s).zeroTimer = none := by rw [weighed]
    refine ⟨_, exec_zeroTrackExpiry high due turn, ?_⟩
    have asked : askedFor (zeroTracked s) .pwu .statusPage := askedFor_askPwu_status
    generalize zeroTracked s = t at *
    rw [judgeTracking_eq, fields, if_pos rfl] at puIs
    have tracks : t.pwu.tracks (cfg s) = (trackedPwu s).tracks (cfg s) := by rw [puIs]; rfl
    refine ⟨?zero, ?weight, ?rest, ?zone, ?timer, asked, whole⟩
    case zero => rw [puIs, weighed]; exact trackedZero_eq range
    case weight => rw [puIs, weighed]; exact roundDivision_rounded _ positive
    case rest => rw [puIs, weighed]
    case zone => rw [puIs, weighed]
    case timer => rw [tracks, puIs]; rfl

end Sys2Proof.Machine
end

section
/-! A SAMPLE of the platter (R72-R81, R85; O25). -/

namespace Sys2Proof.Machine

theorem exec_platterSample {s : State} {payload : List Byte} {gap : Bool} (high : s.bi.inReset = false)
    (front : frontFrame s .platter = some (kSample, payload, gap)) (turn : unitTakes s .pwu .link = true) :
    exec .platterSample s = .next (platterSample s payload gap) := by
  have runs : exec .platterSample s = execPlatterSample s := rfl
  rw [runs, execPlatterSample, front]
  exact stepIf_enabled high (by simp [turn])

/-! ### The stability window (R75) -/

/-- The fold of an operation that takes one of its two values is one of the values. -/
theorem foldl_mem_of_choice {op : Int → Int → Int} (choice : ∀ a b, op a b = a ∨ op a b = b) (vs : List Int) (g : Int) :
    vs.foldl op g ∈ g :: vs := by
  induction vs generalizing g with
  | nil => exact List.mem_cons_self
  | cons v rest ih =>
    rw [List.foldl_cons]
    obtain same | inside := List.mem_cons.mp (ih (op g v))
    · rw [same]
      obtain first | second := choice g v
      · simp [first]
      · simp [second]
    · simp [inside]

/-- The fold of an operation whose value bounds both of its values bounds all. -/
theorem foldl_bounds {op : Int → Int → Int} {r : Int → Int → Prop} (refl : ∀ a, r a a) (trans : ∀ {a b c}, r a b → r b c → r a c)
    (left : ∀ a b, r a (op a b)) (right : ∀ a b, r b (op a b)) (vs : List Int) (g : Int) : ∀ x ∈ g :: vs, r x (vs.foldl op g) := by
  induction vs generalizing g with
  | nil => exact fun x is => (List.mem_singleton.mp is) ▸ refl g
  | cons v rest ih =>
    intro x is
    have whole := ih (op g v) _ List.mem_cons_self
    obtain rfl | is := List.mem_cons.mp is
    · exact trans (left _ _) whole
    obtain rfl | is := List.mem_cons.mp is
    · exact trans (right _ _) whole
    · exact ih (op g v) x (List.mem_cons_of_mem _ is)

theorem withinBand_iff (window : List Int) (g : Int) (band : Nat) :
    withinBand window g band = true ↔ allWithin band (window ++ [g]) := by
  have most := foldl_bounds (op := max) (r := (· ≤ ·)) Int.le_refl Int.le_trans Int.le_max_left Int.le_max_right window g
  have least := foldl_bounds (op := min) (r := (· ≥ ·)) Int.le_refl (fun h k => Int.le_trans k h) Int.min_le_left Int.min_le_right window g
  have top := foldl_mem_of_choice max_choice window g
  have bottom := foldl_mem_of_choice min_choice window g
  have members (x : Int) : x ∈ window ++ [g] ↔ x ∈ g :: window := by simp [or_comm]
  rw [withinBand, decide_eq_true_eq]
  constructor
  · intro near x xs y ys
    have above := most x ((members x).mp xs)
    have below := least y ((members y).mp ys)
    omega
  · intro near
    exact near _ ((members _).mpr top) _ ((members _).mpr bottom)

theorem enterWindow_rule (window : List Int) (g : Int) (w band : Nat) : windowRule window (enterWindow window g w band) g w band := by
  constructor
  · intro near
    have within := (withinBand_iff (if w ≤ window.length then window.tail else window) g band).mpr near
    simp only [enterWindow, within, if_true]
  · intro far
    have within : withinBand (if w ≤ window.length then window.tail else window) g band = false :=
      Bool.eq_false_iff.mpr (mt (withinBand_iff _ g band).mp far)
    simp only [enterWindow, within, Bool.false_eq_true, if_false]

theorem enterWindow_nil (g : Int) {w : Nat} (band : Nat) (some_ : 0 < w) : enterWindow [] g w band = [g] := by
  have alone : withinBand [] g band = true := by simp [withinBand]
  simp only [enterWindow, List.length_nil, if_neg (Nat.not_le.mpr some_), alone, if_true, List.nil_append]

/-! ### The sample before the machine's step (R72-R76) -/

theorem judgeLimit_eq (fault overrange : Bool) (g : Int) (capacity division : Nat) :
    judgeLimit fault overrange g capacity division = limitRule fault overrange g capacity division := by
  simp only [judgeLimit, limitRule, Bool.or_eq_true, decide_eq_true_eq, Nat.mul_comm capacity 10]

theorem judgeLimit_live (fault overrange : Bool) (g : Int) (capacity division : Nat) :
    judgeLimit fault overrange g capacity division ≠ .offline := by
  unfold judgeLimit
  repeat' split
  all_goals exact nofun

/-- The Platter Weighing Unit with the sample, before the machine's step. -/
def sampled (s : State) (payload : List Byte) (gap : Bool) : Pwu :=
  s.pwu.takeSample (cfg s) (sampleGross payload) (sampleFault payload) (sampleOverrange payload) gap

/-- The window of the sample. -/
def sampledWindow (s : State) (payload : List Byte) (gap : Bool) : List Int :=
  if sampleFault payload then []
  else enterWindow (if gap then [] else s.pwu.window) (sampleGross payload) (cfg s).platWindow (cfg s).platBand

/-- What the sample leaves. -/
structure sampleShown (s : State) (payload : List Byte) (u : Pwu) : Prop where
  gross : u.gross = sampleGross payload
  zero : u.zero = s.pwu.zero
  tare : u.tare = s.pwu.tare
  limit : u.limit = limitRule (sampleFault payload) (sampleOverrange payload) (sampleGross payload) (cfg s).platCapacity
    (cfg s).platDivision
  weight : u.weight = roundDivision (sampleGross payload - s.pwu.zero - 10 * s.pwu.tare) (cfg s).platDivision
  zone : u.zone = if u.weight.natAbs < (cfg s).platMinNet * (cfg s).platDivision then .empty else .loaded

theorem sampled_eq (s : State) (payload : List Byte) (gap : Bool) : sampled s payload gap = { s.pwu with
    gross := (sampled s payload gap).gross, limit := (sampled s payload gap).limit, window := sampledWindow s payload gap
    weight := (sampled s payload gap).weight, zone := (sampled s payload gap).zone } := by
  have runs : sampled s payload gap = Pwu.recompute { s.pwu with
      gross := sampleGross payload
      limit := judgeLimit (sampleFault payload) (sampleOverrange payload) (sampleGross payload) (cfg s).platCapacity (cfg s).platDivision
      window := sampledWindow s payload gap } (cfg s) := rfl
  rw [runs, recompute_live (judgeLimit_live _ _ _ _ _)]

theorem sampled_shown (s : State) (payload : List Byte) (gap : Bool) : sampleShown s payload (sampled s payload gap) := by
  have runs : sampled s payload gap = Pwu.recompute { s.pwu with
      gross := sampleGross payload
      limit := judgeLimit (sampleFault payload) (sampleOverrange payload) (sampleGross payload) (cfg s).platCapacity (cfg s).platDivision
      window := sampledWindow s payload gap } (cfg s) := rfl
  rw [runs, recompute_live (judgeLimit_live _ _ _ _ _)]
  exact ⟨rfl, rfl, rfl, judgeLimit_eq _ _ _ _ _, rfl, rfl⟩

/-! ### The machine's step (R79-R81) -/

section
variable {u : Pwu} {c : Setup} {clock : Word} {fault : Bool}

theorem machineStep_issues (armed : u.machine = .armed) (normal : u.limit = .normal) (stable : u.stable c = true)
    (loaded : u.zone = .loaded) (load : 0 < u.weight) : u.machineStep c clock fault = (u.issue clock, .issued) := by
  simp [Pwu.machineStep, armed, normal, stable, loaded, load]

theorem machineStep_waits (armed : u.machine = .armed)
    (not : u.limit ≠ .normal ∨ u.stable c = false ∨ u.zone = .empty ∨ u.weight ≤ 0) : u.machineStep c clock fault = (u, .none) := by
  have fails : ¬ ((decide (u.limit = .normal) && u.stable c && decide (u.zone = .loaded) && decide (0 < u.weight)) = true) := by
    simp only [Bool.and_eq_true, decide_eq_true_eq]
    rintro ⟨⟨⟨normal, stable⟩, loaded⟩, load⟩
    obtain off | moving | empty | none_ := not
    · exact off normal
    · exact absurd stable (by simp [moving])
    · exact absurd loaded (by simp [empty])
    · omega
  simp only [Pwu.machineStep, armed]
  rw [if_neg fails]

theorem stops_iff (x : LimitState) : x.stops = true ↔ x ≠ .normal := by cases x <;> simp [LimitState.stops]

theorem machineStep_stales (captured : u.machine = .captured) (moved : u.limit ≠ .normal ∨ c.platBand < (u.gross - u.refGross).natAbs) :
    u.machineStep c clock fault = ({ u.makeStale with window := if fault then [] else [u.gross] }, .staled) := by
  have fires : (u.limit.stops || decide (c.platBand < (u.gross - u.refGross).natAbs)) = true := by
    rw [Bool.or_eq_true, decide_eq_true_eq, stops_iff]
    exact moved
  simp only [Pwu.machineStep, captured, fires, if_true]

theorem machineStep_stands (captured : u.machine = .captured) (normal : u.limit = .normal)
    (near : (u.gross - u.refGross).natAbs ≤ c.platBand) : u.machineStep c clock fault = (u, .none) := by
  simp [Pwu.machineStep, captured, normal, LimitState.stops, Nat.not_lt.mpr near]

theorem machineStep_spent (spent : u.machine = .spent) : u.machineStep c clock fault
    = ({ u with machine := if u.stable c = true ∧ u.zone = .empty then .armed else .spent }, .none) := by
  simp only [Pwu.machineStep, spent, Bool.and_eq_true, decide_eq_true_eq]
  split
  next => rfl
  next => rw [← spent]

end

/-- What the machine's step keeps of the sample. -/
structure weighingKept (u v : Pwu) : Prop where
  gross : v.gross = u.gross
  zero : v.zero = u.zero
  tare : v.tare = u.tare
  limit : v.limit = u.limit
  weight : v.weight = u.weight
  zone : v.zone = u.zone
  timer : v.zeroTimer = u.zeroTimer

theorem weighingKept_machineStep (u : Pwu) (c : Setup) (clock : Word) (fault : Bool) :
    weighingKept u (u.machineStep c clock fault).1 := by
  unfold Pwu.machineStep
  split
  next => split <;> exact ⟨rfl, rfl, rfl, rfl, rfl, rfl, rfl⟩
  next => split <;> exact ⟨rfl, rfl, rfl, rfl, rfl, rfl, rfl⟩
  next => split <;> exact ⟨rfl, rfl, rfl, rfl, rfl, rfl, rfl⟩

/-! ### The SAMPLE -/

/-- The machine's step on the sample. -/
def sampleStep (s : State) (payload : List Byte) (gap : Bool) : Pwu × CaptureStep :=
  (sampled s payload gap).machineStep (cfg s) s.re.clock (sampleFault payload)

/-- The sample is taken, and a new limit state is reported. -/
def sampleTaken (s : State) (payload : List Byte) (gap : Bool) : State :=
  if limitRaises s.pwu.limit (sampled s payload gap).limit then
    raise ((popPath s .platter).setPwu ((sampleStep s payload gap).1.judgeTracking (cfg s) s.re.clock)) .scaleLimit 0
  else (popPath s .platter).setPwu ((sampleStep s payload gap).1.judgeTracking (cfg s) s.re.clock)

theorem platterSample_issued {s : State} {payload : List Byte} {gap : Bool} (step : (sampleStep s payload gap).2 = .issued) :
    platterSample s payload gap
      = askPwu s (raise (sampleTaken s payload gap) .captureReady 0) (some (sampled s payload gap).writeSlot) false := by
  unfold sampleStep sampled at step
  simp only [platterSample, step]
  rfl

theorem platterSample_staled {s : State} {payload : List Byte} {gap : Bool} (step : (sampleStep s payload gap).2 = .staled) :
    platterSample s payload gap
      = askPwu s (raise (sampleTaken s payload gap) .captureStale 0) (some (sampled s payload gap).curSlot) false := by
  unfold sampleStep sampled at step
  simp only [platterSample, step]
  rfl

theorem platterSample_plain {s : State} {payload : List Byte} {gap : Bool} (step : (sampleStep s payload gap).2 = .none) :
    platterSample s payload gap = askPwu s (sampleTaken s payload gap) none false := by
  unfold sampleStep sampled at step
  simp only [platterSample, step]
  rfl

theorem sampleTaken_keeps (s : State) (payload : List Byte) (gap : Bool) :
    (sampleTaken s payload gap).pwu = (sampleStep s payload gap).1.judgeTracking (cfg s) s.re.clock
    ∧ (sampleTaken s payload gap).lu = (popPath s .platter).lu
    ∧ (sampleTaken s payload gap).nu.latches.length = s.nu.latches.length := by
  unfold sampleTaken
  split
  next => exact ⟨by simp, by simp, (raise_latches_length _ _ _).trans (by simp)⟩
  next => exact ⟨rfl, rfl, by simp⟩

theorem platterSample_cases (s : State) (payload : List Byte) (gap : Bool) {P : State → Prop}
    (raised : ∀ k slot, k = .captureReady ∨ k = .captureStale → P (askPwu s (raise (sampleTaken s payload gap) k 0) slot false))
    (plain : P (askPwu s (sampleTaken s payload gap) none false)) : P (platterSample s payload gap) := by
  cases step : (sampleStep s payload gap).2 with
  | issued => exact platterSample_issued step ▸ raised _ _ (.inl rfl)
  | staled => exact platterSample_staled step ▸ raised _ _ (.inr rfl)
  | none => exact platterSample_plain step ▸ plain

theorem platterSample_pwu (s : State) (payload : List Byte) (gap : Bool) : (platterSample s payload gap).pwu
    = (sampleStep s payload gap).1.judgeTracking (cfg s) s.re.clock := by
  have taken := (sampleTaken_keeps s payload gap).1
  exact platterSample_cases s payload gap (P := fun t => t.pwu = (sampleStep s payload gap).1.judgeTracking (cfg s) s.re.clock)
    (fun k slot _ => by rw [askPwu_pwu, ← taken]; simp) (by rw [askPwu_pwu, taken])

theorem platterSample_lu (s : State) (payload : List Byte) (gap : Bool) : (platterSample s payload gap).lu = (popPath s .platter).lu := by
  have taken := (sampleTaken_keeps s payload gap).2.1
  exact platterSample_cases s payload gap (P := fun t => t.lu = (popPath s .platter).lu)
    (fun k slot _ => by simpa using taken) (by simpa using taken)

theorem platterSample_asks (s : State) (payload : List Byte) (gap : Bool) : askedFor (platterSample s payload gap) .pwu .statusPage :=
  platterSample_cases s payload gap (P := fun t => askedFor t .pwu .statusPage) (fun _ _ _ => askedFor_askPwu_status)
    askedFor_askPwu_status

/-- A change to OVER, UNDER or FAULT is reported (R76). -/
theorem platterSample_reports_limit {s : State} {payload : List Byte} {gap : Bool} (latches : s.nu.latches.length = 24)
    (raises : limitRaises s.pwu.limit (sampled s payload gap).limit = true) : reported (platterSample s payload gap) .scaleLimit 0 := by
  have taken : reported (sampleTaken s payload gap) .scaleLimit 0 := by
    rw [sampleTaken, if_pos raises]
    exact reported_raise (by simpa using latches) nofun
  refine platterSample_cases s payload gap (P := fun t => reported t .scaleLimit 0) (fun k slot kinds => ?_) (reported_askPwu taken)
  refine reported_askPwu (reported_raise_other nofun ?_ taken)
  obtain rfl | rfl := kinds <;> decide

theorem machineStep_window {u : Pwu} {c : Setup} {clock : Word} {fault : Bool}
    (stays : u.machine ≠ .captured ∨ (u.limit = .normal ∧ (u.gross - u.refGross).natAbs ≤ c.platBand)) :
    (u.machineStep c clock fault).1.window = u.window := by
  cases machine : u.machine with
  | armed =>
    simp only [Pwu.machineStep, machine]
    split <;> rfl
  | captured =>
    obtain ⟨normal, near⟩ := stays.resolve_left (by simp [machine])
    rw [machineStep_stands machine normal near]
  | spent => rw [machineStep_spent machine]

/-- Only an ARMED machine issues a capture. -/
theorem machineStep_lastIssued {u : Pwu} {c : Setup} {clock : Word} {fault : Bool} (other : u.machine ≠ .armed) :
    (u.machineStep c clock fault).1.lastIssued = u.lastIssued := by
  unfold Pwu.machineStep
  split
  next armed => exact absurd armed other
  next => split <;> rfl
  next => split <;> rfl

/-- Only a CAPTURED machine makes a capture STALE. -/
theorem machineStep_lastStale {u : Pwu} {c : Setup} {clock : Word} {fault : Bool} (other : u.machine ≠ .captured) :
    (u.machineStep c clock fault).1.lastStale = u.lastStale := by
  unfold Pwu.machineStep
  split
  next => split <;> rfl
  next captured => exact absurd captured other
  next => split <;> rfl

theorem stable_iff {u : Pwu} {c : Setup} (some_ : 4 ≤ c.platWindow) : u.stable c = true ↔ u.window.length = c.platWindow := by
  have positive : 0 < c.platWindow := by omega
  simp [Pwu.stable, isStable, positive]

/-- The judgement of the tracking after a sample (R85). -/
theorem judged_timer {u : Pwu} {c : Setup} {clock : Word} (some_ : 4 ≤ c.platWindow) : (u.judgeTracking c clock).zeroTimer
    = if c.platTracking = true ∧ u.machine = .armed ∧ u.limit = .normal ∧ u.window.length = c.platWindow ∧ u.tare = 0
          ∧ (u.gross - u.zero).natAbs ≤ 5 * c.platDivision then
        if u.zeroTimer = none then some { start := clock, limit := 1000 } else u.zeroTimer
      else none := by
  have tracked : u.tracks c = true ↔ c.platTracking = true ∧ u.machine = .armed ∧ u.limit = .normal
      ∧ u.window.length = c.platWindow ∧ u.tare = 0 ∧ (u.gross - u.zero).natAbs ≤ 5 * c.platDivision := by
    rw [tracks_iff, ← stable_iff some_]
    refine and_congr_right fun _ => and_congr_right fun _ => and_congr_right fun _ => and_congr_right fun _ =>
      and_congr_right fun none_ => ?_
    rw [Pwu.net, none_, Int.mul_zero, Int.sub_zero]
  rw [judgeTracking_eq]
  exact if_congr tracked rfl rfl

theorem limitRaises_iff (old new : LimitState) : limitRaises old new = true ↔ old ≠ new ∧ (new = .over ∨ new = .under ∨ new = .fault) := by
  simp [limitRaises, or_assoc]

/-- Settles O25: the weighing by `sampled_shown`, the machine by `machineStep_issues`, `_waits`, `_stales`, `_stands`, `_spent`, and
the tracking by `judged_timer`. -/
theorem platterSampleIsWeighed : Obligations.PlatterSampleIsWeighed := by
  unfold Obligations.PlatterSampleIsWeighed
  intro s payload gap c g fault overrange high latches front turn config positive some_ grossIs faultIs overIs
  subst config grossIs faultIs overIs
  have taken : pathTaken s (platterSample s payload gap) .platter :=
    pathTaken_of_lu (popPath_taken s .platter) (platterSample_lu s payload gap)
  have whole := platterSample_frame s payload gap (.refl [.lu, .pwu] s) (by decide) (by decide)
  have asked := platterSample_asks s payload gap
  have shown := sampled_shown s payload gap
  have was := sampled_eq s payload gap
  have kept := weighingKept_machineStep (sampled s payload gap) (cfg s) s.re.clock (sampleFault payload)
  have puIs := platterSample_pwu s payload gap
  have timer := congrArg Pwu.zeroTimer puIs
  rw [judged_timer some_] at timer
  have raises := platterSample_reports_limit (payload := payload) (gap := gap) latches
  have fields : (platterSample s payload gap).pwu = { (sampleStep s payload gap).1 with
      zeroTimer := (platterSample s payload gap).pwu.zeroTimer } := by
    rw [puIs, judgeTracking_eq]
  have machine : (sampled s payload gap).machine = s.pwu.machine := by rw [was]
  have reference : (sampled s payload gap).refGross = s.pwu.refGross := by rw [was]
  have gross : (platterSample s payload gap).pwu.gross = sampleGross payload := by
    rw [fields]
    exact kept.gross.trans shown.gross
  have limit : (platterSample s payload gap).pwu.limit = (sampled s payload gap).limit := by
    rw [fields]
    exact kept.limit
  have zone : (platterSample s payload gap).pwu.zone = (sampled s payload gap).zone := by
    rw [fields]
    exact kept.zone
  have window (stays : s.pwu.machine ≠ .captured ∨ ((sampled s payload gap).limit = .normal
      ∧ (sampleGross payload - s.pwu.refGross).natAbs ≤ (cfg s).platBand)) :
      (platterSample s payload gap).pwu.window = sampledWindow s payload gap := by
    rw [fields]
    refine (machineStep_window ?_).trans (by rw [was])
    rw [machine, reference, shown.gross]
    exact stays
  refine ⟨_, (sampled s payload gap).weight, exec_platterSample high front turn, taken.1, taken.2, gross, ?zero, ?tare,
    limit.trans shown.limit, ?weight, ?rounded, zone.trans shown.zone, fun stays => ?window, fun armed normal stable loaded load => ?issues,
    fun armed not => ?waits, fun other => ?issuedKept, fun other => ?staleKept, fun captured moved => ?stales,
    fun captured normal near => ?stands, fun spent => ?spent, fun tracks => ?tracks, fun idle => ?idle, fun other kinds => ?limitTold,
    asked, whole⟩
  case zero => rw [fields]; exact kept.zero.trans shown.zero
  case tare => rw [fields]; exact kept.tare.trans shown.tare
  case weight => rw [fields]; exact kept.weight
  case rounded => rw [shown.weight]; exact roundDivision_rounded _ positive
  case window =>
    rw [limit] at stays
    rw [window stays, sampledWindow]
    refine ⟨fun fault => if_pos fault, fun good again => ?_, fun good on => ?_⟩
    · rw [good, again, if_neg Bool.false_ne_true, if_pos rfl]
      exact enterWindow_nil _ _ (by omega)
    · rw [good, on, if_neg Bool.false_ne_true, if_neg Bool.false_ne_true]
      exact enterWindow_rule _ _ _ _
  case limitTold =>
    rw [limit] at other kinds
    exact raises ((limitRaises_iff _ _).mpr ⟨other.symm, kinds⟩)
  case tracks =>
    obtain ⟨tracking, armed, normal, full, tare, near⟩ := tracks
    have stays : (sampleStep s payload gap).1.window = (platterSample s payload gap).pwu.window := by rw [fields]
    have state : (sampleStep s payload gap).1.machine = (platterSample s payload gap).pwu.machine := by rw [fields]
    have level := kept.limit.trans limit.symm
    have holds : (cfg s).platTracking = true ∧ (sampleStep s payload gap).1.machine = .armed
        ∧ (sampleStep s payload gap).1.limit = .normal ∧ (sampleStep s payload gap).1.window.length = (cfg s).platWindow
        ∧ (sampleStep s payload gap).1.tare = 0
        ∧ ((sampleStep s payload gap).1.gross - (sampleStep s payload gap).1.zero).natAbs ≤ 5 * (cfg s).platDivision :=
      ⟨tracking, state.trans armed, level.trans normal, stays ▸ full, (kept.tare.trans shown.tare).trans tare,
        by rw [sampleStep, kept.gross, kept.zero, shown.gross, shown.zero]; exact near⟩
    have ran : (sampleStep s payload gap).1.zeroTimer = s.pwu.zeroTimer := kept.timer.trans (by rw [was])
    rw [timer, if_pos holds, ran]
    rfl
  case idle =>
    have stays : (sampleStep s payload gap).1.window = (platterSample s payload gap).pwu.window := by rw [fields]
    have state : (sampleStep s payload gap).1.machine = (platterSample s payload gap).pwu.machine := by rw [fields]
    have level : (sampleStep s payload gap).1.limit = _ := kept.limit.trans limit.symm
    have tare : (sampleStep s payload gap).1.tare = _ := kept.tare.trans shown.tare
    have zero : (sampleStep s payload gap).1.zero = _ := kept.zero.trans shown.zero
    have weighed : (sampleStep s payload gap).1.gross = _ := kept.gross.trans shown.gross
    rw [timer, stays, state, level, tare, zero, weighed]
    refine if_neg fun holds => ?_
    obtain ⟨tracking, armed, normal, full, none_, near⟩ := holds
    obtain off | other | limited | moving | tared | far := idle
    · exact absurd tracking (by simp [off])
    · exact other armed
    · exact limited normal
    · exact moving full
    · exact tared none_
    · omega
  case issues =>
    rw [window (.inl (by simp [armed]))] at stable
    have step : sampleStep s payload gap = _ := machineStep_issues (c := cfg s) (clock := s.re.clock) (fault := sampleFault payload)
      (machine.trans armed) (limit ▸ normal) ((stable_iff some_).mpr (by rw [was]; exact stable)) (zone ▸ loaded) load
    have reports : reported (platterSample s payload gap) .captureReady 0 ∧ askedFor (platterSample s payload gap) .pwu .captureTable := by
      rw [platterSample_issued (by rw [step])]
      exact ⟨reported_askPwu (reported_raise ((sampleTaken_keeps s payload gap).2.2.trans latches) nofun), askedFor_askPwu_table⟩
    have now := fields
    rw [step, Pwu.issue, shown.gross] at now
    rw [now, was]
    exact ⟨rfl, rfl, rfl, rfl, rfl, rfl, rfl, reports⟩
  case waits =>
    rw [window (.inl (by simp [armed])), limit, zone] at not
    have step : sampleStep s payload gap = _ := machineStep_waits (c := cfg s) (clock := s.re.clock) (fault := sampleFault payload)
      (machine.trans armed) (not.imp_right (Or.imp_left fun moving => Bool.eq_false_iff.mpr fun is =>
        moving (by rw [stable_iff some_, was] at is; exact is)))
    have now := fields
    rw [step, was] at now
    rw [now]
    exact ⟨armed, rfl, rfl⟩
  case stales =>
    rw [limit] at moved
    have step : sampleStep s payload gap = _ := machineStep_stales (c := cfg s) (clock := s.re.clock) (fault := sampleFault payload)
      (machine.trans captured) (by rw [shown.gross, reference]; exact moved)
    have reports : reported (platterSample s payload gap) .captureStale 0 ∧ askedFor (platterSample s payload gap) .pwu .captureTable := by
      rw [platterSample_staled (by rw [step])]
      exact ⟨reported_askPwu (reported_raise ((sampleTaken_keeps s payload gap).2.2.trans latches) nofun), askedFor_askPwu_table⟩
    have now := fields
    rw [step, Pwu.makeStale, shown.gross, was] at now
    rw [now]
    exact ⟨rfl, rfl, rfl, rfl, reports⟩
  case stands =>
    have step : sampleStep s payload gap = _ := machineStep_stands (c := cfg s) (clock := s.re.clock) (fault := sampleFault payload)
      (machine.trans captured) (limit ▸ normal) (by rw [shown.gross, reference]; exact near)
    have now := fields
    rw [step, was] at now
    rw [now]
    exact ⟨captured, rfl, rfl⟩
  case spent =>
    have step : sampleStep s payload gap = _ := machineStep_spent (c := cfg s) (clock := s.re.clock) (fault := sampleFault payload)
      (machine.trans spent)
    have stable := stable_iff (u := sampled s payload gap) some_
    have same : (sampled s payload gap).window = (platterSample s payload gap).pwu.window := by
      rw [window (.inl (by simp [spent])), was]
    rw [same] at stable
    have now := fields
    rw [step, if_congr (and_congr_left' stable) rfl rfl] at now
    have after : (platterSample s payload gap).pwu.machine = _ := congrArg Pwu.machine now
    have table : (platterSample s payload gap).pwu.table = _ := congrArg Pwu.table now
    rw [zone]
    exact ⟨table.trans (by rw [was]), after⟩
  case issuedKept =>
    rw [fields]
    exact (machineStep_lastIssued (fun armed => other (machine.symm.trans armed))).trans (by rw [was])
  case staleKept =>
    rw [fields]
    exact (machineStep_lastStale (fun captured => other (machine.symm.trans captured))).trans (by rw [was])

end Sys2Proof.Machine
end

section
/-! The bag's timer, its link and the SU's tells (R113, R114, R117; O35). -/

namespace Sys2Proof.Machine

/-! ### Shared steps -/

theorem askBwuStatus_bwu (s : State) (ofRequest : Bool) : (askBwuStatus s ofRequest).bwu = s.bwu := by simp

theorem askBwuStatus_su (s : State) (ofRequest : Bool) : (askBwuStatus s ofRequest).su = s.su := by simp

theorem askedFor_askBwuStatus {s : State} {ofRequest : Bool} : askedFor (askBwuStatus s ofRequest) .bwu .statusPage :=
  askedFor_askLiveAfter (by simp)

theorem reported_askBwuStatus {s : State} {ofRequest : Bool} {k : CondKind} {source : Nat} (h : reported s k source) :
    reported (askBwuStatus s ofRequest) k source := reported_of_nu h (by simp) (by simp)

theorem reported_suSend {s : State} {x : SaleItem} {k : CondKind} {source : Nat} (h : reported s k source) :
    reported (suSend s x) k source := reported_of_nu h rfl rfl

theorem suSend_claims (s : State) (x : SaleItem) : x ∈ (suSend s x).su.inbox := List.mem_append_right _ List.mem_cons_self

/-- The hold set, or renewed, for a reason (R118). -/
theorem setHold_holds {s : State} {reason : HoldReason} (latches : s.nu.latches.length = 24) :
    (setHold s reason).bwu = { s.bwu with hold := true, holdReason := reason, waitTimer := none }
    ∧ reported (setHold s reason) .bagHoldSet 0 ∧ .holdSet reason ∈ (setHold s reason).su.inbox :=
  ⟨by simp [setHold], reported_suSend (reported_raise latches nofun), suSend_claims _ _⟩

/-! ### The timer -/

theorem exec_bagWaitExpiry {s : State} (high : s.bi.inReset = false) (due : timerDue s s.bwu.waitTimer = true)
    (turn : unitTakes s .bwu (.timer .bagWait) = true) : exec .bagWaitExpiry s = .next (bagWaitExpired s) :=
  stepIf_enabled high (by simp [due, turn])

/-- The Bag Weigh Unit with its timer stopped. -/
def bagTimerOff (s : State) : State := s.setBwu { s.bwu with waitTimer := none }

theorem bagWaitExpired_holds {s : State} (self : s.bwu.verif = .self) (pending : s.bwu.pend ≠ []) :
    bagWaitExpired s = askBwuStatus (setHold (bagTimerOff s) .timeout) false := by
  simp [bagWaitExpired, bagTimerOff, self, pending]

theorem bagWaitExpired_calm {s : State} (calm : s.bwu.verif ≠ .self ∨ s.bwu.pend = []) :
    bagWaitExpired s = askBwuStatus (bagTimerOff s) false := by
  obtain other | none_ := calm
  · simp [bagWaitExpired, bagTimerOff, other]
  · simp [bagWaitExpired, bagTimerOff, none_]

/-! ### The link -/

theorem exec_bagLinkChange {s : State} {old new : LinkState} (high : s.bi.inReset = false)
    (front : frontChange s .bag = some (old, new)) (turn : unitTakes s .bwu .link = true)
    (answers : s.bwu.asksSale = true → bagLinkLost s old new = true → saleAnswers s = true) :
    exec .bagLinkChange s = .next (bagLinkChange s old new) := by
  have runs : exec .bagLinkChange s = execBagLinkChange s := rfl
  rw [runs, execBagLinkChange, front]
  refine stepIf_enabled high ?_
  rw [turn, Bool.true_and, Bool.or_eq_true, Bool.not_eq_true', Bool.and_eq_false_iff]
  by_cases asks : s.bwu.asksSale = true
  · by_cases lost : bagLinkLost s old new = true
    · exact .inr (answers asks lost)
    · exact .inl (.inr (Bool.eq_false_iff.mpr lost))
  · exact .inl (.inl (Bool.eq_false_iff.mpr asks))

theorem exec_bagLinkChange_waits {s : State} {old new : LinkState} (front : frontChange s .bag = some (old, new))
    (asks : s.bwu.asksSale = true) (lost : bagLinkLost s old new = true) (busy : saleAnswers s = false) :
    exec .bagLinkChange s = .next s := by
  have runs : exec .bagLinkChange s = execBagLinkChange s := rfl
  rw [runs, execBagLinkChange, front]
  exact stepIf_disabled (by simp [asks, lost, busy])

theorem bagLinkLost_iff (s : State) (old new : LinkState) : bagLinkLost s old new = true
    ↔ wentQuiet s .bag = false ∧ old = .up ∧ new ≠ .up := by
  simp [bagLinkLost, and_assoc]

theorem bagLinkChange_quiet {s : State} {old new : LinkState} (quiet : wentQuiet s .bag = true) :
    bagLinkChange s old new = popPath s .bag := by simp [bagLinkChange, bagLinkLost, quiet]

theorem bagLinkChange_between {s : State} {old new : LinkState} (off : new ≠ .up) (was : old ≠ .up) :
    bagLinkChange s old new = popPath s .bag := by simp [bagLinkChange, bagLinkLost, off, was]

theorem bagLinkChange_back {s : State} {old new : LinkState} (quiet : wentQuiet s .bag = false) (up : new = .up) :
    bagLinkChange s old new = askBwuStatus ((popPath s .bag).setBwu { s.bwu with limit := .normal, window := [] }) false := by
  simp [bagLinkChange, bagLinkLost, quiet, up]

/-- The Bag Weigh Unit without its link. -/
def bagOff (s : State) : State := (popPath s .bag).setBwu { s.bwu with limit := .offline, window := [] }

theorem asksSelfSale_iff (s : State) : (s.bwu.asksSale && selfSale s) = true ↔ s.bwu.verif = .self ∧ s.su.header.mode = .self
    ∧ (s.su.header.state = .opened ∨ s.su.header.state = .tendering ∨ s.su.header.state = .settled) := by
  have active : s.su.header.state.active = true ↔ s.su.header.state = .opened ∨ s.su.header.state = .tendering
      ∨ s.su.header.state = .settled := by cases s.su.header.state <;> decide
  rw [Bool.and_eq_true, Bwu.asksSale, selfSale, Bool.and_eq_true, active, decide_eq_true_eq, decide_eq_true_eq]

theorem bagLinkChange_lost {s : State} {old new : LinkState} (quiet : wentQuiet s .bag = false) (off : new ≠ .up) (was : old = .up) :
    bagLinkChange s old new = askBwuStatus (if s.bwu.asksSale && selfSale s then setHold (bagOff s) .mismatch else bagOff s) false := by
  have lost := (bagLinkLost_iff s old new).mpr ⟨quiet, was, off⟩
  simp only [bagLinkChange, lost, if_true]
  rfl

theorem bagLinkChange_lu (s : State) (old new : LinkState) : (bagLinkChange s old new).lu = (popPath s .bag).lu := by
  by_cases quiet : wentQuiet s .bag = true
  · rw [bagLinkChange_quiet quiet]
  have live := Bool.not_eq_true _ ▸ quiet
  by_cases up : new = .up
  · rw [bagLinkChange_back live up]
    simp
  by_cases was : old = .up
  · rw [bagLinkChange_lost live up was]
    split <;> simp [bagOff]
  · rw [bagLinkChange_between up was]

/-! ### The SU's tells (R114) -/

theorem bagTell_eq {s : State} {x : BagTell} {rest : List BagTell} (turn : unitTakes s .bwu .tell = true)
    (front : s.bwu.tells = x :: rest) : bagTell s = some x := by simp only [bagTell, turn, front, if_true, List.head?_cons]

theorem exec_bagSaleOpened {s : State} {mode : SaleMode} {baseline : Int} {rest : List BagTell} (high : s.bi.inReset = false)
    (turn : unitTakes s .bwu .tell = true) (front : s.bwu.tells = .saleOpened mode baseline :: rest) :
    exec .bagSaleOpened s = .next (bagSaleOpened s mode baseline) := by
  have runs : exec .bagSaleOpened s = execBagSaleOpened s := rfl
  rw [runs, execBagSaleOpened, bagTell_eq turn front]
  exact stepIf_enabled high rfl

theorem exec_bagSaleClosing {s : State} {rest : List BagTell} (high : s.bi.inReset = false)
    (turn : unitTakes s .bwu .tell = true) (front : s.bwu.tells = .saleClosing :: rest) :
    exec .bagSaleClosing s = .next (bagSaleClosing s) := by
  have runs : exec .bagSaleClosing s = execBagSaleClosing s := rfl
  rw [runs, execBagSaleClosing, bagTell_eq turn front]
  exact stepIf_enabled high rfl

theorem exec_bagSaleEnded {s : State} {rest : List BagTell} (high : s.bi.inReset = false)
    (turn : unitTakes s .bwu .tell = true) (front : s.bwu.tells = .saleEnded :: rest) :
    exec .bagSaleEnded s = .next (bagSaleEnded s) := by
  have runs : exec .bagSaleEnded s = execBagSaleEnded s := rfl
  rw [runs, execBagSaleEnded, bagTell_eq turn front]
  exact stepIf_enabled high rfl

/-- Settles O35: the hold by `setHold_holds`, the link by its direction. -/
theorem bagTimerLinkAndTells : Obligations.BagTimerLinkAndTells := by
  unfold Obligations.BagTimerLinkAndTells
  refine ⟨fun s high latches due turn => ?timer, fun s new front off quiet self busy => ?waits, ?change,
    fun s mode baseline rest high turn front => ?opened, fun s rest high turn front => ?closing, fun s rest high turn front => ?ended⟩
  case timer =>
    refine ⟨_, exec_bagWaitExpiry high due turn, fun self pending => ?holds, fun calm => ?calm, askedFor_askBwuStatus,
      bagWaitExpired_frame s (.refl _ s) (by decide)⟩
    case holds =>
      obtain ⟨bwu, reports, claims⟩ := setHold_holds (s := bagTimerOff s) (reason := .timeout) latches
      rw [bagWaitExpired_holds self pending, askBwuStatus_bwu, askBwuStatus_su]
      exact ⟨bwu, reported_askBwuStatus reports, claims⟩
    case calm =>
      rw [bagWaitExpired_calm calm, askBwuStatus_bwu, askBwuStatus_su]
      exact ⟨rfl, by simp [bagTimerOff], rfl⟩
  case waits =>
    exact exec_bagLinkChange_waits front (decide_eq_true self) ((bagLinkLost_iff _ _ _).mpr ⟨quiet, rfl, off⟩) busy
  case change =>
    intro s old new sale high latches front turn selling answers
    have taken : pathTaken s (bagLinkChange s old new) .bag := pathTaken_of_lu (popPath_taken s .bag) (bagLinkChange_lu s old new)
    have runs := exec_bagLinkChange high front turn fun asks lost => by
      obtain ⟨quiet, was, off⟩ := (bagLinkLost_iff _ _ _).mp lost
      exact answers quiet off was (of_decide_eq_true asks)
    have asked (sells : Bool) (same : (s.bwu.asksSale && selfSale s) = sells) : sells = sale := by
      rw [← same, Bool.eq_iff_iff, asksSelfSale_iff, selling]
    refine ⟨_, runs, taken.1, taken.2, fun quiet => ?quiet, fun live up => ?back, fun live off was sells => ?held,
      fun live off was sells => ?lost, fun off was => ?between, bagLinkChange_frame s old new (.refl _ s) (by decide) (by decide)⟩
    case quiet =>
      rw [bagLinkChange_quiet quiet]
      exact ⟨rfl, rfl, rfl, rfl⟩
    case back =>
      rw [bagLinkChange_back live up, askBwuStatus_bwu]
      exact ⟨rfl, askedFor_askBwuStatus⟩
    case held =>
      obtain ⟨bwu, reports, claims⟩ := setHold_holds (s := bagOff s) (reason := .mismatch) latches
      rw [bagLinkChange_lost live off was, asked _ rfl, sells, if_pos rfl, askBwuStatus_bwu, askBwuStatus_su]
      exact ⟨bwu, reported_askBwuStatus reports, claims, askedFor_askBwuStatus⟩
    case lost =>
      rw [bagLinkChange_lost live off was, asked _ rfl, sells, if_neg Bool.false_ne_true, askBwuStatus_bwu, askBwuStatus_su]
      exact ⟨rfl, rfl, askedFor_askBwuStatus⟩
    case between =>
      rw [bagLinkChange_between off was]
      exact ⟨rfl, rfl, rfl⟩
  all_goals
    have tail : s.bwu.tells.tail = rest := by rw [front]; rfl
  case opened =>
    refine ⟨_, exec_bagSaleOpened high turn front, ?_, askedFor_askBwuStatus, bagSaleOpened_frame s mode baseline (.refl _ s) (by decide)⟩
    rw [bagSaleOpened, askBwuStatus_bwu, tail]
    rfl
  case closing =>
    refine ⟨_, exec_bagSaleClosing high turn front, ?_, askedFor_askBwuStatus, bagSaleClosing_frame s (.refl _ s) (by decide)⟩
    rw [bagSaleClosing, askBwuStatus_bwu, tail]
    rfl
  case ended =>
    refine ⟨_, exec_bagSaleEnded high turn front, ?_, askedFor_askBwuStatus, bagSaleEnded_frame s (.refl _ s) (by decide)⟩
    rw [bagSaleEnded, askBwuStatus_bwu, tail]
    rfl

end Sys2Proof.Machine
end

section
/-! A SAMPLE of the bagging scale and the settlement it may make (R111, R112, R115-R119; O34). -/

namespace Sys2Proof.Machine

/-! ### When the SU answers (R108; log 47) -/

theorem exec_bagSample {s : State} {payload : List Byte} {gap : Bool} (high : s.bi.inReset = false)
    (front : frontFrame s .bag = some (kSample, payload, gap)) (turn : unitTakes s .bwu .link = true)
    (ready : bagSampleReady s payload gap = true) : exec .bagSample s = .next (bagSample s payload gap) := by
  have runs : exec .bagSample s = execBagSample s := rfl
  rw [runs, execBagSample, front]
  exact stepIf_enabled high (by simp [turn, ready])

theorem exec_bagSample_waits {s : State} {payload : List Byte} {gap : Bool}
    (front : frontFrame s .bag = some (kSample, payload, gap)) (busy : bagSampleReady s payload gap = false) :
    exec .bagSample s = .next s := by
  have runs : exec .bagSample s = execBagSample s := rfl
  rw [runs, execBagSample, front]
  exact stepIf_disabled (by simp [busy])

/-- The sample brings the bag to rest (R112). -/
def bagSettles (s : State) (payload : List Byte) (gap : Bool) : Bool := s.bwu.settles (sampledBag s payload gap) (cfg s) gap

theorem atRest_iff {u : Bwu} {c : Setup} (some_ : 4 ≤ c.bagWindow) :
    u.atRest c = true ↔ u.window.length = c.bagWindow ∧ u.limit = .normal := by
  have positive : 0 < c.bagWindow := by omega
  simp [Bwu.atRest, isStable, positive]

theorem bagSettles_eq (s : State) (payload : List Byte) (gap : Bool) {rested : Bool}
    (was : rested = (isStable s.bwu.window (cfg s).bagWindow && decide (s.bwu.limit = .normal) && !gap)) :
    bagSettles s payload gap = ((sampledBag s payload gap).atRest (cfg s) && !rested) := by
  rw [was]
  rfl

/-! ### Matching (R116) -/

theorem findMatch_some {d : Int} {pend : List Expectation} {k : Nat} (first : 1 ≤ k) (last : k ≤ pend.length)
    (near : ((d - sumDelta (pend.take k)).natAbs : Int) ≤ sumTolerance (pend.take k))
    (smallest : ∀ j, 1 ≤ j → j < k → sumTolerance (pend.take j) < ((d - sumDelta (pend.take j)).natAbs : Int)) :
    findMatch d pend = some k := by
  obtain ⟨i, rfl⟩ := Nat.exists_eq_add_of_le' first
  have found : (List.range pend.length).find? (fun i =>
      decide (((d - sumDelta (pend.take (i + 1))).natAbs : Int) ≤ sumTolerance (pend.take (i + 1)))) = some i := by
    rw [List.find?_range_eq_some]
    refine ⟨decide_eq_true near, List.mem_range.mpr last, fun j less => ?_⟩
    rw [Bool.not_eq_true', decide_eq_false_iff_not, Int.not_le]
    exact smallest (j + 1) (Nat.le_add_left _ _) (Nat.add_lt_add_right less 1)
  rw [findMatch, found]
  rfl

theorem findMatch_none {d : Int} {pend : List Expectation} (far : ∀ k, 1 ≤ k → k ≤ pend.length →
    sumTolerance (pend.take k) < ((d - sumDelta (pend.take k)).natAbs : Int)) : findMatch d pend = none := by
  have found : (List.range pend.length).find? (fun i =>
      decide (((d - sumDelta (pend.take (i + 1))).natAbs : Int) ≤ sumTolerance (pend.take (i + 1)))) = none := by
    rw [List.find?_eq_none]
    intro i less
    rw [decide_eq_true_eq, Int.not_le]
    exact far (i + 1) (Nat.le_add_left _ _) (List.mem_range.mp less)
  rw [findMatch, found]
  rfl

theorem failReason_eq (pend : List Expectation) (d : Int) : failReason pend d
    = if pend ≠ [] then .mismatch else if 0 < d then .unexpectedAdd else .unexpectedRemoval := by
  cases pend <;> simp [failReason]

/-! ### The judgement, case by case (R116, R119) -/

section
variable {x : State} {d : Int} {k : Nat}

/-- The state with the first `k` entries matched. -/
def firstMatched (x : State) (k : Nat) : State := x.setBwu (x.bwu.matchFirst (cfg x) x.re.clock k)

theorem judgeClear_matches (found : findMatch d x.bwu.pend = some k) : judgeClear x d
    = suSend (firstMatched x k) (.settlement (namedOf (x.bwu.pend.take k)) (firstMatched x k).bwu.baseline) := by
  simp only [judgeClear, found]
  rfl

theorem judgeClear_near (none_ : findMatch d x.bwu.pend = none) (near : d.natAbs ≤ (cfg x).bagAbsTol) : judgeClear x d = x := by
  simp only [judgeClear, none_, near, if_true]

theorem judgeClear_fails (none_ : findMatch d x.bwu.pend = none) (far : (cfg x).bagAbsTol < d.natAbs) :
    judgeClear x d = setHold x (failReason x.bwu.pend d) := by
  simp only [judgeClear, none_, Nat.not_le.mpr far, if_false]

theorem judgeHeld_near (near : d.natAbs ≤ (cfg x).bagAbsTol) : judgeHeld x d = clearHold x .restored [] := by
  simp only [judgeHeld, near, if_true]

theorem judgeHeld_matches (far : (cfg x).bagAbsTol < d.natAbs) (late : x.bwu.holdReason = .timeout)
    (found : findMatch d x.bwu.pend = some k) :
    judgeHeld x d = clearHold (firstMatched x k) .matched (namedOf (x.bwu.pend.take k)) := by
  simp only [judgeHeld, Nat.not_le.mpr far, late, found, if_false, if_true]
  rfl

theorem judgeHeld_fails (far : (cfg x).bagAbsTol < d.natAbs) (other : x.bwu.holdReason ≠ .timeout ∨ findMatch d x.bwu.pend = none) :
    judgeHeld x d = setHold x (failReason x.bwu.pend d) := by
  have none_ : (if x.bwu.holdReason = .timeout then findMatch d x.bwu.pend else none) = none := by
    obtain not | none_ := other
    · exact if_neg not
    · rw [none_, ite_self]
  simp only [judgeHeld, Nat.not_le.mpr far, none_, if_false]

/-- The hold cleared (R119). -/
theorem clearHold_clears {reason : ClearReason} {named : List NamedLine} (latches : x.nu.latches.length = 24) :
    (clearHold x reason named).bwu = { x.bwu with
      hold := false, clearReason := reason
      waitTimer := if x.bwu.pend = [] then none else startTimer x ((cfg x).bagWait * 1000) }
    ∧ reported (clearHold x reason named) .bagHoldClear 0
    ∧ .holdClear reason x.bwu.baseline named ∈ (clearHold x reason named).su.inbox := by
  refine ⟨?_, reported_suSend (reported_raise latches nofun), suSend_claims _ _⟩
  simp [clearHold, waitLimit]

end

/-- What a judgement keeps of the weighing. -/
structure bagWeighingKept (u v : Bwu) : Prop where
  gross : v.gross = u.gross
  limit : v.limit = u.limit
  weight : v.weight = u.weight
  window : v.window = u.window
  verif : v.verif = u.verif
  tells : v.tells = u.tells
  settled : v.settled = u.settled

theorem bagWeighingKept_setHold (x : State) (reason : HoldReason) : bagWeighingKept x.bwu (setHold x reason).bwu := by
  have bwu : (setHold x reason).bwu = { x.bwu with hold := true, holdReason := reason, waitTimer := none } := by simp [setHold]
  rw [bwu]
  exact ⟨rfl, rfl, rfl, rfl, rfl, rfl, rfl⟩

theorem bagWeighingKept_clearHold (x : State) (reason : ClearReason) (named : List NamedLine) :
    bagWeighingKept x.bwu (clearHold x reason named).bwu := by
  have bwu : (clearHold x reason named).bwu = { x.bwu with
      hold := false, clearReason := reason
      waitTimer := if x.bwu.pend = [] then none else startTimer x ((cfg x).bagWait * 1000) } := by simp [clearHold, waitLimit]
  rw [bwu]
  exact ⟨rfl, rfl, rfl, rfl, rfl, rfl, rfl⟩

/-- Any way a judgement ends. -/
theorem judged_cases (x : State) (d : Int) {P : State → Prop} (stays : P x)
    (matched : ∀ k y, P (suSend (firstMatched x k) y)) (held : ∀ reason, P (setHold x reason))
    (cleared : ∀ reason named, P (clearHold x reason named)) (clearedMatched : ∀ k reason named, P (clearHold (firstMatched x k) reason named)) :
    P (judgeClear x d) ∧ P (judgeHeld x d) := by
  constructor
  · unfold judgeClear
    dsimp only
    split
    next => exact matched _ _
    next => split <;> [exact stays; exact held _]
  · unfold judgeHeld
    dsimp only
    split
    next => exact cleared _ _
    next => split <;> [exact clearedMatched _ _ _; exact held _]

/-- The difference of a settlement is kept. -/
def deltaTaken (x : State) : State := x.setBwu { x.bwu with lastDelta := x.bwu.settled - x.bwu.baseline }

theorem judgeSettlement_sale {x : State} (sells : (x.bwu.asksSale && selfSale x) = true) : judgeSettlement x
    = if x.bwu.hold then judgeHeld (deltaTaken x) (x.bwu.settled - x.bwu.baseline)
      else judgeClear (deltaTaken x) (x.bwu.settled - x.bwu.baseline) := by
  rw [judgeSettlement, if_pos sells]
  rfl

theorem judgeSettlement_other {x : State} (not : (x.bwu.asksSale && selfSale x) = false) : judgeSettlement x = x := by
  rw [judgeSettlement, not]
  rfl

theorem judgeSettlement_cases (x : State) {P : State → Prop} (stays : P x) (judged : P (deltaTaken x))
    (matched : ∀ k y, P (suSend (firstMatched (deltaTaken x) k) y)) (held : ∀ reason, P (setHold (deltaTaken x) reason))
    (cleared : ∀ reason named, P (clearHold (deltaTaken x) reason named))
    (clearedMatched : ∀ k reason named, P (clearHold (firstMatched (deltaTaken x) k) reason named)) : P (judgeSettlement x) := by
  cases sells : x.bwu.asksSale && selfSale x with
  | false =>
    rw [judgeSettlement_other sells]
    exact stays
  | true =>
    obtain ⟨clear, hold⟩ := judged_cases (deltaTaken x) (x.bwu.settled - x.bwu.baseline) judged matched held cleared clearedMatched
    rw [judgeSettlement_sale sells]
    split
    · exact hold
    · exact clear

theorem bagWeighingKept.trans {u v w : Bwu} (h : bagWeighingKept u v) (k : bagWeighingKept v w) : bagWeighingKept u w :=
  ⟨k.gross.trans h.gross, k.limit.trans h.limit, k.weight.trans h.weight, k.window.trans h.window, k.verif.trans h.verif,
    k.tells.trans h.tells, k.settled.trans h.settled⟩

theorem bagWeighingKept_judgeSettlement (x : State) : bagWeighingKept x.bwu (judgeSettlement x).bwu := by
  have matched (k : Nat) : bagWeighingKept x.bwu (firstMatched (deltaTaken x) k).bwu := ⟨rfl, rfl, rfl, rfl, rfl, rfl, rfl⟩
  have taken : bagWeighingKept x.bwu (deltaTaken x).bwu := ⟨rfl, rfl, rfl, rfl, rfl, rfl, rfl⟩
  exact judgeSettlement_cases x (P := fun y => bagWeighingKept x.bwu y.bwu) ⟨rfl, rfl, rfl, rfl, rfl, rfl, rfl⟩ taken
    (fun k _ => matched k) (fun _ => taken.trans (bagWeighingKept_setHold _ _))
    (fun _ _ => taken.trans (bagWeighingKept_clearHold _ _ _)) (fun k _ _ => (matched k).trans (bagWeighingKept_clearHold _ _ _))

/-- What was reported before a settlement stays reported. -/
theorem reported_judgeSettlement {x : State} (h : reported x .scaleLimit 1) : reported (judgeSettlement x) .scaleLimit 1 := by
  have held (y : State) (reason : HoldReason) (h : reported y .scaleLimit 1) : reported (setHold y reason) .scaleLimit 1 :=
    reported_suSend (reported_raise_other nofun (by decide) (reported_of_nu h rfl rfl))
  have cleared (y : State) (reason : ClearReason) (named : List NamedLine) (h : reported y .scaleLimit 1) :
      reported (clearHold y reason named) .scaleLimit 1 :=
    reported_suSend (reported_raise_other nofun (by decide) (reported_of_nu h rfl rfl))
  have taken : reported (deltaTaken x) .scaleLimit 1 := reported_of_nu h rfl rfl
  have matched (k : Nat) : reported (firstMatched (deltaTaken x) k) .scaleLimit 1 := reported_of_nu h rfl rfl
  exact judgeSettlement_cases x (P := fun y => reported y .scaleLimit 1) h taken (fun k _ => reported_suSend (matched k))
    (fun _ => held _ _ taken) (fun _ _ => cleared _ _ _ taken) (fun k _ _ => cleared _ _ _ (matched k))

/-! ### The sample -/

/-- The Bag Weigh Unit with the sample, and the settled weight where it comes to rest. -/
def settledBag (s : State) (payload : List Byte) (gap : Bool) : Bwu :=
  if bagSettles s payload gap then { sampledBag s payload gap with settled := (sampledBag s payload gap).weight }
  else sampledBag s payload gap

/-- The sample is taken, and a new limit state is reported. -/
def bagTaken (s : State) (payload : List Byte) (gap : Bool) : State :=
  if limitRaises s.bwu.limit (sampledBag s payload gap).limit then
    raise ((popPath s .bag).setBwu (settledBag s payload gap)) .scaleLimit 1
  else (popPath s .bag).setBwu (settledBag s payload gap)

theorem bagSample_eq (s : State) (payload : List Byte) (gap : Bool) : bagSample s payload gap
    = askBwuStatus (if bagSettles s payload gap then judgeSettlement (bagTaken s payload gap) else bagTaken s payload gap) false := rfl

theorem bagTaken_keeps (s : State) (payload : List Byte) (gap : Bool) : (bagTaken s payload gap).bwu = settledBag s payload gap
    ∧ (bagTaken s payload gap).re = s.re ∧ (bagTaken s payload gap).lu = (popPath s .bag).lu
    ∧ (bagTaken s payload gap).su.header = s.su.header ∧ (bagTaken s payload gap).nu.latches.length = s.nu.latches.length := by
  unfold bagTaken
  split
  next => exact ⟨by simp, by simp, by simp, by simp, (raise_latches_length _ _ _).trans (by simp)⟩
  next => exact ⟨rfl, by simp, rfl, by simp, by simp⟩

theorem bagSample_lu (s : State) (payload : List Byte) (gap : Bool) : (bagSample s payload gap).lu = (popPath s .bag).lu := by
  have taken := (bagTaken_keeps s payload gap).2.2.1
  rw [bagSample_eq]
  split <;> simpa using taken

theorem bagSample_reports_limit {s : State} {payload : List Byte} {gap : Bool} (latches : s.nu.latches.length = 24)
    (raises : limitRaises s.bwu.limit (sampledBag s payload gap).limit = true) : reported (bagSample s payload gap) .scaleLimit 1 := by
  have taken : reported (bagTaken s payload gap) .scaleLimit 1 := by
    rw [bagTaken, if_pos raises]
    exact reported_raise (by simpa using latches) nofun
  rw [bagSample_eq]
  split
  next => exact reported_askBwuStatus (reported_judgeSettlement taken)
  next => exact reported_askBwuStatus taken

/-- What the sample shows of the weighing (R111). -/
theorem bagSample_weighing (s : State) (payload : List Byte) (gap : Bool) :
    bagWeighingKept (settledBag s payload gap) (bagSample s payload gap).bwu := by
  have taken := (bagTaken_keeps s payload gap).1
  rw [bagSample_eq, askBwuStatus_bwu, ← taken]
  split
  next => exact bagWeighingKept_judgeSettlement _
  next => exact ⟨rfl, rfl, rfl, rfl, rfl, rfl, rfl⟩

theorem settledBag_eq (s : State) (payload : List Byte) (gap : Bool) : settledBag s payload gap = { s.bwu with
    gross := sampleGross payload
    limit := judgeLimit (sampleFault payload) (sampleOverrange payload) (sampleGross payload) (cfg s).bagCapacity (cfg s).bagDivision
    window := (sampledBag s payload gap).window, weight := roundDivision (sampleGross payload) (cfg s).bagDivision
    settled := (settledBag s payload gap).settled } := by
  have runs : settledBag s payload gap = if bagSettles s payload gap then
      { sampledBag s payload gap with settled := (sampledBag s payload gap).weight } else sampledBag s payload gap := rfl
  rw [runs]
  split <;> rfl

theorem sampledBag_window (s : State) (payload : List Byte) (gap : Bool) : (sampledBag s payload gap).window
    = if sampleFault payload then []
      else enterWindow (if gap then [] else s.bwu.window) (sampleGross payload) (cfg s).bagWindow (cfg s).bagBand := rfl

/-- The fields a settlement judges. -/
structure bagJudgementKept (u v : Bwu) : Prop where
  pend : v.pend = u.pend
  matched : v.matched = u.matched
  lastDelta : v.lastDelta = u.lastDelta
  clearReason : v.clearReason = u.clearReason
  hold : v.hold = u.hold
  baseline : v.baseline = u.baseline
  holdReason : v.holdReason = u.holdReason
  waitTimer : v.waitTimer = u.waitTimer

theorem bagTaken_judgementKept (s : State) (payload : List Byte) (gap : Bool) :
    bagJudgementKept s.bwu (bagTaken s payload gap).bwu := by
  rw [(bagTaken_keeps s payload gap).1, settledBag_eq]
  exact ⟨rfl, rfl, rfl, rfl, rfl, rfl, rfl, rfl⟩

theorem bagSample_unjudged {s : State} {payload : List Byte} {gap : Bool}
    (not : bagSettles s payload gap = false ∨ ((bagTaken s payload gap).bwu.asksSale && selfSale (bagTaken s payload gap)) = false) :
    bagJudgementKept s.bwu (bagSample s payload gap).bwu := by
  have same : (if bagSettles s payload gap then judgeSettlement (bagTaken s payload gap) else bagTaken s payload gap)
      = bagTaken s payload gap := by
    split
    next settles => exact judgeSettlement_other (not.resolve_left (by simp [settles]))
    next => rfl
  rw [bagSample_eq, same, askBwuStatus_bwu]
  exact bagTaken_judgementKept s payload gap

/-- What a settlement finds when it is judged (R116). -/
structure settlementReady (s z : State) (d : Int) : Prop where
  pend : z.bwu.pend = s.bwu.pend
  hold : z.bwu.hold = s.bwu.hold
  holdReason : z.bwu.holdReason = s.bwu.holdReason
  baseline : z.bwu.baseline = s.bwu.baseline
  matched : z.bwu.matched = s.bwu.matched
  waitTimer : z.bwu.waitTimer = s.bwu.waitTimer
  lastDelta : z.bwu.lastDelta = d
  re : z.re = s.re
  latches : z.nu.latches.length = s.nu.latches.length

theorem bagSample_judges {s : State} {payload : List Byte} {gap : Bool} {d : Int} (settles : bagSettles s payload gap = true)
    (sells : (s.bwu.asksSale && selfSale s) = true) (delta : d = (bagSample s payload gap).bwu.weight - s.bwu.baseline) :
    ∃ z, settlementReady s z d
      ∧ bagSample s payload gap = askBwuStatus (if s.bwu.hold then judgeHeld z d else judgeClear z d) false := by
  obtain ⟨bwu, re, -, header, latches⟩ := bagTaken_keeps s payload gap
  have kept := bagTaken_judgementKept s payload gap
  have settled : (settledBag s payload gap).settled = (settledBag s payload gap).weight := by
    simp only [settledBag, settles, if_true]
  have same : d = (bagTaken s payload gap).bwu.settled - (bagTaken s payload gap).bwu.baseline := by
    rw [delta, (bagSample_weighing s payload gap).weight, kept.baseline, bwu, settled]
  have sellsNow : ((bagTaken s payload gap).bwu.asksSale && selfSale (bagTaken s payload gap)) = true := by
    rw [Bwu.asksSale, selfSale, header, bwu, settledBag_eq]
    exact sells
  refine ⟨deltaTaken (bagTaken s payload gap), ⟨kept.pend, kept.hold, kept.holdReason, kept.baseline, kept.matched, kept.waitTimer,
    same.symm, re, latches⟩, ?_⟩
  rw [bagSample_eq, if_pos settles, judgeSettlement_sale sellsNow, ← same, kept.hold]

section
variable {s z : State} {d : Int} {k : Nat}

theorem settlementReady.cfg_eq (h : settlementReady s z d) : cfg z = cfg s := by rw [cfg, h.re]; rfl

theorem settlementReady.timer_eq (h : settlementReady s z d) (limit : Nat) : startTimer z limit = startTimer s limit := by
  rw [startTimer, h.re]
  rfl

/-- The first `k` entries are matched (R116). -/
theorem settlementReady.matchFirst (h : settlementReady s z d) (last : k ≤ s.bwu.pend.length) :
    (firstMatched z k).bwu.pend = s.bwu.pend.drop k ∧ (firstMatched z k).bwu.hold = s.bwu.hold
    ∧ (firstMatched z k).bwu.baseline = s.bwu.baseline + sumDelta (s.bwu.pend.take k)
    ∧ (firstMatched z k).bwu.matched = s.bwu.matched ++ (s.bwu.pend.take k).map (fun e => e.line)
    ∧ (firstMatched z k).bwu.waitTimer = if k = s.bwu.pend.length then none else startTimer s ((cfg s).bagWait * 1000) := by
  have empty : (s.bwu.pend.drop k).isEmpty = decide (k = s.bwu.pend.length) := by
    rw [Bool.eq_iff_iff, List.isEmpty_iff, List.drop_eq_nil_iff, decide_eq_true_eq]
    omega
  have bwu : (firstMatched z k).bwu = z.bwu.matchFirst (cfg z) z.re.clock k := rfl
  rw [bwu, h.cfg_eq, h.re]
  simp only [Bwu.matchFirst, h.pend, h.baseline, h.matched, h.hold, empty, decide_eq_true_eq, true_and]
  rfl

theorem settlementReady.lastDelta_kept (h : settlementReady s z d) : (judgeClear z d).bwu.lastDelta = d ∧ (judgeHeld z d).bwu.lastDelta = d := by
  have held (x : State) (reason : HoldReason) : (setHold x reason).bwu.lastDelta = x.bwu.lastDelta := by simp [setHold]
  have cleared (x : State) (reason : ClearReason) (named : List NamedLine) :
      (clearHold x reason named).bwu.lastDelta = x.bwu.lastDelta := by simp [clearHold]
  exact judged_cases z d (P := fun y => y.bwu.lastDelta = d) h.lastDelta (fun _ _ => h.lastDelta)
    (fun _ => (held _ _).trans h.lastDelta) (fun _ _ => (cleared _ _ _).trans h.lastDelta)
    (fun _ _ _ => (cleared _ _ _).trans h.lastDelta)

/-- The hold is set, or renewed, because the difference matches nothing (R116, R118). -/
theorem settlementReady.fails (h : settlementReady s z d) (latches : s.nu.latches.length = 24) {reason : HoldReason}
    (because : reason = failReason s.bwu.pend d) (y : State) (fails : y = askBwuStatus (setHold z reason) false) :
    y.bwu.hold = true ∧ y.bwu.pend = s.bwu.pend ∧ y.bwu.baseline = s.bwu.baseline ∧ reported y .bagHoldSet 0
      ∧ y.bwu.holdReason = (if s.bwu.pend ≠ [] then .mismatch else if 0 < d then .unexpectedAdd else .unexpectedRemoval)
      ∧ .holdSet y.bwu.holdReason ∈ y.su.inbox ∧ y.bwu.waitTimer = none := by
  obtain ⟨bwu, reports, claims⟩ := setHold_holds (s := z) (reason := reason) (h.latches.trans latches)
  rw [fails, askBwuStatus_bwu, askBwuStatus_su, bwu, ← failReason_eq, ← because]
  exact ⟨rfl, h.pend, h.baseline, reported_askBwuStatus reports, rfl, claims, rfl⟩

end

/-- Settles O34: the weighing by `bagSample_weighing`, the settlement by the cases of `judgeClear` and `judgeHeld`. -/
theorem bagSampleIsJudged : Obligations.BagSampleIsJudged := by
  unfold Obligations.BagSampleIsJudged
  refine ⟨saleAnswers_iff, ?waits, ?sample⟩
  case waits =>
    intro s payload gap c rested front config was self rests not busy
    subst config
    have settles : bagSettles s payload gap = true := by rw [bagSettles_eq s payload gap was, rests, not]; rfl
    have asks : s.bwu.asksSale = true := decide_eq_true self
    refine exec_bagSample_waits front ?_
    have ready : bagSampleReady s payload gap = (!(s.bwu.asksSale && bagSettles s payload gap) || saleAnswers s) := rfl
    rw [ready, asks, settles, busy]
    rfl
  case sample =>
    intro s payload gap c g rested sale high latches front turn config positive some_ grossIs was selling answers
    subst config grossIs
    have settlesIs := bagSettles_eq s payload gap was
    have taken : pathTaken s (bagSample s payload gap) .bag := pathTaken_of_lu (popPath_taken s .bag) (bagSample_lu s payload gap)
    have whole := bagSample_frame s payload gap (.refl [.lu, .bwu] s) (by decide) (by decide)
    have asked : askedFor (bagSample s payload gap) .bwu .statusPage := askedFor_askBwuStatus
    have weighing := bagSample_weighing s payload gap
    have was := settledBag_eq s payload gap
    have runs : exec .bagSample s = .next (bagSample s payload gap) := by
      refine exec_bagSample high front turn ?_
      have ready : bagSampleReady s payload gap = (!(s.bwu.asksSale && bagSettles s payload gap) || saleAnswers s) := rfl
      rw [ready, settlesIs, Bool.or_eq_true, Bool.not_eq_true', Bool.and_eq_false_iff, Bool.and_eq_false_iff]
      by_cases self : s.bwu.verif = .self
      · cases rest : (sampledBag s payload gap).atRest (cfg s) with
        | false => exact .inl (.inr (.inl rfl))
        | true =>
          cases before : rested with
          | true => exact .inl (.inr (.inr rfl))
          | false => exact .inr (answers self rest before)
      · exact .inl (.inl (decide_eq_false self))
    have limit : (bagSample s payload gap).bwu.limit = (sampledBag s payload gap).limit := weighing.limit.trans (by rw [was]; rfl)
    have window : (bagSample s payload gap).bwu.window = (sampledBag s payload gap).window := weighing.window.trans (by rw [was])
    have settles : bagSettles s payload gap = true ↔ (bagSample s payload gap).bwu.window.length = (cfg s).bagWindow
        ∧ (bagSample s payload gap).bwu.limit = .normal ∧ rested = false := by
      rw [settlesIs, Bool.and_eq_true, atRest_iff some_, window, limit, Bool.not_eq_true', and_assoc]
    have sells : (s.bwu.asksSale && selfSale s) = sale := by rw [Bool.eq_iff_iff, asksSelfSale_iff, selling]
    refine ⟨_, runs, taken.1, taken.2, weighing.gross.trans (by rw [was]), (weighing.limit.trans (by rw [was])).trans (judgeLimit_eq _ _ _ _ _),
      ?weight, weighing.verif.trans (by rw [was]), weighing.tells.trans (by rw [was]), fun fault => ?faulty, fun good again => ?again,
      fun good on => ?on, fun other kinds => ?limitTold, asked, whole, fun not => ?unjudged, fun not => ?unsettled,
      fun full normal rest => ?settled, fun d full normal rest selling delta => ?judged⟩
    case weight =>
      rw [weighing.weight, was]
      exact roundDivision_rounded _ positive
    case faulty => rw [window, sampledBag_window, if_pos fault]
    case again =>
      rw [window, sampledBag_window, good, again, if_neg Bool.false_ne_true, if_pos rfl]
      exact enterWindow_nil _ _ (by omega)
    case on =>
      rw [window, sampledBag_window, good, on, if_neg Bool.false_ne_true, if_neg Bool.false_ne_true]
      exact enterWindow_rule _ _ _ _
    case limitTold =>
      rw [limit] at other kinds
      exact bagSample_reports_limit latches ((limitRaises_iff _ _).mpr ⟨other.symm, kinds⟩)
    case unjudged =>
      have header := (bagTaken_keeps s payload gap).2.2.2.1
      have same : ((bagTaken s payload gap).bwu.asksSale && selfSale (bagTaken s payload gap)) = sale := by
        rw [← sells, Bwu.asksSale, selfSale, header, (bagTaken_keeps s payload gap).1, was]
        rfl
      have kept := bagSample_unjudged (s := s) (payload := payload) (gap := gap) (by
        rw [same, ← Bool.not_eq_true, settles]
        by_cases sold : sale = false
        · exact .inr sold
        · refine .inl fun ⟨full, normal, rest⟩ => ?_
          obtain off | off | off | off := not
          · exact off full
          · exact off normal
          · exact absurd off (by simp [rest])
          · exact sold off)
      exact ⟨kept.pend, kept.matched, kept.lastDelta, kept.clearReason, kept.hold, kept.baseline, kept.holdReason, kept.waitTimer⟩
    case unsettled =>
      have calm : bagSettles s payload gap = false := by
        rw [← Bool.not_eq_true, settles]
        rintro ⟨full, normal, rest⟩
        obtain off | off | off := not
        · exact off full
        · exact off normal
        · exact absurd off (by simp [rest])
      rw [weighing.settled, settledBag, calm]
      rfl
    case settled =>
      rw [weighing.settled, weighing.weight, settledBag, settles.mpr ⟨full, normal, rest⟩]
      rfl
    case judged =>
      obtain ⟨z, ready, judged⟩ := bagSample_judges (settles.mpr ⟨full, normal, rest⟩) (sells.trans selling) delta
      have zLatches := ready.latches.trans latches
      generalize bagSample s payload gap = t at judged
      have lastDelta : t.bwu.lastDelta = d := by
        rw [judged, askBwuStatus_bwu]
        split
        · exact ready.lastDelta_kept.2
        · exact ready.lastDelta_kept.1
      refine ⟨lastDelta, fun open_ k first last near smallest => ?matchedFirst, fun open_ far => ?fails, fun held near => ?restored,
        fun held other far => ?renewed, fun held late far k first last near smallest => ?lateMatch, fun held late far none_ => ?lateFails⟩
      case matchedFirst =>
        have found : findMatch d z.bwu.pend = some k := by rw [ready.pend]; exact findMatch_some first last near smallest
        obtain ⟨pend, hold, baseline, matched, waitTimer⟩ := ready.matchFirst last
        rw [open_, if_neg Bool.false_ne_true, judgeClear_matches found] at judged
        have bwu : t.bwu = (firstMatched z k).bwu := by rw [judged, askBwuStatus_bwu]; rfl
        have claims := suSend_claims (firstMatched z k) (.settlement (namedOf (z.bwu.pend.take k)) (firstMatched z k).bwu.baseline)
        rw [ready.pend] at claims judged
        rw [bwu, judged, askBwuStatus_su]
        exact ⟨pend, hold.trans open_, baseline, matched, waitTimer, claims⟩
      case fails =>
        have found : findMatch d z.bwu.pend = none := by rw [ready.pend]; exact findMatch_none far
        rw [open_, if_neg Bool.false_ne_true] at judged
        by_cases near : d.natAbs ≤ (cfg s).bagAbsTol
        · rw [judgeClear_near found (by rw [ready.cfg_eq]; exact near)] at judged
          rw [judged, askBwuStatus_bwu]
          exact ⟨ready.pend, ready.baseline, fun _ => ⟨ready.hold.trans open_, ready.waitTimer⟩, fun far => absurd near (Nat.not_le.mpr far)⟩
        · rw [judgeClear_fails found (by rw [ready.cfg_eq]; exact Nat.not_le.mp near), ready.pend] at judged
          obtain ⟨hold, pend, baseline, reports, reason, claims, timer⟩ := ready.fails latches rfl t judged
          exact ⟨pend, baseline, fun is => absurd is near, fun _ => ⟨hold, timer, reports, reason, claims⟩⟩
      case restored =>
        obtain ⟨bwu, reports, claims⟩ := clearHold_clears (x := z) (reason := .restored) (named := []) zLatches
        rw [held, if_pos rfl, judgeHeld_near (by rw [ready.cfg_eq]; exact near)] at judged
        rw [ready.pend, ready.cfg_eq, ready.timer_eq] at bwu
        rw [ready.baseline] at claims
        rw [judged, askBwuStatus_bwu, askBwuStatus_su, bwu]
        exact ⟨rfl, rfl, ready.pend, ready.baseline, reported_askBwuStatus reports, rfl, claims⟩
      case renewed =>
        rw [held, if_pos rfl, judgeHeld_fails (by rw [ready.cfg_eq]; exact far) (.inl (by rw [ready.holdReason]; exact other)), ready.pend] at judged
        obtain ⟨hold, pend, baseline, reports, reason, claims, -⟩ := ready.fails latches rfl t judged
        exact ⟨hold, pend, baseline, reports, reason, claims⟩
      case lateMatch =>
        have found : findMatch d z.bwu.pend = some k := by rw [ready.pend]; exact findMatch_some first last near smallest
        obtain ⟨pend, -, baseline, matched, -⟩ := ready.matchFirst last
        obtain ⟨bwu, reports, claims⟩ := clearHold_clears (x := firstMatched z k) (reason := .matched)
          (named := namedOf (s.bwu.pend.take k)) zLatches
        rw [held, if_pos rfl, judgeHeld_matches (by rw [ready.cfg_eq]; exact far) (ready.holdReason.trans late) found] at judged
        have cfgIs : cfg (firstMatched z k) = cfg s := ready.cfg_eq
        have timerIs (limit : Nat) : startTimer (firstMatched z k) limit = startTimer s limit := ready.timer_eq limit
        rw [pend, cfgIs, timerIs] at bwu
        have empty : s.bwu.pend.drop k = [] ↔ k = s.bwu.pend.length := by
          rw [List.drop_eq_nil_iff]
          omega
        rw [ready.pend] at judged
        rw [judged, askBwuStatus_bwu, askBwuStatus_su, bwu]
        exact ⟨rfl, rfl, pend, baseline, reported_askBwuStatus reports, matched, if_congr empty rfl rfl, claims⟩
      case lateFails =>
        have found : findMatch d z.bwu.pend = none := by rw [ready.pend]; exact findMatch_none none_
        rw [held, if_pos rfl, judgeHeld_fails (by rw [ready.cfg_eq]; exact far) (.inr found), ready.pend] at judged
        obtain ⟨hold, pend, baseline, reports, reason, claims, -⟩ := ready.fails latches rfl t judged
        exact ⟨hold, pend, baseline, reports, reason, claims⟩

end Sys2Proof.Machine
end

section
/-! The link operations, field by field (R62, R64-R70), silence (R67; O23) and the line's errors (R58-R60; O22). -/

namespace Sys2Proof.Machine

theorem link_of_lu {s t : State} (lu : t.lu = s.lu) (k : LinkId) : t.link k = s.link k := by
  rw [State.link, lu]
  rfl

/-- A step of one link leaves the others. -/
def linkAlone (l : LinkId) (s t : State) : Prop := ∀ k, k ≠ l → t.link k = s.link k

section
variable {s t u : State} {l : LinkId}

theorem linkAlone.refl (s : State) : linkAlone l s s := fun _ _ => rfl

theorem linkAlone.trans (h : linkAlone l s t) (g : linkAlone l t u) : linkAlone l s u := fun k other => (g k other).trans (h k other)

theorem linkAlone.setLink (h : linkAlone l s t) (x : Link) : linkAlone l s (t.setLink l x) := fun k other =>
  (State.link_setLink_other _ _ _ k other).trans (h k other)

theorem linkAlone_of_lu (lu : t.lu = s.lu) : linkAlone l s t := fun k _ => link_of_lu lu k

end

/-! ### An error is counted (R62) -/

/-- The link with the error counted. -/
def erredLink (s : State) (x : Link) (kind : ErrorKind) (place : RxField × Nat) : Link :=
  { x with
    errors := x.errors.add kind
    lastError := { kind := kind, field := place.1, offset := place.2, stamp := s.re.clock } }

theorem linkError_lu (s : State) (l : LinkId) (kind : ErrorKind) (place : RxField × Nat) :
    (linkError s l kind place).lu = (s.setLink l (erredLink s (s.link l) kind place)).lu := by
  simp [linkError, erredLink]

theorem linkError_same (s : State) (l : LinkId) (kind : ErrorKind) (place : RxField × Nat) :
    (linkError s l kind place).link l = erredLink s (s.link l) kind place := by
  rw [link_of_lu (linkError_lu s l kind place), State.link_setLink_same]

theorem linkError_alone (s : State) (l : LinkId) (kind : ErrorKind) (place : RxField × Nat) : linkAlone l s (linkError s l kind place) :=
  ((linkAlone.refl s).setLink _).trans (linkAlone_of_lu (linkError_lu s l kind place))

theorem askedFor_linkError {s : State} {l : LinkId} {kind : ErrorKind} {place : RxField × Nat} :
    askedFor (linkError s l kind place) .lu .statusPage := askedFor_askLiveAfter (by simp)

theorem askedFor_setLink {s : State} {l : LinkId} {x : Link} {o : BlockId} {y : LaneSection} (h : askedFor s o y) :
    askedFor (s.setLink l x) o y := askedFor_of_bi h rfl

theorem reported_setLink {s : State} {l : LinkId} {x : Link} {k : CondKind} {source : Nat} (h : reported s k source) :
    reported (s.setLink l x) k source := reported_of_nu h rfl rfl

/-! ### A change of state (R70) -/

/-- The link after a change of state. -/
def changedLink (x : Link) (new : LinkState) (reason : LinkReason) : Link :=
  { x with
    state := new, prevState := x.state, reason := reason, errorSum := x.errors.sum, badRun := 0
    path := x.path ++ [.change x.state new], firstAfterUp := decide (new = .up) }

theorem changeLink_lu (s : State) (l : LinkId) (new : LinkState) (reason : LinkReason) :
    (changeLink s l new reason).lu = (s.setLink l (changedLink (s.link l) new reason)).lu := by
  simp [changeLink, changedLink]

theorem changeLink_same (s : State) (l : LinkId) (new : LinkState) (reason : LinkReason) :
    (changeLink s l new reason).link l = changedLink (s.link l) new reason := by
  rw [link_of_lu (changeLink_lu s l new reason), State.link_setLink_same]

theorem changeLink_alone (s : State) (l : LinkId) (new : LinkState) (reason : LinkReason) :
    linkAlone l s (changeLink s l new reason) :=
  ((linkAlone.refl s).setLink _).trans (linkAlone_of_lu (changeLink_lu s l new reason))

theorem linkNo_lt (l : LinkId) : linkNo l < 4 := by cases l <;> decide

theorem reported_askLinkStatus {s : State} {l : LinkId} {ofRequest : Bool} {k : CondKind} {source : Nat} (h : reported s k source) :
    reported (askLinkStatus s l ofRequest) k source := reported_of_nu h (by simp) (by simp)

theorem changeLink_reports {s : State} {l : LinkId} {new : LinkState} {reason : LinkReason} (latches : s.nu.latches.length = 24) :
    reported (changeLink s l new reason) .linkChange (linkNo l) :=
  reported_askLinkStatus (reported_raise latches fun _ => linkNo_lt l)

theorem askedFor_changeLink {s : State} {l : LinkId} {new : LinkState} {reason : LinkReason} :
    askedFor (changeLink s l new reason) .lu .statusPage := askedFor_askLiveAfter (by simp)

/-! ### The silence timer and the HELLO (R64, R67) -/

theorem startSilence_same (s : State) (l : LinkId) : (startSilence s l).link l
    = { s.link l with silence := startTimer s (cfgSilence s l) } := State.link_setLink_same _ _ _

theorem startSilence_alone (s : State) (l : LinkId) : linkAlone l s (startSilence s l) := (linkAlone.refl s).setLink _

/-- A HELLO would be queued. -/
def helloOpen (x : Link) : Prop := x.state ≠ .quiet ∧ x.state ≠ .mismatch ∧ ∀ f ∈ x.tx, f.kind = kHello → f.seq ≠ none

theorem queueHello_open {s : State} {l : LinkId} (open_ : helloOpen (s.link l)) :
    queueHello s l = s.setLink l ((s.link l).push kHello (helloPayload s l)) := by
  have passes : ((s.link l).state = .quiet || (s.link l).state = .mismatch
      || (s.link l).tx.any (fun f => decide (f.kind = kHello) && !f.sending)) = false := by
    rw [Bool.or_eq_false_iff, Bool.or_eq_false_iff, decide_eq_false_iff_not, decide_eq_false_iff_not, List.any_eq_false]
    refine ⟨⟨open_.1, open_.2.1⟩, fun f is => ?_⟩
    rw [Bool.and_eq_true, decide_eq_true_eq, TxFrame.sending]
    rintro ⟨hello, waits⟩
    exact open_.2.2 f is hello (by simpa using waits)
  simp only [queueHello, passes, Bool.false_eq_true, if_false]

theorem queueHello_alone (s : State) (l : LinkId) : linkAlone l s (queueHello s l) := by
  unfold queueHello
  dsimp only
  split
  · exact linkAlone.refl s
  · exact (linkAlone.refl s).setLink _

/-! ### Entry to DOWN (R68) -/

theorem dropWaiting_eq (x : Link) : x.dropWaiting = { x with tx := x.tx.filter fun f => f.seq.isSome } := rfl

/-- The link that has gone DOWN. -/
def downLink (s : State) (l : LinkId) (x : Link) (reason : LinkReason) : Link :=
  { changedLink x .down reason with
    silence := startTimer s (cfgSilence s l), tx := downQueue s l x
    txSeq := if ∃ f ∈ x.tx, f.seq.isSome = true then x.txSeq else x.txSeq + 1 }

/-- A HELLO behind the frame being sent, or started at once. -/
theorem push_sending (x : Link) (kind : Byte) (payload : List Byte) :
    ({ x with tx := x.tx.filter fun f => f.seq.isSome } : Link).push kind payload = { x with
      tx := (x.tx.filter fun f => f.seq.isSome)
        ++ [{ kind := kind, payload := payload, seq := if ∃ f ∈ x.tx, f.seq.isSome = true then none else some x.txSeq }]
      txSeq := if ∃ f ∈ x.tx, f.seq.isSome = true then x.txSeq else x.txSeq + 1 } := by
  cases sending : x.tx.filter fun f => f.seq.isSome with
  | nil =>
    have none_ : ¬ ∃ f ∈ x.tx, f.seq.isSome = true := by
      rintro ⟨f, is, sends⟩
      exact List.filter_eq_nil_iff.mp sending f is sends
    simp only [if_neg none_, Link.push, List.nil_append, Link.startTx]
  | cons f rest =>
    have mem : f ∈ x.tx.filter fun f => f.seq.isSome := sending ▸ List.mem_cons_self
    obtain ⟨inside, sends⟩ := List.mem_filter.mp mem
    have some_ : ∃ f ∈ x.tx, f.seq.isSome = true := ⟨f, inside, sends⟩
    obtain ⟨seq, is⟩ := Option.isSome_iff_exists.mp sends
    simp only [if_pos some_, Link.push, List.cons_append, Link.startTx, is]

theorem enterDown_same (s : State) (l : LinkId) (reason : LinkReason) :
    (enterDown s l reason).link l = downLink s l (s.link l) reason := by
  have changed := changeLink_same (s.setLink l (s.link l).dropWaiting) l .down reason
  rw [State.link_setLink_same] at changed
  have timed := startSilence_same (changeLink (s.setLink l (s.link l).dropWaiting) l .down reason) l
  rw [changed] at timed
  have re : (changeLink (s.setLink l (s.link l).dropWaiting) l .down reason).re = s.re := by simp
  have open_ : helloOpen ((startSilence (changeLink (s.setLink l (s.link l).dropWaiting) l .down reason) l).link l) := by
    rw [timed]
    refine ⟨nofun, nofun, fun f is _ none_ => ?_⟩
    have sends := (List.mem_filter.mp is).2
    simp [TxFrame.sending, none_] at sends
  have hello : helloPayload (startSilence (changeLink (s.setLink l (s.link l).dropWaiting) l .down reason) l) l = helloPayload s l := by
    simp [helloPayload, cfgRate, cfg]
  have silence : startTimer (changeLink (s.setLink l (s.link l).dropWaiting) l .down reason)
      (cfgSilence (changeLink (s.setLink l (s.link l).dropWaiting) l .down reason) l) = startTimer s (cfgSilence s l) := by
    rw [startTimer, cfgSilence, cfg, re]
    rfl
  rw [enterDown, queueHello_open open_, State.link_setLink_same, hello, timed, silence]
  exact push_sending { changedLink (s.link l) .down reason with silence := startTimer s (cfgSilence s l) } kHello (helloPayload s l)

theorem enterDown_alone (s : State) (l : LinkId) (reason : LinkReason) : linkAlone l s (enterDown s l reason) :=
  ((((linkAlone.refl s).setLink _).trans (changeLink_alone _ l .down reason)).trans (startSilence_alone _ l)).trans (queueHello_alone _ l)

theorem enterDown_reports {s : State} {l : LinkId} {reason : LinkReason} (latches : s.nu.latches.length = 24) :
    reported (enterDown s l reason) .linkChange (linkNo l) :=
  reported_of_nu (changeLink_reports (s := s.setLink l (s.link l).dropWaiting) (new := .down) (reason := reason) latches)
    (by simp [enterDown]) (by simp [enterDown])

theorem askedFor_enterDown {s : State} {l : LinkId} {reason : LinkReason} : askedFor (enterDown s l reason) .lu .statusPage :=
  askedFor_of_bi (askedFor_changeLink (s := s.setLink l (s.link l).dropWaiting) (l := l) (new := .down) (reason := reason))
    (by simp [enterDown])

/-! ### Silence (R67) -/

theorem exec_silenceExpiry {s : State} {l : LinkId} (high : s.bi.inReset = false) (due : timerDue s (s.link l).silence = true) :
    exec (.silenceExpiry l) s = .next (silenceExpired s l) := stepIf_enabled high due

theorem silenceExpired_down {s : State} {l : LinkId} (live : (s.link l).state = .unseen ∨ (s.link l).state = .up) :
    silenceExpired s l = enterDown s l .silence := by
  obtain state | state := live <;> simp only [silenceExpired, state]

theorem silenceExpired_again {s : State} {l : LinkId} (down : (s.link l).state = .down) :
    silenceExpired s l = startSilence (queueHello s l) l := by simp only [silenceExpired, down]

theorem push_first {x : Link} (kind : Byte) (payload : List Byte) (empty : x.tx = []) : x.push kind payload
    = { x with tx := [{ kind := kind, payload := payload, seq := some x.txSeq }], txSeq := x.txSeq + 1 } := by
  simp only [Link.push, empty, List.nil_append, Link.startTx]

theorem push_behind {x : Link} (kind : Byte) (payload : List Byte) {f : TxFrame} {rest : List TxFrame} (queue : x.tx = f :: rest) :
    x.push kind payload = { x with
      tx := (if f.seq = none then { f with seq := some x.txSeq } else f) :: (rest ++ [{ kind := kind, payload := payload, seq := none }])
      txSeq := if f.seq = none then x.txSeq + 1 else x.txSeq } := by
  cases seq : f.seq with
  | none => simp only [Link.push, queue, List.cons_append, Link.startTx, seq, if_true]
  | some n => simp only [Link.push, queue, List.cons_append, Link.startTx, seq, reduceCtorEq, if_false]

theorem queueHello_waits {s : State} {l : LinkId} (waits : ∃ f ∈ (s.link l).tx, f.kind = kHello ∧ f.seq = none) : queueHello s l = s := by
  obtain ⟨f, is, hello, none_⟩ := waits
  have queued : ((s.link l).tx.any fun f => decide (f.kind = kHello) && !f.sending) = true :=
    List.any_eq_true.mpr ⟨f, is, by simp [hello, TxFrame.sending, none_]⟩
  simp only [queueHello, queued, Bool.or_true, if_true]

/-- The link's fields other than the transmitter's, after a HELLO that may have been queued. -/
theorem push_fields (x : Link) (kind : Byte) (payload : List Byte) :
    x.push kind payload = { x with tx := (x.push kind payload).tx, txSeq := (x.push kind payload).txSeq } := by
  cases queue : x.tx with
  | nil => rw [push_first kind payload queue]
  | cons f rest => rw [push_behind kind payload queue]

/-- Settles O23: the fall by `enterDown_same`, a HELLO of a link that is DOWN by `push_first` and `push_behind`. -/
theorem silenceTakesTheLinkDown : Obligations.SilenceTakesTheLinkDown := by
  unfold Obligations.SilenceTakesTheLinkDown
  refine ⟨fun s l high latches due live => ?falls, fun s l high due down => ?again⟩
  case falls =>
    have link := enterDown_same s l .silence
    refine ⟨enterDown s l .silence, silenceExpired_down live ▸ exec_silenceExpiry high due, ?_⟩
    rw [link]
    exact ⟨rfl, rfl, rfl, rfl, rfl, rfl, rfl, rfl, enterDown_reports latches, askedFor_enterDown, enterDown_alone s l .silence,
      enterDown_frame s l .silence (.refl _ s) (by decide)⟩
  case again =>
    have runs := exec_silenceExpiry high due
    rw [silenceExpired_again down] at runs
    have alone : linkAlone l s (startSilence (queueHello s l) l) := (queueHello_alone s l).trans (startSilence_alone _ l)
    have timer : startTimer (queueHello s l) (cfgSilence (queueHello s l) l) = startTimer s (cfgSilence s l) := by
      simp [startTimer, cfgSilence, cfg]
    have link := startSilence_same (queueHello s l) l
    rw [timer] at link
    have kept : (startSilence (queueHello s l) l).bi = s.bi ∧ (startSilence (queueHello s l) l).nu = s.nu
        ∧ (startSilence (queueHello s l) l).su = s.su := by simp
    have whole := startSilence_frame (queueHello s l) l (queueHello_frame s l (.refl [.lu] s) (by decide)) (by decide)
    refine ⟨_, runs, ?_, ?_, ?_, alone, kept.1, kept.2.1, kept.2.2, whole⟩
    all_goals rw [link]
    · by_cases waits : ∃ f ∈ (s.link l).tx, f.kind = kHello ∧ f.seq = none
      · rw [queueHello_waits waits]
      · have open_ : helloOpen (s.link l) := ⟨by simp [down], by simp [down], fun f is hello none_ => waits ⟨f, is, hello, none_⟩⟩
        rw [queueHello_open open_, State.link_setLink_same, push_fields]
    · intro waits
      rw [queueHello_waits waits]
    · intro none_
      have open_ : helloOpen (s.link l) := ⟨by simp [down], by simp [down], none_⟩
      rw [queueHello_open open_, State.link_setLink_same]
      refine ⟨fun empty => ?_, fun f rest queue => ?_⟩
      · rw [push_first _ _ empty]
        exact ⟨rfl, rfl⟩
      · rw [push_behind _ _ queue]
        exact ⟨rfl, rfl⟩

end Sys2Proof.Machine
end

section
/-! The line's errors (R58-R60, R62, R68; O22). -/

namespace Sys2Proof.Machine

/-! ### The end of an attempt by an error (R68) -/

section
variable {s : State} {l : LinkId} {kind : ErrorKind} {place : RxField × Nat}

/-- The error is counted, and the run of bad frames with it. -/
def runCounted (s : State) (l : LinkId) (kind : ErrorKind) (place : RxField × Nat) : State :=
  (linkError s l kind place).setLink l
    { erredLink s (s.link l) kind place with badRun := min ((s.link l).badRun + 1) 8 }

theorem badAttempt_eq (s : State) (l : LinkId) (kind : ErrorKind) (place : RxField × Nat) : badAttempt s l kind place
    = if (s.link l).badRun < 7 ∨ ((s.link l).state ≠ .unseen ∧ (s.link l).state ≠ .up) then runCounted s l kind place
      else enterDown (runCounted s l kind place) l .badFrames := by
  have run : (if (s.link l).badRun < 8 then (s.link l).badRun + 1 else 8) = min ((s.link l).badRun + 1) 8 := by split <;> omega
  have counted : (linkError s l kind place).setLink l { (linkError s l kind place).link l with
      badRun := if ((linkError s l kind place).link l).badRun < 8 then ((linkError s l kind place).link l).badRun + 1 else 8 }
      = runCounted s l kind place := by
    rw [linkError_same, runCounted, ← run]
    rfl
  have falls : ((if ((linkError s l kind place).link l).badRun < 8 then ((linkError s l kind place).link l).badRun + 1 else 8) = 8
      && (((linkError s l kind place).link l).state = .unseen || ((linkError s l kind place).link l).state = .up)) = true
      ↔ ¬ ((s.link l).badRun < 7 ∨ ((s.link l).state ≠ .unseen ∧ (s.link l).state ≠ .up)) := by
    rw [linkError_same, Bool.and_eq_true, decide_eq_true_eq, Bool.or_eq_true, decide_eq_true_eq, decide_eq_true_eq]
    have state : (erredLink s (s.link l) kind place).state = (s.link l).state := rfl
    have badRun : (erredLink s (s.link l) kind place).badRun = (s.link l).badRun := rfl
    rw [state, badRun, not_or, not_and_or, not_not, not_not, run]
    exact and_congr_left fun _ => by omega
  have runs : badAttempt s l kind place = if (if ((linkError s l kind place).link l).badRun < 8 then
        ((linkError s l kind place).link l).badRun + 1 else 8) = 8
      && (((linkError s l kind place).link l).state = .unseen || ((linkError s l kind place).link l).state = .up) then
        enterDown (runCounted s l kind place) l .badFrames else runCounted s l kind place := by
    rw [← counted]
    rfl
  rw [runs, if_congr falls rfl rfl, ite_not]

theorem badAttempt_counted (latches : s.nu.latches.length = 24) :
    badFrameCounted s (badAttempt s l kind place) l (erredLink s (s.link l) kind place) := by
  have link : (runCounted s l kind place).link l
      = { erredLink s (s.link l) kind place with badRun := min ((s.link l).badRun + 1) 8 } := State.link_setLink_same _ _ _
  rw [badFrameCounted, badAttempt_eq]
  have state : (erredLink s (s.link l) kind place).state = (s.link l).state := rfl
  have badRun : (erredLink s (s.link l) kind place).badRun = (s.link l).badRun := rfl
  rw [state, badRun]
  split
  next => exact ⟨link, by simp [runCounted]⟩
  next =>
    have fell := enterDown_same (runCounted s l kind place) l .badFrames
    have re : (runCounted s l kind place).re = s.re := by simp [runCounted]
    have timer : startTimer (runCounted s l kind place) (cfgSilence (runCounted s l kind place) l) = startTimer s (cfgSilence s l) := by
      rw [startTimer, cfgSilence, cfg, re]
      rfl
    have hello : helloPayload (runCounted s l kind place) l = helloPayload s l := by
      rw [helloPayload, cfgRate, cfg, re]
      rfl
    have queue : downQueue (runCounted s l kind place) l ((runCounted s l kind place).link l)
        = downQueue s l (erredLink s (s.link l) kind place) := by rw [downQueue, hello, link]; rfl
    rw [downLink, queue, timer, link] at fell
    rw [fell]
    exact ⟨rfl, rfl, rfl, rfl, rfl, rfl, rfl, rfl, rfl, rfl, rfl, rfl,
      enterDown_reports (by simpa [runCounted] using latches)⟩

theorem badAttempt_alone : linkAlone l s (badAttempt s l kind place) := by
  have counted : linkAlone l s (runCounted s l kind place) := (linkError_alone s l kind place).setLink _
  rw [badAttempt_eq]
  split
  next => exact counted
  next => exact counted.trans (enterDown_alone _ l .badFrames)

theorem askedFor_badAttempt : askedFor (badAttempt s l kind place) .lu .statusPage := by
  rw [badAttempt_eq]
  split
  next => exact askedFor_setLink askedFor_linkError
  next => exact askedFor_enterDown

/-! ### The rescan (R59) -/

/-- The receiver drops the attempt in hand. -/
def attemptDropped (s : State) (l : LinkId) : State := s.setLink l { s.link l with attempt := none }

theorem attemptDropped_receiver (s : State) (l : LinkId) :
    attemptDropped s l = withReceiver ((s.link l).freshStart, (s.link l).line, none) l s := rfl

theorem attemptDropped_link (s : State) (l : LinkId) : (attemptDropped s l).link l = { s.link l with attempt := none } :=
  State.link_setLink_same _ _ _

/-- The receiver's own part is kept by the end of an attempt. -/
theorem badAttempt_receiver : ((badAttempt s l kind place).link l).freshStart = (s.link l).freshStart
    ∧ ((badAttempt s l kind place).link l).line = (s.link l).line := by
  have own := withReceiver_badAttempt ((s.link l).freshStart, (s.link l).line, (s.link l).attempt) l s kind place
  rw [withReceiver_self (b := ((s.link l).freshStart, (s.link l).line, (s.link l).attempt)) l s rfl rfl rfl] at own
  rw [own, withReceiver_link]
  exact ⟨rfl, rfl⟩

/-- The scan does not look at the attempt in hand. -/
theorem scan_attemptDropped (bs : List Byte) : scan (attemptDropped s l) l 0 bs = scan s l 0 bs := by
  have own : s = withReceiver ((s.link l).freshStart, (s.link l).line, (s.link l).attempt) l s :=
    (withReceiver_self (b := ((s.link l).freshStart, (s.link l).line, (s.link l).attempt)) l s rfl rfl rfl).symm
  have kept := scan_withReceiver ((s.link l).freshStart, (s.link l).line, (s.link l).attempt) l bs s 0 (Nat.zero_le _)
  rw [← own] at kept
  rw [attemptDropped_receiver, scan_withReceiver _ _ _ _ _ (Nat.zero_le _)]
  exact kept.symm

/-- Bytes without a SYNC leave the receiver hunting. -/
theorem scan_no_sync {bs : List Byte} (none_ : ∀ b ∈ bs, b ≠ syncByte) : scan s l 0 bs = attemptDropped s l := by
  induction bs with
  | nil => rfl
  | cons b rest ih =>
    have other : (b != syncByte) = true := bne_iff_ne.mpr (none_ b List.mem_cons_self)
    simp only [scan, other, if_true]
    exact ih fun c is => none_ c (List.mem_cons_of_mem _ is)

theorem attemptDropped_twice (s : State) (l : LinkId) : attemptDropped (attemptDropped s l) l = attemptDropped s l := by
  rw [attemptDropped_receiver s l, attemptDropped_receiver, withReceiver_link, withReceiver_twice]

/-- The count of a bad frame is not changed by what the receiver has in hand. -/
theorem badFrameCounted_attemptDropped {u : State} {x : Link} (h : badFrameCounted s u l x) :
    badFrameCounted s (attemptDropped u l) l { x with attempt := none } := by
  unfold badFrameCounted at *
  rw [attemptDropped_link]
  split at h
  next run =>
    obtain ⟨link, nu⟩ := h
    rw [if_pos run]
    exact ⟨by rw [link], nu⟩
  next falls =>
    obtain ⟨state, reason, prev, badRun, sum, path, errors, last, -, line, silence, queue, reports⟩ := h
    rw [if_neg falls]
    exact ⟨state, reason, prev, badRun, sum, path, errors, last, rfl, line, silence, queue, reported_setLink reports⟩

/-- What the rescan of the bytes after the failed SYNC finds: the bytes arrive anew. -/
structure rescanned (s u t : State) (l : LinkId) (x : Link) (body : List Byte) : Prop where
  counted : badFrameCounted s u l x
  asked : askedFor u .lu .statusPage
  alone : linkAlone l s u
  frame : ∀ {z : State}, eventFrame [.lu] z s → eventFrame [.lu] z u
  arrive : (s.link l).freshStart = false → arrived l u body t
  empty : body = [] → t = u
  fresh : (s.link l).freshStart = true → ∃ v, arrived l u body v ∧ t = v.setLink l { v.link l with freshStart := true }
  silent : (∀ b ∈ body, b ≠ syncByte) → t = u

theorem badAttempt_rescanned (high : s.bi.inReset = false) (latches : s.nu.latches.length = 24) (running : (s.link l).line = .running)
    (body : List Byte) : rescanned s (attemptDropped (badAttempt s l kind place) l) (scan (badAttempt s l kind place) l 0 body) l
      { erredLink s (s.link l) kind place with attempt := none } body := by
  have inReset : (attemptDropped (badAttempt s l kind place) l).bi.inReset = false := by simpa [attemptDropped] using high
  have own := badAttempt_receiver (s := s) (l := l) (kind := kind) (place := place)
  have link := attemptDropped_link (badAttempt s l kind place) l
  have line : ((attemptDropped (badAttempt s l kind place) l).link l).line = .running := by rw [link]; exact own.2.trans running
  have fresh : ((attemptDropped (badAttempt s l kind place) l).link l).freshStart = (s.link l).freshStart := by rw [link]; exact own.1
  have none_ : ((attemptDropped (badAttempt s l kind place) l).link l).attempt = none := by rw [link]
  rw [← scan_attemptDropped]
  have silent {bs : List Byte} (quiet : ∀ b ∈ bs, b ≠ syncByte) : scan (attemptDropped (badAttempt s l kind place) l) l 0 bs
      = attemptDropped (badAttempt s l kind place) l := by rw [scan_no_sync quiet, attemptDropped_twice]
  refine ⟨badFrameCounted_attemptDropped (badAttempt_counted latches), askedFor_setLink askedFor_badAttempt,
    badAttempt_alone.setLink _, fun h => eventFrame_setLu (badAttempt_frame s l kind place h (by decide)) (by decide),
    fun stale => ?arrive, fun empty => ?empty, fun marked => ?fresh, silent⟩
  case arrive =>
    have arrives := arrived_scan l _ inReset line (fresh.trans stale) body []
    rwa [silent (bs := []) (by simp)] at arrives
  case empty =>
    rw [empty]
    exact silent (by simp)
  case fresh =>
    obtain ⟨v, arrives, same⟩ := scan_arrived l _ inReset line none_ body
    rw [fresh, marked] at same
    exact ⟨v, arrives, same⟩

end

/-! ### What the line tells -/

theorem exec_gapTimeout {s : State} {l : LinkId} {body : List Byte} (high : s.bi.inReset = false)
    (running : (s.link l).line = .running) (attempt : (s.link l).attempt = some (syncByte :: body)) :
    exec (.gapTimeout l) s = .next (scan (badAttempt s l .gap (s.link l).place) l 0 body) := by
  have place : (s.link l).place = rxPlace (syncByte :: body) := by rw [Link.place, attempt]; rfl
  have runs : gapTimeout s l = scan (badAttempt s l .gap (s.link l).place) l 0 body := by
    rw [place]
    simp only [gapTimeout, attempt]
    rfl
  rw [← runs]
  exact stepIf_enabled high (by simp [running, attempt])

/-- The line has risen, and characters are received again. -/
def lineRisen (s : State) (l : LinkId) : State := s.setLink l { s.link l with line := .running }

theorem lineRisen_link (s : State) (l : LinkId) : (lineRisen s l).link l = { s.link l with line := .running } :=
  State.link_setLink_same _ _ _

theorem exec_lineRise {s : State} {l : LinkId} {body : List Byte} (high : s.bi.inReset = false)
    (low : (s.link l).line = .lowStop) (attempt : (s.link l).attempt = some (syncByte :: body)) :
    exec (.lineRiseFraming l) s = .next (scan (badAttempt (lineRisen s l) l .framing (s.link l).place) l 0 body) := by
  have place : (s.link l).place = rxPlace (syncByte :: body) := by rw [Link.place, attempt]; rfl
  have still : ((lineRisen s l).link l).attempt = some (syncByte :: body) := by rw [lineRisen_link]; exact attempt
  have runs : lineRise s l = scan (badAttempt (lineRisen s l) l .framing (s.link l).place) l 0 body := by
    rw [place]
    unfold lineRise
    dsimp only
    rw [← lineRisen]
    simp only [still]
    rfl
  rw [← runs]
  exact stepIf_enabled high (by simp [low])

theorem exec_lineRise_hunting {s : State} {l : LinkId} (high : s.bi.inReset = false)
    (low : (s.link l).line = .lowStop) (attempt : (s.link l).attempt = none) :
    exec (.lineRiseFraming l) s = .next (linkError (lineRisen s l) l .framing (.hunt, 0)) := by
  have still : ((lineRisen s l).link l).attempt = none := by rw [lineRisen_link]; exact attempt
  have runs : lineRise s l = linkError (lineRisen s l) l .framing (.hunt, 0) := by
    unfold lineRise
    dsimp only
    rw [← lineRisen]
    simp only [still]
  rw [← runs]
  exact stepIf_enabled high (by simp [low])

theorem lineRisen_rescanned {s : State} {l : LinkId} {place : RxField × Nat} (high : s.bi.inReset = false)
    (latches : s.nu.latches.length = 24) (body : List Byte) :
    rescanned s (attemptDropped (badAttempt (lineRisen s l) l .framing place) l)
      (scan (badAttempt (lineRisen s l) l .framing place) l 0 body) l
      { erredLink s { s.link l with line := .running } .framing place with attempt := none } body := by
  have risen := badAttempt_rescanned (s := lineRisen s l) (l := l) (kind := .framing) (place := place) high latches
    (by rw [lineRisen_link]) body
  rw [lineRisen_link] at risen
  have fresh : ((lineRisen s l).link l).freshStart = (s.link l).freshStart := by rw [lineRisen_link]
  have alone : linkAlone l s (lineRisen s l) := (linkAlone.refl s).setLink _
  obtain ⟨counted, asked, others, frame, arrive, empty, marked, silent⟩ := risen
  rw [fresh] at arrive marked
  exact ⟨counted, asked, alone.trans others, fun h => frame (eventFrame_setLu h (by decide)), arrive, empty, marked, silent⟩

/-! ### A BREAK (R60) -/

/-- The BREAK is counted, and the receiver waits for the line to go high. -/
def lineBroken (s : State) (l : LinkId) : State :=
  (linkError s l .brk (s.link l).place).setLink l
    { erredLink s (s.link l) .brk (s.link l).place with attempt := none, line := .breakWait, freshStart := false }

theorem lineBroken_link (s : State) (l : LinkId) : (lineBroken s l).link l
    = { erredLink s (s.link l) .brk (s.link l).place with attempt := none, line := .breakWait, freshStart := false } :=
  State.link_setLink_same _ _ _

theorem breakDetected_eq (s : State) (l : LinkId) : breakDetected s l
    = if (s.link l).state = .unseen ∨ (s.link l).state = .up then enterDown (lineBroken s l) l .brk else lineBroken s l := by
  have broken : (linkError s l .brk (s.link l).place).setLink l { (linkError s l .brk (s.link l).place).link l with
      attempt := none, line := .breakWait, freshStart := false } = lineBroken s l := by
    rw [linkError_same]
    rfl
  have state : ((lineBroken s l).link l).state = (s.link l).state := by rw [lineBroken_link]; rfl
  unfold breakDetected
  dsimp only
  rw [broken, state]
  simp only [Bool.or_eq_true, decide_eq_true_eq]

theorem lineBroken_alone (s : State) (l : LinkId) : linkAlone l s (lineBroken s l) := (linkError_alone s l .brk _).setLink _

theorem exec_breakDetected {s : State} {l : LinkId} (high : s.bi.inReset = false)
    (comes : (s.link l).line = .lowStop ∨ ((s.link l).line = .running ∧ (s.link l).freshStart = true)) :
    exec (.breakDetected l) s = .next (breakDetected s l) := by
  refine stepIf_enabled high ?_
  rw [Bool.or_eq_true, Bool.and_eq_true, decide_eq_true_eq, decide_eq_true_eq]
  exact comes

/-- The link that a BREAK has taken DOWN. -/
theorem lineBroken_fell {s : State} {l : LinkId} : (enterDown (lineBroken s l) l .brk).link l
    = { downLink s l (s.link l) .brk with
        errors := (erredLink s (s.link l) .brk (s.link l).place).errors
        lastError := (erredLink s (s.link l) .brk (s.link l).place).lastError
        errorSum := (erredLink s (s.link l) .brk (s.link l).place).errors.sum
        attempt := none, line := .breakWait, freshStart := false } := by
  have re : (lineBroken s l).re = s.re := by simp [lineBroken]
  have timer : startTimer (lineBroken s l) (cfgSilence (lineBroken s l) l) = startTimer s (cfgSilence s l) := by
    rw [startTimer, cfgSilence, cfg, re]
    rfl
  have hello : helloPayload (lineBroken s l) l = helloPayload s l := by
    rw [helloPayload, cfgRate, cfg, re]
    rfl
  rw [enterDown_same, downLink, timer, downQueue, hello, lineBroken_link]
  rfl

/-- Settles O22: an attempt ended by an error by `badAttempt_rescanned`, a BREAK by `breakDetected_eq`. -/
theorem lineErrorsAreCounted : Obligations.LineErrorsAreCounted := by
  unfold Obligations.LineErrorsAreCounted
  refine ⟨?gap, ?low, ?gapSilent, ?lowSilent, ?hunting, ?breaks, ?high⟩
  case gap =>
    intro s l body high latches running attempt
    have found := badAttempt_rescanned (s := s) (l := l) (kind := .gap) (place := (s.link l).place) high latches running body
    exact ⟨_, _, exec_gapTimeout high running attempt, found.counted, found.asked, found.alone, found.frame (.refl _ s),
      fun _ stale => found.arrive stale, found.empty, found.fresh⟩
  case low =>
    intro s l body high latches low attempt
    have found := lineRisen_rescanned (s := s) (l := l) (place := (s.link l).place) high latches body
    exact ⟨_, _, exec_lineRise high low attempt, found.counted, found.asked, found.alone, found.frame (.refl _ s),
      fun _ stale => found.arrive stale, found.empty, found.fresh⟩
  case gapSilent =>
    intro s l body high latches running attempt silent
    have found := badAttempt_rescanned (s := s) (l := l) (kind := .gap) (place := (s.link l).place) high latches running body
    have runs := exec_gapTimeout high running attempt
    rw [found.silent silent] at runs
    exact ⟨_, runs, found.counted, found.asked, found.alone, found.frame (.refl _ s)⟩
  case lowSilent =>
    intro s l body high latches low attempt silent
    have found := lineRisen_rescanned (s := s) (l := l) (place := (s.link l).place) high latches body
    have runs := exec_lineRise high low attempt
    rw [found.silent silent] at runs
    exact ⟨_, runs, found.counted, found.asked, found.alone, found.frame (.refl _ s)⟩
  case hunting =>
    intro s l high low attempt
    have alone : linkAlone l s (lineRisen s l) := (linkAlone.refl s).setLink _
    refine ⟨_, exec_lineRise_hunting high low attempt, ?_, by simp [lineRisen], askedFor_linkError,
      alone.trans (linkError_alone _ _ _ _), linkError_frame _ _ _ _ (eventFrame_setLu (.refl _ s) (by decide)) (by decide)⟩
    rw [linkError_same, lineRisen_link]
    rfl
  case breaks =>
    intro s l high latches comes
    have runs := exec_breakDetected high comes
    rw [breakDetected_eq] at runs
    have asked : askedFor (lineBroken s l) .lu .statusPage := askedFor_setLink askedFor_linkError
    have frame : eventFrame [.lu] s (lineBroken s l) := eventFrame_setLu (linkError_frame s l _ _ (.refl _ s) (by decide)) (by decide)
    by_cases falls : (s.link l).state = .unseen ∨ (s.link l).state = .up
    · rw [if_pos falls] at runs
      have link := lineBroken_fell (s := s) (l := l)
      refine ⟨_, runs, ?_⟩
      rw [link, if_pos falls]
      exact ⟨rfl, rfl, rfl, rfl, askedFor_enterDown, ⟨rfl, rfl, rfl, rfl, rfl, enterDown_reports (by simpa [lineBroken] using latches), rfl⟩,
        (lineBroken_alone s l).trans (enterDown_alone _ l .brk), enterDown_frame _ l .brk frame (by decide)⟩
    · rw [if_neg falls] at runs
      refine ⟨_, runs, ?_⟩
      rw [lineBroken_link, if_neg falls]
      exact ⟨rfl, rfl, rfl, rfl, asked, ⟨rfl, rfl, by simp [lineBroken]⟩, lineBroken_alone s l, frame⟩
  case high =>
    intro s l high waits
    exact stepIf_enabled high (decide_eq_true waits)

end Sys2Proof.Machine
end

section
/-! A frame has been sent (R64, R65, R128, R153; O24). -/

namespace Sys2Proof.Machine

/-! ### What reads of a link only its path: the events that wait at the units -/

section
variable {s : State} {l : LinkId} {x : Link} (path : x.path = (s.link l).path)
include path

theorem setLink_paths (k : LinkId) : ((s.setLink l x).link k).path = (s.link k).path := by
  by_cases same : k = l
  · rw [same, State.link_setLink_same, path]
  · rw [State.link_setLink_other _ _ _ k same]

theorem setLink_pathWaits (u : BlockId) : pathWaits (s.setLink l x) u = pathWaits s u := by
  cases u <;> simp only [pathWaits, setLink_paths path]

theorem setLink_waits (u : BlockId) (e : UnitEvent) : waitsAt (s.setLink l x) u e = waitsAt s u e := by
  cases e with
  | link => exact setLink_pathWaits path u
  | _ => rfl

theorem setLink_live (old : List Arrival) : liveArrivals (s.setLink l x) old = liveArrivals s old := by
  induction old with
  | nil => rfl
  | cons a rest ih => simp only [liveArrivals, ih, setLink_waits path]

theorem setLink_holds (u : BlockId) : unitHolds (s.setLink l x) u = unitHolds s u := by
  have same : (s.setLink l x).arrivals = s.arrivals := rfl
  simp only [unitHolds, same, setLink_live path]

theorem setLink_arrive (u : BlockId) (e : UnitEvent) : (arrive (s.setLink l x) u e).arrivals = (arrive s u e).arrivals := by
  have same : (s.setLink l x).arrivals = s.arrivals := rfl
  rw [arrive, arriveAll, same, setLink_live path]
  rfl

end

/-! ### The link after the frame -/

/-- The link when its oldest frame has been sent and the next has started. -/
def sentLink (x : Link) (f : TxFrame) (rest : List TxFrame) : Link :=
  Link.startTx { x with
    tx := rest, lastSent := frameBytes f.kind (f.seq.getD 0) f.payload, rate := x.rateNext.getD x.rate
    rateNext := none, freshStart := x.freshStart || x.rateNext.isSome }

theorem sentLink_none (x : Link) (f : TxFrame) : sentLink x f [] = { x with
    tx := [], lastSent := frameBytes f.kind (f.seq.getD 0) f.payload, rate := x.rateNext.getD x.rate
    rateNext := none, freshStart := x.freshStart || x.rateNext.isSome } := rfl

theorem sentLink_starts (x : Link) (f g : TxFrame) (more : List TxFrame) : sentLink x f (g :: more) = { x with
    tx := (if g.seq = none then { g with seq := some x.txSeq } else g) :: more
    txSeq := if g.seq = none then x.txSeq + 1 else x.txSeq
    lastSent := frameBytes f.kind (f.seq.getD 0) f.payload, rate := x.rateNext.getD x.rate
    rateNext := none, freshStart := x.freshStart || x.rateNext.isSome } := by
  cases seq : g.seq with
  | none => simp [sentLink, Link.startTx, seq]
  | some n => simp [sentLink, Link.startTx, seq]

theorem sentLink_made (x : Link) (f : TxFrame) (rest : List TxFrame) :
    (sentLink x f rest).tx.map TxFrame.made = rest.map TxFrame.made := Link.startTx_made _

theorem sentLink_state (x : Link) (f : TxFrame) (rest : List TxFrame) : (sentLink x f rest).state = x.state := Link.startTx_state _

theorem sentLink_path (x : Link) (f : TxFrame) (rest : List TxFrame) : (sentLink x f rest).path = x.path := Link.startTx_path _

theorem sentLink_length (x : Link) (f : TxFrame) (rest : List TxFrame) : (sentLink x f rest).tx.length = rest.length := by
  simpa using congrArg List.length (sentLink_made x f rest)

/-- The frame has left the link's queue, and its owner has not been told. -/
def frameGone (s : State) (l : LinkId) (f : TxFrame) (rest : List TxFrame) : State := s.setLink l (sentLink (s.link l) f rest)

section
variable {s : State} {l : LinkId} {f : TxFrame} {rest : List TxFrame}

theorem exec_frameSent (high : s.bi.inReset = false) (queue : (s.link l).tx = f :: rest) (sending : f.seq.isSome = true) :
    exec (.frameSent l) s = .next (sentNotice (frameGone s l f rest) l) := by
  have runs : exec (.frameSent l) s = execFrameSent l s := rfl
  rw [runs]
  simp only [execFrameSent, queue, frameSent]
  exact stepIf_enabled high sending

theorem frameGone_link : (frameGone s l f rest).link l = sentLink (s.link l) f rest := State.link_setLink_same _ _ _

theorem frameGone_alone : linkAlone l s (frameGone s l f rest) := (linkAlone.refl s).setLink _

theorem frameGone_keeps : (frameGone s l f rest).bi = s.bi ∧ (frameGone s l f rest).nu = s.nu
    ∧ (frameGone s l f rest).ctu = s.ctu ∧ (frameGone s l f rest).pu = s.pu := ⟨rfl, rfl, rfl, rfl⟩

theorem frameGone_frame {bs : List BlockId} (lu : .lu ∈ bs) : eventFrame bs s (frameGone s l f rest) :=
  eventFrame_setLink (.refl _ s) lu

theorem frameGone_busy (u : BlockId) : unitBusy (frameGone s l f rest) u = unitBusy s u := rfl

theorem frameGone_holds (u : BlockId) : unitHolds (frameGone s l f rest) u = unitHolds s u :=
  setLink_holds (sentLink_path _ _ _) u

theorem frameGone_arrive (u : BlockId) (e : UnitEvent) :
    (arrive (frameGone s l f rest) u e).arrivals = (arrive s u e).arrivals := setLink_arrive (sentLink_path _ _ _) u e

theorem frameGone_left : cardLeft (frameGone s l f rest) = cardLeft s := by
  have path : ((frameGone s l f rest).link .card).path = (s.link .card).path := setLink_paths (sentLink_path _ _ _) .card
  rw [cardLeft, path]
  rfl

end

/-! ### The owner is told -/

/-- The notice waits behind a request, or behind an event one has held. -/
def noticeWaits (s : State) (u : BlockId) : Prop := unitBusy s u = true ∨ unitHolds s u = true

section
variable {s : State}

theorem noticeWaits_iff (u : BlockId) : noticeWaits s u ↔ (unitBusy s u || unitHolds s u) = true := by
  rw [noticeWaits, Bool.or_eq_true]

theorem not_noticeWaits {u : BlockId} (free : unitBusy s u = false) (none_ : unitHolds s u = false) : ¬ noticeWaits s u := by
  simp [noticeWaits, free, none_]

theorem cardNotice_waits (h : noticeWaits s .ctu) :
    cardNotice s = (arrive s .ctu .sent).setCtu { s.ctu with notices := s.ctu.notices + 1 } := by
  rw [cardNotice, if_pos ((noticeWaits_iff _).mp h)]

theorem cardNotice_taken (h : ¬ noticeWaits s .ctu) : cardNotice s = cardOffers s := by
  rw [cardNotice, if_neg (fun g => h ((noticeWaits_iff _).mpr g))]

theorem printNotice_waits (h : noticeWaits s .pu) :
    printNotice s = (arrive s .pu .sent).setPu { s.pu with notices := s.pu.notices + 1 } := by
  rw [printNotice, if_pos ((noticeWaits_iff _).mp h)]

theorem printNotice_taken (h : ¬ noticeWaits s .pu) : printNotice s = takeSent s := by
  rw [printNotice, if_neg (fun g => h ((noticeWaits_iff _).mpr g))]

variable {l : LinkId} {f : TxFrame} {rest : List TxFrame}

theorem frameGone_noticeWaits (u : BlockId) : noticeWaits (frameGone s l f rest) u ↔ noticeWaits s u := by
  rw [noticeWaits, frameGone_busy, frameGone_holds]
  rfl

/-! ### Nothing waits to be offered -/

/-- What a notice leaves at a unit that has no frame to offer. -/
structure noticeTaken (s t u : State) (l : LinkId) : Prop where
  links : ∀ k, t.link k = u.link k
  bi : t.bi = s.bi
  nu : t.nu = s.nu
  ctu : t.ctu = { s.ctu with
    notices := if l = .card ∧ (unitBusy s .ctu = true ∨ unitHolds s .ctu = true) then s.ctu.notices + 1 else s.ctu.notices }
  pu : t.pu = (if l ≠ .printer then s.pu
    else if unitBusy s .pu = true ∨ unitHolds s .pu = true then { s.pu with notices := s.pu.notices + 1 }
    else { s.pu with notice := false })
  card : l = .card → unitBusy s .ctu = true ∨ unitHolds s .ctu = true → t.arrivals = (arrive s .ctu .sent).arrivals
  printer : l = .printer → unitBusy s .pu = true ∨ unitHolds s .pu = true → t.arrivals = (arrive s .pu .sent).arrivals

/-- The scales' units hear of no frame that is sent. -/
theorem noticeTaken_unheard (card : l ≠ .card) (printer : l ≠ .printer) :
    noticeTaken s (frameGone s l f rest) (frameGone s l f rest) l where
  links _ := rfl
  bi := rfl
  nu := rfl
  ctu := by rw [if_neg (fun h => card h.1)]; rfl
  pu := by rw [if_pos printer]; rfl
  card h := absurd h card
  printer h := absurd h printer

theorem noticeTaken_card (empty : s.ctu.sendList = []) :
    noticeTaken s (cardNotice (frameGone s .card f rest)) (frameGone s .card f rest) .card := by
  by_cases waits : noticeWaits s .ctu
  · rw [cardNotice_waits ((frameGone_noticeWaits _).mpr waits)]
    exact {
      links := fun _ => rfl, bi := rfl, nu := rfl
      ctu := by rw [if_pos ⟨rfl, waits⟩]; rfl
      pu := rfl
      card := fun _ _ => frameGone_arrive .ctu .sent
      printer := nofun }
  · have settled : cardSettled (frameGone s .card f rest) := .inr (.inr empty)
    rw [cardNotice_taken (fun h => waits ((frameGone_noticeWaits _).mp h)), cardOffers_settled settled]
    exact {
      links := fun _ => rfl, bi := rfl, nu := rfl
      ctu := by rw [if_neg (fun h => waits h.2)]; rfl
      pu := rfl
      card := fun _ h => absurd h waits
      printer := nofun }

theorem noticeTaken_printer (empty : s.pu.ready = none) :
    noticeTaken s (printNotice (frameGone s .printer f rest)) (frameGone s .printer f rest) .printer := by
  have unheard : s.ctu = { s.ctu with
      notices := if LinkId.printer = .card ∧ (unitBusy s .ctu = true ∨ unitHolds s .ctu = true) then s.ctu.notices + 1
        else s.ctu.notices } := by rw [if_neg (fun h => nomatch h.1)]
  by_cases waits : noticeWaits s .pu
  · rw [printNotice_waits ((frameGone_noticeWaits _).mpr waits)]
    exact {
      links := fun _ => rfl, bi := rfl, nu := rfl, ctu := unheard
      pu := by rw [if_neg (not_not.mpr rfl), if_pos (show unitBusy s .pu = true ∨ unitHolds s .pu = true from waits)]; rfl
      card := nofun
      printer := fun _ _ => frameGone_arrive .pu .sent }
  · rw [printNotice_taken (fun h => waits ((frameGone_noticeWaits _).mp h)),
      takeSent_none (s := frameGone s .printer f rest) empty]
    exact {
      links := fun _ => rfl, bi := rfl, nu := rfl, ctu := unheard
      pu := by rw [if_neg (not_not.mpr rfl), if_neg (show ¬ (unitBusy s .pu = true ∨ unitHolds s .pu = true) from waits)]; rfl
      card := nofun
      printer := fun _ h => absurd h waits }

theorem sentNotice_taken (card : l = .card → s.ctu.sendList = []) (printer : l = .printer → s.pu.ready = none) :
    noticeTaken s (sentNotice (frameGone s l f rest) l) (frameGone s l f rest) l := by
  cases l with
  | card => exact noticeTaken_card (card rfl)
  | printer => exact noticeTaken_printer (printer rfl)
  | platter => exact noticeTaken_unheard nofun nofun
  | bag => exact noticeTaken_unheard nofun nofun

/-! ### The card link's frames -/

theorem frameGone_room (up : (s.link .card).state = .up) : cardRoom (frameGone s .card f rest) = 4 - rest.length := by
  have same : ((frameGone s .card f rest).link .card).state = .up := by rw [frameGone_link, sentLink_state, up]
  rw [cardRoom, if_pos same, frameGone_link, sentLink_length]

/-- The CTU offers its frames, oldest first (R128). -/
theorem cardNotice_offers (free : ¬ noticeWaits s .ctu) (up : (s.link .card).state = .up) (stays : cardLeft s = false) :
    cardMoved (frameGone s .card f rest) (cardNotice (frameGone s .card f rest)) s.ctu.sendList (4 - rest.length) := by
  have moved := cardOffers_moves (frameGone s .card f rest)
  rw [frameGone_left, stays, if_neg Bool.false_ne_true, frameGone_room up] at moved
  rw [cardNotice_taken (fun h => free ((frameGone_noticeWaits _).mp h))]
  exact moved

/-- The notice waits, or the CTU has yet to be told that the link has left UP: no frame is offered. -/
theorem cardNotice_still (still : noticeWaits s .ctu ∨ cardLeft s = true) :
    (cardNotice (frameGone s .card f rest)).lu = (frameGone s .card f rest).lu
      ∧ (noticeWaits s .ctu → (cardNotice (frameGone s .card f rest)).ctu = { s.ctu with notices := s.ctu.notices + 1 }
          ∧ (cardNotice (frameGone s .card f rest)).arrivals = (arrive s .ctu .sent).arrivals)
      ∧ (¬ noticeWaits s .ctu → (cardNotice (frameGone s .card f rest)).ctu = s.ctu) := by
  by_cases waits : noticeWaits s .ctu
  · rw [cardNotice_waits ((frameGone_noticeWaits _).mpr waits)]
    exact ⟨rfl, fun _ => ⟨rfl, frameGone_arrive .ctu .sent⟩, fun h => absurd waits h⟩
  · have left : cardLeft (frameGone s .card f rest) = true := frameGone_left.trans (still.resolve_left waits)
    rw [cardNotice_taken (fun h => waits ((frameGone_noticeWaits _).mp h)), cardOffers_settled (.inl left)]
    exact ⟨rfl, fun h => absurd h waits, fun _ => rfl⟩

/-! ### The printer link's frame -/

theorem printNotice_links_other {t : State} {k : LinkId} (other : k ≠ .printer) : (printNotice t).link k = t.link k := by
  by_cases waits : noticeWaits t .pu
  · rw [printNotice_waits waits]
    rfl
  · rw [printNotice_taken waits]
    cases ready : t.pu.ready with
    | none => rw [takeSent_none ready]; rfl
    | some r =>
      cases may : t.pu.maySend with
      | false => rw [takeSent_waits ready may]; rfl
      | true => rw [takeSent_offers ready may]; exact offerPrint_links_other other

theorem not_maySend {u : Pu} (not : u.cond ≠ .ready ∨ u.credits = 0 ∨ u.lost = true) : u.maySend = false := by
  refine Bool.eq_false_iff.mpr fun may => ?_
  obtain ⟨ready, credit, told⟩ := (maySend_iff u).mp may
  obtain not | none_ | lost := not
  · exact not ready
  · omega
  · rw [told] at lost
    exact nomatch lost

theorem linkTakes_of_room {l : LinkId} (up : (s.link l).state = .up) (room : (s.link l).tx.length < 4) : linkTakes s l = true := by
  simp [linkTakes, up, room]

/-- The frame that waits enters the queue, and the PU keeps it in flight (R153). -/
theorem offerPrint_enters {r : ReadyFrame} (takes : linkTakes s .printer = true) :
    (offerPrint s r).pu.ready = none ∧ (offerPrint s r).pu.notice = s.pu.notice
      ∧ (offerPrint s r).pu.flight = s.pu.flight ++ [{ seq := s.pu.lineSeq, kind := r.flight }]
      ∧ (offerPrint s r).pu.credits = s.pu.credits - 1 ∧ (offerPrint s r).pu.lineSeq = s.pu.lineSeq + 1
      ∧ ((offerPrint s r).link .printer).tx.map TxFrame.made
          = (s.link .printer).tx.map TxFrame.made ++ [(r.kind, r.payload)]
      ∧ askedFor (offerPrint s r) .pu .statusPage := by
  obtain ⟨ready, flight, credits, lineSeq, -, notice⟩ := Pu.taken_parts s.pu r
  rw [offerPrint_taken takes]
  refine ⟨?_, ?_, ?_, ?_, ?_, ?_, askedFor_askPu⟩
  · rw [askPu_pu]; exact ready
  · rw [askPu_pu]; exact notice
  · rw [askPu_pu]; exact flight
  · rw [askPu_pu]; exact credits
  · rw [askPu_pu]; exact lineSeq
  · have sent : ((askPu s.pu ((linkSend s .printer r.kind r.payload).setPu (s.pu.taken r)) false).link .printer)
        = (s.link .printer).push r.kind r.payload := by
      rw [link_of_lu (s := (linkSend s .printer r.kind r.payload).setPu (s.pu.taken r)) (by simp)]
      rfl
    rw [sent, Link.push_made]

end

/-- Settles O24: the owner's notice waits, finds nothing to offer, or offers what waits. -/
theorem sentFramesMakeRoom : Obligations.SentFramesMakeRoom := by
  unfold Obligations.SentFramesMakeRoom
  refine ⟨?nothing, ?card, ?held, ?printer⟩
  case nothing =>
    intro s l f rest high queue sending noCard noPrint
    have taken := sentNotice_taken (s := s) (l := l) (f := f) (rest := rest) noCard noPrint
    refine ⟨_, exec_frameSent high queue sending, ?_, fun k other => (taken.links k).trans (frameGone_alone k other), taken.bi,
      taken.nu, taken.ctu, taken.pu, taken.card, taken.printer,
      sentNotice_frame _ _ (frameGone_frame (by decide)) (by decide) (by decide) (by decide)⟩
    rw [taken.links, frameGone_link]
    cases rest with
    | nil => rfl
    | cons g more => exact sentLink_starts _ f g more
  case card =>
    intro s f rest high queue sending free none_ up stays
    have moved := cardNotice_offers (f := f) (rest := rest) (not_noticeWaits free none_) up stays
    refine ⟨_, exec_frameSent high queue sending, moved.ctu, ?_,
      fun k other => (moved.links k other).trans (frameGone_alone k other), by simp [sentNotice, frameGone_keeps],
      by simp [sentNotice, frameGone_keeps], cardNotice_frame _ (frameGone_frame (by decide)) (by decide) (by decide)⟩
    have queued := moved.queue
    rw [frameGone_link, sentLink_made] at queued
    exact queued
  case held =>
    intro s f rest high queue sending still
    have held : noticeWaits s .ctu ∨ cardLeft s = true := by rw [noticeWaits, or_assoc]; exact still
    obtain ⟨lu, waits, taken⟩ := cardNotice_still (f := f) (rest := rest) held
    refine ⟨_, exec_frameSent high queue sending, waits, fun free none_ => taken (not_noticeWaits free none_), ?_,
      fun k other => (link_of_lu lu k).trans (frameGone_alone k other), by simp [sentNotice, frameGone_keeps],
      cardNotice_frame _ (frameGone_frame (by decide)) (by decide) (by decide)⟩
    have link : (cardNotice (frameGone s .card f rest)).link .card = sentLink (s.link .card) f rest :=
      (link_of_lu lu .card).trans frameGone_link
    exact (congrArg (fun x : Link => x.tx.map TxFrame.made) link).trans (sentLink_made _ f rest)
  case printer =>
    intro s f rest r high queue sending ready up
    refine ⟨_, exec_frameSent high queue sending, ?waits, ?stays, ?offers,
      fun k other => (printNotice_links_other other).trans (frameGone_alone k other), by simp [sentNotice, frameGone_keeps],
      printNotice_frame _ (frameGone_frame (by decide)) (by decide) (by decide)⟩
    case waits =>
      intro waits
      have told : sentNotice (frameGone s .printer f rest) .printer = _ :=
        printNotice_waits ((frameGone_noticeWaits _).mpr waits)
      rw [told]
      exact ⟨rfl, frameGone_arrive .pu .sent, rfl⟩
    case stays =>
      intro free none_ not
      have told : sentNotice (frameGone s .printer f rest) .printer = takeSent (frameGone s .printer f rest) :=
        printNotice_taken (fun h => not_noticeWaits free none_ ((frameGone_noticeWaits _).mp h))
      rw [told, takeSent_waits (s := frameGone s .printer f rest) ready (not_maySend not)]
      exact ⟨rfl, rfl⟩
    case offers =>
      intro free none_ cond credit told room
      have notice : sentNotice (frameGone s .printer f rest) .printer = takeSent (frameGone s .printer f rest) :=
        printNotice_taken (fun h => not_noticeWaits free none_ ((frameGone_noticeWaits _).mp h))
      have may : (frameGone s .printer f rest).pu.maySend = true := (maySend_iff _).mpr ⟨cond, credit, told⟩
      have link : (unmarked (frameGone s .printer f rest)).link .printer = sentLink (s.link .printer) f rest :=
        frameGone_link (s := s) (l := .printer)
      have takes : linkTakes (unmarked (frameGone s .printer f rest)) .printer = true :=
        linkTakes_of_room (by rw [link, sentLink_state, up]) (by rw [link, sentLink_length]; exact room)
      obtain ⟨ready_, notice_, flight, credits, lineSeq, sent, asked⟩ :=
        offerPrint_enters (s := unmarked (frameGone s .printer f rest)) (r := r) takes
      rw [notice, takeSent_offers (s := frameGone s .printer f rest) ready may]
      rw [link, sentLink_made] at sent
      exact ⟨ready_, notice_, flight, credits, lineSeq, sent, asked⟩

end Sys2Proof.Machine
end

section
/-! The bytes of a received frame: its fields (R175-R177), its check code (R56) and the end of an attempt (R58; O21). -/

namespace Sys2Proof.Machine

/-! ### Fields by offset -/

theorem payByte_toNat (p : List Byte) (k : Nat) : (payByte p k).toNat = payloadField p k 1 := by simp [payByte, payloadField]

theorem payBytes_inside {p : List Byte} {k n : Nat} (inside : k + n ≤ p.length) : payBytes p k n = (p.drop k).take n := by
  have enough : n ≤ (p.drop k).length := by rw [List.length_drop]; omega
  rw [payBytes, List.take_append_of_le_length enough]

theorem sampleGross_eq (p : List Byte) : sampleGross p
    = if payloadField p 0 4 < 2147483648 then (payloadField p 0 4 : Int) else (payloadField p 0 4 : Int) - 4294967296 := by
  rw [sampleGross, BitVec.toInt_eq_toNat_cond, payWord_toNat]
  have half : 2 * payloadField p 0 4 < 2 ^ 32 ↔ payloadField p 0 4 < 2147483648 := by omega
  rw [if_congr half rfl rfl]
  norm_num

theorem sampleFault_iff (p : List Byte) : sampleFault p = true ↔ payloadField p 4 1 % 2 = 1 := by
  rw [← payByte_toNat, sampleFault, BitVec.getLsbD, Nat.testBit_zero, decide_eq_true_eq]

theorem sampleOverrange_iff (p : List Byte) : sampleOverrange p = true ↔ payloadField p 4 1 / 2 % 2 = 1 := by
  rw [← payByte_toNat, sampleOverrange, BitVec.getLsbD, Nat.testBit_eq_decide_div_mod_eq, decide_eq_true_eq, Nat.pow_one]

/-- A byte is a number's when it has that value. -/
theorem payByte_eq_iff (p : List Byte) (k : Nat) (b : Byte) : payByte p k = b ↔ payloadField p k 1 = b.toNat := by
  rw [← payByte_toNat, BitVec.toNat_inj]

theorem moduleOf_eq (p : List Byte) :
    moduleOf p = match payloadField p 0 1 with | 0 => ModuleStatus.none | 1 => .ready | 2 => .busy | _ => .fault := by
  unfold moduleOf
  rw [if_congr (payByte_eq_iff p 0 0) rfl rfl, if_congr (payByte_eq_iff p 0 1) rfl rfl, if_congr (payByte_eq_iff p 0 2) rfl rfl]
  generalize payloadField p 0 1 = n
  match n with
  | 0 => rfl
  | 1 => rfl
  | 2 => rfl
  | n + 3 => rfl

theorem paperOf_eq (p : List Byte) : paperOf p = match payloadField p 0 1 with | 0 => Paper.ok | 1 => .low | _ => .out := by
  unfold paperOf
  rw [if_congr (payByte_eq_iff p 0 0) rfl rfl, if_congr (payByte_eq_iff p 0 1) rfl rfl]
  generalize payloadField p 0 1 = n
  match n with
  | 0 => rfl
  | 1 => rfl
  | n + 2 => rfl

theorem coverOpenOf_iff (p : List Byte) : coverOpenOf p = true ↔ payloadField p 1 1 ≠ 0 := by
  rw [coverOpenOf, bne_iff_ne, ne_eq, payByte_eq_iff]
  rfl

theorem frameFields_read (p : List Byte) : frameFields p where
  byte := payByte_toNat p
  half := payHalf_toNat p
  word := payWord_toNat p
  bytes _ _ := payBytes_inside
  gross := sampleGross_eq p
  fault := sampleFault_iff p
  overrange := sampleOverrange_iff p
  module := moduleOf_eq p
  paper := paperOf_eq p
  cover := coverOpenOf_iff p
  credits := payByte_toNat p 2

/-! ### The check code -/

/-- One bit of the check by the model and by R56. -/
theorem crcBit_rule (r : Half) (bit : Bool) : crcBit r bit = if r.getLsbD 15 = bit then r <<< 1 else r <<< 1 ^^^ 0x1021 := by
  unfold crcBit
  have differ : (r.getLsbD 15 != bit) = true ↔ ¬ r.getLsbD 15 = bit := bne_iff_ne
  rw [if_congr differ rfl rfl, ite_not]

theorem foldl_flatMap_bits {α β γ : Type} (step : α → β → α) (bits : γ → List β) (bs : List γ) (r : α) :
    (bs.flatMap bits).foldl step r = bs.foldl (fun r b => (bits b).foldl step r) r := by
  induction bs generalizing r with
  | nil => rfl
  | cons b rest ih => rw [List.flatMap_cons, List.foldl_append, ih, List.foldl_cons]

theorem crc16_eq_checkRule (bs : List Byte) : crc16 bs = checkRule bs := by
  have bit : (fun (r : Half) (bit : Bool) => if r.getLsbD 15 = bit then r <<< 1 else r <<< 1 ^^^ 0x1021) = crcBit := by
    funext r bit
    exact (crcBit_rule r bit).symm
  rw [checkRule, bit, foldl_flatMap_bits]
  rfl

/-! ### The attempt by its bytes (R58) -/

section
variable {l : LinkId}

theorem tryFrame_length {len : Byte} {rest : List Byte} (long : 120 < len.toNat) : tryFrame l (len :: rest) = .error .length .length := by
  cases rest <;> simp only [tryFrame, long, if_true]

theorem tryFrame_opened {len : Byte} (fits : len.toNat ≤ 120) : tryFrame l [len] = .incomplete := by
  simp only [tryFrame, if_neg (Nat.not_lt.mpr fits)]

theorem tryFrame_kind {len kind : Byte} {rest : List Byte} (fits : len.toNat ≤ 120) (none_ : allowedMinLen l kind = none) :
    tryFrame l (len :: kind :: rest) = .error .kind .header := by
  simp only [tryFrame, if_neg (Nat.not_lt.mpr fits), none_]

theorem tryFrame_short {len kind : Byte} {rest : List Byte} {least : Nat} (fits : len.toNat ≤ 120)
    (allowed : allowedMinLen l kind = some least) (short : len.toNat < least) :
    tryFrame l (len :: kind :: rest) = .error .length .header := by
  simp only [tryFrame, if_neg (Nat.not_lt.mpr fits), allowed, if_pos short]

theorem tryFrame_header {len kind : Byte} {least : Nat} (fits : len.toNat ≤ 120)
    (allowed : allowedMinLen l kind = some least) (enough : ¬ len.toNat < least) : tryFrame l [len, kind] = .incomplete := by
  simp only [tryFrame, if_neg (Nat.not_lt.mpr fits), allowed, if_neg enough]

theorem tryFrame_body {len kind seq : Byte} {rest : List Byte} {least : Nat} (fits : len.toNat ≤ 120)
    (allowed : allowedMinLen l kind = some least) (enough : ¬ len.toNat < least) :
    tryFrame l (len :: kind :: seq :: rest) = if rest.length < len.toNat + 2 then .incomplete
      else if crc16 (len :: kind :: seq :: rest.take len.toNat) = payHalf rest len.toNat then .valid kind seq (rest.take len.toNat)
      else .error .check .check := by
  simp only [tryFrame, if_neg (Nat.not_lt.mpr fits), allowed, if_neg enough]

/-- A whole frame is judged by its check code, low byte first (R56). -/
theorem tryFrame_whole {kind seq lo hi : Byte} {payload : List Byte} {least : Nat} (fits : payload.length ≤ 120)
    (allowed : allowedMinLen l kind = some least) (enough : least ≤ payload.length) :
    tryFrame l (BitVec.ofNat 8 payload.length :: kind :: seq :: payload ++ [lo, hi])
      = if crc16 (BitVec.ofNat 8 payload.length :: kind :: seq :: payload) = hi ++ lo then .valid kind seq payload
        else .error .check .check := by
  have len : (BitVec.ofNat 8 payload.length).toNat = payload.length := by
    rw [BitVec.toNat_ofNat]
    exact Nat.mod_eq_of_lt (by omega)
  have whole : ¬ (payload ++ [lo, hi]).length < payload.length + 2 := by simp
  have taken : (payload ++ [lo, hi]).take payload.length = payload := List.take_left' rfl
  have check : payHalf (payload ++ [lo, hi]) payload.length = hi ++ lo := by
    simp [payHalf, payByte]
  rw [List.cons_append, List.cons_append, List.cons_append,
    tryFrame_body (by omega) allowed (by omega), len, if_neg whole, taken, check]

/-- An attempt fails by its length, its kind or its check code. -/
theorem tryFrame_error_kind {bs : List Byte} {err : ErrorKind} {field : RxField} (fails : tryFrame l bs = .error err field) :
    err = .length ∨ err = .kind ∨ err = .check := by
  match bs with
  | [] => exact nomatch fails
  | [len] =>
    by_cases long : 120 < len.toNat
    · rw [tryFrame_length long] at fails
      exact .inl (by injection fails with kind; exact kind.symm)
    · rw [tryFrame_opened (Nat.not_lt.mp long)] at fails
      exact nomatch fails
  | len :: kind :: rest =>
    by_cases long : 120 < len.toNat
    · rw [tryFrame_length long] at fails
      exact .inl (by injection fails with kind; exact kind.symm)
    · cases allowed : allowedMinLen l kind with
      | none =>
        rw [tryFrame_kind (Nat.not_lt.mp long) allowed] at fails
        exact .inr (.inl (by injection fails with kind; exact kind.symm))
      | some least =>
        by_cases short : len.toNat < least
        · rw [tryFrame_short (Nat.not_lt.mp long) allowed short] at fails
          exact .inl (by injection fails with kind; exact kind.symm)
        · match rest with
          | [] =>
            rw [tryFrame_header (Nat.not_lt.mp long) allowed short] at fails
            exact nomatch fails
          | seq :: rest =>
            rw [tryFrame_body (Nat.not_lt.mp long) allowed short] at fails
            split at fails
            next => exact nomatch fails
            next =>
              split at fails
              next => exact nomatch fails
              next => exact .inr (.inr (by injection fails with kind; exact kind.symm))

end

end Sys2Proof.Machine
end

section
/-! Received characters (R58-R63, R66, R69; O21). -/

namespace Sys2Proof.Machine

/-! ### The newest frame of a path -/

theorem dropNewestFrame_split {pre post : List PathItem} {x : PathItem} (frame : x.isFrame = true)
    (newest : ∀ y ∈ post, y.isFrame = false) : dropNewestFrame (pre ++ x :: post) = pre ++ post := by
  have none_ : post.reverse.findIdx? PathItem.isFrame = none := by
    rw [List.findIdx?_eq_none_iff]
    exact fun y is => newest y (List.mem_reverse.mp is)
  have found : (pre ++ x :: post).reverse.findIdx? PathItem.isFrame = some post.length := by
    simp [List.findIdx?_append, none_, List.findIdx?_cons, frame]
  have place : (pre ++ x :: post).length - 1 - post.length = pre.length := by simp
  rw [dropNewestFrame, found]
  simp only [place]
  rw [List.eraseIdx_append_of_length_le (Nat.le_refl _), Nat.sub_self, List.eraseIdx_cons_zero]

theorem frames_full {pre post : List PathItem} {x : PathItem} (frame : x.isFrame = true)
    (one : (pre.filter PathItem.isFrame).length = 1) : ¬ ((pre ++ x :: post).filter PathItem.isFrame).length < 2 := by
  rw [List.filter_append, List.filter_cons_of_pos frame, List.length_append, List.length_cons]
  omega

/-! ### Delivery (R63) -/

section
variable {s : State} {l : LinkId} {kind : Byte} {payload : List Byte} {gap : Bool}

/-- The link with the frame at the end of its path. -/
def deliveredLink (x : Link) (kind : Byte) (payload : List Byte) (gap : Bool) : Link :=
  { x with path := x.path ++ [.frame kind payload (gap || x.firstAfterUp)], firstAfterUp := false }

theorem deliver_room (room : ((s.link l).path.filter PathItem.isFrame).length < 2) : deliver s l kind payload gap
    = (arrive s (linkOwner l) .link).setLink l (deliveredLink (s.link l) kind payload gap) := by
  simp only [deliver, if_pos room]
  rfl

/-- The link whose newer frame has been replaced, before the OVERRUN is counted. -/
def replacedLink (x : Link) (kind : Byte) (payload : List Byte) : Link :=
  { x with path := dropNewestFrame x.path ++ [.frame kind payload true], firstAfterUp := false }

theorem deliver_full (full : ¬ ((s.link l).path.filter PathItem.isFrame).length < 2) : deliver s l kind payload gap
    = linkError ((arriveAgain s l (newestFrameLeaves (s.link l).path)).setLink l (replacedLink (s.link l) kind payload)) l .overrun
        (.check, 0) := by
  simp only [deliver, if_neg full]
  rfl

theorem deliver_room_link (room : ((s.link l).path.filter PathItem.isFrame).length < 2) :
    (deliver s l kind payload gap).link l = deliveredLink (s.link l) kind payload gap := by
  rw [deliver_room room, State.link_setLink_same]

theorem deliver_full_link (full : ¬ ((s.link l).path.filter PathItem.isFrame).length < 2) :
    (deliver s l kind payload gap).link l = erredLink s (replacedLink (s.link l) kind payload) .overrun (.check, 0) := by
  rw [deliver_full full, linkError_same, State.link_setLink_same]
  rfl

theorem deliver_full_asked (full : ¬ ((s.link l).path.filter PathItem.isFrame).length < 2) :
    askedFor (deliver s l kind payload gap) .lu .statusPage := by
  rw [deliver_full full]
  exact askedFor_linkError

theorem deliver_alone : linkAlone l s (deliver s l kind payload gap) := by
  by_cases room : ((s.link l).path.filter PathItem.isFrame).length < 2
  · rw [deliver_room room]
    exact linkAlone.setLink (linkAlone_of_lu rfl) _
  · rw [deliver_full room]
    exact (linkAlone.setLink (linkAlone_of_lu (t := arriveAgain s l (newestFrameLeaves (s.link l).path)) rfl) _).trans
      (linkError_alone _ _ _ _)

theorem askedFor_arrive {b : BlockId} {e : UnitEvent} {o : BlockId} {y : LaneSection} (h : askedFor s o y) :
    askedFor (arrive s b e) o y := askedFor_of_bi h rfl

theorem deliver_asked (h : askedFor s .lu .statusPage) : askedFor (deliver s l kind payload gap) .lu .statusPage := by
  by_cases room : ((s.link l).path.filter PathItem.isFrame).length < 2
  · rw [deliver_room room]
    exact askedFor_setLink (askedFor_arrive h)
  · exact deliver_full_asked room

end

/-! ### Entry to UP and to MISMATCH (R66, R67, R69) -/

section
variable {s : State} {l : LinkId} {reason : LinkReason}

/-- The link that has come UP. -/
def upLink (s : State) (l : LinkId) (x : Link) (reason : LinkReason) : Link :=
  { changedLink x .up reason with
    silence := if x.state = .mismatch then startTimer s (cfgSilence s l) else x.silence }

theorem enterUp_same (s : State) (l : LinkId) (reason : LinkReason) :
    (enterUp s l reason).link l = upLink s l (s.link l) reason := by
  have changed := changeLink_same s l .up reason
  have re : (changeLink s l .up reason).re = s.re := by simp
  have timer : startTimer (changeLink s l .up reason) (cfgSilence (changeLink s l .up reason) l) = startTimer s (cfgSilence s l) := by
    rw [startTimer, cfgSilence, cfg, re]
    rfl
  unfold enterUp upLink
  dsimp only
  split
  next => rw [startSilence_same, changed, timer]
  next => exact changed

theorem enterUp_alone : linkAlone l s (enterUp s l reason) := by
  unfold enterUp
  dsimp only
  split
  next => exact (changeLink_alone s l .up reason).trans (startSilence_alone _ l)
  next => exact changeLink_alone s l .up reason

theorem askedFor_enterUp : askedFor (enterUp s l reason) .lu .statusPage := by
  unfold enterUp
  dsimp only
  split
  next => exact askedFor_setLink askedFor_changeLink
  next => exact askedFor_changeLink

theorem enterUp_reports (latches : s.nu.latches.length = 24) : reported (enterUp s l reason) .linkChange (linkNo l) := by
  unfold enterUp
  dsimp only
  split
  next => exact reported_setLink (changeLink_reports latches)
  next => exact changeLink_reports latches

/-- The link that has gone to MISMATCH. -/
def mismatchLink (x : Link) : Link :=
  { changedLink x .mismatch .identWrong with tx := x.tx.filter fun f => f.seq.isSome, silence := none }

theorem enterMismatch_same (s : State) (l : LinkId) : (enterMismatch s l).link l = mismatchLink (s.link l) := by
  rw [enterMismatch, changeLink_same, State.link_setLink_same]
  rfl

theorem enterMismatch_alone : linkAlone l s (enterMismatch s l) :=
  ((linkAlone.refl s).setLink _).trans (changeLink_alone _ l .mismatch .identWrong)

theorem enterMismatch_reports (latches : s.nu.latches.length = 24) : reported (enterMismatch s l) .linkChange (linkNo l) :=
  changeLink_reports latches

theorem askedFor_enterMismatch : askedFor (enterMismatch s l) .lu .statusPage := askedFor_changeLink

end

/-! ### A valid frame (R61) -/



end Sys2Proof.Machine
end

section
/-! Valid frames and characters (R58-R63, R66, R69; O21). -/

namespace Sys2Proof.Machine

/-! ### A valid frame is accepted (R61) -/

theorem State.setLink_twice (s : State) (l : LinkId) (x y : Link) : (s.setLink l x).setLink l y = s.setLink l y := by
  cases l <;> rfl

/-- The link with the frame's SEQ tracked, the run of bad frames ended and the silence timer started where it runs. -/
def trackedLink (s : State) (l : LinkId) (x : Link) (seq : Byte) : Link :=
  { x with
    badRun := 0, tracked := some seq
    silence := if x.state = .unseen ∨ x.state = .up ∨ x.state = .down then startTimer s (cfgSilence s l) else x.silence }

/-- The SEQ is not the one after the frame before. -/
def seqGap (x : Link) (seq : Byte) : Bool := match x.tracked with | some p => seq != p + 1 | none => false

/-- The link with the SEQ tracked and a gap counted. -/
def gapLink (s : State) (l : LinkId) (x : Link) (seq : Byte) : Link :=
  { trackedLink s l x seq with seqGaps := if seqGap x seq then sat x.seqGaps else x.seqGaps }

/-- A valid frame has been tracked, and a gap reported; it has not met the link's state. -/
def gapTold (s : State) (l : LinkId) (seq : Byte) : State :=
  if seqGap (s.link l) seq then askLinkStatus (s.setLink l (gapLink s l (s.link l) seq)) l false
  else s.setLink l (gapLink s l (s.link l) seq)

section
variable {s : State} {l : LinkId} {kind seq : Byte} {payload : List Byte}

/-- The run of bad frames ends, and the silence timer starts anew where it runs. -/
theorem silence_restarted (s : State) (l : LinkId) :
    (if ((s.link l).state = .unseen || (s.link l).state = .up || (s.link l).state = .down) = true then
        startSilence (s.setLink l { s.link l with badRun := 0 }) l
      else s.setLink l { s.link l with badRun := 0 })
    = s.setLink l { s.link l with
        badRun := 0
        silence := if (s.link l).state = .unseen ∨ (s.link l).state = .up ∨ (s.link l).state = .down then
          startTimer s (cfgSilence s l) else (s.link l).silence } := by
  have runs : ((s.link l).state = .unseen || (s.link l).state = .up || (s.link l).state = .down) = true
      ↔ (s.link l).state = .unseen ∨ (s.link l).state = .up ∨ (s.link l).state = .down := by
    simp only [Bool.or_eq_true, decide_eq_true_eq, or_assoc]
  rw [if_congr runs rfl rfl]
  split
  next => rw [startSilence, State.setLink_twice, State.link_setLink_same]; rfl
  next => rfl

theorem acceptFrame_ident : acceptFrame s l kIdent seq payload
    = takeIdent (s.setLink l (trackedLink s l (s.link l) seq)) l (payByte payload 0) := by
  unfold acceptFrame
  dsimp only
  rw [silence_restarted, if_pos rfl, State.setLink_twice, State.link_setLink_same]
  rfl

theorem acceptFrame_other (other : kind ≠ kIdent) :
    acceptFrame s l kind seq payload = takeFrame (gapTold s l seq) l kind payload (seqGap (s.link l) seq) := by
  unfold acceptFrame
  dsimp only
  rw [silence_restarted, if_neg other, State.setLink_twice, State.link_setLink_same]
  rfl

/-! ### What precedes the meeting with the link's state -/

theorem gapTold_keeps : (gapTold s l seq).re = s.re ∧ (gapTold s l seq).nu = s.nu := by
  unfold gapTold
  split <;> simp

theorem gapTold_lu : (gapTold s l seq).lu = (s.setLink l (gapLink s l (s.link l) seq)).lu := by
  unfold gapTold
  split <;> simp

theorem gapTold_link : (gapTold s l seq).link l = gapLink s l (s.link l) seq := by
  rw [link_of_lu gapTold_lu, State.link_setLink_same]

theorem gapTold_alone : linkAlone l s (gapTold s l seq) := ((linkAlone.refl s).setLink _).trans (linkAlone_of_lu gapTold_lu)

theorem gapTold_asked (gap : seqGap (s.link l) seq = true) : askedFor (gapTold s l seq) .lu .statusPage := by
  rw [gapTold, if_pos gap]
  exact askedFor_askLiveAfter (by simp)

theorem gapTold_timer : startTimer (gapTold s l seq) (cfgSilence (gapTold s l seq) l) = startTimer s (cfgSilence s l) := by
  rw [startTimer, cfgSilence, cfg, gapTold_keeps.1]
  rfl

/-! ### The arrival of the frame at its owner -/

theorem setBi_live (s : State) (x : Bi) (old : List Arrival) : liveArrivals (s.setBi x) old = liveArrivals s old := by
  have waits (u : BlockId) (e : UnitEvent) : waitsAt (s.setBi x) u e = waitsAt s u e := by cases e <;> rfl
  induction old with
  | nil => rfl
  | cons a rest ih => simp only [liveArrivals, ih, waits]

theorem setBi_arrive (s : State) (x : Bi) (u : BlockId) (e : UnitEvent) :
    (arrive (s.setBi x) u e).arrivals = (arrive s u e).arrivals := by
  have same : (s.setBi x).arrivals = s.arrivals := rfl
  rw [arrive, arriveAll, same, setBi_live]
  rfl

theorem askLinkStatus_arrive (s : State) (l : LinkId) (u : BlockId) (e : UnitEvent) :
    (arrive (askLinkStatus s l false) u e).arrivals = (arrive s u e).arrivals := by
  unfold askLinkStatus askLive askLiveAfter askWindow
  split
  next => exact setBi_arrive s _ u e
  next => exact setBi_arrive s _ u e

theorem gapTold_arrive (u : BlockId) (e : UnitEvent) : (arrive (gapTold s l seq) u e).arrivals = (arrive s u e).arrivals := by
  have path : (gapLink s l (s.link l) seq).path = (s.link l).path := rfl
  have tracked := setLink_arrive path u e
  unfold gapTold
  split
  next => exact (askLinkStatus_arrive _ l u e).trans tracked
  next => exact tracked

/-! ### The frame meets the link's state (R69) -/

theorem takeFrame_up {gap : Bool} (up : (s.link l).state = .up) : takeFrame s l kind payload gap = deliver s l kind payload gap := by
  simp only [takeFrame, up, if_true]

theorem takeFrame_resumed {gap : Bool} (down : (s.link l).state = .down) (seen : (s.link l).identSeen = true) :
    takeFrame s l kind payload gap = deliver (enterUp s l .frameResumed) l kind payload true := by
  simp [takeFrame, down, seen]

theorem takeFrame_dropped {gap : Bool} (drops : (s.link l).state = .unseen ∨ (s.link l).state = .mismatch
    ∨ ((s.link l).state = .down ∧ (s.link l).identSeen = false)) : takeFrame s l kind payload gap = s := by
  obtain state | state | ⟨state, seen⟩ := drops
  · simp [takeFrame, state]
  · simp [takeFrame, state]
  · simp [takeFrame, state, seen]

end

/-! ### A valid IDENT (R66) -/

section
variable {s : State} {l : LinkId} {device : Byte}

/-- The device's kind is known, and published. -/
def identKnown (s : State) (l : LinkId) (device : Byte) : State :=
  askLinkStatus (s.setLink l { s.link l with identKind := device }) l false

/-- The expected device has been seen. -/
def identSeen (s : State) (l : LinkId) (device : Byte) : State :=
  (identKnown s l device).setLink l { s.link l with identKind := device, identSeen := true }

theorem identKnown_lu : (identKnown s l device).lu = (s.setLink l { s.link l with identKind := device }).lu := by simp [identKnown]

theorem identKnown_link : (identKnown s l device).link l = { s.link l with identKind := device } := by
  rw [link_of_lu identKnown_lu, State.link_setLink_same]

theorem identKnown_alone : linkAlone l s (identKnown s l device) := ((linkAlone.refl s).setLink _).trans (linkAlone_of_lu identKnown_lu)

theorem identKnown_asked : askedFor (identKnown s l device) .lu .statusPage := askedFor_askLiveAfter (by simp)

theorem identKnown_keeps : (identKnown s l device).re = s.re ∧ (identKnown s l device).nu = s.nu := by simp [identKnown]

theorem identSeen_link : (identSeen s l device).link l = { s.link l with identKind := device, identSeen := true } :=
  State.link_setLink_same _ _ _

theorem identSeen_alone : linkAlone l s (identSeen s l device) := identKnown_alone.setLink _

theorem identSeen_asked : askedFor (identSeen s l device) .lu .statusPage := askedFor_setLink identKnown_asked

theorem identSeen_keeps : (identSeen s l device).re = s.re ∧ (identSeen s l device).nu = s.nu := identKnown_keeps

theorem takeIdent_eq (s : State) (l : LinkId) (device : Byte) : takeIdent s l device
    = if device = expectedDevice l then
        if (s.link l).state = .unseen ∨ (s.link l).state = .mismatch ∨ (s.link l).state = .down then
          enterUp (identSeen s l device) l .identMatched
        else identSeen s l device
      else if (s.link l).state = .unseen ∨ (s.link l).state = .up ∨ (s.link l).state = .down then
        enterMismatch (identKnown s l device) l
      else identKnown s l device := by
  have known : askLinkStatus (s.setLink l { s.link l with identKind := device }) l false = identKnown s l device := rfl
  have seen : (identKnown s l device).setLink l { (identKnown s l device).link l with identSeen := true } = identSeen s l device := by
    rw [identKnown_link]
    rfl
  unfold takeIdent
  dsimp only
  rw [known, seen]
  simp only [Bool.or_eq_true, decide_eq_true_eq, or_assoc]

end

/-! ### Characters and the scan (R58, R59) -/

section
variable {s : State} {l : LinkId} {c : Byte} {body : List Byte}

/-- The character has reached the receiver. -/
def heard (s : State) (l : LinkId) : State := s.setLink l { s.link l with freshStart := false }

theorem heard_link : (heard s l).link l = { s.link l with freshStart := false } := State.link_setLink_same _ _ _

theorem heard_alone : linkAlone l s (heard s l) := (linkAlone.refl s).setLink _

theorem exec_rxCharacter {high : Bool} (released : s.bi.inReset = false) (running : (s.link l).line = .running) :
    exec (.rxCharacter l c high) s = .next (rxCharacter s l c high) := stepIf_enabled released (decide_eq_true running)

theorem rxCharacter_scans : rxCharacter s l c true = scan (heard s l) l 0 ((s.link l).attempt.getD [] ++ [c]) := by
  have attempt : ((heard s l).link l).attempt = (s.link l).attempt := by rw [heard_link]
  rw [← attempt]
  rfl

theorem rxCharacter_attempt (attempt : (s.link l).attempt = some (syncByte :: body)) :
    rxCharacter s l c true = scan (heard s l) l 0 (syncByte :: (body ++ [c])) := by
  rw [rxCharacter_scans, attempt]
  rfl

/-- The receiver with its attempt kept. -/
theorem scan_incomplete {bs : List Byte} (more : tryFrame l bs = .incomplete) :
    scan s l 0 (syncByte :: bs) = s.setLink l { s.link l with attempt := some (syncByte :: bs) } := by
  simp [scan, more]

theorem scan_error {bs : List Byte} {err : ErrorKind} {field : RxField} (fails : tryFrame l bs = .error err field) :
    scan s l 0 (syncByte :: bs) = scan (badAttempt s l err (field, 0)) l 0 bs := by
  simp [scan, fails]

theorem scan_skips (bs : List Byte) : scan s l bs.length bs = attemptDropped s l := by
  induction bs with
  | nil => rfl
  | cons b rest ih => exact ih

theorem scan_valid {bs payload : List Byte} {kind seq : Byte} (valid : tryFrame l bs = .valid kind seq payload)
    (whole : bs.length = payload.length + 5) :
    scan s l 0 (syncByte :: bs) = attemptDropped (acceptFrame s l kind seq payload) l := by
  rw [← scan_skips bs, whole]
  simp [scan, valid]

/-- The receiver when it has taken a whole frame. -/
def frameTaken (s u : State) (l : LinkId) : State := withReceiver (false, (s.link l).line, none) l u

theorem frameTaken_link {u : State} :
    (frameTaken s u l).link l = { u.link l with freshStart := false, line := (s.link l).line, attempt := none } :=
  withReceiver_link _ l u

theorem frameTaken_alone {u : State} (h : linkAlone l s u) : linkAlone l s (frameTaken s u l) := h.setLink _

theorem exec_rx_valid {kind seq : Byte} {payload : List Byte} (released : s.bi.inReset = false) (running : (s.link l).line = .running)
    (attempt : (s.link l).attempt = some (syncByte :: body)) (valid : tryFrame l (body ++ [c]) = .valid kind seq payload)
    (whole : body.length = payload.length + 4) :
    exec (.rxCharacter l c true) s = .next (frameTaken s (acceptFrame s l kind seq payload) l) := by
  have length : (body ++ [c]).length = payload.length + 5 := by simp [whole]
  have receiver : heard s l = withReceiver (false, (s.link l).line, (s.link l).attempt) l s := rfl
  rw [exec_rxCharacter released running, rxCharacter_attempt attempt, scan_valid valid length, receiver, withReceiver_acceptFrame,
    attemptDropped_receiver, withReceiver_twice, withReceiver_link]
  rfl

end

end Sys2Proof.Machine
end

section
/-! Characters make frames (R58-R63, R65, R66, R69; O21), case by case. -/

namespace Sys2Proof.Machine

section
variable {s : State} {l : LinkId} {c kind seq : Byte} {body payload : List Byte}

/-- What every frame other than an IDENT leaves. -/
theorem acceptFrame_alone (s : State) (l : LinkId) (kind seq : Byte) (payload : List Byte) :
    linkAlone l s (acceptFrame s l kind seq payload) := by
  by_cases ident : kind = kIdent
  · subst ident
    rw [acceptFrame_ident, takeIdent_eq]
    have tracked : linkAlone l s (s.setLink l (trackedLink s l (s.link l) seq)) := (linkAlone.refl s).setLink _
    split
    next =>
      split
      next => exact (tracked.trans identSeen_alone).trans enterUp_alone
      next => exact tracked.trans identSeen_alone
    next =>
      split
      next => exact (tracked.trans identKnown_alone).trans enterMismatch_alone
      next => exact tracked.trans identKnown_alone
  · rw [acceptFrame_other ident]
    unfold takeFrame
    dsimp only
    split
    next => exact gapTold_alone.trans deliver_alone
    next =>
      split
      next => exact (gapTold_alone.trans enterUp_alone).trans deliver_alone
      next => exact gapTold_alone

theorem frameTaken_frame (s : State) (l : LinkId) (kind seq : Byte) (payload : List Byte) :
    eventFrame [.lu] s (frameTaken s (acceptFrame s l kind seq payload) l) :=
  eventFrame_setLu (acceptFrame_frame s l kind seq payload (.refl _ s) (by decide)) (by decide)

/-! ### Frames on a link that is UP (R63) -/

theorem acceptFrame_up (other : kind ≠ kIdent) (up : (s.link l).state = .up) :
    acceptFrame s l kind seq payload = deliver (gapTold s l seq) l kind payload (seqGap (s.link l) seq) := by
  have state : ((gapTold s l seq).link l).state = .up := by rw [gapTold_link]; exact up
  rw [acceptFrame_other other, takeFrame_up state]

theorem timed_up (up : (s.link l).state = .up) : (trackedLink s l (s.link l) seq).silence = startTimer s (cfgSilence s l) :=
  if_pos (.inr (.inl up))

/-- The frame is delivered in order, with the gap flag when the sequence jumped. -/
theorem acceptFrame_delivered (other : kind ≠ kIdent) (up : (s.link l).state = .up)
    (room : ((s.link l).path.filter PathItem.isFrame).length < 2) :
    (acceptFrame s l kind seq payload).link l = { s.link l with
        badRun := 0, silence := startTimer s (cfgSilence s l), tracked := some seq
        seqGaps := if seqGap (s.link l) seq then sat (s.link l).seqGaps else (s.link l).seqGaps
        path := (s.link l).path ++ [.frame kind payload (seqGap (s.link l) seq || (s.link l).firstAfterUp)]
        firstAfterUp := false }
      ∧ (acceptFrame s l kind seq payload).arrivals = (arrive s (linkOwner l) .link).arrivals := by
  have held : (((gapTold s l seq).link l).path.filter PathItem.isFrame).length < 2 := by rw [gapTold_link]; exact room
  rw [acceptFrame_up other up]
  refine ⟨?_, ?_⟩
  · rw [deliver_room_link held, gapTold_link, deliveredLink, ← timed_up (seq := seq) up]
    rfl
  · rw [deliver_room held]
    exact gapTold_arrive _ _

/-- The frame replaces the newer of two. -/
theorem acceptFrame_replaces {pre post : List PathItem} {x : PathItem} (other : kind ≠ kIdent) (up : (s.link l).state = .up)
    (path : (s.link l).path = pre ++ x :: post) (frame : x.isFrame = true) (one : (pre.filter PathItem.isFrame).length = 1)
    (newest : ∀ y ∈ post, y.isFrame = false) :
    (acceptFrame s l kind seq payload).link l = erredLink s { gapLink s l (s.link l) seq with
        path := pre ++ post ++ [.frame kind payload true], firstAfterUp := false } .overrun (.check, 0)
      ∧ askedFor (acceptFrame s l kind seq payload) .lu .statusPage := by
  have held : ¬ (((gapTold s l seq).link l).path.filter PathItem.isFrame).length < 2 := by
    rw [gapTold_link]
    exact path ▸ frames_full frame one
  rw [acceptFrame_up other up]
  refine ⟨?_, deliver_full_asked held⟩
  have left : dropNewestFrame (gapLink s l (s.link l) seq).path = pre ++ post := by
    rw [← dropNewestFrame_split frame newest, ← path]
    rfl
  rw [deliver_full_link held, gapTold_link, replacedLink, left, erredLink, gapTold_keeps.1]
  rfl

/-! ### Frames on a link that is DOWN (R69) -/

/-- The link is UP again, and the frame has not been delivered. -/
def linkResumed (s : State) (l : LinkId) (seq : Byte) : State := enterUp (gapTold s l seq) l .frameResumed

theorem acceptFrame_resumes (other : kind ≠ kIdent) (down : (s.link l).state = .down) (seen : (s.link l).identSeen = true) :
    acceptFrame s l kind seq payload = deliver (linkResumed s l seq) l kind payload true := by
  rw [acceptFrame_other other, takeFrame_resumed (by rw [gapTold_link]; exact down) (by rw [gapTold_link]; exact seen)]
  rfl

/-- The link that has come UP with the frame. -/
def resumedLink (s : State) (l : LinkId) (x : Link) (seq : Byte) : Link := changedLink (gapLink s l x seq) .up .frameResumed

theorem linkResumed_link (down : (s.link l).state = .down) :
    (linkResumed s l seq).link l = resumedLink s l (s.link l) seq := by
  have state : (gapLink s l (s.link l) seq).state ≠ .mismatch := by
    have same : (gapLink s l (s.link l) seq).state = (s.link l).state := rfl
    rw [same, down]
    exact nofun
  rw [linkResumed, enterUp_same, gapTold_link, upLink, if_neg state]
  rfl

theorem resumedLink_parts (down : (s.link l).state = .down) :
    (resumedLink s l (s.link l) seq).prevState = .down
      ∧ (resumedLink s l (s.link l) seq).path = (s.link l).path ++ [.change .down .up]
      ∧ (resumedLink s l (s.link l) seq).silence = startTimer s (cfgSilence s l) := by
  refine ⟨down, ?_, if_pos (.inr (.inr down))⟩
  rw [← down]
  rfl

theorem linkResumed_reports (latches : s.nu.latches.length = 24) : reported (linkResumed s l seq) .linkChange (linkNo l) :=
  enterUp_reports (by rw [gapTold_keeps.2]; exact latches)

theorem resumed_frames {p : List PathItem} : (p ++ [PathItem.change .down .up]).filter PathItem.isFrame = p.filter PathItem.isFrame := by
  rw [List.filter_append]
  exact List.append_nil _

theorem deliver_reports {t : State} {gap : Bool} {k : CondKind} {source : Nat} (h : reported t k source) :
    reported (deliver t l kind payload gap) k source := reported_of_nu h (by simp) (by simp)

/-! ### IDENT (R66) -/

/-- The state the IDENT meets. -/
def identMet (s : State) (l : LinkId) (seq : Byte) : State := s.setLink l (trackedLink s l (s.link l) seq)

theorem identMet_link : (identMet s l seq).link l = trackedLink s l (s.link l) seq := State.link_setLink_same _ _ _

theorem acceptFrame_expected (is : payByte payload 0 = expectedDevice l) : acceptFrame s l kIdent seq payload
    = if (s.link l).state = .unseen ∨ (s.link l).state = .mismatch ∨ (s.link l).state = .down then
        enterUp (identSeen (identMet s l seq) l (payByte payload 0)) l .identMatched
      else identSeen (identMet s l seq) l (payByte payload 0) := by
  have state : ((identMet s l seq).link l).state = (s.link l).state := by rw [identMet_link]; rfl
  rw [acceptFrame_ident, ← identMet, takeIdent_eq, if_pos is, state]

theorem acceptFrame_unexpected (not : payByte payload 0 ≠ expectedDevice l) : acceptFrame s l kIdent seq payload
    = if (s.link l).state = .unseen ∨ (s.link l).state = .up ∨ (s.link l).state = .down then
        enterMismatch (identKnown (identMet s l seq) l (payByte payload 0)) l
      else identKnown (identMet s l seq) l (payByte payload 0) := by
  have state : ((identMet s l seq).link l).state = (s.link l).state := by rw [identMet_link]; rfl
  rw [acceptFrame_ident, ← identMet, takeIdent_eq, if_neg not, state]

/-- The link that has seen the expected device, before it comes UP. -/
def seenLink (s : State) (l : LinkId) (x : Link) (seq device : Byte) : Link :=
  { trackedLink s l x seq with identKind := device, identSeen := true }

theorem identMet_seen {device : Byte} : (identSeen (identMet s l seq) l device).link l = seenLink s l (s.link l) seq device := by
  rw [identSeen_link, identMet_link]
  rfl

theorem identMet_known {device : Byte} : (identKnown (identMet s l seq) l device).link l
    = { trackedLink s l (s.link l) seq with identKind := device } := by rw [identKnown_link, identMet_link]

theorem identMet_up {device : Byte} : (enterUp (identSeen (identMet s l seq) l device) l .identMatched).link l
    = upLink s l (seenLink s l (s.link l) seq device) .identMatched := by
  rw [enterUp_same, identMet_seen, upLink, startTimer, cfgSilence, cfg, identSeen_keeps.1]
  rfl

theorem identMet_mismatch {device : Byte} : (enterMismatch (identKnown (identMet s l seq) l device) l).link l
    = mismatchLink { trackedLink s l (s.link l) seq with identKind := device } := by
  rw [enterMismatch_same, identMet_known]

end

/-! ### A link that receives nothing (R65) -/

theorem stopped_quiet {s : State} {l : LinkId} (stopped : (s.link l).line = .stopped) (c : Byte) (high : Bool) :
    exec (.rxCharacter l c high) s = .next s ∧ exec (.lineRiseFraming l) s = .next s ∧ exec (.gapTimeout l) s = .next s
      ∧ exec (.breakDetected l) s = .next s ∧ exec (.breakLineHigh l) s = .next s :=
  ⟨stepIf_disabled (by simp [stopped]), stepIf_disabled (by simp [stopped]), stepIf_disabled (by simp [stopped]),
    stepIf_disabled (by simp [stopped]), stepIf_disabled (by simp [stopped])⟩

end Sys2Proof.Machine
end

section
/-! Received characters become frames, or errors that are counted (R58-R63, R65, R66, R69; O21). -/

namespace Sys2Proof.Machine

section
variable {s : State} {l : LinkId} {c : Byte} {body : List Byte}

/-- A character outside an attempt opens one, or is dropped. -/
theorem exec_rx_hunting (released : s.bi.inReset = false) (running : (s.link l).line = .running) (hunts : (s.link l).attempt = none) :
    exec (.rxCharacter l c true) s = .next
      (s.setLink l { s.link l with freshStart := false, attempt := if c = syncByte then some [c] else none }) := by
  rw [exec_rxCharacter released running, rxCharacter_scans, hunts]
  by_cases sync : c = syncByte
  · subst sync
    have more : tryFrame l [] = .incomplete := rfl
    have kept := scan_incomplete (s := heard s l) more
    rw [heard_link, heard, State.setLink_twice] at kept
    exact congrArg _ kept
  · have dropped := scan_no_sync (s := heard s l) (l := l) (bs := [c]) (by simpa using sync)
    rw [attemptDropped, heard_link, heard, State.setLink_twice] at dropped
    rw [if_neg sync]
    exact congrArg _ dropped

theorem exec_rx_incomplete (released : s.bi.inReset = false) (running : (s.link l).line = .running)
    (attempt : (s.link l).attempt = some (syncByte :: body)) (more : tryFrame l (body ++ [c]) = .incomplete) :
    exec (.rxCharacter l c true) s = .next
      (s.setLink l { s.link l with freshStart := false, attempt := some (syncByte :: body ++ [c]) }) := by
  have kept := scan_incomplete (s := heard s l) more
  rw [heard_link, heard, State.setLink_twice] at kept
  rw [exec_rxCharacter released running, rxCharacter_attempt attempt]
  exact congrArg _ kept

/-- A character that ends the attempt by an error. -/
theorem exec_rx_error {err : ErrorKind} {field : RxField} (released : s.bi.inReset = false) (running : (s.link l).line = .running)
    (attempt : (s.link l).attempt = some (syncByte :: body)) (fails : tryFrame l (body ++ [c]) = .error err field) :
    exec (.rxCharacter l c true) s = .next (scan (badAttempt (heard s l) l err (field, 0)) l 0 (body ++ [c])) := by
  rw [exec_rxCharacter released running, rxCharacter_attempt attempt, scan_error fails]

theorem heard_rescanned {err : ErrorKind} {field : RxField} (released : s.bi.inReset = false) (latches : s.nu.latches.length = 24)
    (running : (s.link l).line = .running) (bytes : List Byte) :
    rescanned (heard s l) (attemptDropped (badAttempt (heard s l) l err (field, 0)) l)
      (scan (badAttempt (heard s l) l err (field, 0)) l 0 bytes) l
      { erredLink s { s.link l with freshStart := false } err (field, 0) with attempt := none } bytes := by
  have found := badAttempt_rescanned (s := heard s l) (l := l) (kind := err) (place := (field, 0)) released latches
    (by rw [heard_link]; exact running) bytes
  rw [heard_link] at found
  exact found

/-- What an error's counter and record leave of the link, by its kind. -/
theorem erredLink_heard {err : ErrorKind} {field : RxField} (kinds : err = .length ∨ err = .kind ∨ err = .check) :
    ({ erredLink s { s.link l with freshStart := false } err (field, 0) with attempt := none } : Link) = { s.link l with
      freshStart := false, attempt := none
      errors := (match (generalizing := false) err with
        | .length => { (s.link l).errors with length := sat (s.link l).errors.length }
        | .kind => { (s.link l).errors with kind := sat (s.link l).errors.kind }
        | _ => { (s.link l).errors with check := sat (s.link l).errors.check })
      lastError := { kind := err, field := field, offset := 0, stamp := s.re.clock } } := by
  obtain rfl | rfl | rfl := kinds
  · rfl
  · rfl
  · rfl

end

/-! ### The frame's part in each state of the link -/

section
variable {s : State} {l : LinkId} {c kind seq : Byte} {body payload : List Byte} {gap : Bool}

theorem seqGap_eq (is : gap = match (s.link l).tracked with | some p => seq != p + 1 | none => false) :
    gap = seqGap (s.link l) seq := is

/-- A frame on a link that is UNSEEN or in MISMATCH leaves it so. -/
theorem acceptFrame_discarded (other : kind ≠ kIdent) (state : (s.link l).state = .unseen ∨ (s.link l).state = .mismatch) :
    acceptFrame s l kind seq payload = gapTold s l seq := by
  have met : ((gapTold s l seq).link l).state = (s.link l).state := by rw [gapTold_link]; rfl
  rw [acceptFrame_other other]
  refine takeFrame_dropped ?_
  rw [met]
  exact state.imp_right .inl

theorem acceptFrame_unseenDown (other : kind ≠ kIdent) (down : (s.link l).state = .down) (none_ : (s.link l).identSeen = false) :
    acceptFrame s l kind seq payload = gapTold s l seq := by
  rw [acceptFrame_other other]
  refine takeFrame_dropped (.inr (.inr ?_))
  rw [gapTold_link]
  exact ⟨down, none_⟩

end

/-- Settles O21: a whole frame by `exec_rx_valid` and what `acceptFrame` does in the link's state, a failed one by
`heard_rescanned`. -/
theorem charactersMakeFrames : Obligations.CharactersMakeFrames := by
  unfold Obligations.CharactersMakeFrames
  refine ⟨?low, ?hunting, ?incomplete, ?whole, ?opening, ?delivered, ?replaced, ?resumed, ?resumedFull, ?ident, ?discarded, ?stopped,
    ?failed, ?failedSilent, ?fields, ?check, ?sum⟩
  case low =>
    intro s l c released running
    rw [exec_rxCharacter released running]
    have runs : rxCharacter s l c false = (heard s l).setLink l { (heard s l).link l with line := .lowStop } := rfl
    rw [runs, heard_link, heard, State.setLink_twice]
  case hunting => exact fun s l c => exec_rx_hunting
  case incomplete => exact fun s l c body => exec_rx_incomplete
  case whole => exact fun l kind seq lo hi payload least => tryFrame_whole
  case opening =>
    refine fun l len kind => ⟨tryFrame_length, fun fits => ⟨tryFrame_opened fits, tryFrame_kind fits, fun least allowed => ?_⟩⟩
    split
    next short => exact tryFrame_short fits allowed short
    next enough => exact tryFrame_header fits allowed enough
  case delivered =>
    intro s l c kind seq body payload gap released is running attempt valid whole other up room
    obtain ⟨link, arrivals⟩ := acceptFrame_delivered (seq := seq) (payload := payload) other up room
    refine ⟨_, exec_rx_valid released running attempt valid whole, ?_, arrivals, frameTaken_alone (acceptFrame_alone s l kind seq payload),
      frameTaken_frame s l kind seq payload⟩
    rw [frameTaken_link, link, seqGap_eq is]
  case replaced =>
    intro s l c kind seq k0 body payload p0 g0 pre post released running attempt valid whole other up path one newest
    obtain ⟨link, asked⟩ := acceptFrame_replaces (seq := seq) (payload := payload) other up path rfl one newest
    refine ⟨_, exec_rx_valid released running attempt valid whole, ?_⟩
    rw [frameTaken_link, link]
    exact ⟨rfl, rfl, rfl, rfl, rfl, rfl, up, askedFor_setLink asked, frameTaken_alone (acceptFrame_alone s l kind seq payload),
      frameTaken_frame s l kind seq payload⟩
  case resumed =>
    intro s l c kind seq body payload released latches running attempt valid whole other down room
    have alone := frameTaken_alone (acceptFrame_alone s l kind seq payload)
    have frame := frameTaken_frame s l kind seq payload
    cases seen : (s.link l).identSeen with
    | true =>
      have resumes := acceptFrame_resumes (seq := seq) (payload := payload) other down seen
      obtain ⟨prev, path, silence⟩ := resumedLink_parts (seq := seq) down
      have held : (((linkResumed s l seq).link l).path.filter PathItem.isFrame).length < 2 := by
        rw [linkResumed_link down, path, resumed_frames]
        exact room
      have link : (acceptFrame s l kind seq payload).link l = deliveredLink (resumedLink s l (s.link l) seq) kind payload true := by
        rw [resumes, deliver_room_link held, linkResumed_link down]
      have reports : reported (acceptFrame s l kind seq payload) .linkChange (linkNo l) := by
        rw [resumes]
        exact deliver_reports (linkResumed_reports latches)
      have asked : askedFor (acceptFrame s l kind seq payload) .lu .statusPage := by
        rw [resumes]
        exact deliver_asked askedFor_enterUp
      refine ⟨_, exec_rx_valid released running attempt valid whole, ?_⟩
      rw [frameTaken_link, link]
      refine ⟨rfl, rfl, silence, fun _ => ⟨rfl, rfl, prev, ?_, rfl, rfl, reported_setLink reports, askedFor_setLink asked⟩,
        nofun, alone, frame⟩
      rw [deliveredLink, path, List.append_assoc]
      rfl
    | false =>
      have link := congrArg (fun t => State.link t l) (acceptFrame_unseenDown (seq := seq) (payload := payload) other down seen)
      have nu := congrArg State.nu (acceptFrame_unseenDown (seq := seq) (payload := payload) other down seen)
      have linked : (acceptFrame s l kind seq payload).link l = gapLink s l (s.link l) seq := link.trans gapTold_link
      refine ⟨_, exec_rx_valid released running attempt valid whole, ?_⟩
      rw [frameTaken_link, linked]
      exact ⟨rfl, rfl, if_pos (.inr (.inr down)), nofun, fun _ => ⟨down, rfl, nu.trans gapTold_keeps.2⟩, alone, frame⟩
  case resumedFull =>
    intro s l c kind seq k0 body payload p0 g0 pre post released latches running attempt valid whole other down seen before one newest
    have resumes := acceptFrame_resumes (seq := seq) (payload := payload) other down seen
    obtain ⟨prev, path, silence⟩ := resumedLink_parts (seq := seq) down
    have changed : (resumedLink s l (s.link l) seq).path = pre ++ .frame k0 p0 g0 :: (post ++ [.change .down .up]) := by
      rw [path, before]
      simp
    have others : ∀ x ∈ post ++ [PathItem.change .down .up], x.isFrame = false := by
      intro x is
      obtain is | is := List.mem_append.mp is
      · exact newest x is
      · rw [List.mem_singleton.mp is]
        rfl
    have held : ¬ (((linkResumed s l seq).link l).path.filter PathItem.isFrame).length < 2 := by
      rw [linkResumed_link down, changed]
      exact frames_full rfl one
    have left : dropNewestFrame (resumedLink s l (s.link l) seq).path = pre ++ (post ++ [.change .down .up]) := by
      rw [changed, dropNewestFrame_split rfl others]
    have clock : (linkResumed s l seq).re = s.re := by simp [linkResumed, gapTold_keeps]
    have link : (acceptFrame s l kind seq payload).link l
        = erredLink s (replacedLink (resumedLink s l (s.link l) seq) kind payload) .overrun (.check, 0) := by
      rw [resumes, deliver_full_link held, linkResumed_link down, erredLink, clock]
      rfl
    have reports : reported (acceptFrame s l kind seq payload) .linkChange (linkNo l) := by
      rw [resumes]
      exact deliver_reports (linkResumed_reports latches)
    have asked : askedFor (acceptFrame s l kind seq payload) .lu .statusPage := by
      rw [resumes]
      exact deliver_full_asked held
    refine ⟨_, exec_rx_valid released running attempt valid whole, ?_⟩
    rw [frameTaken_link, link]
    refine ⟨rfl, rfl, prev, ?_, rfl, rfl, rfl, rfl, rfl, rfl, silence, reported_setLink reports, askedFor_setLink asked,
      frameTaken_alone (acceptFrame_alone s l kind seq payload), frameTaken_frame s l kind seq payload⟩
    rw [erredLink, replacedLink, left]
    simp
  case ident =>
    intro s l c seq body payload released latches running attempt valid whole live
    have alone := frameTaken_alone (acceptFrame_alone s l kIdent seq payload)
    have frame := frameTaken_frame s l kIdent seq payload
    refine ⟨_, exec_rx_valid released running attempt valid whole, ?_⟩
    rw [frameTaken_link]
    by_cases is : payByte payload 0 = expectedDevice l
    · by_cases up : (s.link l).state = .up
      · have stays : ¬ ((s.link l).state = .unseen ∨ (s.link l).state = .mismatch ∨ (s.link l).state = .down) := by simp [up]
        have accepted : acceptFrame s l kIdent seq payload = _ := (acceptFrame_expected (seq := seq) is).trans (if_neg stays)
        rw [accepted, identMet_seen]
        exact ⟨rfl, rfl, rfl, rfl, rfl,
          fun _ => ⟨up, rfl, if_pos (.inr (.inl up)), fun not => absurd up not, fun _ => ⟨rfl, rfl, identSeen_keeps.2⟩⟩,
          fun not => absurd is not, askedFor_setLink identSeen_asked, accepted ▸ alone, accepted ▸ frame⟩
      · have comes : (s.link l).state = .unseen ∨ (s.link l).state = .mismatch ∨ (s.link l).state = .down := by
          simpa [up] using live
        have accepted : acceptFrame s l kIdent seq payload = _ := (acceptFrame_expected (seq := seq) is).trans (if_pos comes)
        have silence : (upLink s l (seenLink s l (s.link l) seq (payByte payload 0)) .identMatched).silence
            = startTimer s (cfgSilence s l) := by
          obtain state | state | state := comes
          · exact (if_neg (by simp [seenLink, trackedLink, state])).trans (if_pos (.inl state))
          · exact if_pos state
          · exact (if_neg (by simp [seenLink, trackedLink, state])).trans (if_pos (.inr (.inr state)))
        have reports : reported (acceptFrame s l kIdent seq payload) .linkChange (linkNo l) := by
          rw [accepted]
          exact enterUp_reports (by rw [identSeen_keeps.2]; exact latches)
        have asked : askedFor (acceptFrame s l kIdent seq payload) .lu .statusPage := by
          rw [accepted]
          exact askedFor_enterUp
        have link : (acceptFrame s l kIdent seq payload).link l = _ := (congrArg (fun t => State.link t l) accepted).trans identMet_up
        rw [link]
        exact ⟨rfl, rfl, rfl, rfl, rfl,
          fun _ => ⟨rfl, rfl, silence, fun _ => ⟨rfl, rfl, rfl, rfl, reported_setLink reports⟩, fun not => absurd not up⟩,
          fun not => absurd is not, askedFor_setLink asked, alone, frame⟩
    · by_cases mismatch : (s.link l).state = .mismatch
      · have stays : ¬ ((s.link l).state = .unseen ∨ (s.link l).state = .up ∨ (s.link l).state = .down) := by simp [mismatch]
        have accepted : acceptFrame s l kIdent seq payload = _ := (acceptFrame_unexpected (seq := seq) is).trans (if_neg stays)
        rw [accepted, identMet_known]
        exact ⟨rfl, rfl, rfl, rfl, rfl, fun expected => absurd expected is,
          fun _ => ⟨mismatch, rfl, fun not => absurd mismatch not, fun _ => ⟨rfl, identKnown_keeps.2⟩⟩,
          askedFor_setLink identKnown_asked, accepted ▸ alone, accepted ▸ frame⟩
      · have leaves : (s.link l).state = .unseen ∨ (s.link l).state = .up ∨ (s.link l).state = .down := by
          obtain state | state | state | state := live
          · exact .inl state
          · exact absurd state mismatch
          · exact .inr (.inr state)
          · exact .inr (.inl state)
        have accepted : acceptFrame s l kIdent seq payload = _ := (acceptFrame_unexpected (seq := seq) is).trans (if_pos leaves)
        have reports : reported (acceptFrame s l kIdent seq payload) .linkChange (linkNo l) := by
          rw [accepted]
          exact enterMismatch_reports (by rw [identKnown_keeps.2]; exact latches)
        have asked : askedFor (acceptFrame s l kIdent seq payload) .lu .statusPage := by
          rw [accepted]
          exact askedFor_enterMismatch
        have link : (acceptFrame s l kIdent seq payload).link l = _ :=
          (congrArg (fun t => State.link t l) accepted).trans identMet_mismatch
        rw [link]
        exact ⟨rfl, rfl, rfl, rfl, rfl, fun expected => absurd expected is,
          fun _ => ⟨rfl, rfl, fun _ => ⟨rfl, rfl, rfl, rfl, rfl, rfl, reported_setLink reports⟩, fun not => absurd not mismatch⟩,
          askedFor_setLink asked, alone, frame⟩
  case discarded =>
    intro s l c kind seq body payload gap released is running attempt valid whole other state
    have accepted := acceptFrame_discarded (seq := seq) (payload := payload) other state
    have runs : exec (.rxCharacter l c true) s = .next (frameTaken s (gapTold s l seq) l) := by
      rw [← accepted]
      exact exec_rx_valid released running attempt valid whole
    have frame := frameTaken_frame s l kind seq payload
    rw [accepted] at frame
    have same := seqGap_eq is
    refine ⟨_, runs, ?_, gapTold_keeps.2, fun jumps => askedFor_setLink (gapTold_asked (same ▸ jumps)), frameTaken_alone gapTold_alone,
      frame⟩
    have silence : (trackedLink s l (s.link l) seq).silence
        = if (s.link l).state = .unseen then startTimer s (cfgSilence s l) else (s.link l).silence := by
      obtain state | state := state
      · exact (if_pos (.inl state)).trans (if_pos state).symm
      · exact (if_neg (by simp [state])).trans (if_neg (by simp [state])).symm
    rw [frameTaken_link, gapTold_link, same, ← silence]
    rfl
  case stopped => exact fun s l c high stopped => stopped_quiet stopped c high
  case failed =>
    intro s l c body err field released latches running attempt fails
    have found := heard_rescanned (err := err) (field := field) released latches running (body ++ [c])
    rw [erredLink_heard (tryFrame_error_kind fails)] at found
    exact ⟨_, _, exec_rx_error released running attempt fails, found.counted, found.asked, heard_alone.trans found.alone,
      found.frame (eventFrame_setLu (.refl _ s) (by decide)), found.arrive (by rw [heard_link])⟩
  case failedSilent =>
    intro s l c body err field released latches running attempt fails silent
    have found := heard_rescanned (err := err) (field := field) released latches running (body ++ [c])
    rw [erredLink_heard (tryFrame_error_kind fails)] at found
    have runs := exec_rx_error released running attempt fails
    rw [found.silent silent] at runs
    exact ⟨_, runs, found.counted, tryFrame_error_kind fails, found.asked, heard_alone.trans found.alone,
      found.frame (eventFrame_setLu (.refl _ s) (by decide))⟩
  case fields => exact frameFields_read
  case check => exact crc16_eq_checkRule
  case sum => exact fun _ => rfl

end Sys2Proof.Machine
end

section
/-! Time and pins (R24, R29, R139; O20). -/

namespace Sys2Proof.Machine

/-! ### One filter (R139) -/

theorem Filter.tick_still {f : Filter} (still : f.count = none) : f.tick = f := by simp only [Filter.tick, still]

theorem Filter.tick_counts {f : Filter} {n : Nat} (counts : f.count = some n) (early : n < 19) :
    f.tick = { f with count := some (n + 1) } := by
  simp only [Filter.tick, counts, if_neg (Nat.not_le.mpr early)]

theorem Filter.tick_settles {f : Filter} {n : Nat} (counts : f.count = some n) (last : 19 ≤ n) :
    f.tick = { f with level := f.raw, count := none } := by
  simp only [Filter.tick, counts, if_pos last]

theorem Filter.rawChange_same {f : Filter} {level : Bool} (same : level = f.raw) : f.rawChange level = f := if_pos same

theorem Filter.rawChange_other {f : Filter} {level : Bool} (other : level ≠ f.raw) :
    f.rawChange level = { f with raw := level, count := if level = f.level then none else some 0 } := if_neg other

/-! ### The millisecond -/

/-- Each filter counts on, and the timers that come due reach their units before the edges. -/
theorem laneClockTick_arrivals (s : State) : (laneClockTick s).arrivals = (arriveAll s
    ((UnitTimer.all.filter fun x => !timerDue s (x.of s) && timerDue (laneClockTick s) (x.of s)).map (fun x => (x.owner, .timer x))
      ++ ((laneClockTick s).tu.edges.drop s.tu.edges.length).map fun _ => (BlockId.tu, UnitEvent.edge))).arrivals := by
  have made : (laneClockTick s).tu.edges.drop s.tu.edges.length = s.tu.senseFilter.edge .sense ++ s.tu.keyFilter.edge .key := by
    have edges : (laneClockTick s).tu.edges = s.tu.edges ++ (s.tu.senseFilter.edge .sense ++ s.tu.keyFilter.edge .key) :=
      List.append_assoc _ _ _
    rw [edges, List.drop_left]
  rw [made]
  rfl

/-! ### The pins -/

/-- What a pin's change makes of its filter: under RESET_N only the level is seen. -/
def pinSeen (s : State) (f : Filter) (level : Bool) : Filter := if s.bi.inReset then { f with raw := level } else f.rawChange level

theorem pinSeen_held {s : State} {f : Filter} {level : Bool} (held : s.bi.inReset = true) :
    pinSeen s f level = { f with raw := level } := if_pos held

theorem pinSeen_high {s : State} {f : Filter} {level : Bool} (high : s.bi.inReset = false) : pinSeen s f level = f.rawChange level :=
  if_neg (by simp [high])

theorem rawLevelChange_sense (s : State) (level : Bool) :
    rawLevelChange s .sense level = s.setTu { s.tu with senseFilter := pinSeen s s.tu.senseFilter level } := rfl

theorem rawLevelChange_key (s : State) (level : Bool) :
    rawLevelChange s .key level = s.setTu { s.tu with keyFilter := pinSeen s s.tu.keyFilter level } := rfl

/-- The three rules of a pin's change. -/
theorem pinSeen_rule (s : State) (f : Filter) (level : Bool) :
    (s.bi.inReset = true → pinSeen s f level = { f with raw := level })
      ∧ (s.bi.inReset = false → (level = f.raw → pinSeen s f level = f)
          ∧ (level ≠ f.raw → pinSeen s f level = { f with raw := level, count := if level = f.level then none else some 0 })) :=
  ⟨pinSeen_held, fun high => ⟨fun same => (pinSeen_high high).trans (Filter.rawChange_same same),
    fun other => (pinSeen_high high).trans (Filter.rawChange_other other)⟩⟩

/-- Settles O20: each filter by the lemmas on `Filter.tick` and `Filter.rawChange`. -/
theorem ticksAndPins : Obligations.TicksAndPins := by
  unfold Obligations.TicksAndPins
  refine ⟨fun s high => ?tick, fun s i level => ?pin⟩
  case tick =>
    refine ⟨laneClockTick s, stepIf_enabled high rfl, rfl, ?_, rfl, rfl, laneClockTick_arrivals s,
      laneClockTick_frame s (.refl _ s) (by decide) (by decide)⟩
    rintro f g (⟨rfl, rfl⟩ | ⟨rfl, rfl⟩)
    · exact ⟨Filter.tick_still, fun _ => Filter.tick_counts, fun _ => Filter.tick_settles⟩
    · exact ⟨Filter.tick_still, fun _ => Filter.tick_counts, fun _ => Filter.tick_settles⟩
  case pin =>
    have frame := rawLevelChange_frame s i level (.refl [.tu] s) (by decide)
    refine ⟨rawLevelChange s i level, rfl, ?_, ?_, frame⟩
    · rintro f g h k (⟨rfl, rfl, rfl, rfl, rfl⟩ | ⟨rfl, rfl, rfl, rfl, rfl⟩)
      · exact ⟨rfl, pinSeen_rule s s.tu.senseFilter level⟩
      · exact ⟨rfl, pinSeen_rule s s.tu.keyFilter level⟩
    · cases i with
      | sense => rfl
      | key => rfl

end Sys2Proof.Machine
end

section
/-! What the Notice Unit takes when it looks (R43, R44, R46, R47), and a written completion (R25, R45; O18). -/

namespace Sys2Proof.Machine

/-! ### The look -/

section
variable {s t : State}

theorem latchEligible_iff (s : State) (i : Nat) : latchEligible s i = true
    ↔ (latchAt s i).pending = true ∧ s.bi.noticeMask.getLsbD ((latchKind i).code - 1) = false := by
  rw [latchEligible, kindMasked, Bool.and_eq_true, Bool.not_eq_true']

theorem not_latchEligible_iff (s : State) (i : Nat) : latchEligible s i = false
    ↔ (latchAt s i).pending = false ∨ s.bi.noticeMask.getLsbD ((latchKind i).code - 1) = true := by
  rw [latchEligible, kindMasked, Bool.and_eq_false_iff, Bool.not_eq_false']

theorem firstEligible_iff (s : State) (i : Nat) : firstEligible s = some i ↔ firstOpen s s.bi.noticeMask i := by
  rw [firstEligible, List.find?_range_eq_some, firstOpen]
  simp only [latchEligible_iff, List.mem_range, Bool.not_eq_true', not_latchEligible_iff]
  exact ⟨fun ⟨⟨pending, open_⟩, inside, before⟩ => ⟨inside, pending, open_, before⟩,
    fun ⟨inside, pending, open_, before⟩ => ⟨⟨pending, open_⟩, inside, before⟩⟩

theorem takeLatch_taken (s : State) (i : Nat) : latchTaken s (takeLatch s i) i := by
  unfold takeLatch askSalePayload
  dsimp only
  split
  next => exact ⟨rfl, rfl⟩
  next => exact ⟨rfl, rfl⟩

/-- The look of a free writer with no completion owed. -/
theorem look_looked (free : s.nu.writer = .free) (none_ : s.nu.owed = none) :
    looked s (look s) s.bi.noticeMask s.nu.reserved (freeSlots s) := by
  refine ⟨fun i open_ room => ?_, fun nothing => ?_⟩
  · have found := (firstEligible_iff s i).mpr open_
    simp only [look, free, none_, found, if_pos room]
    exact takeLatch_taken s i
  · have stays : look s = s := by
      cases found : firstEligible s with
      | none => simp only [look, free, none_, found]
      | some i =>
        have full : ¬ s.nu.reserved < freeSlots s := by
          obtain closed | full := nothing
          · exact absurd ((firstEligible_iff s i).mp found) (closed i)
          · exact Nat.not_lt.mpr full
        simp only [look, free, none_, found, if_neg full]
    rw [stays]
    exact ⟨rfl, free⟩

theorem look_completion {c : Completion} (free : s.nu.writer = .free) (owed : s.nu.owed = some c) : look s = beginCompletion s c := by
  simp only [look, free, owed]

theorem look_freeSlots (s : State) : freeSlots (look s) = freeSlots s := by simp [freeSlots, unconsumed, consumerCopy]

/-- What is taken depends on the latches before and on latches and writer after. -/
theorem looked_congr {z u : State} {mask : Word} {reserved free : Nat} (h : looked s t mask reserved free)
    (before : z.nu.latches = s.nu.latches) (after : u.nu.latches = t.nu.latches) (writer : u.nu.writer = t.nu.writer) :
    looked z u mask reserved free := by
  have at_ (i : Nat) : latchAt z i = latchAt s i := by rw [latchAt, before]; rfl
  unfold looked firstOpen latchTaken at *
  simp only [at_, before, after, writer]
  exact h

end

/-! ### The written record (R44, R50) -/

section
variable {s : State} {o : OpenWindow} {reserved : Nat}

theorem recordWritten_eq (s : State) (o : OpenWindow) (reserved : Nat) : (recordWritten s o reserved).nu = { s.nu with
    producer := s.nu.producer + 1, reserved := reserved, writer := .free
    attn := s.nu.producer + 1 != consumerCopy s } := by
  simp [recordWritten, updateAttn, consumerCopy]

theorem recordWritten_opened (s : State) (o : OpenWindow) (reserved : Nat) :
    (recordWritten s o reserved).bi.opened = s.bi.opened.filter fun w => w.id != o.id := by
  simp [recordWritten, removeWindow, updateAttn]

theorem recordWritten_others (s : State) (o : OpenWindow) (reserved : Nat) : ∀ w ∈ (recordWritten s o reserved).bi.opened, w.id ≠ o.id := by
  intro w is
  rw [recordWritten_opened] at is
  simpa using (List.mem_filter.mp is).2

/-! ### The next request (R21, R25, R43) -/

theorem nextRequest_idle (none_ : producerCopy s = s.re.consumer) : nextRequest s = s.setRe { s.re with phase := .idle } := by
  rw [nextRequest, if_pos none_]

theorem nextRequest_granted (some_ : producerCopy s ≠ s.re.consumer) (fits : reservationFits s = true) :
    nextRequest s = grantReservation s := by rw [nextRequest, if_neg some_, if_pos fits]

theorem nextRequest_stalled (some_ : producerCopy s ≠ s.re.consumer) (full : ¬ reservationFits s = true) :
    nextRequest s = s.setRe { s.re with phase := .stalled } := by rw [nextRequest, if_neg some_, if_neg full]

theorem reservationFits_iff (s : State) :
    reservationFits s = true ↔ unconsumed s + s.nu.reserved + conditionBegun s.nu.writer < 256 := by
  rw [reservationFits, decide_eq_true_eq]

/-- What the ask for the next slot leaves, by what is submitted and by what is free. -/
structure nextAsked (s t : State) : Prop where
  nu : t.nu = { s.nu with reserved := t.nu.reserved }
  re : t.re = { s.re with phase := t.re.phase, fetched := t.re.fetched }
  idle : producerCopy s = s.re.consumer → t.re.phase = .idle ∧ t.nu.reserved = s.nu.reserved
  asked : producerCopy s ≠ s.re.consumer → if unconsumed s + s.nu.reserved + conditionBegun s.nu.writer < 256 then
    t.re.phase = .fetching ∧ t.nu.reserved = 1 else t.re.phase = .stalled ∧ t.nu.reserved = s.nu.reserved

theorem nextRequest_asked (s : State) : nextAsked s (nextRequest s) := by
  by_cases none_ : producerCopy s = s.re.consumer
  · rw [nextRequest_idle none_]
    exact ⟨rfl, rfl, fun _ => ⟨rfl, rfl⟩, fun some_ => absurd none_ some_⟩
  · by_cases fits : reservationFits s = true
    · rw [nextRequest_granted none_ fits]
      exact ⟨rfl, rfl, fun none => absurd none none_, fun _ => by rw [if_pos ((reservationFits_iff s).mp fits)]; exact ⟨rfl, rfl⟩⟩
    · rw [nextRequest_stalled none_ fits]
      exact ⟨rfl, rfl, fun none => absurd none none_,
        fun _ => by rw [if_neg (fun room => fits ((reservationFits_iff s).mpr room))]; exact ⟨rfl, rfl⟩⟩

/-- One slot is reserved where the engine fetches, and none else. -/
theorem nextAsked.reserves {t : State} (h : nextAsked s t) (none_ : s.nu.reserved = 0) :
    t.nu.reserved = if t.re.phase = .fetching then 1 else 0 := by
  by_cases submitted : producerCopy s = s.re.consumer
  · obtain ⟨phase, reserved⟩ := h.idle submitted
    rw [phase, reserved, none_]
    rfl
  · have asked := h.asked submitted
    split at asked
    next =>
      obtain ⟨phase, reserved⟩ := asked
      rw [phase, reserved]
      rfl
    next =>
      obtain ⟨phase, reserved⟩ := asked
      rw [phase, reserved, none_]
      rfl

end

/-! ### The completion has been written (R25) -/

section
variable {s : State} {o : OpenWindow}

/-- The record is in memory, and the engine has left COMPLETING. -/
def completionLeft (s : State) (o : OpenWindow) : State := leaveCompleting (recordWritten s o 0)

theorem completionLeft_nu (s : State) (o : OpenWindow) : (completionLeft s o).nu = { s.nu with
    producer := s.nu.producer + 1, reserved := 0, writer := .free, attn := s.nu.producer + 1 != consumerCopy s } := recordWritten_eq s o 0

theorem completionLeft_re (s : State) (o : OpenWindow) : (completionLeft s o).re = { s.re with phase := .idle, outcome := none } := by
  simp [completionLeft, leaveCompleting]

theorem completionLeft_copies (s : State) (o : OpenWindow) : producerCopy (completionLeft s o) = producerCopy s
    ∧ (completionLeft s o).bi.noticeMask = s.bi.noticeMask := by simp [completionLeft, leaveCompleting, producerCopy]

theorem completionLeft_frame (s : State) (o : OpenWindow) : eventFrame [.bi, .re, .nu] s (completionLeft s o) :=
  eventFrame_setRe (recordWritten_frame s o 0 (.refl _ s) (by decide) (by decide)) (by decide)

theorem exec_completionWritten {askFirst : Bool} (high : s.bi.inReset = false) (record : writtenRecord s = some o)
    (writer : s.nu.writer = .completion) (other : recKind s.re.record ≠ some .laneReset) :
    exec (.completionWritten askFirst) s = .next (afterCompletion (completionLeft s o) askFirst) := by
  have runs : completionWritten s o askFirst = afterCompletion (completionLeft s o) askFirst := by
    simp only [completionWritten, if_neg other]
    rfl
  have step : exec (.completionWritten askFirst) s = execCompletionWritten askFirst s := rfl
  rw [step, ← runs]
  simp only [execCompletionWritten, record]
  exact stepIf_enabled high (by simp [writer])

/-- What follows the written completion, whichever of the ask and the look comes first. -/
structure completionFreed (s t : State) (o : OpenWindow) (askFirst : Bool) : Prop where
  memory : t.mem = s.mem
  producer : t.nu.producer = s.nu.producer + 1
  attn : t.nu.attn = (s.nu.producer + 1 != consumerCopy s)
  opened : ∀ w ∈ t.bi.opened, w.id ≠ o.id
  outcome : t.re.outcome = none
  consumer : t.re.consumer = s.re.consumer
  idle : producerCopy s = s.re.consumer → t.re.phase = .idle ∧ t.nu.reserved = 0
  asked : producerCopy s ≠ s.re.consumer →
    if unconsumed t + (if askFirst = true then 0 else conditionBegun t.nu.writer) < 256 then t.re.phase = .fetching ∧ t.nu.reserved = 1
    else t.re.phase = .stalled ∧ t.nu.reserved = 0
  looks : looked s t s.bi.noticeMask (if askFirst = true ∧ t.re.phase = .fetching then 1 else 0) (freeSlots t)

theorem askFirst_freed (none_ : s.nu.owed = none) : completionFreed s (look (nextRequest (completionLeft s o))) o true := by
  have left := completionLeft_nu s o
  have leftRe := completionLeft_re s o
  have copies := completionLeft_copies s o
  have opened : ∀ w ∈ (completionLeft s o).bi.opened, w.id ≠ o.id := recordWritten_others s o 0
  have memory : (completionLeft s o).mem = s.mem := by simp [completionLeft, leaveCompleting]
  generalize completionLeft s o = u at *
  obtain ⟨nu, re, idle, asked⟩ := nextRequest_asked u
  have reserves := (nextRequest_asked u).reserves (by rw [left])
  have free : (nextRequest u).nu.writer = .free := by rw [nu, left]
  have notOwed : (nextRequest u).nu.owed = none := by rw [nu, left]; exact none_
  have looks := look_looked free notOwed
  have unconsumed : unconsumed (look (nextRequest u)) = unconsumed u := by simp [unconsumed, consumerCopy]
  have fields := look_fields (nextRequest u)
  have latches : (nextRequest u).nu.latches = s.nu.latches := by rw [nu, left]
  have mask : (nextRequest u).bi.noticeMask = s.bi.noticeMask := by simpa using copies.2
  have lookRe : (look (nextRequest u)).re = (nextRequest u).re := by simp
  have reserved : (look (nextRequest u)).nu.reserved = (nextRequest u).nu.reserved := by simp
  rw [copies.1, leftRe] at idle asked
  rw [left] at idle asked
  refine ⟨by simpa using memory, ?_, ?_, by simpa using opened, ?_, ?_, ?_, ?_, ?_⟩
  · simp [left]
  · simp [left]
  · rw [lookRe, re, leftRe]
  · rw [lookRe, re, leftRe]
  · rw [lookRe, reserved]
    exact idle
  · rw [lookRe, reserved, unconsumed, if_pos rfl]
    exact asked
  · rw [look_freeSlots, lookRe]
    simp only [true_and]
    rw [← reserves, ← mask]
    exact looked_congr looks latches.symm rfl rfl

theorem lookFirst_freed (none_ : s.nu.owed = none) : completionFreed s (nextRequest (look (completionLeft s o))) o false := by
  have left := completionLeft_nu s o
  have leftRe := completionLeft_re s o
  have copies := completionLeft_copies s o
  have opened : ∀ w ∈ (completionLeft s o).bi.opened, w.id ≠ o.id := recordWritten_others s o 0
  have memory : (completionLeft s o).mem = s.mem := by simp [completionLeft, leaveCompleting]
  generalize completionLeft s o = u at *
  have looks := look_looked (s := u) (by rw [left]) (by rw [left]; exact none_)
  have latches : u.nu.latches = s.nu.latches := by rw [left]
  have reserved : (look u).nu.reserved = 0 := by simp [left]
  obtain ⟨nu, re, idle, asked⟩ := nextRequest_asked (look u)
  have lookRe : (look u).re = u.re := by simp
  have copy : producerCopy (look u) = producerCopy s := by simpa [producerCopy] using copies.1
  have unconsumed : unconsumed (nextRequest (look u)) = unconsumed (look u) := by simp [unconsumed, consumerCopy]
  have slots : freeSlots (nextRequest (look u)) = freeSlots u := by rw [freeSlots, unconsumed, ← freeSlots, look_freeSlots]
  have writer : (nextRequest (look u)).nu.writer = (look u).nu.writer := by rw [nu]
  rw [copy, lookRe, leftRe, reserved] at idle asked
  refine ⟨by simpa using memory, ?_, ?_, by simpa using opened, ?_, ?_, idle, ?_, ?_⟩
  · simp [left]
  · rw [nu]
    simp [left]
  · rw [re, lookRe, leftRe]
  · rw [re, lookRe, leftRe]
  · rw [unconsumed, writer, if_neg Bool.false_ne_true]
    exact asked
  · rw [slots, if_neg (fun h => Bool.false_ne_true h.1), ← copies.2]
    have held : u.nu.reserved = 0 := by rw [left]
    rw [held] at looks
    exact looked_congr looks latches.symm (by rw [nu]) writer

end

/-! ### The words of a completion record (R45) -/

theorem half_bytes (h : Half) : (h.extractLsb' 0 8).toNat + 256 * (h.extractLsb' 8 8).toNat = h.toNat := by
  have := h.isLt
  simp only [BitVec.extractLsb'_toNat, Nat.shiftRight_eq_div_pow]
  omega

theorem wordOfBytes_half (h : Half) (c d : Byte) : wordOfBytes (h.extractLsb' 0 8) (h.extractLsb' 8 8) c d
    = BitVec.setWidth 32 h + BitVec.setWidth 32 c <<< 16 + BitVec.setWidth 32 d <<< 24 := by
  refine BitVec.eq_of_toNat_eq ?_
  have low := half_bytes h
  have hh := h.isLt
  have hc := c.isLt
  have hd := d.isLt
  rw [wordOfBytes_toNat]
  simp only [BitVec.toNat_add, BitVec.toNat_shiftLeft, BitVec.toNat_setWidth, Nat.shiftLeft_eq]
  omega

theorem wordOfBytes_le4 (w : Word) :
    wordOfBytes (byteOfWord w 0) (byteOfWord w 1) (byteOfWord w 2) (byteOfWord w 3) = w := by
  refine BitVec.eq_of_toNat_eq ?_
  have := w.isLt
  rw [wordOfBytes_toNat]
  simp only [byteOfWord_toNat]
  omega

theorem nat1_setWidth {n : Nat} (small : n < 256) : BitVec.setWidth 32 (nat1 n) = BitVec.ofNat 32 n := by
  refine BitVec.eq_of_toNat_eq ?_
  rw [BitVec.toNat_setWidth, nat1, BitVec.toNat_ofNat, BitVec.toNat_ofNat]
  omega

theorem ResultCode.code_lt (r : ResultCode) : r.code < 256 := by cases r <;> decide

theorem half_word (h : Half) : wordOfBytes (h.extractLsb' 0 8) (h.extractLsb' 8 8) 0 0 = BitVec.setWidth 32 h := by
  rw [wordOfBytes_half]
  simp

theorem completionWords_eq (seq : Half) (stamp : Word) (c : Completion) : completionWords seq stamp c
    = [seq.setWidth 32, 0x00000001, stamp
       , BitVec.setWidth 32 c.tag + BitVec.setWidth 32 c.kind <<< 16 + BitVec.ofNat 32 c.outcome.result.code <<< 24
       , c.outcome.detail1, c.outcome.detail2, 0, 0] := by
  have packed : completionWords seq stamp c = [wordOfBytes (seq.extractLsb' 0 8) (seq.extractLsb' 8 8) 0 0, wordOfBytes 1 0 0 0
      , wordOfBytes (byteOfWord stamp 0) (byteOfWord stamp 1) (byteOfWord stamp 2) (byteOfWord stamp 3)
      , wordOfBytes (c.tag.extractLsb' 0 8) (c.tag.extractLsb' 8 8) c.kind (nat1 c.outcome.result.code)
      , wordOfBytes (byteOfWord c.outcome.detail1 0) (byteOfWord c.outcome.detail1 1) (byteOfWord c.outcome.detail1 2)
          (byteOfWord c.outcome.detail1 3)
      , wordOfBytes (byteOfWord c.outcome.detail2 0) (byteOfWord c.outcome.detail2 1) (byteOfWord c.outcome.detail2 2)
          (byteOfWord c.outcome.detail2 3)
      , wordOfBytes 0 0 0 0, wordOfBytes 0 0 0 0] := rfl
  rw [packed, half_word, wordOfBytes_le4, wordOfBytes_le4, wordOfBytes_le4, wordOfBytes_half, nat1_setWidth c.outcome.result.code_lt]
  rfl

/-- Settles O18: the words by `completionWords_eq`, the step by `askFirst_freed` and `lookFirst_freed`. -/
theorem writtenCompletionFreesTheEngine : Obligations.WrittenCompletionFreesTheEngine := by
  unfold Obligations.WrittenCompletionFreesTheEngine
  refine ⟨fun s tag kind r => ?words, fun s o askFirst high record writer none_ other noReset => ?step⟩
  case words =>
    have written : liveWords s (.completion { tag := tag, kind := kind, outcome := r })
        = wordsAt (ringSlot s.nu.producer) (completionWords s.nu.producer s.re.clock { tag := tag, kind := kind, outcome := r })
          ++ [(0x2020, (s.nu.producer + 1).setWidth 32)] := rfl
    rw [written, completionWords_eq]
    rfl
  case step =>
    have runs := exec_completionWritten (askFirst := askFirst) high record writer other
    have freed : completionFreed s (afterCompletion (completionLeft s o) askFirst) o askFirst := by
      cases askFirst with
      | true => exact askFirst_freed none_
      | false => exact lookFirst_freed none_
    refine ⟨_, runs, freed.memory, freed.producer, freed.attn, freed.opened, freed.outcome, freed.consumer, freed.idle,
      fun submitted first => ?_, fun submitted second => ?_, freed.looks,
      afterCompletion_frame _ askFirst (completionLeft_frame s o) (by decide) (by decide) (by decide)⟩
    · have asked := freed.asked submitted
      rwa [if_pos first] at asked
    · have asked := freed.asked submitted
      have not : ¬ askFirst = true := by simp [second]
      rwa [if_neg not] at asked

end Sys2Proof.Machine
end

section
/-! The payloads of the condition records (R45, R48, R88, R122, R137, R150, R165, R172, R175, R176; O19). -/

namespace Sys2Proof.Machine

/-! ### Latches (R46) -/

theorem namedValues_hold : namedValues where
  requestKind := rfl
  result := rfl
  eventType := rfl
  lastCommit := rfl
  device := rfl
  mode := rfl
  sale := rfl
  outcome := rfl
  holdReason := rfl
  clearReason := rfl
  lineKind := rfl
  bagStatus := rfl
  tenderKind := rfl
  tender := rfl
  capture := rfl
  machine := rfl
  zone := rfl
  limit := rfl
  verification := rfl
  drawer := rfl
  kickCause := rfl
  module := rfl
  verdict := rfl
  printer := rfl
  stopCause := rfl
  paper := rfl
  owner := ⟨rfl, rfl, fun _ => rfl⟩
  receipt := rfl
  job := rfl
  journal := rfl
  link := rfl
  deviceKind := rfl
  linkReason := rfl
  errorKind := rfl
  errorField := rfl
  linkNumber := rfl

/-- Kind and source have a latch, which is the kind's. -/
theorem latchIndex_place (k : CondKind) (l : LinkId) : latchKind (latchIndex k (linkNo l)) = k ∧ latchIndex k (linkNo l) < 24
    ∧ latchIndex .linkChange (linkNo l) = 2 + linkNo l := by
  refine ⟨?_, latchIndex_lt _ _ fun _ => linkNo_lt l, rfl⟩
  cases k with
  | linkChange => cases l <;> rfl
  | _ => rfl

/-- A raised latch counts to 255, and keeps the stamp while it is pending. -/
theorem Latch.raised_eq (l : Latch) (clock : Word) (source : Nat) : l.raised clock source
    = if l.pending = true then { pending := true, count := min (l.count + 1) 255, stamp := l.stamp, source := source }
      else { pending := true, count := 1, stamp := clock, source := source } := by
  have count : (if l.count < 255 then l.count + 1 else 255) = min (l.count + 1) 255 := by split <;> omega
  unfold Latch.raised
  rw [count]
  split
  next pending => rw [← pending]
  next => rfl

theorem raise_busy {s : State} {k : CondKind} {source : Nat} (busy : s.nu.writer ≠ .free) : raise s k source
    = s.setNu { s.nu with
        latches := s.nu.latches.set (latchIndex k source) ((latchAt s (latchIndex k source)).raised s.re.clock source) } := by
  unfold raise
  dsimp only
  rw [look_busy]
  exact busy

/-! ### The captures named (R88) -/

theorem findIdx?_getD {α : Type} (p : α → Bool) (d : α) (xs : List α) :
    (match xs.findIdx? p with | some k => xs.getD k d | none => d) = (match xs.find? p with | some x => x | none => d) := by
  induction xs with
  | nil => rfl
  | cons x rest ih =>
    by_cases here : p x = true
    · simp [List.findIdx?_cons, here]
    · cases found : rest.findIdx? p with
      | none => simpa [List.findIdx?_cons, List.find?_cons, here, found] using ih
      | some k => simpa [List.findIdx?_cons, List.find?_cons, here, found] using ih

theorem Pwu.named_eq {u : Pwu} {id : Half} {c : Capture}
    (is : c = match u.table.find? fun x => decide (x.id = id) && decide (x.state ≠ .free) with | some x => x | none => Capture.free) :
    u.named id = c := by
  have found : u.named id = _ := findIdx?_getD _ Capture.free u.table
  rw [is, found]
  cases u.table.find? fun x => decide (x.id = id) && decide (x.state ≠ .free) with
  | none => rfl
  | some c => rfl

/-! ### The packed payloads (R48, R175) -/

section
variable (s : State)

theorem drawer_payloads :
    packPayload (payloadFields s .drawerForced 0 .tu) = [BitVec.ofNat 8 s.tu.drawer.code, if s.tu.forced then 1 else 0]
        ++ le2 (BitVec.ofNat 16 s.tu.forcedCount) ++ le4 s.tu.sensorStamp ++ zeros 8
      ∧ packPayload (payloadFields s .drawerFault 0 .tu) = [BitVec.ofNat 8 s.tu.drawer.code, 0] ++ le2 (BitVec.ofNat 16 s.tu.attempts)
        ++ [if s.tu.sensor then 1 else 0] ++ zeros 11
      ∧ packPayload (payloadFields s .drawerOpened 0 .tu)
        = [BitVec.ofNat 8 s.tu.drawer.code, if s.tu.forced then 1 else 0, 0, 0] ++ le4 s.tu.openStamp ++ zeros 8
      ∧ packPayload (payloadFields s .drawerShut 0 .tu) = [BitVec.ofNat 8 s.tu.drawer.code, 0, 0, 0] ++ le4 s.tu.closeStamp ++ zeros 8
      ∧ packPayload (payloadFields s .drawerLong 0 .tu) = [BitVec.ofNat 8 s.tu.drawer.code, 0, 0, 0] ++ le4 s.tu.openStamp ++ zeros 8 :=
  ⟨rfl, rfl, rfl, rfl, rfl⟩

theorem link_payload (l : LinkId) : packPayload (payloadFields s .linkChange (linkNo l) .lu)
    = [BitVec.ofNat 8 (s.link l).state.code, BitVec.ofNat 8 (s.link l).prevState.code, BitVec.ofNat 8 (s.link l).reason.code, 0]
      ++ le4 (BitVec.ofNat 32 (s.link l).errorSum) ++ zeros 8 := by
  have named : linkOf (linkNo l) = l := by cases l <;> rfl
  have fields : payloadFields s .linkChange (linkNo l) .lu = linkPayload (s.link (linkOf (linkNo l))) := rfl
  rw [fields, named]
  rfl

theorem conflict_payload (i : Nat) {c : Conflict} (is : s.ctu.conflict = some c) :
    packPayload (payloadFields s .tenderConflict i .ctu)
      = [BitVec.ofNat 8 (if c.verdict = .approved then TenderState.approved else .declined).code, BitVec.ofNat 8 c.outcome, 0, 0]
        ++ le4 c.amount ++ le2 c.reference ++ zeros 6 := by
  have fields : payloadFields s .tenderConflict i .ctu = cardPayload s.ctu s.su.balance .tenderConflict := rfl
  rw [fields, cardPayload, is]
  cases verdict : c.verdict with
  | approved => simp only [verdict]; rfl
  | declined => simp only [verdict]; rfl

theorem captureReady_payload {c : Capture} (named : s.pwu.named s.pwu.lastIssued = c) :
    packPayload (payloadFields s .captureReady 0 .pwu)
      = le2 s.pwu.lastIssued ++ [BitVec.ofNat 8 c.state.code, 0] ++ le4 (BitVec.ofInt 32 c.net) ++ zeros 8 := by
  rw [← named]
  rfl

theorem captureStale_payload {c : Capture} (named : s.pwu.named s.pwu.lastStale = c) :
    packPayload (payloadFields s .captureStale 0 .pwu)
      = le2 s.pwu.lastStale ++ [BitVec.ofNat 8 c.state.code, BitVec.ofNat 8 s.pwu.machine.code] ++ zeros 12 := by
  rw [← named]
  rfl

theorem cardChange_payload (four : s.ctu.lastFour.length = 4) : packPayload (payloadFields s .cardChange 0 .ctu)
    = [if s.ctu.present then 1 else 0, 0] ++ le2 s.ctu.scheme ++ [s.ctu.entryMethod, 0, 0, 0] ++ s.ctu.lastFour ++ zeros 4 := by
  have digits : le4 (digitsWord s.ctu.lastFour) = s.ctu.lastFour := by
    obtain ⟨a, b, c, d, is⟩ := List.length_eq_four.mp four
    rw [is]
    exact le4_wordOfBytes a b c d
  have packed : packPayload (payloadFields s .cardChange 0 .ctu)
      = [if s.ctu.present then 1 else 0, 0] ++ le2 s.ctu.scheme ++ [s.ctu.entryMethod, 0, 0, 0]
        ++ le4 (digitsWord s.ctu.lastFour) ++ zeros 4 := rfl
  rw [packed, digits]

theorem scaleLimit_payload {k : Nat} (source : k < 2) :
    packPayload (payloadFields s .scaleLimit k .pwu) = [BitVec.ofNat 8 s.pwu.limit.code, 0, 0, 0]
        ++ (if k = 0 then le4 (BitVec.ofInt 32 s.pwu.gross) else zeros 4) ++ zeros 8
      ∧ packPayload (payloadFields s .scaleLimit k .bwu) = [0, BitVec.ofNat 8 s.bwu.limit.code, 0, 0]
        ++ (if k = 1 then le4 (BitVec.ofInt 32 s.bwu.gross) else zeros 4) ++ zeros 8 := by
  have nothing : le4 0 = zeros 4 := by decide
  match k, source with
  | 0, _ =>
    refine ⟨rfl, ?_⟩
    rw [if_neg Nat.zero_ne_one, ← nothing]
    rfl
  | 1, _ =>
    refine ⟨?_, rfl⟩
    rw [if_neg Nat.one_ne_zero, ← nothing]
    rfl

end

/-- The bytes of a condition record (R45). -/
theorem conditionWords_bytes {seq : Half} {kind : CondKind} {source count : Nat} {stamp : Word} {payload : List Byte}
    (whole : payload.length = 16) : bytesOfWords (conditionWords seq kind source count stamp payload)
      = le2 seq ++ [BitVec.ofNat 8 kind.code, BitVec.ofNat 8 source, BitVec.ofNat 8 count, 0, 0, 0] ++ le4 stamp ++ payload
        ++ [0, 0, 0, 0] := by
  have taken : (payload ++ zeros 16).take 16 = payload := List.take_left' whole
  rw [conditionWords, taken, bytesOfWords_packWords]
  · rfl
  · simp [le2_length, le4_length, zeros_length, whole]

end Sys2Proof.Machine
end

section
/-! Condition records are filled and written (R44-R50, R175, R176; O19). -/

namespace Sys2Proof.Machine

/-! ### A unit answers (R47) -/

section
variable {s : State} {b : BlockId} {kind : CondKind} {count : Nat} {stamp : Word} {source : Nat} {waiting : List BlockId}
  {payload : List Byte}

/-- The unit's answer has been joined to the others'. -/
def answerJoined (s : State) (b : BlockId) (kind : CondKind) (count : Nat) (stamp : Word) (source : Nat) (waiting : List BlockId)
    (payload : List Byte) : State :=
  answered (takeAsk s b) kind count stamp source (waiting.filter fun y => y != b)
    (List.zipWith (· ||| ·) payload (packPayload (payloadFields s kind source b)))

theorem exec_payloadAnswer (high : s.bi.inReset = false) (writer : s.nu.writer = .asking kind count stamp source waiting payload)
    (asked : b ∈ waiting) (ready : answerReady s kind b = true) :
    exec (.payloadAnswer b) s = .next (unitNotices (answerJoined s b kind count stamp source waiting payload) b) := by
  have runs : exec (.payloadAnswer b) s = execPayloadAnswer b s := rfl
  rw [runs]
  simp only [execPayloadAnswer, writer]
  exact stepIf_enabled high (by simp [asked, ready])

theorem takeAsk_same (s : State) (b : BlockId) : (takeAsk s b).nu = s.nu ∧ (takeAsk s b).bi = s.bi ∧ (b ≠ .su → takeAsk s b = s) := by
  unfold takeAsk
  split
  next is => exact ⟨rfl, rfl, fun other => absurd is other⟩
  next => exact ⟨rfl, rfl, fun _ => rfl⟩

theorem answered_more {t : State} {rest : List BlockId} (more : rest ≠ []) : answered t kind count stamp source rest payload
    = t.setNu { t.nu with writer := .asking kind count stamp source rest payload } := by
  cases rest with
  | nil => exact absurd rfl more
  | cons x xs => rfl

/-- The window of a record is asked, with its words and the new producer index. -/
theorem answered_last (t : State) : (answered t kind count stamp source [] payload).nu = { t.nu with writer := .condition }
    ∧ ∃ w ∈ (answered t kind count stamp source [] payload).bi.waiting, w.owner = .nu ∧ w.sections = [.eventRing, .statusPage]
        ∧ w.fixed = wordsAt (0x6000 + t.nu.producer.toNat % 256 * 32) (conditionWords t.nu.producer kind source count stamp payload)
            ++ [(0x2020, (t.nu.producer + 1).setWidth 32)] :=
  ⟨rfl, _, List.mem_append_right _ (List.mem_singleton_self _), rfl, rfl, rfl⟩

theorem answerJoined_frame : eventFrame [.nu] s (answerJoined s b kind count stamp source waiting payload) :=
  answered_frame _ kind count stamp source _ _ (takeAsk_frame s b (.refl _ s))

theorem unitNotices_taken (t : State) (b : BlockId) : if b = .ctu then cardNoticesTaken t (unitNotices t b)
    else if b = .pu then printNoticesTaken t (unitNotices t b) else unitNotices t b = t := by
  cases b with
  | ctu => exact cardNotices_taken t
  | pu => exact printNotices_taken t
  | _ => rfl

end

/-! ### A condition record has been written (R44) -/

section
variable {s : State} {o : OpenWindow}

theorem exec_conditionRecordWritten (high : s.bi.inReset = false) (record : writtenRecord s = some o)
    (writer : s.nu.writer = .condition) :
    exec .conditionRecordWritten s = .next (look (recordWritten s o s.nu.reserved)) := by
  have runs : exec .conditionRecordWritten s = execConditionRecordWritten s := rfl
  rw [runs]
  simp only [execConditionRecordWritten, record]
  exact stepIf_enabled high (by simp [writer])

theorem conditionWritten_owed (owed : s.nu.owed ≠ none) :
    (look (recordWritten s o s.nu.reserved)).nu.writer = .completion ∧ (look (recordWritten s o s.nu.reserved)).nu.owed = none
      ∧ askedFor (look (recordWritten s o s.nu.reserved)) .nu .eventRing := by
  obtain ⟨c, is⟩ := Option.ne_none_iff_exists'.mp owed
  have free : (recordWritten s o s.nu.reserved).nu.writer = .free := by rw [recordWritten_eq]
  rw [look_completion free (by rw [recordWritten_eq]; exact is)]
  exact ⟨rfl, rfl, askedFor_askWindow (by simp)⟩

theorem conditionWritten_looks (none_ : s.nu.owed = none) : (look (recordWritten s o s.nu.reserved)).nu.owed = none
    ∧ looked s (look (recordWritten s o s.nu.reserved)) s.bi.noticeMask s.nu.reserved
        (freeSlots (look (recordWritten s o s.nu.reserved))) := by
  have nu := recordWritten_eq s o s.nu.reserved
  have mask : (recordWritten s o s.nu.reserved).bi.noticeMask = s.bi.noticeMask := by simp
  generalize recordWritten s o s.nu.reserved = u at *
  have free : u.nu.writer = .free := by rw [nu]
  have notOwed : u.nu.owed = none := by rw [nu]; exact none_
  have reserved : u.nu.reserved = s.nu.reserved := by rw [nu]
  have looks := look_looked free notOwed
  have kept : (look u).nu.owed = none := by
    unfold look
    rw [free, notOwed]
    dsimp only
    split
    next =>
      split
      next => simp [notOwed]
      next => exact notOwed
    next => exact notOwed
  rw [mask, reserved] at looks
  rw [look_freeSlots]
  exact ⟨kept, looked_congr looks (by rw [nu]) rfl rfl⟩

end

/-- Settles O19: the payloads by their lemmas, the answers by `answered_more` and `answered_last`, the written record by
`conditionWritten_owed` and `conditionWritten_looks`. -/
theorem conditionRecordsAreFilledAndWritten : Obligations.ConditionRecordsAreFilledAndWritten := by
  unfold Obligations.ConditionRecordsAreFilledAndWritten
  refine ⟨namedValues_hold, ?shown, rfl, latchIndex_place, ?raises, ?long, ⟨?payloads, ?units⟩, ?bytes, ?answers, ?written⟩
  case shown => exact fun u => ⟨rfl, rfl, fun j => BitVec.toNat_ofNat _ _⟩
  case raises =>
    intro s k source busy latches fits
    have inside : latchIndex k source < s.nu.latches.length := by rw [latches]; exact latchIndex_lt k source fits
    refine ⟨?_, fun i other => latchAt_raise_busy busy other.symm, ?_⟩
    · rw [raise_busy busy, ← Latch.raised_eq]
      simp [latchAt, inside]
    · rw [raise_busy busy]
      rfl
  case long =>
    intro s high _ opened due turn _
    exact ⟨_, stepIf_enabled high (by simp [opened, due, turn]), rfl⟩
  case payloads =>
    intro s
    obtain ⟨forced, fault, opened, shut, long⟩ := drawer_payloads s
    exact ⟨forced, fault, opened, shut, long, link_payload s, rfl, rfl, fun _ => rfl, fun i c is => conflict_payload s i is, rfl, rfl,
      rfl, rfl, fun c is => captureReady_payload s (Pwu.named_eq is), fun c is => captureStale_payload s (Pwu.named_eq is),
      cardChange_payload s, rfl, fun k source => scaleLimit_payload s source, rfl, rfl⟩
  case units =>
    intro k
    cases k with
    | _ => rfl
  case bytes => exact fun seq kind source count stamp payload => conditionWords_bytes
  case answers =>
    intro s b kind count stamp source waiting payload high writer asked ready
    obtain ⟨nu, bi, same⟩ := takeAsk_same s b
    refine ⟨answerJoined s b kind count stamp source waiting payload, _, exec_payloadAnswer high writer asked ready,
      unitNotices_taken _ b, fun more => ?_, fun last => ?_, fun other => ?_, answerJoined_frame⟩
    · rw [answerJoined, answered_more more, nu, bi.symm]
      exact ⟨rfl, rfl⟩
    · have lastly := answered_last (kind := kind) (count := count) (stamp := stamp) (source := source)
        (payload := List.zipWith (· ||| ·) payload (packPayload (payloadFields s kind source b))) (takeAsk s b)
      rw [nu] at lastly
      rw [answerJoined, last]
      exact lastly
    · rw [answerJoined, same other]
      simp
  case written =>
    intro s o high record writer
    have nu := recordWritten_eq s o s.nu.reserved
    have opened := recordWritten_others s o s.nu.reserved
    refine ⟨_, exec_conditionRecordWritten high record writer, by simp [nu], by simp [nu], by simp [nu], by simpa using opened,
      conditionWritten_owed, conditionWritten_looks, conditionWritten_frame s o (.refl _ s) (by decide) (by decide)⟩

end Sys2Proof.Machine
end

section
/-! A fetched request (R20-R25), the events that wait through a request (R24; log 44), and the fields of a request record (R175,
R176, R178; O13). -/

namespace Sys2Proof.Machine

/-! ### The fields of a request record -/

section
variable (r : List Word)

theorem recByte_eq_iff (k : Nat) (b : Byte) : recByte r k = b ↔ recordByte r k = b.toNat := by
  rw [← recByte_toNat, BitVec.toNat_inj]

theorem recOptional_iff : recOptional r = true ↔ recordByte r 3 % 2 = 1 := by
  rw [← recByte_toNat, recOptional, BitVec.getLsbD, Nat.testBit_zero, decide_eq_true_eq]

/-- The kinds in the order of their numbers. -/
theorem kind_ofCode_iff (n : Nat) (k : RequestKind) : RequestKind.ofCode n = some k ↔ 1 ≤ n
    ∧ [RequestKind.setupCommit, .laneReset, .saleOpen, .itemAdd, .itemWeigh, .lineVoid, .scaleZero, .scaleTare, .tareClear
       , .holdRelease, .cardTender, .cardCancel, .tenderVerdict, .cashTender, .drawerNosale, .printSubmit, .saleClose
       , .saleAbort, .receiptAbandon][n - 1]? = some k := by
  by_cases small : n < 20
  · interval_cases n <;> simp [RequestKind.ofCode]
  · obtain ⟨m, rfl⟩ : ∃ m, n = m + 20 := ⟨n - 20, by omega⟩
    have outside : 19 ≤ m + 20 - 1 := by omega
    have beyond : RequestKind.ofCode (m + 20) = none := rfl
    rw [beyond, List.getElem?_eq_none outside]
    simp

theorem recMode_eq : recMode r = if recordByte r 4 = 1 then some .staffed else if recordByte r 4 = 2 then some .self else none := by
  unfold recMode
  rw [if_congr (recByte_eq_iff r 4 1) rfl rfl, if_congr (recByte_eq_iff r 4 2) rfl rfl]
  rfl

theorem recVerdict_eq :
    recVerdict r = if recordByte r 5 = 1 then some .approved else if recordByte r 5 = 2 then some .declined else none := by
  unfold recVerdict
  rw [if_congr (recByte_eq_iff r 5 1) rfl rfl, if_congr (recByte_eq_iff r 5 2) rfl rfl]
  rfl

theorem recItemCode_toNat : (recItemCode r).toNat = recordField r 8 8 := by
  have low := recWord_toNat r 8 rfl
  have high := recWord_toNat r 12 rfl
  have lowFits := (recWord r 8).isLt
  rw [recItemCode, BitVec.toNat_append, ← Nat.shiftLeft_add_eq_or_of_lt lowFits, Nat.shiftLeft_eq, low, high]
  simp only [recordField, Nat.reduceAdd]
  omega

/-- An optional word is there where the flag is set. -/
theorem optional_word (k : Nat) (aligned : k % 4 = 0) : (if recOptional r then some (recWord r k).toNat else none)
    = if recordByte r 3 % 2 = 1 then some (recordField r k 4) else none := by
  rw [if_congr (recOptional_iff r) rfl rfl, recWord_toNat r k aligned]

theorem recCaptureId_eq :
    (recCaptureId r).map (fun x => x.toNat) = if recordByte r 3 % 2 = 1 then some (recordField r 20 2) else none := by
  rw [recCaptureId, if_congr (recOptional_iff r) rfl rfl, ← recHalf_toNat]
  split
  next => rfl
  next => rfl

theorem recordFields_read : recordFields r where
  tag := recHalf_toNat r 0
  kindByte := recByte_toNat r 2
  kind k := by rw [recKind, kind_ofCode_iff, recKindByte, recByte_toNat]
  optional := recOptional_iff r
  mode := recMode_eq r
  operator := recHalf_toNat r 6
  itemCode := recItemCode_toNat r
  quantity := recHalf_toNat r 16
  unitPrice := recWord_toNat r 20 rfl
  unitWeight := optional_word r 24 rfl
  kiloPrice := recWord_toNat r 16 rfl
  capture := recCaptureId_eq r
  line := recHalf_toNat r 4
  tare := optional_word r 4 rfl
  cardAmount := optional_word r 4 rfl
  cashAmount := recWord_toNat r 4 rfl
  tender := recByte_toNat r 4
  verdict := recVerdict_eq r
  firstSlot := recHalf_toNat r 4
  lineCount := recHalf_toNat r 6

end

/-! ### Events that wait at a unit (R24; log 44) -/

section
variable {s t : State} {b : BlockId} {e : UnitEvent}

theorem live_congr (waits : ∀ u e, waitsAt t u e = waitsAt s u e) (old : List Arrival) : liveArrivals t old = liveArrivals s old := by
  induction old with
  | nil => rfl
  | cons a rest ih => simp only [liveArrivals, ih, waits]

theorem holds_congr (waits : ∀ u e, waitsAt t u e = waitsAt s u e) (same : t.arrivals = s.arrivals) (u : BlockId) :
    unitHolds t u = unitHolds s u := by rw [unitHolds, same, live_congr waits, unitHolds]

variable {first : Arrival} {later : List Arrival}

/-- The first event of a free unit is taken. -/
theorem unitTakes_first (free : unitBusy s b = false)
    (waits : (liveArrivals s s.arrivals).filter (fun a => decide (a.unit = b)) = first :: later) :
    unitTakes s b first.event = true := by simp [unitTakes, free, waits]

/-- Events of another kind wait behind a first that a request has held. -/
theorem unitTakes_behind (waits : (liveArrivals s s.arrivals).filter (fun a => decide (a.unit = b)) = first :: later)
    (held : first.held = true) (other : e ≠ first.event) : unitTakes s b e = false := by
  simp [unitTakes, waits, other.symm, held]

/-- A held event is taken before the unit's next request. -/
theorem not_awaits_held (waits : (liveArrivals s s.arrivals).filter (fun a => decide (a.unit = b)) = first :: later)
    (held : first.held = true) (hears : hearsMany b = true) {k : RequestKind} (owner : k.owner = b) : awaits s k = false := by
  obtain ⟨live, is⟩ := List.mem_filter.mp (waits ▸ List.mem_cons_self : first ∈ (liveArrivals s s.arrivals).filter _)
  have holds : unitHolds s b = true := by
    rw [unitHolds, hears, Bool.true_and, List.any_eq_true]
    exact ⟨first, live, by rw [is, held]; rfl⟩
  simp [awaits, owner, holds]

theorem arrive_marked (hears : hearsMany b = true) : (arrive s b e).arrivals
    = (liveArrivals s s.arrivals ++ [({ unit := b, event := e, held := false } : Arrival)]).map fun a =>
        if unitBusy s a.unit = true then { a with held := true } else a := by
  have filtered : ([(b, e)].filter fun x => hearsMany x.1) = [(b, e)] := by simp [hears]
  rw [arrive, arriveAll, arriveAfter, filtered]
  rfl

end

/-! ### Events a unit does not take -/

section
variable {s : State}

theorem frame_untaken {α : Type} {found : Option α} {enabled : α → Bool} {t : α → State} (not : ∀ x, enabled x = false) :
    (match found with | some x => stepIf s (enabled x) (t x) | none => .next s) = .next s := by
  cases found with
  | none => rfl
  | some x => exact stepIf_disabled (not x)

theorem bagTell_untaken (not : unitTakes s .bwu .tell = false) : bagTell s = none := by simp [bagTell, not]

theorem printTell_untaken (not : unitTakes s .pu .tell = false) : printTell s = none := by simp [printTell, not]

theorem cardFrame_untaken (not : unitTakes s .ctu .link = false) : cardFrame s = none := by simp [cardFrame, not]

theorem printerFrame_untaken (not : unitTakes s .pu .link = false) : printerFrame s = none := by simp [printerFrame, not]

theorem nextEdge_untaken (not : unitTakes s .tu .edge = false) (i : InputId) : nextEdge s i = none := by simp [nextEdge, not]

theorem platter_untaken (not : unitTakes s .pwu .link = false) :
    exec .platterSample s = .next s ∧ exec .platterLinkChange s = .next s := by
  have runs : exec .platterSample s = execPlatterSample s ∧ exec .platterLinkChange s = execPlatterLinkChange s := ⟨rfl, rfl⟩
  rw [runs.1, runs.2]
  unfold execPlatterSample execPlatterLinkChange
  refine ⟨?_, ?_⟩
  · split
    next => exact stepIf_disabled (by simp [not])
    next => rfl
  · split
    next => exact stepIf_disabled not
    next => rfl

theorem bag_untaken (not : unitTakes s .bwu .link = false) : exec .bagSample s = .next s ∧ exec .bagLinkChange s = .next s := by
  have runs : exec .bagSample s = execBagSample s ∧ exec .bagLinkChange s = execBagLinkChange s := ⟨rfl, rfl⟩
  rw [runs.1, runs.2]
  unfold execBagSample execBagLinkChange
  refine ⟨?_, ?_⟩
  · split
    next => exact stepIf_disabled (by simp [not])
    next => rfl
  · split
    next => exact stepIf_disabled (by simp [not])
    next => rfl

theorem bagTells_untaken (not : unitTakes s .bwu .tell = false) :
    exec .bagSaleOpened s = .next s ∧ exec .bagSaleClosing s = .next s ∧ exec .bagSaleEnded s = .next s := by
  have none_ := bagTell_untaken not
  have runs : exec .bagSaleOpened s = execBagSaleOpened s ∧ exec .bagSaleClosing s = execBagSaleClosing s
      ∧ exec .bagSaleEnded s = execBagSaleEnded s := ⟨rfl, rfl, rfl⟩
  obtain ⟨opened, closing, ended⟩ := runs
  rw [opened, closing, ended]
  simp only [execBagSaleOpened, execBagSaleClosing, execBagSaleEnded, none_, and_self]

theorem card_untaken (not : unitTakes s .ctu .link = false) : exec .cardIn s = .next s ∧ exec .cardOut s = .next s
    ∧ exec .moduleStatus s = .next s ∧ exec .authResult s = .next s ∧ exec .noRecord s = .next s ∧ exec .cardLinkChange s = .next s := by
  have none_ := cardFrame_untaken not
  have cardIn : exec .cardIn s = execCardIn s := rfl
  have cardOut : exec .cardOut s = execCardOut s := rfl
  have module : exec .moduleStatus s = execModuleStatus s := rfl
  have result : exec .authResult s = execAuthResult s := rfl
  have noRecord : exec .noRecord s = execNoRecord s := rfl
  have change : exec .cardLinkChange s = execCardLinkChange s := rfl
  rw [cardIn, cardOut, module, result, noRecord, change]
  simp only [execCardIn, execCardOut, execModuleStatus, execAuthResult, execNoRecord, none_, true_and]
  unfold execCardLinkChange
  split
  next => exact stepIf_disabled not
  next => rfl

theorem edges_untaken (not : unitTakes s .tu .edge = false) : exec .sensorEdge s = .next s ∧ exec .keyEdge s = .next s := by
  have runs : exec .sensorEdge s = execSensorEdge s ∧ exec .keyEdge s = execKeyEdge s := ⟨rfl, rfl⟩
  rw [runs.1, runs.2]
  simp only [execSensorEdge, execKeyEdge, nextEdge_untaken not, and_self]

theorem printer_untaken (not : unitTakes s .pu .link = false) : exec .printerStatus s = .next s ∧ exec .lineDone s = .next s
    ∧ exec .printerLinkChange s = .next s := by
  have none_ := printerFrame_untaken not
  have status : exec .printerStatus s = execPrinterStatus s := rfl
  have done : exec .lineDone s = execLineDone s := rfl
  have change : exec .printerLinkChange s = execPrinterLinkChange s := rfl
  rw [status, done, change]
  simp only [execPrinterStatus, execLineDone, none_, true_and]
  unfold execPrinterLinkChange
  split
  next => exact stepIf_disabled not
  next => rfl

theorem printTells_untaken (not : unitTakes s .pu .tell = false) :
    exec .receiptBegin s = .next s ∧ exec .receiptCloseMark s = .next s ∧ exec .saleIdleTell s = .next s := by
  have none_ := printTell_untaken not
  have begins : exec .receiptBegin s = execReceiptBegin s := rfl
  have mark : exec .receiptCloseMark s = execReceiptCloseMark s := rfl
  have idle : exec .saleIdleTell s = execSaleIdleTell s := rfl
  rw [begins, mark, idle]
  simp only [execReceiptBegin, execReceiptCloseMark, execSaleIdleTell, none_, and_self]

theorem offer_untaken (waits : unitBusy s .pu = true ∨ unitHolds s .pu = true) : exec .printFrameOffer s = .next s := by
  obtain busy | holds := waits
  · exact stepIf_disabled (by simp [busy])
  · exact stepIf_disabled (by simp [holds])

theorem ask_untaken (b : BlockId) (not : unitTakes s b .ask = false) : exec (.payloadAnswer b) s = .next s := by
  have runs : exec (.payloadAnswer b) s = execPayloadAnswer b s := rfl
  rw [runs]
  unfold execPayloadAnswer
  split
  next => exact stepIf_disabled (by simp [answerReady, not])
  next => rfl

end

/-! ### The request is decoded (R22, R23) -/

section
variable {s : State}

/-- The engine has the record, and the consumer index is asked to be published. -/
def requestTaken (s : State) : State :=
  askReConsumer
    (s.setRe { s.re with
      consumer := s.re.consumer + 1, record := s.re.fetched, fetched := [], phase := .executing, outcome := none
      statusDue := false })

theorem exec_requestFetched (high : s.bi.inReset = false) (fetching : s.re.phase = .fetching) (whole : s.re.fetched.length = 16) :
    exec .requestFetched s = .next (decodeRequest (requestTaken s)) := stepIf_enabled high (by simp [fetching, whole])

theorem requestTaken_re (s : State) : (requestTaken s).re = { s.re with
    consumer := s.re.consumer + 1, record := s.re.fetched, fetched := [], phase := .executing, outcome := none
    statusDue := false } := by simp [requestTaken]

theorem requestTaken_su (s : State) : (requestTaken s).su = s.su := by simp [requestTaken]

theorem requestTaken_waits (s : State) (u : BlockId) (e : UnitEvent) : waitsAt (requestTaken s) u e = waitsAt s u e := by
  cases e <;> rfl

/-- The window in which the consumer index is published (R20). -/
theorem requestTaken_window (s : State) : ∃ w ∈ (requestTaken s).bi.waiting, w.owner = .re ∧ w.sections = [.statusPage] ∧ w.live = []
    ∧ w.after = [] ∧ w.ofRequest = false ∧ bytesFrom 0x2014 w.fixed (le2 (s.re.consumer + 1) ++ [BitVec.ofNat 8 s.re.failField, 0]) := by
  refine ⟨_, List.mem_append_right _ (List.mem_singleton_self _), rfl, rfl, rfl, rfl, rfl, ?_⟩
  exact bytesFrom_packWords 0x2014 (bs := le2 (s.re.consumer + 1) ++ [BitVec.ofNat 8 s.re.failField, 0])
    (by rw [List.length_append, le2_length]; exact Nat.dvd_refl 4)

/-- The window that publishes the index belongs to no request. -/
theorem requestTaken_pending (s : State) : requestPending (requestTaken s) = requestPending s := by
  simp [requestPending, requestTaken, askReConsumer, askFixed, askWindow]

theorem requestProgress_passes {u : State} {o : ReqOutcome} (answered : u.re.outcome = some o) (executing : u.re.phase = .executing)
    (free : requestPending u = false) (fresh : u.re.statusDue = false) : requestProgress u = passCompletion u o := by
  simp [requestProgress, answered, executing, free, fresh]

/-- A request refused at its decoding. -/
theorem refused_passes {u : State} {r : ResultCode} (executing : u.re.phase = .executing) (fresh : u.re.statusDue = false)
    (free : requestPending u = false) : (failRequest u r).re.phase = .completing := by
  have passes : failRequest u r = passCompletion _ _ := requestProgress_passes
    (u := u.setRe { u.re with outcome := some { result := r, detail1 := 0, detail2 := 0 } }) rfl executing free fresh
  rw [passes]
  simp [passCompletion]

theorem decodeRequest_kindless {u : State} (none_ : recKind u.re.record = none) : decodeRequest u = failRequest u .badKind := by
  simp only [decodeRequest, none_]

theorem decodeRequest_early {u : State} {k : RequestKind} (is : recKind u.re.record = some k) (unc : u.re.device = .unconfigured)
    (notCommit : k ≠ .setupCommit) (notReset : k ≠ .laneReset) : decodeRequest u = failRequest u .notReady := by
  simp [decodeRequest, is, unc, takenUnconfigured, notCommit, notReset]

theorem decodeRequest_taken {u : State} {k : RequestKind} (is : recKind u.re.record = some k)
    (takes : u.re.device = .ready ∨ k = .setupCommit ∨ k = .laneReset) :
    decodeRequest u = if k.owner = .su then suSend u .request else u := by
  have passes : (decide (u.re.device = .unconfigured) && !takenUnconfigured k) = false := by
    obtain ready | rfl | rfl := takes
    · simp [ready]
    · simp [takenUnconfigured]
    · simp [takenUnconfigured]
  simp only [decodeRequest, is, passes, Bool.false_eq_true, if_false]

end

/-! ### The whole step -/

section
variable {s : State}

/-- What a refused request leaves: its answer, and the window asked before it. -/
theorem requestTaken_refused (r : ResultCode) : answeredWith (failRequest (requestTaken s) r) r 0 0
    ∧ (requestPending s = false → (failRequest (requestTaken s) r).re.phase = .completing)
    ∧ (requestTaken s).bi.waiting ⊆ (failRequest (requestTaken s) r).bi.waiting
    ∧ courseOnly (requestTaken s) (failRequest (requestTaken s) r) :=
  ⟨finishRequest_answered _ _ _ _,
    fun free => refused_passes (by rw [requestTaken_re]) (by rw [requestTaken_re]) ((requestTaken_pending s).trans free),
    finishRequest_waiting _ _ _ _, courseOnly_finishRequest _ _ _ (courseOnly.refl _)⟩

/-- What of the engine a decoded request may change. -/
theorem requestTaken_course {t : State} (course : courseOnly (requestTaken s) t) : t.re = { s.re with
    consumer := s.re.consumer + 1, record := s.re.fetched, fetched := [], phase := t.re.phase, outcome := t.re.outcome
    statusDue := t.re.statusDue } := by
  unfold courseOnly at course
  rw [requestTaken_re] at course
  exact course

/-- A request in execution whose owner's held events have been taken. -/
theorem requestTaken_awaits {t : State} {k : RequestKind} (re : t.re = (requestTaken s).re) (is : recKind s.re.fetched = some k)
    (holds : unitHolds t k.owner = false) : awaits t k = true := by
  rw [requestTaken_re] at re
  simp [awaits, re, is, holds]

end

/-- Settles O13: the decoding by `decodeRequest_kindless`, `decodeRequest_early` and `decodeRequest_taken`. -/
theorem fetchedRequestIsDecoded : Obligations.FetchedRequestIsDecoded := by
  unfold Obligations.FetchedRequestIsDecoded
  refine ⟨?fetched, unitTakes_busy, ?first, fun s b e hears => arrive_marked hears, ?untaken, recordFields_read⟩
  case first =>
    exact fun s b e first later free waits => ⟨unitTakes_first free waits, fun held =>
      ⟨unitTakes_behind waits held, fun hears k owner => not_awaits_held waits held hears owner⟩⟩
  case untaken =>
    intro s
    exact ⟨platter_untaken, fun not => stepIf_disabled (by simp [not]), bag_untaken, fun not => stepIf_disabled (by simp [not]),
      bagTells_untaken, card_untaken, fun not => stepIf_disabled (by simp [not]), fun not => stepIf_disabled (by simp [not]),
      edges_untaken, fun not => stepIf_disabled (by simp [not]), fun not => stepIf_disabled (by simp [not]),
      fun not => stepIf_disabled (by simp [not]), printer_untaken, printTells_untaken, offer_untaken, ask_untaken⟩
  case fetched =>
    intro s high fetching whole
    have runs := exec_requestFetched high fetching whole
    have taken := requestTaken_re s
    have record : (requestTaken s).re.record = s.re.fetched := by rw [taken]
    have device : (requestTaken s).re.device = s.re.device := by rw [taken]
    have frame : eventFrame [.re] s (decodeRequest (requestTaken s)) := requestFetched_frame s (.refl _ s) (by decide)
    obtain ⟨w, asked, window⟩ := requestTaken_window s
    cases is : recKind s.re.fetched with
    | none =>
      have refused := decodeRequest_kindless (u := requestTaken s) (by rw [record]; exact is)
      rw [refused] at runs frame
      obtain ⟨answered, passes, waiting, course⟩ := requestTaken_refused (s := s) .badKind
      have re := requestTaken_course course
      refine ⟨_, runs, by rw [re], by rw [re], by rw [re], ⟨w, waiting asked, window⟩, nofun, fun _ => passes, fun _ => answered, nofun,
        nofun, ?_, frame⟩
      rw [re]
    | some k =>
      by_cases takes : s.re.device = .ready ∨ k = .setupCommit ∨ k = .laneReset
      · have step := decodeRequest_taken (u := requestTaken s) (by rw [record]; exact is) (by rw [device]; exact takes)
        have not_early : ¬ (s.re.device = .unconfigured ∧ k ≠ .setupCommit ∧ k ≠ .laneReset) := by
          rintro ⟨unc, notCommit, notReset⟩
          simp [unc, notCommit, notReset] at takes
        have re : (decodeRequest (requestTaken s)).re = (requestTaken s).re := by
          rw [step]
          split <;> rfl
        have waiting : (decodeRequest (requestTaken s)).bi = (requestTaken s).bi := by
          rw [step]
          split <;> rfl
        have su : (decodeRequest (requestTaken s)).su
            = { s.su with inbox := if k.owner = .su then s.su.inbox ++ [.request] else s.su.inbox } := by
          rw [step]
          split
          next => rw [← requestTaken_su s]; rfl
          next => exact requestTaken_su s
        have holds : unitHolds (decodeRequest (requestTaken s)) k.owner = unitHolds s k.owner := by
          rw [step]
          split
          next =>
            have waits (u : BlockId) (e : UnitEvent) : waitsAt (suSend (requestTaken s) .request) u e = waitsAt s u e := by
              cases e <;> rfl
            exact holds_congr waits rfl _
          next => exact holds_congr (requestTaken_waits s) rfl _
        have result : (decodeRequest (requestTaken s)).re = _ := re.trans taken
        refine ⟨_, runs, by rw [result], by rw [result], by rw [result], ⟨w, by rw [waiting]; exact asked, window⟩,
          fun _ _ _ => by rw [result]; exact ⟨rfl, rfl⟩, ?_, nofun, ?_, ?_, by rw [result], frame⟩
        · rintro (none_ | ⟨j, same, early⟩)
          · exact nomatch none_
          · obtain rfl := Option.some.inj same
            exact absurd early not_early
        · intro j same unc notCommit notReset
          obtain rfl := Option.some.inj same
          exact absurd ⟨unc, notCommit, notReset⟩ not_early
        · intro j same _
          obtain rfl := Option.some.inj same
          exact ⟨fun free => requestTaken_awaits re is (holds.trans free), su⟩
      · obtain ⟨notReady, notCommit, notReset⟩ : s.re.device ≠ .ready ∧ k ≠ .setupCommit ∧ k ≠ .laneReset := by
          simpa [not_or] using takes
        have unc : s.re.device = .unconfigured := by
          cases device : s.re.device with
          | unconfigured => rfl
          | ready => exact absurd device notReady
        have refused := decodeRequest_early (u := requestTaken s) (by rw [record]; exact is) (by rw [device]; exact unc) notCommit
          notReset
        rw [refused] at runs frame
        obtain ⟨answered, passes, waiting, course⟩ := requestTaken_refused (s := s) .notReady
        have re := requestTaken_course course
        refine ⟨_, runs, by rw [re], by rw [re], by rw [re], ⟨w, waiting asked, window⟩, ?_, fun _ => passes, nofun,
          fun _ _ _ _ _ => answered, ?_, ?_, frame⟩
        · intro j same may
          obtain rfl := Option.some.inj same
          exact absurd may takes
        · intro j same may
          obtain rfl := Option.some.inj same
          exact absurd may takes
        · rw [re]

end Sys2Proof.Machine
end

section
/-! The Setup Block is read and judged (R30, R31, R33, R36, R178; O14). -/

namespace Sys2Proof.Machine

/-! ### The checks and the fields' rules (R31) -/

section
variable (c : List Word) (lane : Option Half)

theorem inRange_iff (x lo hi : Nat) : inRange x lo hi = true ↔ lo ≤ x ∧ x ≤ hi := by
  rw [inRange, Bool.and_eq_true, decide_eq_true_eq, decide_eq_true_eq]

/-- The lane number is in its range, and the one that is fixed. -/
theorem laneMatches : (1 ≤ setupField c 2 ∧ setupField c 2 ≤ 999
      ∧ (match lane with | none => true | some l => setupField c 2 == l.toNat) = true)
    ↔ 1 ≤ setupField c 2 ∧ setupField c 2 ≤ 999 ∧ ∀ l, lane = some l → setupField c 2 = l.toNat := by
  cases lane with
  | none => simp
  | some l => simp

/-- The fields in the order in which they are checked. -/
theorem setupChecks_numbers : (setupChecks c lane).map Prod.fst = [0, 1, 2, 5, 6, 7, 8, 9, 10, 11, 12, 13, 14, 15, 16, 17, 18, 19, 20,
    21, 22, 23, 24, 25, 26, 27, 28, 29, 30, 31, 32, 33] := rfl

theorem setupChecks_sorted : (setupChecks c lane).Pairwise fun x y => x.1 < y.1 := by
  rw [← List.pairwise_map (f := Prod.fst) (R := (· < ·)), setupChecks_numbers]
  decide

theorem setupChecks_le {x : Nat × Bool} (is : x ∈ setupChecks c lane) : x.1 ≤ 33 := by
  have number : x.1 ∈ (setupChecks c lane).map Prod.fst := List.mem_map_of_mem is
  rw [setupChecks_numbers] at number
  revert number
  generalize x.1 = n
  simp only [List.mem_cons, List.not_mem_nil, or_false]
  omega

/-- A field's rule is what its checks say. -/
theorem setupRule_iff (n : Nat) : setupRule c lane n ↔ ∀ x ∈ setupChecks c lane, x.1 = n → x.2 = true := by
  simp only [setupChecks, List.forall_mem_cons, List.not_mem_nil, false_implies, implies_true, and_true, Bool.and_eq_true,
    Bool.or_eq_true, beq_iff_eq, decide_eq_true_eq, inRange_iff, List.all_eq_true, List.mem_range, and_assoc,
    or_assoc]
  constructor
  · intro h
    exact ⟨fun is => h.check is.symm, fun is => h.format is.symm, fun is => (laneMatches c lane).mpr (h.number is.symm), fun is => h.exported is.symm,
      fun is => is ▸ h.rates (by omega) (by omega), fun is => is ▸ h.rates (by omega) (by omega),
      fun is => is ▸ h.rates (by omega) (by omega), fun is => is ▸ h.rates (by omega) (by omega),
      fun is => is ▸ h.silences (by omega) (by omega), fun is => is ▸ h.silences (by omega) (by omega),
      fun is => is ▸ h.silences (by omega) (by omega), fun is => is ▸ h.silences (by omega) (by omega),
      fun is => h.platCapacity is.symm, fun is => h.platDivision is.symm, fun is => h.platMinNet is.symm,
      fun is => h.platWindow is.symm, fun is => h.platBand is.symm, fun is => h.platTracking is.symm,
      fun is => h.platTareLimit is.symm, fun is => h.bagCapacity is.symm, fun is => h.bagDivision is.symm,
      fun is => h.bagWindow is.symm, fun is => h.bagBand is.symm, fun is => h.bagAbsTol is.symm, fun is => h.bagRelTol is.symm,
      fun is => h.bagWait is.symm, fun is => h.cardWait is.symm, fun is => h.cancelWait is.symm, fun is => h.kickWidth is.symm,
      fun is => h.kickConfirm is.symm, fun is => h.drawerLimit is.symm, fun is => h.labels is.symm⟩
  · rintro ⟨f0, f1, f2, f5, f6, f7, f8, f9, f10, f11, f12, f13, f14, f15, f16, f17, f18, f19, f20, f21, f22, f23, f24, f25, f26, f27,
      f28, f29, f30, f31, f32, f33⟩
    refine ⟨fun is => f0 is.symm, fun is => f1 is.symm, fun is => (laneMatches c lane).mp (f2 is.symm), fun is => f5 is.symm, fun least most => ?_,
      fun least most => ?_, fun is => f14 is.symm, fun is => f15 is.symm, fun is => f16 is.symm, fun is => f17 is.symm,
      fun is => f18 is.symm, fun is => f19 is.symm, fun is => f20 is.symm, fun is => f21 is.symm, fun is => f22 is.symm,
      fun is => f23 is.symm, fun is => f24 is.symm, fun is => f25 is.symm, fun is => f26 is.symm, fun is => f27 is.symm,
      fun is => f28 is.symm, fun is => f29 is.symm, fun is => f30 is.symm, fun is => f31 is.symm, fun is => f32 is.symm,
      fun is => f33 is.symm⟩
    · obtain rfl | rfl | rfl | rfl : n = 6 ∨ n = 7 ∨ n = 8 ∨ n = 9 := by omega
      · exact f6 rfl
      · exact f7 rfl
      · exact f8 rfl
      · exact f9 rfl
    · obtain rfl | rfl | rfl | rfl : n = 10 ∨ n = 11 ∨ n = 12 ∨ n = 13 := by omega
      · exact f10 rfl
      · exact f11 rfl
      · exact f12 rfl
      · exact f13 rfl

end

/-! ### The first field that fails -/

/-- In a list sorted by number, the first entry that fails and counts. -/
theorem firstFailure_some {xs : List (Nat × Bool)} (sorted : xs.Pairwise fun x y => x.1 < y.1) (skip : Nat → Bool) (n : Nat) :
    (xs.find? fun x => !x.2 && !skip x.1).map (·.1) = some n
      ↔ (∃ x ∈ xs, x.1 = n ∧ x.2 = false) ∧ skip n = false ∧ ∀ m < n, skip m = true ∨ ∀ x ∈ xs, x.1 = m → x.2 = true := by
  constructor
  · intro found
    obtain ⟨x, first, rfl⟩ := Option.map_eq_some_iff.mp found
    obtain ⟨fails, before, after, rfl, passes⟩ := List.find?_eq_some_iff_append.mp first
    obtain ⟨bad, counts⟩ := Bool.and_eq_true_iff.mp fails
    rw [Bool.not_eq_true'] at bad counts
    refine ⟨⟨x, by simp, rfl, bad⟩, counts, fun m less => or_iff_not_imp_left.mpr fun noSkip y is same => ?_⟩
    obtain ⟨-, later, -⟩ := List.pairwise_append.mp sorted
    obtain earlier | rfl | after_ : y ∈ before ∨ y = x ∨ y ∈ after := by simpa using is
    · have good := passes y earlier
      subst same
      simpa [Bool.eq_false_iff.mpr noSkip] using good
    · omega
    · have greater := (List.pairwise_cons.mp later).1 y after_
      omega
  · rintro ⟨⟨x, is, rfl, bad⟩, counts, earlier⟩
    obtain ⟨before, after, rfl⟩ := List.append_of_mem is
    have smaller := (List.pairwise_append.mp sorted).2.2
    have first : (before ++ x :: after).find? (fun y => !y.2 && !skip y.1) = some x := by
      refine List.find?_eq_some_iff_append.mpr ⟨by simp [bad, counts], before, after, rfl, fun y inside => ?_⟩
      obtain skips | passes := earlier y.1 (smaller y inside x List.mem_cons_self)
      · simp [skips]
      · simp [passes y (List.mem_append_left _ inside) rfl]
    rw [first]
    rfl

theorem firstFailure_none (xs : List (Nat × Bool)) (skip : Nat → Bool) :
    (xs.find? fun x => !x.2 && !skip x.1).map (·.1) = none ↔ ∀ x ∈ xs, skip x.1 = false → x.2 = true := by
  rw [Option.map_eq_none_iff, List.find?_eq_none]
  refine forall_congr' fun x => imp_congr_right fun _ => ?_
  cases x.2 <;> simp

section
variable {c : List Word} {lane : Option Half}

/-- At a recommit field 5 does not count (R35). -/
def skipsField (recommit : Bool) (n : Nat) : Bool := recommit && n == 5

theorem skipsField_iff (recommit : Bool) (n : Nat) : skipsField recommit n = true ↔ recommit = true ∧ n = 5 := by
  rw [skipsField, Bool.and_eq_true, beq_iff_eq]

theorem not_skipsField_iff (recommit : Bool) (n : Nat) : skipsField recommit n = false ↔ (recommit = true → n ≠ 5) := by
  rw [← Bool.not_eq_true, skipsField_iff, not_and]

theorem setupFailure_none (recommit : Bool) :
    setupFailure c lane recommit = none ↔ ∀ n ≤ 33, (recommit = true → n ≠ 5) → setupRule c lane n := by
  have found : setupFailure c lane recommit = none ↔ _ := firstFailure_none (setupChecks c lane) (skipsField recommit)
  rw [found]
  simp only [not_skipsField_iff]
  refine ⟨fun passes n _ counts => (setupRule_iff c lane n).mpr fun x is same => passes x is (same ▸ counts),
    fun rules x is counts => (setupRule_iff c lane x.1).mp (rules x.1 (setupChecks_le c lane is) counts) x is rfl⟩

theorem setupFailure_some (recommit : Bool) (n : Nat) : setupFailure c lane recommit = some n
    ↔ n ≤ 33 ∧ ¬ setupRule c lane n ∧ (recommit = true → n ≠ 5)
      ∧ ∀ m < n, (recommit = true ∧ m = 5) ∨ setupRule c lane m := by
  have found : setupFailure c lane recommit = some n ↔ _ :=
    firstFailure_some (setupChecks_sorted c lane) (skipsField recommit) n
  have fails : (∃ x ∈ setupChecks c lane, x.1 = n ∧ x.2 = false) ↔ n ≤ 33 ∧ ¬ setupRule c lane n := by
    rw [setupRule_iff]
    refine ⟨?_, ?_⟩
    · rintro ⟨x, is, rfl, bad⟩
      exact ⟨setupChecks_le c lane is, fun passes => Bool.false_ne_true (bad.symm.trans (passes x is rfl))⟩
    · rintro ⟨-, not⟩
      simp only [not_forall] at not
      obtain ⟨x, is, same, bad⟩ := not
      exact ⟨x, is, same, Bool.eq_false_iff.mpr bad⟩
  rw [found, fails, not_skipsField_iff, and_assoc]
  simp only [skipsField_iff, ← setupRule_iff]

end

/-! ### The fields of the block (R178) -/

theorem bytesOfWords_length (ws : List Word) : (bytesOfWords ws).length = 4 * ws.length := by
  induction ws with
  | nil => rfl
  | cons w rest ih =>
    rw [bytesOfWords, List.length_append, le4_length, ih, List.length_cons]
    omega

/-- Byte `k` of a list of words. -/
theorem bytesOfWords_getD (ws : List Word) {k : Nat} (inside : k < 4 * ws.length) :
    (bytesOfWords ws).getD k 0 = byteOfWord (ws.getD (k / 4) 0) (k % 4) := by
  induction ws generalizing k with
  | nil => exact absurd inside (Nat.not_lt_zero k)
  | cons w rest ih =>
    match k with
    | 0 => rfl
    | 1 => rfl
    | 2 => rfl
    | 3 => rfl
    | k + 4 =>
      have later : k < 4 * rest.length := by
        rw [List.length_cons] at inside
        omega
      have quotient : (k + 4) / 4 = k / 4 + 1 := by omega
      have remainder : (k + 4) % 4 = k % 4 := by omega
      rw [quotient, remainder]
      exact ih later

section
variable (c : List Word)

theorem setupSum_eq : setupSum c = (c.map fun w => w.toNat % 65536 + w.toNat / 65536).sum % 65536 := by
  have added (a : Nat) : c.foldl (fun acc w => acc + (w.extractLsb' 0 16).toNat + (w.extractLsb' 16 16).toNat) a
      = a + (c.map fun w => w.toNat % 65536 + w.toNat / 65536).sum := by
    induction c generalizing a with
    | nil => rfl
    | cons w rest ih =>
      have low : (w.extractLsb' 0 16).toNat = w.toNat % 65536 := by simp [BitVec.extractLsb'_toNat]
      have high : (w.extractLsb' 16 16).toNat = w.toNat / 65536 := by
        have fits := w.isLt
        simp only [BitVec.extractLsb'_toNat, Nat.shiftRight_eq_div_pow]
        omega
      rw [List.foldl_cons, ih, List.map_cons, List.sum_cons, low, high]
      omega
  rw [setupSum, added, Nat.zero_add]

theorem setupLabel_bytes (whole : c.length = 256) {i : Nat} (label : i < 8) : (setupLabel c i).length = 16
    ∧ ∀ k < 16, ((setupLabel c i).getD k 0).toNat = recordByte c (0x084 + 16 * i + k) := by
  have words : ((c.drop (33 + 4 * i)).take 4).length = 4 := by
    rw [List.length_take, List.length_drop, whole]
    omega
  refine ⟨by rw [setupLabel, bytesOfWords_length, words], fun k inside => ?_⟩
  have word : ((c.drop (33 + 4 * i)).take 4).getD (k / 4) 0 = c.getD ((0x084 + 16 * i + k) / 4) 0 := by
    have place : (0x084 + 16 * i + k) / 4 = 33 + 4 * i + k / 4 := by omega
    have quarter : k / 4 < 4 := by omega
    rw [place, List.getD_eq_getElem?_getD, List.getD_eq_getElem?_getD, List.getElem?_take_of_lt quarter, List.getElem?_drop]
  have remainder : k % 4 = (0x084 + 16 * i + k) % 4 := by omega
  rw [setupLabel, bytesOfWords_getD _ (by rw [words]; exact inside), word, remainder]
  exact recByte_toNat c (0x084 + 16 * i + k)

/-- A label holds text, and zero bytes to its end (R31). -/
theorem labelOk_iff (l : List Byte) : labelOk l = true ↔ ∃ (text : List Byte) (n : Nat),
    l = text ++ List.replicate n 0 ∧ text ≠ [] ∧ ∀ b ∈ text, 0x20 ≤ b.toNat ∧ b.toNat ≤ 0x7E := by
  unfold labelOk
  rw [Bool.and_eq_true, labelTail_iff]
  constructor
  · rintro ⟨⟨text, n, is, printable⟩, begins⟩
    refine ⟨text, n, is, ?_, printable⟩
    rintro rfl
    subst is
    cases n with
    | zero => simp at begins
    | succ n => simp [List.replicate_succ] at begins
  · rintro ⟨text, n, is, nonempty, printable⟩
    refine ⟨⟨text, n, is, printable⟩, ?_⟩
    cases text with
    | nil => exact absurd rfl nonempty
    | cons b rest =>
      have shown := (printable b List.mem_cons_self).1
      subst is
      refine bne_iff_ne.mpr fun zero => ?_
      rw [zero] at shown
      exact absurd shown (by decide)

theorem setupFields_read : setupFields c where
  field _ := rfl
  sum := setupSum_eq c
  label whole _ label := setupLabel_bytes c whole label
  text _ := labelOk_iff _
  snapshot f is := by
    subst is
    rfl

end

/-! ### SETUP_COMMIT (R30, R33, R36) -/

section
variable {s : State} {n : Nat}

theorem exec_setupCommit (high : s.bi.inReset = false) (inHand : awaits s .setupCommit = true) (ready : commitReady s = true) :
    exec .setupCommit s = .next (setupCommit s) := stepIf_enabled high (by simp [inHand, ready])

theorem setupCommit_begins (fresh : s.bi.setupSpan = false) : setupCommit s = beginCommit s := by simp [setupCommit, fresh]

theorem setupCommit_decides (read : s.bi.setupSpan = true) : setupCommit s = decideCommit s := by simp [setupCommit, read]

theorem recommitAllowed_iff (s : State) :
    recommitAllowed s = true ↔ s.su.header.state = .idle ∧ ∀ j ∈ s.pu.jobs, j.active = false := by
  rw [recommitAllowed, Bool.and_eq_true, decide_eq_true_eq, Bool.not_eq_true', List.any_eq_false]
  simp only [Bool.not_eq_true]

/-- The block is protected and its reading asked for. -/
theorem beginCommit_reads (may : s.re.device = .ready → recommitAllowed s = true) : beginCommit s
    = (s.setBi { s.bi with setupSpan := true, engine := s.bi.engine ++ (List.range 32).map EngineAccess.setup }).setRe
        { s.re with setupRead := [] } := by
  have passes : (decide (s.re.device = .ready) && !recommitAllowed s) = false := by
    by_cases ready : s.re.device = .ready
    · simp [may ready]
    · simp [ready]
  simp only [beginCommit, passes, Bool.false_eq_true, if_false]

theorem beginCommit_refuses (ready : s.re.device = .ready) (not : recommitAllowed s = false) :
    beginCommit s = failRequest s .wrongState := by simp [beginCommit, ready, not]

/-- The copy has been taken, and the span has ended. -/
def copyTaken (s : State) : State := (s.setBi { s.bi with setupSpan := false }).setRe { s.re with setupRead := [] }

/-- The failing field is recorded, and published. -/
def commitFailed (s : State) (n : Nat) : State :=
  askReStatus ((copyTaken s).setRe { (copyTaken s).re with lastCommit := .setupBad, failField := n }) true

theorem decideCommit_fails (fails : setupFailure s.re.setupRead s.re.laneNumber (decide (s.re.device = .ready)) = some n) :
    decideCommit s = finishRequest (commitFailed s n) .setupBad (BitVec.ofNat 32 n) 0 := by
  unfold decideCommit
  dsimp only
  rw [fails]
  rfl

/-- The window of a request waits, so its answer does. -/
theorem commitFailed_held (s : State) (n : Nat) : ((commitFailed s n).bi.waiting.any fun w => w.ofRequest) = true := by
  simp [commitFailed, askReStatus, askFixed, askWindow]

end

/-- Settles O14: the judgement by `setupFailure_none` and `setupFailure_some`, the fields by `setupFields_read`, the command by
`beginCommit_reads`, `beginCommit_refuses` and `decideCommit_fails`. -/
theorem setupIsReadAndJudged : Obligations.SetupIsReadAndJudged := by
  unfold Obligations.SetupIsReadAndJudged
  refine ⟨fun c lane => ?first, fun c lane => ?recommit, fun c lane recommit n => setupFailure_some recommit n, setupFields_read,
    ?begins, ?refuses, ?fails⟩
  case first =>
    rw [setupFailure_none]
    exact forall₂_congr fun n _ => ⟨fun h => h nofun, fun h _ => h⟩
  case recommit =>
    rw [setupFailure_none]
    exact forall₂_congr fun n _ => ⟨fun h other => h fun _ => other, fun h other => h (other rfl)⟩
  case begins =>
    intro s high inHand fresh may
    have ready : commitReady s = true := by
      obtain unc | ⟨between, -⟩ := may
      · simp [commitReady, fresh, unc]
      · simp [commitReady, fresh, between]
    have allowed (isReady : s.re.device = .ready) : recommitAllowed s = true := by
      obtain unc | ⟨-, idle⟩ := may
      · rw [isReady] at unc
        exact nomatch unc
      · exact (recommitAllowed_iff s).mpr idle
    rw [exec_setupCommit high inHand ready, setupCommit_begins fresh, beginCommit_reads allowed]
  case refuses =>
    intro s high inHand fresh isReady between busy
    have not : recommitAllowed s = false := by
      refine Bool.eq_false_iff.mpr fun allowed => ?_
      obtain ⟨idle, inactive⟩ := (recommitAllowed_iff s).mp allowed
      obtain sale | ⟨j, is, active⟩ := busy
      · exact sale idle
      · exact Bool.false_ne_true ((inactive j is).symm.trans active)
    refine ⟨failRequest s .wrongState, ?_, failRequest_refuses s .wrongState⟩
    rw [exec_setupCommit high inHand (by simp [commitReady, fresh, between]), setupCommit_begins fresh,
      beginCommit_refuses isReady not]
  case fails =>
    intro s n high inHand read whole owed fails
    have runs := exec_setupCommit high inHand (by simp [commitReady, read, whole, owed])
    rw [setupCommit_decides read, decideCommit_fails fails, finishRequest_held (commitFailed_held s n)] at runs
    refine ⟨_, runs, rfl, rfl, rfl, askedFor_of_bi (s := commitFailed s n) (askedFor_askFixed (List.mem_singleton_self _)) rfl, ?_⟩
    exact eventFrame_setRe (askReStatus_frame _ true
      (eventFrame_setRe (eventFrame_setRe (eventFrame_setBi (.refl _ s) (by decide)) (by decide)) (by decide))) (by decide)

end Sys2Proof.Machine
end

section
/-! The links at a commit (R65, R70), and the first commit (R32; O15). -/

namespace Sys2Proof.Machine

/-! ### Entry to UNSEEN (R65) -/

/-- The link that has gone UNSEEN. -/
def unseenLink (s : State) (l : LinkId) (x : Link) (reason : LinkReason) : Link :=
  { changedLink x .unseen reason with
    identSeen := false, tracked := none, attempt := none, line := .running, freshStart := true
    silence := startTimer s (cfgSilence s l)
    rate := if ∃ f ∈ x.tx, f.seq.isSome = true then x.rate else cfgRate s l
    rateNext := if ∃ f ∈ x.tx, f.seq.isSome = true then some (cfgRate s l) else none
    tx := (x.tx.filter fun f => f.seq.isSome)
      ++ [{ kind := kHello, payload := helloPayload s l, seq := if ∃ f ∈ x.tx, f.seq.isSome = true then none else some 0 }]
    txSeq := if ∃ f ∈ x.tx, f.seq.isSome = true then 0 else 1 }

theorem unseenLink_congr {s t : State} (re : t.re = s.re) : unseenLink t = unseenLink s := by
  funext l x reason
  simp only [unseenLink, helloPayload, cfgRate, cfgSilence, cfg, startTimer, re]

/-- A frame is being sent, as the entry sees it. -/
theorem sendingFrame_iff (x : Link) : (!x.dropWaiting.tx.isEmpty) = true ↔ ∃ f ∈ x.tx, f.seq.isSome = true := by
  rw [dropWaiting_eq]
  simp [Option.isSome_iff_ne_none]

theorem noFrameSent_iff (x : Link) : (x.tx.filter fun f => f.seq.isSome) = [] ↔ ¬ ∃ f ∈ x.tx, f.seq.isSome = true := by
  rw [List.filter_eq_nil_iff]
  simp

/-- The link as the entry prepares it. -/
def unseenStart (s : State) (l : LinkId) : Link :=
  { (s.link l).dropWaiting with
    identSeen := false, txSeq := 0, tracked := none, attempt := none, line := .running, freshStart := true
    rate := if !(s.link l).dropWaiting.tx.isEmpty then (s.link l).dropWaiting.rate else cfgRate s l
    rateNext := if !(s.link l).dropWaiting.tx.isEmpty then some (cfgRate s l) else none }

theorem enterUnseen_steps (s : State) (l : LinkId) (reason : LinkReason) : enterUnseen s l reason
    = queueHello (startSilence (changeLink (s.setLink l (unseenStart s l)) l .unseen reason) l) l := rfl

theorem enterUnseen_same (s : State) (l : LinkId) (reason : LinkReason) :
    (enterUnseen s l reason).link l = unseenLink s l (s.link l) reason := by
  have changed := changeLink_same (s.setLink l (unseenStart s l)) l .unseen reason
  rw [State.link_setLink_same] at changed
  have re : (changeLink (s.setLink l (unseenStart s l)) l .unseen reason).re = s.re := by simp
  have timed := startSilence_same (changeLink (s.setLink l (unseenStart s l)) l .unseen reason) l
  rw [changed] at timed
  have open_ : helloOpen ((startSilence (changeLink (s.setLink l (unseenStart s l)) l .unseen reason) l).link l) := by
    rw [timed]
    refine ⟨nofun, nofun, fun f is _ none_ => ?_⟩
    have sends := (List.mem_filter.mp is).2
    simp [TxFrame.sending, none_] at sends
  have hello : helloPayload (startSilence (changeLink (s.setLink l (unseenStart s l)) l .unseen reason) l) l = helloPayload s l := by
    simp [helloPayload, cfgRate, cfg]
  have silence : startTimer (changeLink (s.setLink l (unseenStart s l)) l .unseen reason)
      (cfgSilence (changeLink (s.setLink l (unseenStart s l)) l .unseen reason) l) = startTimer s (cfgSilence s l) := by
    rw [startTimer, cfgSilence, cfg, re]
    rfl
  rw [enterUnseen_steps, queueHello_open open_, State.link_setLink_same, hello, timed, silence]
  have pushed := push_sending { changedLink (s.link l) .unseen reason with
    identSeen := false, txSeq := 0, tracked := none, attempt := none, line := .running, freshStart := true
    rate := if !(s.link l).dropWaiting.tx.isEmpty then (s.link l).rate else cfgRate s l
    rateNext := if !(s.link l).dropWaiting.tx.isEmpty then some (cfgRate s l) else none
    silence := startTimer s (cfgSilence s l) } kHello (helloPayload s l)
  simp only [if_congr (sendingFrame_iff (s.link l)) rfl rfl] at pushed
  refine Eq.trans ?_ pushed
  simp only [unseenStart, if_congr (sendingFrame_iff (s.link l)) rfl rfl]
  rfl

theorem enterUnseen_alone (s : State) (l : LinkId) (reason : LinkReason) : linkAlone l s (enterUnseen s l reason) :=
  ((((linkAlone.refl s).setLink _).trans (changeLink_alone _ l .unseen reason)).trans (startSilence_alone _ l)).trans (queueHello_alone _ l)

/-- The Notice Unit at the entry is the one after the raise. -/
theorem enterUnseen_nu (s : State) (l : LinkId) (reason : LinkReason) :
    ∃ u, (enterUnseen s l reason).nu = (raise u .linkChange (linkNo l)).nu ∧ u.nu = s.nu :=
  ⟨_, by rw [enterUnseen_steps]; simp [changeLink]; rfl, by simp⟩

theorem enterUnseen_reports {s : State} {l : LinkId} {reason : LinkReason} (latches : s.nu.latches.length = 24) :
    reported (enterUnseen s l reason) .linkChange (linkNo l) := by
  obtain ⟨u, after, before⟩ := enterUnseen_nu s l reason
  exact reported_of_nu (reported_raise (s := u) (by rw [before]; exact latches) fun _ => linkNo_lt l) (by rw [after]) (by rw [after])

theorem enterUnseen_keeps_report {s : State} {k l : LinkId} {reason : LinkReason} (other : k ≠ l)
    (h : reported s .linkChange (linkNo k)) : reported (enterUnseen s l reason) .linkChange (linkNo k) := by
  obtain ⟨u, after, before⟩ := enterUnseen_nu s l reason
  have apart : latchIndex .linkChange (linkNo l) ≠ latchIndex .linkChange (linkNo k) := by
    revert other
    cases k <;> cases l <;> decide
  exact reported_of_nu (reported_raise_other (fun _ => linkNo_lt k) apart (reported_of_nu h (by rw [before]) (by rw [before])))
    (by rw [after]) (by rw [after])

theorem enterUnseen_latches (s : State) (l : LinkId) (reason : LinkReason) :
    (enterUnseen s l reason).nu.latches.length = s.nu.latches.length := by
  obtain ⟨u, after, before⟩ := enterUnseen_nu s l reason
  rw [after, raise_latches_length, before]

theorem askedFor_askLinkStatus_of {s : State} {l : LinkId} {ofRequest : Bool} {o : BlockId} {y : LaneSection} (h : askedFor s o y) :
    askedFor (askLinkStatus s l ofRequest) o y := askedFor_askLiveAfter_of h

theorem askedFor_enterUnseen {s : State} {l : LinkId} {reason : LinkReason} {o : BlockId} {y : LaneSection} (h : askedFor s o y) :
    askedFor (enterUnseen s l reason) o y := by
  have changed : askedFor (changeLink (s.setLink l (unseenStart s l)) l .unseen reason) o y :=
    askedFor_askLinkStatus_of (askedFor_raise (askedFor_of_bi h (by simp)))
  exact askedFor_of_bi changed (by rw [enterUnseen_steps]; simp)

theorem askedFor_enterUnseen_links {s : State} {l : LinkId} {reason : LinkReason} :
    askedFor (enterUnseen s l reason) .lu .statusPage :=
  askedFor_of_bi (askedFor_changeLink (s := s.setLink l (unseenStart s l)) (l := l) (new := .unseen) (reason := reason))
    (by rw [enterUnseen_steps]; simp)

/-! ### The links one after another (log 41) -/

theorem links_complete (l : LinkId) : l ∈ [LinkId.platter, .bag, .card, .printer] := by cases l <;> decide

section
variable {f : State → LinkId → State}

/-- Steps of one link each, taken for each link once: a link is as its own step leaves it. -/
theorem foldl_links {g : State → LinkId → Link → Link} (alone : ∀ s l, linkAlone l s (f s l)) (re : ∀ s l, (f s l).re = s.re)
    (same : ∀ s l, (f s l).link l = g s l (s.link l)) (congr : ∀ s t, t.re = s.re → g t = g s) {ls : List LinkId}
    (once : ls.Nodup) (s : State) :
    (∀ l ∈ ls, (ls.foldl f s).link l = g s l (s.link l)) ∧ ∀ l ∉ ls, (ls.foldl f s).link l = s.link l := by
  induction ls generalizing s with
  | nil => exact ⟨nofun, fun _ _ => rfl⟩
  | cons k rest ih =>
    obtain ⟨new, once⟩ := List.nodup_cons.mp once
    obtain ⟨inside, outside⟩ := ih once (f s k)
    refine ⟨fun l is => ?_, fun l not => ?_⟩
    · obtain rfl | later := List.mem_cons.mp is
      · exact (outside l new).trans (same s l)
      · have other : l ≠ k := fun is => new (is ▸ later)
        rw [List.foldl_cons, inside l later, congr s (f s k) (re s k), alone s k l other]
    · obtain ⟨other, not⟩ := not_or.mp (mt List.mem_cons.mpr not)
      exact (outside l not).trans (alone s k l other)

/-- A report made at one link's step stays through the others'. -/
theorem foldl_links_report {l : LinkId} {z : State} (latches : ∀ s k, (f s k).nu.latches.length = s.nu.latches.length)
    (re : ∀ s k, (f s k).re = s.re)
    (own : ∀ s, s.re = z.re → s.nu.latches.length = 24 → reported (f s l) .linkChange (linkNo l))
    (others : ∀ s k, l ≠ k → reported s .linkChange (linkNo l) → reported (f s k) .linkChange (linkNo l)) {ls : List LinkId}
    {s : State} (same : s.re = z.re) (long : s.nu.latches.length = 24) (is : l ∈ ls ∨ reported s .linkChange (linkNo l)) :
    reported (ls.foldl f s) .linkChange (linkNo l) := by
  induction ls generalizing s with
  | nil => exact is.resolve_left nofun
  | cons k rest ih =>
    refine ih ((re s k).trans same) ((latches s k).trans long) ?_
    by_cases here : l = k
    · subst here
      exact .inr (own s same long)
    · exact is.imp (fun is => (List.mem_cons.mp is).resolve_left here) (others s k here)

end

end Sys2Proof.Machine
end

section
/-! The first commit (R32; O15). -/

namespace Sys2Proof.Machine

/-! ### Windows tied and marked (R16, R32) -/

section
variable {s : State} {start : Nat} {o : BlockId} {x : LaneSection}

/-- Windows rewritten one by one, with owner and sections as before, are still asked for. -/
theorem askedFor_map {t : State} {f : WindowAsk → WindowAsk} (h : askedFor s o x) (waiting : t.bi.waiting = s.bi.waiting.map f)
    (owner : ∀ w, (f w).owner = w.owner) (sections : ∀ w, (f w).sections = w.sections) : askedFor t o x := by
  obtain ⟨w, is, owned, covers⟩ := h
  refine ⟨f w, ?_, (owner w).trans owned, (sections w).symm ▸ covers⟩
  rw [waiting]
  exact List.mem_map_of_mem is

theorem askedFor_markCommit (h : askedFor s o x) : askedFor (markCommit s start) o x :=
  askedFor_map h rfl (fun w => by split <;> rfl) fun w => by split <;> rfl

/-- The links' windows belong to the commit. -/
theorem markCommit_waits_links (h : askedFor s .lu x) : ((markCommit s start).bi.waiting.any fun w => w.ofRequest) = true := by
  obtain ⟨w, is, owned, -⟩ := h
  refine List.any_eq_true.mpr ⟨_, List.mem_map_of_mem is, ?_⟩
  rw [if_pos (by simp [owned])]

/-- A window of the request stays one. -/
theorem markCommit_waits (h : (s.bi.waiting.any fun w => w.ofRequest) = true) :
    ((markCommit s start).bi.waiting.any fun w => w.ofRequest) = true := by
  obtain ⟨w, is, marked⟩ := List.any_eq_true.mp h
  refine List.any_eq_true.mpr ⟨_, List.mem_map_of_mem is, ?_⟩
  split
  next => rfl
  next => exact marked

theorem tieAsks_waits (h : (s.bi.waiting.any fun w => w.ofRequest) = true) :
    ((tieAsks s start).bi.waiting.any fun w => w.ofRequest) = true := by
  obtain ⟨w, is, marked⟩ := List.any_eq_true.mp h
  refine List.any_eq_true.mpr ⟨_, List.mem_map_of_mem is, ?_⟩
  split <;> exact marked

end

/-! ### The steps of the commit -/

section
variable (s : State) (c : Setup)

/-- The snapshot is taken and the lane clock starts at 0. -/
def laneStarted : State := (takeSetup s c).setRe { (takeSetup s c).re with clock := 0 }

/-- Each unit has initialised. -/
def unitsStarted : State := initPrinter (initTill (initCard (initBag (initPlatter (initSale (laneStarted s c) c)))))

/-- The BI's own write of the journal indices waits for the port. -/
def journalStarted : State := takeJournal ((unitsStarted s c).setJu
  { (unitsStarted s c).ju with forcedCarry := 0, nosaleCarry := 0, fixed := none }) c

theorem applyFirst_eq : applyFirst s c
    = markCommit (tieAsks (initLinks (journalStarted s c)) s.bi.nextWindow) s.bi.nextWindow := rfl

theorem unitsStarted_frame : eventFrame [.re, .su, .pwu, .bwu, .ctu, .tu, .pu] s (unitsStarted s c) :=
  initPrinter_frame _ (initTill_frame _ (initCard_frame _ (initBag_frame _ (initPlatter_frame _ (initSale_frame _ _
    (eventFrame_setRe (takeSetup_frame _ _ (.refl _ s) (by decide)) (by decide)) (by decide)) (by decide)) (by decide)) (by decide))
    (by decide)) (by decide)

theorem linksStarted_frame (start : Nat) (z : State) : eventFrame [.lu] z (markCommit (tieAsks (initLinks z) start) start) :=
  markCommit_frame _ _ (tieAsks_frame _ _ (initLinks_frame _ (.refl _ z) (by decide)))

theorem unitsStarted_re : (unitsStarted s c).re = { s.re with
    setup := some c, laneNumber := some (s.re.laneNumber.getD (BitVec.ofNat 16 c.lane)), device := .ready
    lastCommit := .done, failField := 0, statusDue := true, clock := 0 } := by
  simp [unitsStarted, laneStarted, takeSetup]

theorem unitsStarted_su : (unitsStarted s c).su
    = { s.su with header := Header.cleared, lines := [], tenders := [], nextNumber := c.saleNumber } := by
  simp [unitsStarted, laneStarted, initSale]

theorem unitsStarted_pwu : (unitsStarted s c).pwu = Pwu.reset := by
  simp [unitsStarted, initPlatter]

theorem unitsStarted_bwu : (unitsStarted s c).bwu = Bwu.reset := by
  simp [unitsStarted, initBag]

theorem unitsStarted_ctu : (unitsStarted s c).ctu = { Ctu.reset with refCounter := s.ctu.refCounter } := by
  simp [unitsStarted, initCard, laneStarted]

theorem unitsStarted_tu : (unitsStarted s c).tu = { s.tu with drawer := if s.tu.sensor then .opened else .shut } := by
  simp [unitsStarted, initTill, laneStarted]

theorem unitsStarted_pu : (unitsStarted s c).pu = { s.pu with
    cond := .offline, cause := .linkDown, credits := 0, reported := false, owner := .none, flight := [], receipt := .none
    closeMark := 0, jobs := List.replicate 8 Job.free, jobsDone := 0 } := by
  simp [unitsStarted, initPrinter, laneStarted]

theorem unitsStarted_others : (unitsStarted s c).ju = s.ju ∧ (unitsStarted s c).mem = s.mem ∧ (unitsStarted s c).lu = s.lu
    ∧ (unitsStarted s c).nu = s.nu := by
  simp [unitsStarted, laneStarted]

end

/-- The journal's own write changes the Journal Unit and the engine's queue alone. -/
theorem journalStarted_others (s : State) (c : Setup) : (journalStarted s c).lu = s.lu ∧ (journalStarted s c).nu = s.nu
    ∧ (journalStarted s c).mem = s.mem ∧ (journalStarted s c).re = (unitsStarted s c).re
    ∧ (journalStarted s c).su = (unitsStarted s c).su ∧ (journalStarted s c).pwu = (unitsStarted s c).pwu
    ∧ (journalStarted s c).bwu = (unitsStarted s c).bwu ∧ (journalStarted s c).ctu = (unitsStarted s c).ctu
    ∧ (journalStarted s c).tu = (unitsStarted s c).tu ∧ (journalStarted s c).pu = (unitsStarted s c).pu := by
  obtain ⟨-, mem, lu, nu⟩ := unitsStarted_others s c
  unfold journalStarted
  generalize unitsStarted s c = u at *
  exact ⟨lu, nu, mem, rfl, rfl, rfl, rfl, rfl, rfl, rfl⟩

theorem journalStarted_ju (s : State) (c : Setup) :
    (journalStarted s c).ju = { s.ju with forcedCarry := 0, nosaleCarry := 0, fixed := none } := by
  obtain ⟨ju, -⟩ := unitsStarted_others s c
  unfold journalStarted
  generalize unitsStarted s c = u at *
  rw [← ju]
  rfl

theorem journalStarted_bi (s : State) (c : Setup) : (journalStarted s c).bi
    = { (unitsStarted s c).bi with engine := (unitsStarted s c).bi.engine ++ [.journalWrite c.head c.exported] } := by
  unfold journalStarted
  generalize unitsStarted s c = u
  rfl

/-- The units that the commit's links and windows leave as they are. -/
theorem applyFirst_others (s : State) (c : Setup) : (applyFirst s c).mem = s.mem ∧ (applyFirst s c).re = (unitsStarted s c).re
    ∧ (applyFirst s c).pwu = (unitsStarted s c).pwu ∧ (applyFirst s c).bwu = (unitsStarted s c).bwu
    ∧ (applyFirst s c).ctu = (unitsStarted s c).ctu ∧ (applyFirst s c).tu = (unitsStarted s c).tu
    ∧ (applyFirst s c).pu = (unitsStarted s c).pu ∧ (applyFirst s c).ju = (journalStarted s c).ju := by
  obtain ⟨-, -, mem, re, -, pwu, bwu, ctu, tu, pu⟩ := journalStarted_others s c
  rw [applyFirst_eq, ← mem, ← re, ← pwu, ← bwu, ← ctu, ← tu, ← pu]
  generalize journalStarted s c = u
  simp

/-- The Bus Interposer: windows asked, and the journal's own write. -/
theorem applyFirst_bi (s : State) (c : Setup) : (applyFirst s c).bi = { s.bi with
    waiting := (applyFirst s c).bi.waiting, nextWindow := (applyFirst s c).bi.nextWindow
    nextGroup := (applyFirst s c).bi.nextGroup, engine := s.bi.engine ++ [.journalWrite c.head c.exported] } := by
  have units := (unitsStarted_frame s c).bi.resolve_left (by decide)
  have links := (linksStarted_frame s.bi.nextWindow (journalStarted s c)).bi.resolve_left (by decide)
  rw [← applyFirst_eq] at links
  unfold windowsAskedOnly at links units
  rw [journalStarted_bi, units] at links
  rw [links]

/-- The Sale Unit: only items that wait join what its initialisation leaves. -/
theorem applyFirst_su (s : State) (c : Setup) : (applyFirst s c).su = { s.su with
    header := Header.cleared, lines := [], tenders := [], nextNumber := c.saleNumber, inbox := (applyFirst s c).su.inbox } := by
  obtain ⟨-, -, -, -, su, -⟩ := journalStarted_others s c
  have links := (linksStarted_frame s.bi.nextWindow (journalStarted s c)).su.resolve_left (by decide)
  rw [← applyFirst_eq] at links
  unfold listOnly at links
  rw [su, unitsStarted_su] at links
  rw [links]

/-! ### What has been asked -/

section
variable {s : State} {c : Setup} {o : BlockId} {x : LaneSection}

theorem askedFor_initPlatter_of (h : askedFor s o x) : askedFor (initPlatter s) o x := askedFor_askPwuLive_of (askedFor_of_bi h rfl)

theorem askedFor_initBag_of (h : askedFor s o x) : askedFor (initBag s) o x := askedFor_askLiveAfter_of (askedFor_of_bi h rfl)

theorem askedFor_initCard_of (h : askedFor s o x) : askedFor (initCard s) o x :=
  askedFor_of_bi (askedFor_askWindow_of (askedFor_of_bi h rfl)) rfl

theorem askedFor_initTill_of (h : askedFor s o x) : askedFor (initTill s) o x := askedFor_askLiveAfter_of (askedFor_of_bi h rfl)

theorem askedFor_initPrinter_of (h : askedFor s o x) : askedFor (initPrinter s) o x := askedFor_askWindow_of (askedFor_of_bi h rfl)

theorem initLinks_steps (s : State) : initLinks s = enterUnseen (enterUnseen (enterUnseen (enterUnseen s .platter .laneUp) .bag .laneUp)
    .card .laneUp) .printer .laneUp := by
  simp only [initLinks, List.foldl_cons, List.foldl_nil]

theorem askedFor_initLinks_of (h : askedFor s o x) : askedFor (initLinks s) o x := by
  rw [initLinks_steps]
  exact askedFor_enterUnseen (askedFor_enterUnseen (askedFor_enterUnseen (askedFor_enterUnseen h)))

/-- Every unit has asked for its window (R32 step 3). -/
theorem unitsStarted_asks : askedFor (unitsStarted s c) .su .saleRecord ∧ askedFor (unitsStarted s c) .pwu .captureTable
    ∧ askedFor (unitsStarted s c) .ctu .cardSession ∧ askedFor (unitsStarted s c) .pu .jobTable
    ∧ askedFor (unitsStarted s c) .tu .statusPage ∧ askedFor (unitsStarted s c) .bwu .statusPage := by
  have printer {s : State} : askedFor (initPrinter s) .pu .jobTable := askedFor_askFixed (by decide)
  have till {s : State} : askedFor (initTill s) .tu .statusPage := askedFor_askTuStatus _ true
  have card {s : State} : askedFor (initCard s) .ctu .cardSession := askedFor_askCardSession _ true
  have bag {s : State} : askedFor (initBag s) .bwu .statusPage := askedFor_askBwuStatus
  have platter {s : State} : askedFor (initPlatter s) .pwu .captureTable := askedFor_askPwuLive (by decide)
  have sale {s : State} : askedFor (initSale s c) .su .saleRecord := askedFor_askFixed (by decide)
  exact ⟨askedFor_initPrinter_of (askedFor_initTill_of (askedFor_initCard_of (askedFor_initBag_of (askedFor_initPlatter_of sale)))),
    askedFor_initPrinter_of (askedFor_initTill_of (askedFor_initCard_of (askedFor_initBag_of platter))),
    askedFor_initPrinter_of (askedFor_initTill_of card), printer, askedFor_initPrinter_of till,
    askedFor_initPrinter_of (askedFor_initTill_of (askedFor_initCard_of bag))⟩

theorem applyFirst_asks (h : askedFor (unitsStarted s c) o x) : askedFor (applyFirst s c) o x := by
  rw [applyFirst_eq]
  exact askedFor_markCommit (askedFor_tieAsks (askedFor_initLinks_of (askedFor_of_bi h rfl)))

theorem applyFirst_waits : ((applyFirst s c).bi.waiting.any fun w => w.ofRequest) = true := by
  rw [applyFirst_eq, initLinks_steps]
  exact markCommit_waits_links (askedFor_tieAsks askedFor_enterUnseen_links)

end

/-! ### The links -/

/-- The link as its entry to UNSEEN leaves it, in the terms of R65 and R70. -/
theorem linkUnseen_of {s t u : State} {l : LinkId} {reason : LinkReason} {rate silence : Nat} {lane : Half}
    (is : t.link l = unseenLink u l (s.link l) reason) (clock : t.re.clock = u.re.clock) (rates : cfgRate u l = rate)
    (silences : cfgSilence u l = silence) (number : u.re.laneNumber = some lane) : linkUnseen s t l reason rate silence lane := by
  refine ⟨_, _, _, rfl, rfl, rfl, ?_⟩
  have hello : helloPayload u l = le2 lane ++ [BitVec.ofNat 8 (linkNo l), BitVec.ofNat 8 rate] := by
    rw [helloPayload, number, rates]
    rfl
  rw [is, startTimer, clock]
  simp only [noFrameSent_iff, ite_not]
  simp only [unseenLink, hello, rates, silences, startTimer]
  rfl

theorem setupOf_rate (copy : List Word) (l : LinkId) : (setupOf copy).rates.getD (linkNo l) 0 = setupField copy (6 + linkNo l) := by
  cases l <;> rfl

theorem setupOf_silence (copy : List Word) (l : LinkId) :
    (setupOf copy).silences.getD (linkNo l) 0 = setupField copy (10 + linkNo l) := by
  cases l <;> rfl

theorem initLinks_link (s : State) (l : LinkId) : (initLinks s).link l = unseenLink s l (s.link l) .laneUp :=
  (foldl_links (g := fun s l x => unseenLink s l x .laneUp) (fun s l => enterUnseen_alone s l .laneUp) (by simp)
    (fun s l => enterUnseen_same s l .laneUp) (fun s t re => by rw [unseenLink_congr re]) (by decide) s).1 l (links_complete l)

theorem initLinks_reports {s : State} (latches : s.nu.latches.length = 24) (l : LinkId) :
    reported (initLinks s) .linkChange (linkNo l) :=
  foldl_links_report (f := fun t l => enterUnseen t l .laneUp) (z := s) (fun s k => enterUnseen_latches s k .laneUp) (by simp)
    (fun _ _ => enterUnseen_reports) (fun _ _ => enterUnseen_keeps_report) rfl latches (.inl (links_complete l))

theorem applyFirst_link (s : State) (c : Setup) (l : LinkId) :
    (applyFirst s c).link l = unseenLink (journalStarted s c) l (s.link l) .laneUp := by
  obtain ⟨lu, -⟩ := journalStarted_others s c
  rw [applyFirst_eq, ← link_of_lu lu l]
  generalize journalStarted s c = u
  rw [← initLinks_link]
  exact link_of_lu (by simp) l

theorem applyFirst_reports {s : State} (c : Setup) (latches : s.nu.latches.length = 24) (l : LinkId) :
    reported (applyFirst s c) .linkChange (linkNo l) := by
  obtain ⟨-, nu, -⟩ := journalStarted_others s c
  rw [← nu] at latches
  rw [applyFirst_eq]
  generalize journalStarted s c = u at *
  exact reported_of_nu (initLinks_reports latches l) (by simp) (by simp)

/-- Settles O15: the units by `unitsStarted`, the links by `initLinks_link`, the rest by the frames of the steps. -/
theorem firstCommitStartsTheLane : Obligations.FirstCommitStartsTheLane := by
  unfold Obligations.FirstCommitStartsTheLane
  intro s high inHand read whole owed fresh latches passes
  have passed : setupFailure s.re.setupRead s.re.laneNumber (decide (s.re.device = .ready)) = none := by
    rw [fresh]
    exact passes
  have journal : setupJournalOk s.re.setupRead = true :=
    decide_eq_true (((setupFailure_none false).mp passes 5 (by decide) nofun).exported rfl)
  have runs := exec_setupCommit high inHand (by simp [commitReady, read, whole, owed])
  have decided : setupCommit s = finishRequest (applyFirst (copyTaken s) (setupOf s.re.setupRead)) .done
      (BitVec.ofNat 32 (setupOf s.re.setupRead).lane) 1 := by
    rw [setupCommit_decides read]
    unfold decideCommit
    dsimp only
    rw [passed]
    simp only [fresh, journal, reduceCtorEq, decide_false, Bool.false_eq_true, if_false, if_true]
    rfl
  rw [decided, finishRequest_held applyFirst_waits] at runs
  obtain ⟨mem, re, pwu, bwu, ctu, tu, pu, ju⟩ := applyFirst_others (copyTaken s) (setupOf s.re.setupRead)
  obtain ⟨sale, platter, card, printer, till, bag⟩ := unitsStarted_asks (s := copyTaken s) (c := setupOf s.re.setupRead)
  have bi := applyFirst_bi (copyTaken s) (setupOf s.re.setupRead)
  have su := applyFirst_su (copyTaken s) (setupOf s.re.setupRead)
  have link := applyFirst_link (copyTaken s) (setupOf s.re.setupRead)
  have reports := applyFirst_reports (s := copyTaken s) (setupOf s.re.setupRead) latches
  obtain ⟨-, -, -, begun, -⟩ := journalStarted_others (copyTaken s) (setupOf s.re.setupRead)
  rw [unitsStarted_re] at re begun
  rw [unitsStarted_pwu] at pwu
  rw [unitsStarted_bwu] at bwu
  rw [unitsStarted_ctu] at ctu
  rw [unitsStarted_tu] at tu
  rw [unitsStarted_pu] at pu
  rw [journalStarted_ju] at ju
  replace sale := applyFirst_asks sale
  replace platter := applyFirst_asks platter
  replace card := applyFirst_asks card
  replace printer := applyFirst_asks printer
  replace till := applyFirst_asks till
  replace bag := applyFirst_asks bag
  generalize journalStarted (copyTaken s) (setupOf s.re.setupRead) = u at *
  generalize applyFirst (copyTaken s) (setupOf s.re.setupRead) = t at *
  have unseen (l : LinkId) : linkUnseen s t l .laneUp (setupField s.re.setupRead (6 + linkNo l))
      (setupField s.re.setupRead (10 + linkNo l)) (s.re.laneNumber.getD (BitVec.ofNat 16 (setupField s.re.setupRead 2))) := by
    refine linkUnseen_of (link l) (by rw [re, begun]) ?_ ?_ (by rw [begun]; rfl)
    · rw [cfgRate, cfg, begun]
      exact setupOf_rate _ l
    · rw [cfgSilence, cfg, begun]
      exact setupOf_silence _ l
  refine ⟨_, runs, rfl, ?phase, ?due, ?re, ?header, ?lines, ?tenders, ?number, pwu, bwu, ctu, tu, pu, ju, mem, bi, fun l =>
    ⟨unseen l, reports l⟩, sale, platter, card, printer, till, bag⟩
  case phase => exact (congrArg Re.phase re).trans (phase_of_awaits inHand)
  case due => exact congrArg Re.statusDue re
  case re =>
    rw [State.setRe_re, re]
    rfl
  case header => exact congrArg Su.header su
  case lines => exact congrArg Su.lines su
  case tenders => exact congrArg Su.tenders su
  case number => exact congrArg Su.nextNumber su

end Sys2Proof.Machine
end

section
/-! A recommit (R34, R35; O16). -/

namespace Sys2Proof.Machine

/-! ### The platter (R34, R73, R85) -/

/-- The Platter Weighing Unit with its tare cleared and its window emptied; weight and zone anew where the tare changes (log 33). -/
def recommitted (u : Pwu) (c : Setup) : Pwu :=
  if u.tare = 0 then { u with tare := 0, window := [] }
  else { ({ u with tare := 0, window := [] } : Pwu).recompute c with zeroTimer := none }

section
variable {u : Pwu} {c : Setup}

theorem recommitted_kept (none_ : u.tare = 0) : recommitted u c = { u with tare := 0, window := [] } := if_pos none_

theorem recommitted_offline (tare : u.tare ≠ 0) (off : u.limit = .offline) :
    recommitted u c = { u with tare := 0, window := [], zone := .empty, zeroTimer := none } := by
  simp only [recommitted, if_neg tare, Pwu.recompute, off, if_true]

theorem recommitted_live (tare : u.tare ≠ 0) (live : u.limit ≠ .offline) : recommitted u c = { u with
    tare := 0, window := [], zeroTimer := none
    weight := roundDivision (u.gross - u.zero) c.platDivision
    zone := if (roundDivision (u.gross - u.zero) c.platDivision).natAbs < c.platMinNet * c.platDivision then .empty else .loaded } := by
  have net : ({ u with tare := 0, window := [] } : Pwu).net = u.gross - u.zero := by simp [Pwu.net]
  rw [recommitted, if_neg tare, recompute_live (u := { u with tare := 0, window := [] }) live, net]

theorem recommitted_eq (u : Pwu) (c : Setup) : recommitted u c = { u with
    tare := 0, window := [], weight := (recommitted u c).weight, zone := (recommitted u c).zone
    zeroTimer := (recommitted u c).zeroTimer } := by
  by_cases tare : u.tare = 0
  · rw [recommitted_kept tare]
  · by_cases off : u.limit = .offline
    · rw [recommitted_offline tare off]
    · rw [recommitted_live tare off]

/-- An empty window is not stable, so nothing is tracked. -/
theorem judgeTracking_empty (empty : u.window = []) (clock : Word) : u.judgeTracking c clock = { u with zeroTimer := none } := by
  have still : u.tracks c = false := by
    refine Bool.eq_false_iff.mpr fun tracks => ?_
    obtain ⟨-, -, -, stable, -⟩ := (tracks_iff u c).mp tracks
    rw [empty, isStable_nil] at stable
    exact nomatch stable
  rw [judgeTracking_eq, if_neg (by rw [still]; exact nofun)]

end

section
variable (old s : State)

theorem recommitPlatter_eq : recommitPlatter old s = (staleCurrent old s (recommitted s.pwu (cfg s)) true).setPwu
    { (staleCurrent old s (recommitted s.pwu (cfg s)) true).pwu with zeroTimer := none } := by
  have runs : recommitPlatter old s = (staleCurrent old s (recommitted s.pwu (cfg s)) true).setPwu
      ((staleCurrent old s (recommitted s.pwu (cfg s)) true).pwu.judgeTracking
        (cfg (staleCurrent old s (recommitted s.pwu (cfg s)) true)) (staleCurrent old s (recommitted s.pwu (cfg s)) true).re.clock) := by
    unfold recommitPlatter recommitted
    rfl
  have empty : (staleCurrent old s (recommitted s.pwu (cfg s)) true).pwu.window = [] := by
    by_cases captured : (recommitted s.pwu (cfg s)).machine = .captured
    · rw [staleCurrent_captured_pwu captured]
      rfl
    · rw [staleCurrent_other_pwu captured, recommitted_eq]
  rw [runs, judgeTracking_empty empty]

theorem recommitPlatter_captured (captured : s.pwu.machine = .captured) : (recommitPlatter old s).pwu
    = { (recommitted s.pwu (cfg s)).makeStale with zeroTimer := none } := by
  rw [recommitPlatter_eq, staleCurrent_captured_pwu (by rw [recommitted_eq]; exact captured)]
  rfl

theorem recommitPlatter_other (other : s.pwu.machine ≠ .captured) : (recommitPlatter old s).pwu
    = { recommitted s.pwu (cfg s) with zeroTimer := none } := by
  rw [recommitPlatter_eq, staleCurrent_other_pwu (by rw [recommitted_eq]; exact other)]
  rfl

theorem recommitPlatter_waits : ((recommitPlatter old s).bi.waiting.any fun w => w.ofRequest) = true := by
  rw [recommitPlatter_eq]
  exact staleCurrent_waits _ _ _

end

section
variable {old s : State}

theorem recommitPlatter_reports (captured : s.pwu.machine = .captured) (latches : s.nu.latches.length = 24) :
    reported (recommitPlatter old s) .captureStale 0 := by
  rw [recommitPlatter_eq]
  exact reported_of_nu (staleCurrent_reports (by rw [recommitted_eq]; exact captured) latches) rfl rfl

theorem askedFor_recommitPlatter (captured : s.pwu.machine = .captured) :
    askedFor (recommitPlatter old s) .pwu .captureTable := by
  rw [recommitPlatter_eq]
  exact askedFor_setPwu (staleCurrent_asks_table (by rw [recommitted_eq]; exact captured))

/-- A report of a link stays through the platter's. -/
theorem recommitPlatter_keeps_report {l : LinkId} (h : reported s .linkChange (linkNo l)) :
    reported (recommitPlatter old s) .linkChange (linkNo l) := by
  have apart : latchIndex .captureStale 0 ≠ latchIndex .linkChange (linkNo l) := by cases l <;> decide
  have staled : reported (staleCurrent old s (recommitted s.pwu (cfg s)) true) .linkChange (linkNo l) := by
    by_cases captured : (recommitted s.pwu (cfg s)).machine = .captured
    · rw [staleCurrent_captured captured]
      exact reported_askPwu (reported_raise_other (fun _ => linkNo_lt l) apart (reported_of_nu h rfl rfl))
    · rw [staleCurrent_other captured]
      exact reported_askPwu (reported_of_nu h rfl rfl)
  rw [recommitPlatter_eq]
  exact reported_of_nu staled rfl rfl

end

/-! ### The links whose rate changed (R34, R65) -/

section
variable (old : Setup)

/-- A link after the commit. -/
def relinkedLink (s : State) (l : LinkId) (x : Link) : Link :=
  if old.rates.getD (linkNo l) 0 = cfgRate s l then x else unseenLink s l x .rateChanged

theorem relinkedLink_congr {s t : State} (re : t.re = s.re) : relinkedLink old t = relinkedLink old s := by
  funext l x
  rw [relinkedLink, relinkedLink, unseenLink_congr re, cfgRate, cfgRate, cfg, cfg, re]

theorem relink_alone (s : State) (l : LinkId) : linkAlone l s (relink old s l) := by
  unfold relink
  split
  next => exact linkAlone.refl s
  next => exact enterUnseen_alone s l .rateChanged

theorem relink_same (s : State) (l : LinkId) : (relink old s l).link l = relinkedLink old s l (s.link l) := by
  unfold relink relinkedLink
  split
  next => rfl
  next => exact enterUnseen_same s l .rateChanged

theorem relink_latches (s : State) (l : LinkId) : (relink old s l).nu.latches.length = s.nu.latches.length := by
  unfold relink
  split
  next => rfl
  next => exact enterUnseen_latches s l .rateChanged

theorem relink_keeps_report {s : State} {k l : LinkId} (other : k ≠ l) (h : reported s .linkChange (linkNo k)) :
    reported (relink old s l) .linkChange (linkNo k) := by
  unfold relink
  split
  next => exact h
  next => exact enterUnseen_keeps_report other h

/-- The links after one another (log 41). -/
def relinked (s : State) : State := [LinkId.platter, .bag, .card, .printer].foldl (relink old) s

theorem relinked_steps (s : State) : relinked old s
    = relink old (relink old (relink old (relink old s .platter) .bag) .card) .printer := by
  simp only [relinked, List.foldl_cons, List.foldl_nil]

theorem relinked_link (s : State) (l : LinkId) : (relinked old s).link l = relinkedLink old s l (s.link l) :=
  (foldl_links (g := relinkedLink old) (relink_alone old) (by simp) (relink_same old) (fun s t re => relinkedLink_congr old re)
    (by decide) s).1 l (links_complete l)

theorem relinked_reports {s : State} (latches : s.nu.latches.length = 24) {l : LinkId}
    (changed : old.rates.getD (linkNo l) 0 ≠ cfgRate s l) : reported (relinked old s) .linkChange (linkNo l) := by
  refine foldl_links_report (z := s) (relink_latches old) (by simp) (fun t same long => ?_) (fun _ _ => relink_keeps_report old)
    rfl latches (.inl (links_complete l))
  have rate : cfgRate t l = cfgRate s l := by rw [cfgRate, cfgRate, cfg, cfg, same]
  rw [relink, rate, if_neg changed]
  exact enterUnseen_reports long

theorem relinked_frame {bs : List BlockId} {z : State} (s : State) (h : eventFrame bs z s) (hlu : .lu ∈ bs) :
    eventFrame bs z (relinked old s) := by
  rw [relinked_steps]
  exact relink_frame old _ _ (relink_frame old _ _ (relink_frame old _ _ (relink_frame old _ _ h hlu) hlu) hlu) hlu

theorem relinked_keeps (s : State) : (relinked old s).re = s.re ∧ (relinked old s).pwu = s.pwu ∧ (relinked old s).bwu = s.bwu
    ∧ (relinked old s).ju = s.ju ∧ (relinked old s).mem = s.mem := by
  rw [relinked_steps]
  simp

theorem relinked_latches (s : State) : (relinked old s).nu.latches.length = s.nu.latches.length := by
  rw [relinked_steps, relink_latches, relink_latches, relink_latches, relink_latches]

end

end Sys2Proof.Machine
end

section
/-! A recommit, step by step (R34, R35; O16). -/

namespace Sys2Proof.Machine

section
variable (s : State) (c : Setup) (journal : Bool)

/-- The snapshot is taken, and the links have changed. -/
def linksRecommitted : State := relinked (cfg s) (takeSetup s c)

/-- The platter has recommitted too. -/
def platterRecommitted : State := recommitPlatter s (linksRecommitted s c)

/-- And the bag, its window empty. -/
def bagRecommitted : State :=
  askBwuStatus ((platterRecommitted s c).setBwu { (platterRecommitted s c).bwu with window := [] }) true

/-- And the sale's next number. -/
def saleRecommitted : State := (bagRecommitted s c).setSu { (bagRecommitted s c).su with nextNumber := c.saleNumber }

/-- The BI's own write waits for the port where the journal's indices are taken (R15, R35). -/
def journalRecommitted : State := if journal then takeJournal (saleRecommitted s c) c else saleRecommitted s c

theorem applyRecommit_eq : applyRecommit s c journal
    = markCommit (tieAsks (journalRecommitted s c journal) s.bi.nextWindow) s.bi.nextWindow := rfl

/-- What the changes of links and platter leave. -/
theorem platterRecommitted_frame : eventFrame [.re, .lu, .pwu] s (platterRecommitted s c) :=
  recommitPlatter_frame _ _ (relinked_frame _ _ (takeSetup_frame _ _ (.refl _ s) (by decide)) (by decide)) (by decide)

theorem saleRecommitted_frame : eventFrame [.re, .lu, .pwu, .bwu, .su] s (saleRecommitted s c) :=
  eventFrame_setSu (askBwuStatus_frame _ _ (eventFrame_setBwu (recommitPlatter_frame _ _ (relinked_frame _ _
    (takeSetup_frame _ _ (.refl _ s) (by decide)) (by decide)) (by decide)) (by decide))) (by decide)

theorem linksRecommitted_keeps : (linksRecommitted s c).re = (takeSetup s c).re ∧ (linksRecommitted s c).pwu = s.pwu
    ∧ (linksRecommitted s c).bwu = s.bwu ∧ (linksRecommitted s c).ju = s.ju ∧ (linksRecommitted s c).mem = s.mem
    ∧ (linksRecommitted s c).nu.latches.length = s.nu.latches.length := by
  have kept := relinked_keeps (cfg s) (takeSetup s c)
  have latches := relinked_latches (cfg s) (takeSetup s c)
  unfold linksRecommitted
  generalize relinked (cfg s) (takeSetup s c) = u at *
  obtain ⟨re, pwu, bwu, ju, mem⟩ := kept
  exact ⟨re, pwu, bwu, ju, mem, latches⟩

/-- What the commit's later steps leave of the links, the platter and the Notice Unit. -/
theorem applyRecommit_keeps_platter : (applyRecommit s c journal).lu = (platterRecommitted s c).lu
    ∧ (applyRecommit s c journal).nu = (platterRecommitted s c).nu ∧ (applyRecommit s c journal).pwu = (platterRecommitted s c).pwu
    ∧ (applyRecommit s c journal).bwu = { (platterRecommitted s c).bwu with window := [] }
    ∧ (applyRecommit s c journal).su = { (platterRecommitted s c).su with nextNumber := c.saleNumber } := by
  rw [applyRecommit_eq, journalRecommitted, saleRecommitted, bagRecommitted]
  generalize platterRecommitted s c = u
  cases journal <;> simp

theorem applyRecommit_others : (applyRecommit s c journal).re = (takeSetup s c).re ∧ (applyRecommit s c journal).ju = s.ju
    ∧ (applyRecommit s c journal).mem = s.mem ∧ (applyRecommit s c journal).bwu = { s.bwu with window := [] } := by
  obtain ⟨re, -, bwu, ju, mem, -⟩ := linksRecommitted_keeps s c
  rw [applyRecommit_eq, journalRecommitted, saleRecommitted, bagRecommitted, platterRecommitted, ← re, ← bwu, ← ju, ← mem]
  generalize linksRecommitted s c = u
  cases journal <;> simp

theorem applyRecommit_su : (applyRecommit s c journal).su
    = { s.su with nextNumber := c.saleNumber, inbox := (platterRecommitted s c).su.inbox } := by
  obtain ⟨-, -, -, -, su⟩ := applyRecommit_keeps_platter s c journal
  have kept := (platterRecommitted_frame s c).su.resolve_left (by decide)
  unfold listOnly at kept
  rw [su, kept]

/-- The Bus Interposer: windows asked, and the journal's own write. -/
theorem applyRecommit_bi : (applyRecommit s c journal).bi = { s.bi with
    waiting := (applyRecommit s c journal).bi.waiting, nextWindow := (applyRecommit s c journal).bi.nextWindow
    nextGroup := (applyRecommit s c journal).bi.nextGroup
    engine := if journal then s.bi.engine ++ [.journalWrite c.head c.exported] else s.bi.engine } := by
  have sale := (saleRecommitted_frame s c).bi.resolve_left (by decide)
  have last := (markCommit_frame (bs := []) _ s.bi.nextWindow (tieAsks_frame (z := journalRecommitted s c journal) _ s.bi.nextWindow
    (.refl _ (journalRecommitted s c journal)))).bi.resolve_left nofun
  rw [← applyRecommit_eq] at last
  unfold windowsAskedOnly at last sale
  unfold journalRecommitted at last
  generalize applyRecommit s c journal = t at *
  generalize saleRecommitted s c = u at *
  cases journal with
  | false =>
    rw [last, if_neg Bool.false_ne_true, if_neg Bool.false_ne_true, sale]
  | true =>
    rw [last, if_pos rfl, if_pos rfl, takeJournal, State.setBi_bi, sale]

theorem applyRecommit_waits : ((applyRecommit s c journal).bi.waiting.any fun w => w.ofRequest) = true := by
  have bag : ((bagRecommitted s c).bi.waiting.any fun w => w.ofRequest) = true := by
    unfold bagRecommitted
    generalize (platterRecommitted s c).setBwu _ = u
    unfold askBwuStatus askLive askLiveAfter
    split
    next gathered => exact gatherInto_ofRequest gathered
    next => simp [askWindow]
  rw [applyRecommit_eq]
  refine markCommit_waits (tieAsks_waits ?_)
  unfold journalRecommitted saleRecommitted
  generalize bagRecommitted s c = u at *
  cases journal <;> exact bag

theorem askedFor_applyRecommit {o : BlockId} {x : LaneSection} (h : askedFor (platterRecommitted s c) o x) :
    askedFor (applyRecommit s c journal) o x := by
  have bag : askedFor (bagRecommitted s c) o x := askedFor_askLiveAfter_of (askedFor_of_bi h rfl)
  rw [applyRecommit_eq]
  refine askedFor_markCommit (askedFor_tieAsks ?_)
  unfold journalRecommitted saleRecommitted
  generalize bagRecommitted s c = u at *
  cases journal <;> exact askedFor_of_bi bag rfl

/-- The snapshot is in force when the links and the platter take it. -/
theorem linksRecommitted_cfg : cfg (linksRecommitted s c) = c := by
  obtain ⟨re, -⟩ := linksRecommitted_keeps s c
  rw [cfg, re]
  rfl

theorem platterRecommitted_captured (captured : s.pwu.machine = .captured) :
    (platterRecommitted s c).pwu = { (recommitted s.pwu c).makeStale with zeroTimer := none } := by
  obtain ⟨-, pwu, -⟩ := linksRecommitted_keeps s c
  have set := linksRecommitted_cfg s c
  unfold platterRecommitted
  generalize linksRecommitted s c = u at *
  rw [recommitPlatter_captured s u (by rw [pwu]; exact captured), pwu, set]

theorem platterRecommitted_other (other : s.pwu.machine ≠ .captured) :
    (platterRecommitted s c).pwu = { recommitted s.pwu c with zeroTimer := none } := by
  obtain ⟨-, pwu, -⟩ := linksRecommitted_keeps s c
  have set := linksRecommitted_cfg s c
  unfold platterRecommitted
  generalize linksRecommitted s c = u at *
  rw [recommitPlatter_other s u (by rw [pwu]; exact other), pwu, set]

/-- Weight and zone are those of the new parameters. -/
theorem platterRecommitted_weight : (platterRecommitted s c).pwu.weight = (recommitted s.pwu c).weight
    ∧ (platterRecommitted s c).pwu.zone = (recommitted s.pwu c).zone := by
  by_cases captured : s.pwu.machine = .captured
  · rw [platterRecommitted_captured s c captured]
    exact ⟨rfl, rfl⟩
  · rw [platterRecommitted_other s c captured]
    exact ⟨rfl, rfl⟩

theorem platterRecommitted_pwu : (platterRecommitted s c).pwu = { s.pwu with
    tare := 0, window := [], zeroTimer := none, weight := (platterRecommitted s c).pwu.weight
    zone := (platterRecommitted s c).pwu.zone, machine := (platterRecommitted s c).pwu.machine
    table := (platterRecommitted s c).pwu.table, lastStale := (platterRecommitted s c).pwu.lastStale } := by
  by_cases captured : s.pwu.machine = .captured
  · rw [platterRecommitted_captured s c captured, recommitted_eq]
    rfl
  · rw [platterRecommitted_other s c captured, recommitted_eq]

/-- A FRESH capture has become STALE (R34, R80). -/
theorem platterRecommitted_stale (captured : s.pwu.machine = .captured) (latches : s.nu.latches.length = 24) :
    (platterRecommitted s c).pwu.machine = .armed ∧ reported (platterRecommitted s c) .captureStale 0
    ∧ (platterRecommitted s c).pwu.lastStale = (s.pwu.entry s.pwu.curSlot).id ∧ askedFor (platterRecommitted s c) .pwu .captureTable
    ∧ (platterRecommitted s c).pwu.table = s.pwu.table.set s.pwu.curSlot { s.pwu.entry s.pwu.curSlot with state := .stale } := by
  obtain ⟨-, pwu, -, -, -, long⟩ := linksRecommitted_keeps s c
  have still : (linksRecommitted s c).pwu.machine = .captured := by rw [pwu]; exact captured
  refine ⟨?_, recommitPlatter_reports still (long.trans latches), ?_, askedFor_recommitPlatter still, ?_⟩
  all_goals rw [platterRecommitted_captured s c captured, recommitted_eq]; rfl

theorem linksRecommitted_link (l : LinkId) : (linksRecommitted s c).link l = relinkedLink (cfg s) (takeSetup s c) l (s.link l) :=
  relinked_link (cfg s) (takeSetup s c) l

theorem platterRecommitted_link (l : LinkId) : (platterRecommitted s c).link l = relinkedLink (cfg s) (takeSetup s c) l (s.link l) := by
  rw [← linksRecommitted_link, platterRecommitted]
  generalize linksRecommitted s c = u
  exact link_of_lu (by simp) l

theorem platterRecommitted_reports {l : LinkId} (latches : s.nu.latches.length = 24)
    (changed : (cfg s).rates.getD (linkNo l) 0 ≠ c.rates.getD (linkNo l) 0) :
    reported (platterRecommitted s c) .linkChange (linkNo l) :=
  recommitPlatter_keeps_report (relinked_reports (cfg s) (s := takeSetup s c) latches changed)

end

/-- Settles O16: the platter by `recommitted`, the links by `relinkedLink`, the rest by the steps of the commit. -/
theorem recommitKeepsTheSale : Obligations.RecommitKeepsTheSale := by
  unfold Obligations.RecommitKeepsTheSale
  intro s high inHand read whole owed ready latches passes
  have passed : setupFailure s.re.setupRead s.re.laneNumber (decide (s.re.device = .ready)) = none := by
    rw [ready]
    exact passes
  have runs := exec_setupCommit high inHand (by simp [commitReady, read, whole, owed])
  have decided : setupCommit s = finishRequest
      (applyRecommit (copyTaken s) (setupOf s.re.setupRead) (setupJournalOk s.re.setupRead)) .done
      (BitVec.ofNat 32 (setupOf s.re.setupRead).lane) (if setupJournalOk s.re.setupRead then 1 else 0) := by
    rw [setupCommit_decides read]
    unfold decideCommit
    dsimp only
    rw [passed]
    simp only [ready, decide_true, if_true]
    rfl
  rw [decided, finishRequest_held (applyRecommit_waits _ _ _)] at runs
  have rule15 := (setupFailure_none true).mp passes 15 (by decide) fun _ => by decide
  have positive : 0 < setupField s.re.setupRead 15 := by
    obtain is | is | is | is := (rule15.platDivision rfl).1 <;> omega
  have journal : setupJournalOk s.re.setupRead = decide ((s.re.setupRead.getD 4 0 - s.re.setupRead.getD 5 0).toNat ≤ 2048) := rfl
  obtain ⟨lu, nu, pwu, -, -⟩ := applyRecommit_keeps_platter (copyTaken s) (setupOf s.re.setupRead) (setupJournalOk s.re.setupRead)
  obtain ⟨re, ju, mem, bwu⟩ := applyRecommit_others (copyTaken s) (setupOf s.re.setupRead) (setupJournalOk s.re.setupRead)
  have units := applyRecommit_keeps (copyTaken s) (setupOf s.re.setupRead) (setupJournalOk s.re.setupRead)
  have su := applyRecommit_su (copyTaken s) (setupOf s.re.setupRead) (setupJournalOk s.re.setupRead)
  have bi := applyRecommit_bi (copyTaken s) (setupOf s.re.setupRead) (setupJournalOk s.re.setupRead)
  have asks {o : BlockId} {x : LaneSection} := askedFor_applyRecommit (copyTaken s) (setupOf s.re.setupRead)
    (setupJournalOk s.re.setupRead) (o := o) (x := x)
  obtain ⟨weight, zone⟩ := platterRecommitted_weight (copyTaken s) (setupOf s.re.setupRead)
  have platter := platterRecommitted_pwu (copyTaken s) (setupOf s.re.setupRead)
  have stale := platterRecommitted_stale (copyTaken s) (setupOf s.re.setupRead)
  have other := platterRecommitted_other (copyTaken s) (setupOf s.re.setupRead)
  have link := platterRecommitted_link (copyTaken s) (setupOf s.re.setupRead)
  have reports (l : LinkId) := platterRecommitted_reports (copyTaken s) (setupOf s.re.setupRead) (l := l)
  generalize setupJournalOk s.re.setupRead = taken at *
  generalize platterRecommitted (copyTaken s) (setupOf s.re.setupRead) = u at *
  generalize applyRecommit (copyTaken s) (setupOf s.re.setupRead) taken = t at *
  obtain ⟨ctu, tu, pu, -⟩ := units
  rw [← pwu] at weight zone platter stale
  have keepsPwu (tare : s.pwu.tare = 0) : t.pwu.weight = s.pwu.weight ∧ t.pwu.zone = s.pwu.zone := by
    rw [weight, zone, recommitted_kept (u := (copyTaken s).pwu) tare]
    exact ⟨rfl, rfl⟩
  have offline (tare : s.pwu.tare ≠ 0) (off : s.pwu.limit = .offline) : t.pwu.weight = s.pwu.weight ∧ t.pwu.zone = .empty := by
    rw [weight, zone, recommitted_offline (u := (copyTaken s).pwu) tare off]
    exact ⟨rfl, rfl⟩
  have live (tare : s.pwu.tare ≠ 0) (on : s.pwu.limit ≠ .offline) :
      roundedTo (s.pwu.gross - s.pwu.zero) (setupField s.re.setupRead 15) t.pwu.weight
      ∧ t.pwu.zone = (if t.pwu.weight.natAbs < setupField s.re.setupRead 16 * setupField s.re.setupRead 15 then LoadZone.empty
          else .loaded) := by
    rw [weight, zone, recommitted_live (u := (copyTaken s).pwu) tare on]
    exact ⟨roundDivision_rounded _ positive, rfl⟩
  have unchanged (not : s.pwu.machine ≠ .captured) : t.pwu.machine = s.pwu.machine ∧ t.pwu.table = s.pwu.table
      ∧ t.pwu.lastStale = s.pwu.lastStale := by
    rw [pwu, other not, recommitted_eq]
    exact ⟨rfl, rfl, rfl⟩
  have links (l : LinkId) : if (cfg s).rates.getD (linkNo l) 0 = setupField s.re.setupRead (6 + linkNo l) then t.link l = s.link l
      else linkUnseen s t l .rateChanged (setupField s.re.setupRead (6 + linkNo l)) (setupField s.re.setupRead (10 + linkNo l))
          (s.re.laneNumber.getD (BitVec.ofNat 16 (setupField s.re.setupRead 2)))
        ∧ reported t .linkChange (linkNo l) := by
    have same := (link_of_lu lu l).trans (link l)
    have rate : cfgRate (takeSetup (copyTaken s) (setupOf s.re.setupRead)) l = setupField s.re.setupRead (6 + linkNo l) := setupOf_rate _ l
    rw [relinkedLink, rate] at same
    split
    next kept =>
      rw [same]
      exact if_pos kept
    next changed =>
      rw [if_neg (show ¬ (cfg (copyTaken s)).rates.getD (linkNo l) 0 = _ from changed)] at same
      refine ⟨linkUnseen_of same (by rw [re]) rate (setupOf_silence _ l) rfl, ?_⟩
      exact reported_of_nu (reports l latches (by rw [setupOf_rate]; exact changed)) (by rw [nu]) (by rw [nu])
  have sale : t.su.header = s.su.header ∧ t.su.lines = s.su.lines ∧ t.su.tenders = s.su.tenders := by
    rw [su]
    exact ⟨rfl, rfl, rfl⟩
  refine ⟨_, runs, ?answer, ju, mem, ?phase, congrArg Re.statusDue re, ?re, ?bi, sale.1, sale.2.1, sale.2.2,
    congrArg Su.nextNumber su, platter, keepsPwu, offline, live, fun captured => ?stale, unchanged, bwu,
    ctu, tu, pu, links⟩
  case answer =>
    by_cases near : (s.re.setupRead.getD 4 0 - s.re.setupRead.getD 5 0).toNat ≤ 2048
    · rw [if_pos near]
      rw [journal, decide_eq_true near] at bi ⊢
      exact ⟨rfl, congrArg Bi.engine bi⟩
    · rw [if_neg near]
      rw [journal, decide_eq_false near] at bi ⊢
      have engine : t.bi.engine = s.bi.engine := by
        rw [bi]
        rfl
      exact ⟨rfl, engine⟩
  case phase => exact (congrArg Re.phase re).trans (phase_of_awaits inHand)
  case re =>
    rw [State.setRe_re, re]
    simp only [ready]
    rfl
  case bi =>
    rw [State.setRe_bi]
    rw [bi]
    rfl
  case stale =>
    obtain ⟨armed, told, last, asked, table⟩ := stale captured latches
    exact ⟨armed, reported_of_nu told (by rw [State.setRe_nu, nu]) (by rw [State.setRe_nu, nu]), last, asks asked, table⟩

end Sys2Proof.Machine
end

section
/-! A host write word on its way: presented, decided, taken (R1, R3, R4, R6-R8, R10, R18; O5, O6). -/

namespace Sys2Proof.Machine

/-! ### Presented (R18; log 42) -/

section
variable {s : State} {be : BitVec 4} {data : Word} {last : Bool}

theorem exec_hostWriteWord {addr : Word} (high : s.bi.inReset = false) (free : s.bi.hostStall = none)
    (aligned : addr.toNat % 4 = 0) :
    exec (.hostWriteWord addr be data last) s = .next (presentWord s (hostWord addr.toNat be data last)) :=
  stepIf_enabled high (by rw [busFree, free, (Laws.Operands.hostWriteWord addr be data last).mpr aligned]; rfl)

theorem exec_watchedRow (k : Watched) (high : s.bi.inReset = false) (free : s.bi.hostStall = none) :
    exec (watchedRow k be data last) s = .next (presentWord s (watchedWord s k be data last)) := by
  have ready : busFree s = true := by rw [busFree, free]; rfl
  cases k <;> exact stepIf_enabled high ready

theorem offerWord_takes {w : HostWord} (grant : (decideWrite s w).forwarded = true → s.bi.burstGranted = true ∨ engineOwed s = false) :
    offerWord s w = takeWord s w := by
  have granted : ((decideWrite s w).forwarded && !s.bi.burstGranted && engineOwed s) = false := by
    cases forwarded : (decideWrite s w).forwarded with
    | false => rfl
    | true =>
      obtain is | is := grant forwarded
      · rw [is]; rfl
      · rw [is, Bool.and_false]
  rw [offerWord, granted, if_neg Bool.false_ne_true]

/-- A word that is written and finds the port owed waits for it. -/
theorem offerWord_waits {w : HostWord} (forwarded : (decideWrite s w).forwarded = true) (free : s.bi.burstGranted = false)
    (owed : engineOwed s = true) : offerWord s w = s.setBi { s.bi with hostStall := some (.write w) } := by
  rw [offerWord, forwarded, free, owed]
  rfl

/-- A word that no answer and no grant holds back is taken at once. -/
theorem presentWord_takes {w : HostWord} (answers : (asksSale s w && !saleReady s) = false)
    (grant : (decideWrite s w).forwarded = true → s.bi.burstGranted = true ∨ engineOwed s = false) :
    presentWord s w = takeWord s w := by
  rw [presentWord, answers, if_neg Bool.false_ne_true, offerWord_takes grant]

end

/-! ### The end of the burst (R4) -/

/-- The burst ends with its last word. -/
def closeBurst (s : State) (last : Bool) : State := if last then endBurst s else s

theorem takeWord_decided {s : State} {w : HostWord} {d : Decision} (decided : decideWrite s w = d) :
    takeWord s w = closeBurst (applyDecision s w d) w.last := by
  subst decided
  rfl

section
variable {s : State} {last : Bool}

theorem closeBurst_keeps (s : State) (last : Bool) : (closeBurst s last).mem = s.mem ∧ (closeBurst s last).nu = s.nu
    ∧ (closeBurst s last).re = s.re ∧ (closeBurst s last).su = s.su ∧ (closeBurst s last).pu = s.pu
    ∧ (closeBurst s last).ju = s.ju ∧ (closeBurst s last).pending = s.pending := by
  cases last
  · exact ⟨rfl, rfl, rfl, rfl, rfl, rfl, rfl⟩
  · simp [closeBurst]

theorem closeBurst_bi (s : State) (last : Bool) : (closeBurst s last).bi = { s.bi with
    burstGranted := if last then false else s.bi.burstGranted, burstRefused := if last then false else s.bi.burstRefused
    waiting := (closeBurst s last).bi.waiting, nextWindow := (closeBurst s last).bi.nextWindow
    nextGroup := (closeBurst s last).bi.nextGroup } := by
  cases last
  · rfl
  · exact endBurst_bi s

/-- The copies of the page table and of the watched words stay. -/
theorem closeBurst_copies (s : State) (last : Bool) : (closeBurst s last).bi.pageTable = s.bi.pageTable
    ∧ ∀ k, watchedCopy (closeBurst s last) k = watchedCopy s k := by
  refine ⟨by rw [closeBurst_bi], fun k => ?_⟩
  cases k
  all_goals
    unfold watchedCopy
    dsimp only
    rw [closeBurst_bi]

/-- A burst with a refused word asks for the Status Page at its end, and no other does. -/
theorem closeBurst_asks (s : State) (last : Bool) : if last = true ∧ s.bi.burstRefused = true then
      askedFor (closeBurst s last) .bi .statusPage else (closeBurst s last).bi.waiting = s.bi.waiting := by
  cases last with
  | false =>
    rw [if_neg fun both => Bool.false_ne_true both.1]
    rfl
  | true =>
    have runs : closeBurst s true = if s.bi.burstRefused then
        askBiStatus (s.setBi { s.bi with burstGranted := false, burstRefused := false })
      else s.setBi { s.bi with burstGranted := false, burstRefused := false } := rfl
    rw [runs]
    cases refused : s.bi.burstRefused with
    | false =>
      rw [if_neg fun both => Bool.false_ne_true both.2, if_neg Bool.false_ne_true]
      rfl
    | true =>
      rw [if_pos ⟨rfl, rfl⟩, if_pos rfl]
      exact askedFor_askLiveAfter (List.mem_singleton_self _)

theorem askedFor_closeBurst {o : BlockId} {x : LaneSection} (h : askedFor s o x) : askedFor (closeBurst s last) o x := by
  cases last with
  | false => exact h
  | true =>
    unfold closeBurst endBurst
    dsimp only
    rw [if_pos rfl]
    split
    next => exact askedFor_askLiveAfter_of (askedFor_of_bi h rfl)
    next => exact askedFor_of_bi h rfl

theorem closeBurst_frame {bs : List BlockId} {z : State} (s : State) (last : Bool) (h : eventFrame bs z s) (hbi : .bi ∈ bs) :
    eventFrame bs z (closeBurst s last) := by
  cases last
  · exact h
  · exact endBurst_frame s h hbi

end

/-! ### The grant (R18; log 3) -/

section
variable (s : State)

theorem waitCounted_eq : (hostGrant s).bi.waitCount = waitCounted s := by
  rw [waitCounted]
  cases empty : s.bi.engine <;> simp [hostGrant, empty]

theorem grantBurst_granted {s : State} (granted : s.bi.burstGranted = true) : grantBurst s = s := if_pos granted

theorem grantBurst_counts {s : State} (first : s.bi.burstGranted = false) :
    grantBurst s = s.setBi { s.bi with waitCount := waitCounted s, burstGranted := true } := by
  have runs : grantBurst s = (hostGrant s).setBi { (hostGrant s).bi with burstGranted := true } :=
    if_neg (by rw [first]; exact Bool.false_ne_true)
  rw [runs, ← waitCounted_eq]
  rfl

/-- The first word that needs the port makes the burst's grant, and changes nothing else. -/
theorem grantBurst_eq : grantBurst s = s.setBi { s.bi with
    waitCount := if s.bi.burstGranted = true then s.bi.waitCount else waitCounted s, burstGranted := true } := by
  cases granted : s.bi.burstGranted with
  | true =>
    rw [grantBurst_granted granted, if_pos rfl]
    rw [← granted]
    rfl
  | false => rw [grantBurst_counts granted, if_neg Bool.false_ne_true]

end

/-! ### Memory (R1) -/

section
variable {s t : State} {a : Nat} {be : BitVec 4} {w : Word}

theorem wordWritten_of_mem (canonical : memoryCanonical s) (mem : t.mem = Memory.writeWord s.mem a be w) : wordWritten s t a be w := by
  refine ⟨fun k inside => ?_, fun b outside => ?_⟩
  · rw [mem, Memory.readByte_writeWord_inside a be w k canonical inside]
  · rw [mem, Memory.readByte_writeWord_outside a be w b canonical outside]

/-- An event after a write of memory keeps every block that it keeps of the state written to. -/
theorem blocksFrame_of_setMem {bs : List BlockId} {m : List Host.Cell} (h : eventFrame bs (s.setMem m) t) : blocksFrame bs s t where
  memory _ := rfl
  queue := h.queue
  bi := h.bi
  re := h.re
  nu := h.nu
  lu := h.lu
  pwu := h.pwu
  bwu := h.bwu
  su := h.su
  ctu := h.ctu
  tu := h.tu
  pu := h.pu
  ju := h.ju

/-- The word is written through the port, with the burst's grant. -/
def wordForwarded (s : State) (a : Nat) (be : BitVec 4) (w : Word) : State :=
  (grantBurst s).setMem (Memory.writeWord s.mem a be w)

theorem wordForwarded_eq : wordForwarded s a be w = (s.setMem (Memory.writeWord s.mem a be w)).setBi { s.bi with
    waitCount := if s.bi.burstGranted = true then s.bi.waitCount else waitCounted s, burstGranted := true } := by
  rw [wordForwarded, grantBurst_eq]
  rfl

end

/-- A word written through the port, and the end of the burst where it is the last. -/
theorem forwarded_closed {s : State} {a : Nat} {be : BitVec 4} {w : Word} (canonical : memoryCanonical s) (last : Bool) :
    wordWritten s (closeBurst (wordForwarded s a be w) last) a be w ∧ burstOnly s (closeBurst (wordForwarded s a be w) last)
    ∧ ((closeBurst (wordForwarded s a be w) last).bi.waitCount
          = (if s.bi.burstGranted = true then s.bi.waitCount else waitCounted s)
        ∧ (closeBurst (wordForwarded s a be w) last).bi.burstGranted = !last
        ∧ (closeBurst (wordForwarded s a be w) last).bi.burstRefused = (s.bi.burstRefused && !last))
    ∧ (if last = true ∧ s.bi.burstRefused = true then askedFor (closeBurst (wordForwarded s a be w) last) .bi .statusPage
        else (closeBurst (wordForwarded s a be w) last).bi.waiting = s.bi.waiting)
    ∧ blocksFrame [.bi] s (closeBurst (wordForwarded s a be w) last) := by
  have bi := closeBurst_bi (wordForwarded s a be w) last
  have asks := closeBurst_asks (wordForwarded s a be w) last
  obtain ⟨mem, -⟩ := closeBurst_keeps (wordForwarded s a be w) last
  have frame : blocksFrame [.bi] s (closeBurst (wordForwarded s a be w) last) := by
    refine blocksFrame_of_setMem (m := Memory.writeWord s.mem a be w) (closeBurst_frame _ last ?_ (by decide))
    rw [wordForwarded_eq]
    exact eventFrame_setBi (.refl _ _) (by decide)
  refine ⟨wordWritten_of_mem canonical mem, ?_, ⟨?_, ?_, ?_⟩, ?_, frame⟩
  all_goals rw [wordForwarded_eq] at bi asks ⊢
  · rw [burstOnly, bi]
    rfl
  · rw [bi]
    rfl
  · rw [bi]
    cases last <;> rfl
  · rw [bi]
    cases last
    · exact (Bool.and_true _).symm
    · exact (Bool.and_false _).symm
  · exact asks

/-! ### The decision (R1, R3, R5-R8, R10) -/

section
variable {s : State} {a : Nat} {be : BitVec 4} {data : Word} {last : Bool}

theorem decideWrite_ignored {w : HostWord} (outside : w.be = 0 ∨ Config.servedBytes ≤ w.addr) : decideWrite s w = .ignored := by
  have passed : (decide (w.be = 0) || decide (Config.servedBytes ≤ w.addr)) = true := by
    rw [Bool.or_eq_true, decide_eq_true_eq, decide_eq_true_eq]
    exact outside
  rw [decideWrite, passed, if_pos rfl]

theorem decideWrite_plain (enabled : be ≠ 0) (served : a < Config.servedBytes) (place : plainPlace s a) :
    decideWrite s (hostWord a be data last) = .plain a := by
  obtain ⟨outside, free⟩ | ⟨o, lies, gap | ⟨setup, open_⟩ | ⟨control, unwatched⟩ | ⟨queue, free⟩⟩ := place
  · rw [decideWrite_outside enabled served outside]
    exact if_neg (Bool.eq_false_iff.mp free)
  · rw [decideWrite_gap enabled served lies gap]
    rfl
  · rw [decideWrite_section enabled served lies setup, decideSection, if_neg (Bool.eq_false_iff.mp open_)]
    rfl
  · rw [decideWrite_section enabled served lies control, decideSection, unwatched]
    rfl
  · rw [decideWrite_section enabled served lies queue, decideSection]
    exact if_neg (Bool.eq_false_iff.mp free)

/-- The sections the host only reads refuse every word. -/
theorem decideSection_partOwned {w : HostWord} {o : Nat} {x : LaneSection} (owned : x.partOwned = true) :
    decideSection s w o x = .refused false := by
  cases x <;> simp_all [decideSection, LaneSection.partOwned]

theorem decideWrite_refused (enabled : be ≠ 0) (served : a < Config.servedBytes) (place : refusedPlace s a be data) :
    decideWrite s (hostWord a be data last) = .refused false := by
  obtain ⟨outside, held⟩ | ⟨o, x, lies, section_, rule⟩ := place
  · rw [decideWrite_outside enabled served outside]
    exact if_pos held
  · rw [decideWrite_section enabled served lies section_]
    obtain owned | ⟨rfl, span⟩ | ⟨rfl, k, watched, fails⟩ | ⟨rfl, submitted⟩ | ⟨rfl, used⟩ | ⟨rfl, m, maps, held⟩ := rule
    · exact decideSection_partOwned owned
    · exact if_pos span
    · rw [decideSection, watched]
      exact if_neg (Bool.eq_false_iff.mp fails)
    · exact if_pos submitted
    · exact if_pos used
    · rw [decideSection, maps]
      exact if_pos held

theorem decideWrite_unmapped (enabled : be ≠ 0) (served : a < Config.servedBytes) (place : unmappedPlace s a) :
    decideWrite s (hostWord a be data last) = .refused true := by
  obtain ⟨o, lies, aperture, unmapped⟩ := place
  rw [decideWrite_section enabled served lies aperture, decideSection, unmapped]

end

/-- Settles O5: a plain word by `wordForwarded`, the end of the burst by `closeBurst`. -/
theorem plainWordsAreWrittenAndOthersDropped : Obligations.PlainWordsAreWrittenAndOthersDropped := by
  unfold Obligations.PlainWordsAreWrittenAndOthersDropped
  refine ⟨fun s addr be data last canonical may aligned enabled served plain => ?written,
    fun s addr be data last high free aligned outside => ?dropped⟩
  case written =>
    obtain ⟨high, free, grant⟩ := may
    have runs := exec_hostWriteWord (be := be) (data := data) (last := last) high free aligned
    rw [presentWord_takes (asksSale_portPlace (.inl plain)) fun _ => grant,
      takeWord_decided (decideWrite_plain enabled served plain)] at runs
    have forwarded : applyDecision s (hostWord addr.toNat be data last) (.plain addr.toNat) = wordForwarded s addr.toNat be data := by
      rw [wordForwarded, applyDecision, grantBurst_eq]
      rfl
    rw [forwarded] at runs
    obtain ⟨written, burst, ⟨count, granted, refused⟩, asks, frame⟩ := forwarded_closed (be := be) (a := addr.toNat) (w := data)
      canonical last
    exact ⟨_, runs, written, burst, count, granted, refused, asks, frame⟩
  case dropped =>
    have runs := exec_hostWriteWord (be := be) (data := data) (last := last) high free aligned
    have ignored := decideWrite_ignored (s := s) (w := hostWord addr.toNat be data last) outside
    have answers : (asksSale s (hostWord addr.toNat be data last) && !saleReady s) = false := by
      obtain none_ | above := outside
      · simp [asksSale, hostWord, none_]
      · simp [asksSale, hostWord, Nat.not_lt.mpr above]
    rw [presentWord_takes answers (by rw [ignored]; exact nofun), takeWord_decided ignored] at runs
    have bi := closeBurst_bi s last
    have asks := closeBurst_asks s last
    obtain ⟨mem, -⟩ := closeBurst_keeps s last
    have frame := closeBurst_frame s last (.refl [.bi] s) (by decide)
    refine ⟨closeBurst s last, runs, mem, ?_, ?_, ?_, asks, frame⟩
    · rw [burstOnly, bi]
    · rw [bi]
    · rw [bi]
      cases last
      · exact (Bool.and_true _).symm
      · exact (Bool.and_false _).symm

/-- A counter within its limit counts one more, and stays at the limit (R4). -/
theorem sat_min {n : Nat} (within : n ≤ 65535) : sat n = min (n + 1) 65535 := by
  unfold sat
  split <;> omega

theorem refuseWord_reports {s : State} {a : Nat} {unmapped : Bool} (latches : s.nu.latches.length = 24) :
    reported (refuseWord s a unmapped) (if unmapped then .apertureFault else .writeRefused) 0 :=
  reported_raise latches (by cases unmapped <;> exact nofun)

/-- Settles O6: the count and the report by `refuseWord`, the Status Page by `closeBurst_asks`. -/
theorem refusedWordsAreCountedAndReported : Obligations.RefusedWordsAreCountedAndReported := by
  unfold Obligations.RefusedWordsAreCountedAndReported
  intro s addr be data last unmapped high free latches aligned enabled served count sale place
  have runs := exec_hostWriteWord (be := be) (data := data) (last := last) high free aligned
  have refused : decideWrite s (hostWord addr.toNat be data last) = .refused unmapped := by
    cases unmapped with
    | false => exact decideWrite_refused enabled served place
    | true => exact decideWrite_unmapped enabled served place
  have answers : (asksSale s (hostWord addr.toNat be data last) && !saleReady s) = false := by
    by_cases fill : laneOffset s addr.toNat = some 0x1010
    · rw [sale fill, Bool.not_true, Bool.and_false]
    · simp [asksSale, hostWord, fill]
  rw [presentWord_takes answers (by rw [refused]; exact nofun), takeWord_decided refused] at runs
  have bi := closeBurst_bi (refuseWord s addr.toNat unmapped) last
  have asks := closeBurst_asks (refuseWord s addr.toNat unmapped) last
  obtain ⟨mem, nu, -⟩ := closeBurst_keeps (refuseWord s addr.toNat unmapped) last
  have marked := refuseWord_bi s addr.toNat unmapped
  have told := refuseWord_reports (a := addr.toNat) (unmapped := unmapped) latches
  have frame := closeBurst_frame _ last (refuseWord_frame s addr.toNat unmapped (.refl [.bi] s) (by decide)) (by decide)
  have counted : sat s.bi.refusedCount = min (s.bi.refusedCount + 1) 65535 := sat_min count
  have named : BitVec.ofNat 32 addr.toNat = addr := by simp
  have kept : (refuseWord s addr.toNat unmapped).mem = s.mem := by simp
  rw [marked, counted, named] at bi
  rw [marked] at asks
  refine ⟨closeBurst (refuseWord s addr.toNat unmapped) last, runs, mem.trans kept, ?_, reported_of_nu told (by rw [nu]) (by rw [nu]),
    fun is => ?_, frame⟩
  · rw [bi]
    cases last <;> rfl
  · rw [if_pos ⟨is, rfl⟩] at asks
    exact asks

end Sys2Proof.Machine
end

section
/-! The rows of the lane area, and words of the page table and of the aperture (R2, R3, R7, R8; O7). -/

namespace Sys2Proof.Machine

/-! ### Places in the lane area (R2) -/

theorem laneBase_lt (s : State) : laneBase s < 268435456 := by
  have strap := s.bi.laSel.isLt
  rw [laneBase]
  omega

theorem laneBase_aligned (s : State) : laneBase s % 4 = 0 := by
  rw [laneBase]
  omega

theorem laneOffset_at (s : State) {o : Nat} (inside : o < 524288) : laneOffset s (laneBase s + o) = some o := by
  rw [laneOffset, if_pos ⟨Nat.le_add_right _ _, Nat.add_lt_add_left inside _⟩, Nat.add_sub_cancel_left]

/-- The lane area is served memory. -/
theorem laneArea_served (s : State) {o : Nat} (inside : o < 524288) : laneBase s + o < Config.servedBytes := by
  have strap := s.bi.laSel.isLt
  rw [laneBase, Config.servedBytes]
  omega

theorem Watched.offset_bounds (k : Watched) : k.offset < 524288 ∧ k.offset % 4 = 0 := by
  cases k <;> decide

/-! ### Rows and host accesses (R3) -/

section
variable {s : State} {be : BitVec 4} {data : Word} {last : Bool} {n : Nat}

theorem exec_hostWriteWord_at (fits : n < 4294967296) (aligned : n % 4 = 0) :
    exec (.hostWriteWord (BitVec.ofNat 32 n) be data last) s = stepIf s (busFree s) (presentWord s (hostWord n be data last)) := by
  have value : (BitVec.ofNat 32 n).toNat = n := by
    rw [BitVec.toNat_ofNat]
    exact Nat.mod_eq_of_lt fits
  have formed := (Laws.Operands.hostWriteWord (BitVec.ofNat 32 n) be data last).mpr (by rw [value]; exact aligned)
  have runs : exec (.hostWriteWord (BitVec.ofNat 32 n) be data last) s
      = stepIf s (busFree s && Instr.wellFormed (.hostWriteWord (BitVec.ofNat 32 n) be data last))
          (presentWord s (hostWord (BitVec.ofNat 32 n).toNat be data last)) := rfl
  rw [runs, formed, Bool.and_true, value]

/-- A row that names a word of the lane area is the host write of that word. -/
theorem exec_row_at {c : Instr} {o : Nat} (runs : exec c s = stepIf s (busFree s) (presentWord s (hostWord (laneBase s + o) be data last)))
    (inside : o < 524288) (aligned : o % 4 = 0) :
    exec c s = exec (.hostWriteWord (BitVec.ofNat 32 (laneBase s + o)) be data last) s := by
  have low := laneBase_lt s
  have base := laneBase_aligned s
  rw [exec_hostWriteWord_at (by omega) (by omega), runs]

theorem exec_watchedRow_at (k : Watched) : exec (watchedRow k be data last) s
    = stepIf s (busFree s) (presentWord s (hostWord (laneBase s + k.offset) be data last)) := by
  cases k <;> rfl

theorem exec_printPageTableWrite_at {word : Nat} (inside : word < 128) : exec (.printPageTableWrite word be data last) s
    = stepIf s (busFree s) (presentWord s (hostWord (laneBase s + (0xD000 + 4 * word)) be data last)) := by
  have runs : exec (.printPageTableWrite word be data last) s
      = stepIf s (busFree s && Instr.wellFormed (.printPageTableWrite word be data last))
          (presentWord s (hostWord (laneBase s + 0xD000 + 4 * word) be data last)) := rfl
  rw [runs, (Laws.Operands.printPageTableWrite word be data last).mpr inside, Bool.and_true, Nat.add_assoc]

theorem exec_apertureWrite_at {word : Nat} (inside : word < 65536) : exec (.apertureWrite word be data last) s
    = stepIf s (busFree s) (presentWord s (hostWord (laneBase s + (0x40000 + 4 * word)) be data last)) := by
  have runs : exec (.apertureWrite word be data last) s
      = stepIf s (busFree s && Instr.wellFormed (.apertureWrite word be data last))
          (presentWord s (hostWord (laneBase s + 0x40000 + 4 * word) be data last)) := rfl
  rw [runs, (Laws.Operands.apertureWrite word be data last).mpr inside, Bool.and_true, Nat.add_assoc]

theorem exec_apertureRead_at {word : Nat} (inside : word < 65536) : exec (.apertureRead word) s
    = stepIf s (readFree s) (presentRead s (laneBase s + 0x40000 + 4 * word) 1) := by
  have runs : exec (.apertureRead word) s = stepIf s (readFree s && Instr.wellFormed (.apertureRead word))
      (presentRead s (laneBase s + 0x40000 + 4 * word) 1) := rfl
  rw [runs, (Laws.Operands.apertureRead word).mpr inside, Bool.and_true]

theorem exec_hostReadBurst_at {addr : Word} {len : Nat} (formed : (Instr.hostReadBurst addr len).wellFormed = true) :
    exec (.hostReadBurst addr len) s = stepIf s (readFree s) (presentRead s addr.toNat len) := by
  have runs : exec (.hostReadBurst addr len) s = stepIf s (readFree s && Instr.wellFormed (.hostReadBurst addr len))
      (presentRead s addr.toNat len) := rfl
  rw [runs, formed, Bool.and_true]

end

/-! ### A word of the page table, and one of the aperture (R7, R8) -/

section
variable {s : State} {be : BitVec 4} {data : Word} {last : Bool} {word : Nat}

theorem sectionAt_pageTable (inside : word < 128) : sectionAt (0xD000 + 4 * word) = some .pageTable := by
  grind [sectionAt]

theorem sectionAt_aperture (inside : word < 65536) : sectionAt (0x40000 + 4 * word) = some .aperture := by
  grind [sectionAt]

theorem decideWrite_page (enabled : be ≠ 0) (inside : word < 128) (unused : entryInUse s (word / 2) = false) :
    decideWrite s (hostWord (laneBase s + (0xD000 + 4 * word)) be data last) = .page word := by
  have entry : (0xD000 + 4 * word - Config.pageTableOff) / 8 = word / 2 := by rw [Config.pageTableOff]; omega
  have index : (0xD000 + 4 * word - Config.pageTableOff) / 4 = word := by rw [Config.pageTableOff]; omega
  rw [decideWrite_section enabled (laneArea_served s (by omega)) (laneOffset_at s (by omega)) (sectionAt_pageTable inside),
    decideSection, entry, unused, index, if_neg Bool.false_ne_true]

theorem translate_mapped {frame : Nat} (valid : (pageEntry s (word / 1024)).valid.getLsbD 0 = true)
    (is : frame = (pageEntry s (word / 1024)).frame.toNat / 4096 * 4096) (served : frame < Config.servedBytes)
    (outside : frame < laneBase s ∨ laneBase s + 524288 ≤ frame) :
    translate s (0x40000 + 4 * word) = some (frame + 4 * word % 4096) := by
  have page : (0x40000 + 4 * word - 0x40000) / 4096 = word / 1024 := by omega
  have place : (0x40000 + 4 * word - 0x40000) % 4096 = 4 * word % 4096 := by omega
  have framed : entryFrame (pageEntry s (word / 1024)) = frame := by rw [entryFrame, is]
  have maps : entryMaps s (pageEntry s (word / 1024)) = true := by
    rw [entryMaps, framed, valid, decide_eq_true served, Bool.true_and, Bool.true_and, Bool.not_eq_true',
      Bool.and_eq_false_iff, decide_eq_false_iff_not, decide_eq_false_iff_not]
    obtain below | above := outside
    · exact .inl (by omega)
    · exact .inr (by rw [Config.laneBytes]; omega)
  unfold translate
  dsimp only
  rw [page, place, if_pos maps, framed]

theorem decideWrite_aperture {m : Nat} (enabled : be ≠ 0) (inside : word < 65536)
    (maps : translate s (0x40000 + 4 * word) = some m) (free : addrProtected s m = false) :
    decideWrite s (hostWord (laneBase s + (0x40000 + 4 * word)) be data last) = .plain m := by
  rw [decideWrite_section enabled (laneArea_served s (by omega)) (laneOffset_at s (by omega)) (sectionAt_aperture inside),
    decideSection, maps]
  exact if_neg (Bool.eq_false_iff.mp free)

/-- Only a word of RECEIPT_FILL asks the Sale Unit (R14). -/
theorem asksSale_other {a : Nat} {o : Nat} (lies : laneOffset s a = some o) (other : o ≠ 0x1010) :
    (asksSale s (hostWord a be data last) && !saleReady s) = false := by
  have asks : asksSale s (hostWord a be data last) = false := by
    rw [asksSale, Bool.and_eq_false_iff]
    exact .inr (decide_eq_false fun is => other (Option.some.inj (lies.symm.trans is)))
  rw [asks, Bool.false_and]

end

/-! ### The commands -/

section
variable {s : State} {be : BitVec 4} {data : Word} {last : Bool} {word : Nat}

/-- A word of the page table goes to memory and to the copy of its entry, with the burst's grant (R3, R8). -/
def pageWritten (s : State) (word : Nat) (be : BitVec 4) (data : Word) : State :=
  (s.setMem (Memory.writeWord s.mem (laneBase s + (0xD000 + 4 * word)) be data)).setBi { s.bi with
    waitCount := if s.bi.burstGranted = true then s.bi.waitCount else waitCounted s, burstGranted := true
    pageTable := s.bi.pageTable.set (word / 2) ((pageEntry s (word / 2)).write (decide (word % 2 = 1)) be data) }

theorem applyDecision_page (s : State) (w : HostWord) (word : Nat) :
    applyDecision s w (.page word) = pageWritten s word w.be w.data := by
  rw [applyDecision, grantBurst_eq, pageWritten, ← Nat.add_assoc]
  rfl

theorem pageWritten_entry (s : State) (word : Nat) (be : BitVec 4) (data : Word) : (pageWritten s word be data).bi.pageTable
    = s.bi.pageTable.set (word / 2)
        (if word % 2 = 1 then { pageEntry s (word / 2) with valid := mergeWord be (pageEntry s (word / 2)).valid data }
         else { pageEntry s (word / 2) with frame := mergeWord be (pageEntry s (word / 2)).frame data }) := by
  rw [pageWritten, State.setBi_bi, PageEntry.write]
  simp only [decide_eq_true_eq]

theorem printPageTableWrite_rule (canonical : memoryCanonical s) (may : hostMayWrite s) (enabled : be ≠ 0) (inside : word < 128)
    (unused : entryInUse s (word / 2) = false) : ∃ t, exec (.printPageTableWrite word be data last) s = .next t
      ∧ wordWritten s t (laneBase s + 0xD000 + 4 * word) be data
      ∧ t.bi.pageTable = s.bi.pageTable.set (word / 2)
          (if word % 2 = 1 then { pageEntry s (word / 2) with valid := mergeWord be (pageEntry s (word / 2)).valid data }
           else { pageEntry s (word / 2) with frame := mergeWord be (pageEntry s (word / 2)).frame data })
      ∧ (∀ k, watchedCopy t k = watchedCopy s k)
      ∧ (last = true → s.bi.burstRefused = true → askedFor t .bi .statusPage) ∧ blocksFrame [.bi] s t := by
  obtain ⟨high, free, grant⟩ := may
  have decided := decideWrite_page (s := s) (data := data) (last := last) enabled inside unused
  have runs : exec (.printPageTableWrite word be data last) s
      = .next (presentWord s (hostWord (laneBase s + (0xD000 + 4 * word)) be data last)) := by
    rw [exec_printPageTableWrite_at inside, busFree, free]
    exact stepIf_enabled high rfl
  rw [presentWord_takes (asksSale_other (laneOffset_at s (by omega)) (by omega)) fun _ => grant, takeWord_decided decided] at runs
  rw [applyDecision_page] at runs
  have asks := closeBurst_asks (pageWritten s word be data) last
  obtain ⟨mem, -⟩ := closeBurst_keeps (pageWritten s word be data) last
  have frame : blocksFrame [.bi] s (closeBurst (pageWritten s word be data) last) :=
    blocksFrame_of_setMem (closeBurst_frame _ last (eventFrame_setBi (.refl _ _) (by decide)) (by decide))
  rw [Nat.add_assoc]
  refine ⟨_, runs, wordWritten_of_mem canonical mem, ?_, fun k => ?_, fun is refused => ?_, frame⟩
  · rw [← pageWritten_entry]
    exact (closeBurst_copies _ last).1
  · exact ((closeBurst_copies (pageWritten s word be data) last).2 k).trans (by cases k <;> rfl)
  · rw [if_pos ⟨is, refused⟩] at asks
    exact asks

theorem apertureWrite_rule {frame : Nat} (canonical : memoryCanonical s) (may : hostMayWrite s) (enabled : be ≠ 0)
    (inside : word < 65536) (maps : translate s (0x40000 + 4 * word) = some frame) (unprotected : addrProtected s frame = false) :
    ∃ t, exec (.apertureWrite word be data last) s = .next t ∧ wordWritten s t frame be data ∧ burstOnly s t
      ∧ (last = true → s.bi.burstRefused = true → askedFor t .bi .statusPage) ∧ blocksFrame [.bi] s t := by
  obtain ⟨high, free, grant⟩ := may
  have decided := decideWrite_aperture (s := s) (data := data) (last := last) enabled inside maps unprotected
  have runs : exec (.apertureWrite word be data last) s
      = .next (presentWord s (hostWord (laneBase s + (0x40000 + 4 * word)) be data last)) := by
    rw [exec_apertureWrite_at inside, busFree, free]
    exact stepIf_enabled high rfl
  rw [presentWord_takes (asksSale_other (laneOffset_at s (by omega)) (by omega)) fun _ => grant, takeWord_decided decided] at runs
  have forwarded : applyDecision s (hostWord (laneBase s + (0x40000 + 4 * word)) be data last) (.plain frame)
      = wordForwarded s frame be data := by
    rw [wordForwarded, applyDecision, grantBurst_eq]
    rfl
  rw [forwarded] at runs
  obtain ⟨written, burst, -, asks, whole⟩ := forwarded_closed (be := be) (a := frame) (w := data) canonical last
  exact ⟨_, runs, written, burst, fun is refused => by rw [if_pos ⟨is, refused⟩] at asks; exact asks, whole⟩

end

/-- Settles O7: the rows by `exec_row_at`, their words by `printPageTableWrite_rule` and `apertureWrite_rule`. -/
theorem rowsOfTheLaneAreaAreHostAccesses : Obligations.RowsOfTheLaneAreaAreHostAccesses := by
  unfold Obligations.RowsOfTheLaneAreaAreHostAccesses
  refine ⟨⟨fun s k be data last => ?watched, fun s word be data last inside => ?page, fun s word be data last inside => ?aperture,
    fun s word inside => ?read⟩,
    fun s word be data last canonical may enabled inside unused => printPageTableWrite_rule canonical may enabled inside unused,
    fun s word be data last frame canonical may enabled inside valid is served outside unprotected => ?written⟩
  case watched =>
    obtain ⟨inside, aligned⟩ := k.offset_bounds
    exact exec_row_at (exec_watchedRow_at k) inside aligned
  case page =>
    rw [Nat.add_assoc]
    exact exec_row_at (exec_printPageTableWrite_at inside) (by omega) (by omega)
  case aperture =>
    rw [Nat.add_assoc]
    exact exec_row_at (exec_apertureWrite_at inside) (by omega) (by omega)
  case read =>
    have low := laneBase_lt s
    have base := laneBase_aligned s
    have value : (BitVec.ofNat 32 (laneBase s + 0x40000 + 4 * word)).toNat = laneBase s + 0x40000 + 4 * word := by
      rw [BitVec.toNat_ofNat]
      omega
    rw [exec_apertureRead_at inside, exec_hostReadBurst_at ((Laws.Operands.hostReadBurst _ 1).mpr (by rw [value]; omega)), value]
  case written =>
    exact apertureWrite_rule canonical may enabled inside (translate_mapped valid is served outside) unprotected

end Sys2Proof.Machine
end

section
/-! A write of a watched control word (R10-R14, R21, R42, R46; O8, O9). -/

namespace Sys2Proof.Machine

/-! ### The candidate (R10) -/

theorem byteOfWord_wordOfBytes (b0 b1 b2 b3 : Byte) : byteOfWord (wordOfBytes b0 b1 b2 b3) 0 = b0
    ∧ byteOfWord (wordOfBytes b0 b1 b2 b3) 1 = b1 ∧ byteOfWord (wordOfBytes b0 b1 b2 b3) 2 = b2
    ∧ byteOfWord (wordOfBytes b0 b1 b2 b3) 3 = b3 := by
  have bounds := And.intro b0.isLt (And.intro b1.isLt (And.intro b2.isLt b3.isLt))
  refine ⟨?_, ?_, ?_, ?_⟩
  all_goals
    apply BitVec.eq_of_toNat_eq
    rw [byteOfWord_toNat, wordOfBytes_toNat]
    omega

theorem byteOfWord_mergeWord (be : BitVec 4) (old new : Word) {k : Nat} (inside : k < 4) :
    byteOfWord (mergeWord be old new) k = if be.getLsbD k then byteOfWord new k else byteOfWord old k := by
  have merged : byteOfWord (mergeWord be old new) k = mergeByte be old new k := by
    obtain ⟨b0, b1, b2, b3⟩ := byteOfWord_wordOfBytes (mergeByte be old new 0) (mergeByte be old new 1) (mergeByte be old new 2)
      (mergeByte be old new 3)
    obtain rfl | rfl | rfl | rfl : k = 0 ∨ k = 1 ∨ k = 2 ∨ k = 3 := by omega
    · exact b0
    · exact b1
    · exact b2
    · exact b3
  rw [merged, mergeByte]
  split <;> rfl

/-! ### The word stored (R10) -/

section
variable (s : State) (k : Watched) (c : Word)

/-- Memory word and copy have the candidate, before it is delivered. -/
def watchedStored : State := setWatched (wordForwarded s (laneBase s + k.offset) allBytes c) k c

theorem storeWatched_granted :
    storeWatched (grantBurst s) k c = deliverWatched (watchedStored s k c) k (watchedCopy s k) := by
  have strap : laneBase (grantBurst s) = laneBase s := laneBase_congr (grantBurst_windowsKept s).strap
  have copy : watchedCopy (grantBurst s) k = watchedCopy s k := by
    rw [grantBurst_eq]
    cases k <;> rfl
  have mem : (grantBurst s).mem = s.mem := by simp
  rw [storeWatched, strap, copy, mem]
  cases k <;> rfl

theorem watchedStored_copy : watchedCopy (watchedStored s k c) k = c := by cases k <;> rfl

theorem watchedStored_others {k' : Watched} (other : k' ≠ k) : watchedCopy (watchedStored s k c) k' = watchedCopy s k' := by
  rw [watchedStored, wordForwarded_eq]
  cases k <;> cases k' <;> simp_all [setWatched, watchedCopy]

theorem watchedStored_mem : (watchedStored s k c).mem = Memory.writeWord s.mem (laneBase s + k.offset) allBytes c := by
  cases k <;> rfl

/-- The Bus Interposer alone changes, beside memory. -/
theorem watchedStored_frame {bs : List BlockId} {z : State}
    (h : eventFrame bs z (s.setMem (Memory.writeWord s.mem (laneBase s + k.offset) allBytes c))) (hbi : .bi ∈ bs) :
    eventFrame bs z (watchedStored s k c) := by
  rw [watchedStored, wordForwarded_eq]
  cases k <;> exact eventFrame_setBi (eventFrame_setBi h hbi) hbi

/-- What the storing leaves of the other blocks and of the Bus Interposer. -/
theorem watchedStored_keeps : (watchedStored s k c).re = s.re ∧ (watchedStored s k c).nu = s.nu ∧ (watchedStored s k c).su = s.su
    ∧ (watchedStored s k c).bi.pageTable = s.bi.pageTable ∧ (watchedStored s k c).bi.refusedCount = s.bi.refusedCount
    ∧ (watchedStored s k c).bi.opened = s.bi.opened ∧ (watchedStored s k c).bi.engine = s.bi.engine
    ∧ (watchedStored s k c).bi.burstRefused = s.bi.burstRefused ∧ (watchedStored s k c).bi.waiting = s.bi.waiting := by
  rw [watchedStored, wordForwarded_eq]
  cases k <;> exact ⟨rfl, rfl, rfl, rfl, rfl, rfl, rfl, rfl, rfl⟩

end

/-! ### The word delivered (R10) -/

/-- The copies, the page table, the count of refused words and the open windows stay, and so does the mark of the burst. -/
structure copiesKept (s t : State) : Prop where
  copies : ∀ k, watchedCopy t k = watchedCopy s k
  pageTable : t.bi.pageTable = s.bi.pageTable
  refusedCount : t.bi.refusedCount = s.bi.refusedCount
  opened : t.bi.opened = s.bi.opened
  burstRefused : t.bi.burstRefused = s.bi.burstRefused
  hostStall : t.bi.hostStall = s.bi.hostStall

theorem copiesKept.refl (s : State) : copiesKept s s := ⟨fun _ => rfl, rfl, rfl, rfl, rfl, rfl⟩

theorem deliverWatched_copiesKept (s : State) (k : Watched) (old : Word) : copiesKept s (deliverWatched s k old) := by
  have next : copiesKept s (nextRequest s) := 
    ⟨fun k => by cases k <;> simp [watchedCopy], by simp, by simp, by simp, by simp, by simp⟩
  have advance : copiesKept s (consumerAdvance s) := 
    ⟨fun k => by cases k <;> simp [watchedCopy], by simp, by simp, by simp, by simp, by simp⟩
  have journal : copiesKept s (askJuStatus s false) := 
    ⟨fun k => by cases k <;> simp [watchedCopy], by simp, by simp, by simp, by simp, by simp⟩
  have looks : copiesKept s (look s) := 
    ⟨fun k => by cases k <;> simp [watchedCopy], by simp, by simp, by simp, by simp, by simp⟩
  have printer : copiesKept s (askPu s.pu s false) := 
    ⟨fun k => by cases k <;> simp [watchedCopy], by simp, by simp, by simp, by simp, by simp⟩
  cases k with
  | reqProducer => exact if_keeps next (.refl s)
  | evtConsumer => exact if_keeps (.refl s) advance
  | journalExport => exact if_keeps (.refl s) journal
  | noticeMask => exact if_keeps (.refl s) looks
  | receiptFill => exact if_keeps (.refl s) printer

/-- The blocks that may act on a delivered word: the engine and the Notice Unit on the two indices (R21, R42). -/
def deliveryBlocks (k : Watched) : List BlockId := if k = .reqProducer ∨ k = .evtConsumer then [.bi, .re, .nu] else [.bi]

theorem deliverWatched_blocks {bs : List BlockId} {z s : State} {k : Watched} {old : Word} (h : eventFrame bs z s)
    (sub : ∀ b ∈ deliveryBlocks k, b ∈ bs) : eventFrame bs z (deliverWatched s k old) := by
  cases k with
  | reqProducer => exact deliverWatched_frame s _ old h (sub _ (by decide)) (sub _ (by decide)) (sub _ (by decide))
  | evtConsumer => exact deliverWatched_frame s _ old h (sub _ (by decide)) (sub _ (by decide)) (sub _ (by decide))
  | journalExport => exact if_keeps h (askJuStatus_frame s false h)
  | noticeMask => exact if_keeps h (look_frame s h)
  | receiptFill => exact if_keeps h (askPu_frame _ s false h)

/-! ### The write of a watched word that passes -/

theorem Watched.offset_other {k : Watched} (other : k ≠ .receiptFill) : k.offset ≠ 0x1010 := by
  cases k <;> simp_all [Watched.offset]

section
variable {s : State} {k : Watched} {be : BitVec 4} {data : Word} {last : Bool}

theorem decideWrite_watched (enabled : be ≠ 0) (rule : watchedRule s (mergeWord be (watchedCopy s k) data) k) :
    decideWrite s (watchedWord s k be data last) = .control k (mergeWord be (watchedCopy s k) data) := by
  obtain ⟨inside, -⟩ := k.offset_bounds
  obtain ⟨section_, watched⟩ := watchedAt_offset k
  rw [watchedWord, decideWrite_section enabled (laneArea_served s inside) (laneOffset_at s inside) section_, decideSection, watched]
  exact if_pos ((watchedPasses_iff s k _).mpr rule)

/-- The state after the word: stored, delivered, and the burst closed where it is the last. -/
def watchedTaken (s : State) (k : Watched) (c : Word) (last : Bool) : State :=
  closeBurst (deliverWatched (watchedStored s k c) k (watchedCopy s k)) last

theorem takeWord_watched (enabled : be ≠ 0) (rule : watchedRule s (mergeWord be (watchedCopy s k) data) k) :
    takeWord s (watchedWord s k be data last) = watchedTaken s k (mergeWord be (watchedCopy s k) data) last := by
  rw [takeWord_decided (decideWrite_watched enabled rule), applyDecision, storeWatched_granted]
  rfl

theorem exec_watchedRow_passes (may : hostMayWrite s) (enabled : be ≠ 0)
    (rule : watchedRule s (mergeWord be (watchedCopy s k) data) k) (sale : k = .receiptFill → saleReady s = true) :
    exec (watchedRow k be data last) s = .next (watchedTaken s k (mergeWord be (watchedCopy s k) data) last) := by
  obtain ⟨high, free, grant⟩ := may
  obtain ⟨inside, -⟩ := k.offset_bounds
  have answers : (asksSale s (watchedWord s k be data last) && !saleReady s) = false := by
    by_cases fill : k = .receiptFill
    · rw [sale fill, Bool.not_true, Bool.and_false]
    · exact asksSale_other (laneOffset_at s inside) (Watched.offset_other fill)
  rw [exec_watchedRow k high free, presentWord_takes answers fun _ => grant, takeWord_watched enabled rule]

end

section
variable (s : State) (k : Watched) (c : Word) (last : Bool)

theorem watchedTaken_copies : watchedCopy (watchedTaken s k c last) k = c
    ∧ (∀ k', k' ≠ k → watchedCopy (watchedTaken s k c last) k' = watchedCopy s k')
    ∧ (watchedTaken s k c last).bi.pageTable = s.bi.pageTable ∧ (watchedTaken s k c last).bi.refusedCount = s.bi.refusedCount
    ∧ (watchedTaken s k c last).bi.opened = s.bi.opened ∧ (watchedTaken s k c last).bi.hostStall = s.bi.hostStall := by
  have delivered := deliverWatched_copiesKept (watchedStored s k c) k (watchedCopy s k)
  obtain ⟨-, -, -, table, refused, opened, -⟩ := watchedStored_keeps s k c
  have stall : (watchedStored s k c).bi.hostStall = s.bi.hostStall := by
    rw [watchedStored, wordForwarded_eq]
    cases k <;> rfl
  have closed := closeBurst_copies (deliverWatched (watchedStored s k c) k (watchedCopy s k)) last
  have bi := closeBurst_bi (deliverWatched (watchedStored s k c) k (watchedCopy s k)) last
  refine ⟨?_, fun k' other => ?_, ?_, ?_, ?_, ?_⟩
  · exact (closed.2 k).trans ((delivered.copies k).trans (watchedStored_copy s k c))
  · exact (closed.2 k').trans ((delivered.copies k').trans (watchedStored_others s k c other))
  · exact closed.1.trans (delivered.pageTable.trans table)
  · rw [watchedTaken, bi]
    exact delivered.refusedCount.trans refused
  · rw [watchedTaken, bi]
    exact delivered.opened.trans opened
  · rw [watchedTaken, bi]
    exact delivered.hostStall.trans stall

theorem watchedTaken_written (canonical : memoryCanonical s) :
    wordWritten s (watchedTaken s k c last) (laneBase s + k.offset) allBytes c := by
  obtain ⟨mem, -⟩ := closeBurst_keeps (deliverWatched (watchedStored s k c) k (watchedCopy s k)) last
  have delivered : (deliverWatched (watchedStored s k c) k (watchedCopy s k)).mem = (watchedStored s k c).mem := by simp
  exact wordWritten_of_mem canonical (mem.trans (delivered.trans (watchedStored_mem s k c)))

theorem watchedTaken_frame {bs : List BlockId} {z : State}
    (h : eventFrame bs z (s.setMem (Memory.writeWord s.mem (laneBase s + k.offset) allBytes c))) (sub : ∀ b ∈ deliveryBlocks k, b ∈ bs) :
    eventFrame bs z (watchedTaken s k c last) := by
  have hbi : BlockId.bi ∈ bs := sub _ (by cases k <;> decide)
  exact closeBurst_frame _ last (deliverWatched_blocks (watchedStored_frame s k c h hbi) sub) hbi

theorem watchedTaken_blocks : blocksFrame (deliveryBlocks k) s (watchedTaken s k c last) :=
  blocksFrame_of_setMem (watchedTaken_frame s k c last (.refl _ _) fun _ is => is)

/-- After a burst with a refused word the Status Page is asked for. -/
theorem watchedTaken_asks (is : last = true) (refused : s.bi.burstRefused = true) :
    askedFor (watchedTaken s k c last) .bi .statusPage := by
  have asks := closeBurst_asks (deliverWatched (watchedStored s k c) k (watchedCopy s k)) last
  have marked : (deliverWatched (watchedStored s k c) k (watchedCopy s k)).bi.burstRefused = true := by
    rw [(deliverWatched_copiesKept _ k _).burstRefused, watchedStored, wordForwarded_eq]
    cases k <;> exact refused
  rw [if_pos ⟨is, marked⟩] at asks
  exact asks

/-- What the closing of the burst keeps of the engine and the Notice Unit. -/
theorem watchedTaken_acts : (watchedTaken s k c last).re = (deliverWatched (watchedStored s k c) k (watchedCopy s k)).re
    ∧ (watchedTaken s k c last).nu = (deliverWatched (watchedStored s k c) k (watchedCopy s k)).nu
    ∧ (watchedTaken s k c last).bi.engine = (deliverWatched (watchedStored s k c) k (watchedCopy s k)).bi.engine := by
  obtain ⟨-, nu, re, -⟩ := closeBurst_keeps (deliverWatched (watchedStored s k c) k (watchedCopy s k)) last
  exact ⟨re, nu, by rw [watchedTaken, closeBurst_bi]⟩

end

end Sys2Proof.Machine
end

section
/-! The watched words taken (R10-R14, R46, R165, R167; O8), and the two indices (R21, R42, R43; O9). -/

namespace Sys2Proof.Machine

/-! ### Words that ask for windows or let the Notice Unit look -/

section
variable {s : State} {c : Word} {last : Bool}

theorem watchedTaken_export (moved : c ≠ s.bi.journalExport) : askedFor (watchedTaken s .journalExport c last) .ju .statusPage := by
  have delivered : deliverWatched (watchedStored s .journalExport c) .journalExport (watchedCopy s .journalExport)
      = askJuStatus (watchedStored s .journalExport c) false := if_neg moved
  rw [watchedTaken, delivered]
  exact askedFor_closeBurst (askedFor_askFixed (List.mem_singleton_self _))

theorem watchedTaken_fill (moved : lowHalf c ≠ fillCopy s) : askedFor (watchedTaken s .receiptFill c last) .pu .statusPage := by
  have delivered : deliverWatched (watchedStored s .receiptFill c) .receiptFill (watchedCopy s .receiptFill)
      = askPu (watchedStored s .receiptFill c).pu (watchedStored s .receiptFill c) false := if_neg moved
  rw [watchedTaken, delivered]
  exact askedFor_closeBurst askedFor_askPu

theorem look_busy_same {s : State} (busy : s.nu.writer ≠ .free) : look s = s := by
  unfold look
  split
  next free => exact absurd free busy
  next => rfl

theorem watchedTaken_mask_still (still : c = s.bi.noticeMask ∨ s.nu.writer ≠ .free) :
    (watchedTaken s .noticeMask c last).nu = s.nu := by
  obtain ⟨-, nu, -⟩ := watchedTaken_acts s .noticeMask c last
  obtain ⟨-, stored, -⟩ := watchedStored_keeps s .noticeMask c
  have delivered : (deliverWatched (watchedStored s .noticeMask c) .noticeMask (watchedCopy s .noticeMask)).nu = s.nu := by
    obtain same | busy := still
    · have kept : deliverWatched (watchedStored s .noticeMask c) .noticeMask (watchedCopy s .noticeMask)
          = watchedStored s .noticeMask c := if_pos same
      rw [kept, stored]
    · have looks : (deliverWatched (watchedStored s .noticeMask c) .noticeMask (watchedCopy s .noticeMask)).nu
          = (watchedStored s .noticeMask c).nu := by
        rw [deliverWatched, look_busy_same (by rw [stored]; exact busy)]
        split <;> rfl
      rw [looks, stored]
  exact nu.trans delivered

theorem watchedTaken_mask_moved (moved : c ≠ s.bi.noticeMask) (free : s.nu.writer = .free) (none_ : s.nu.owed = none) :
    looked s (watchedTaken s .noticeMask c last) c s.nu.reserved (freeSlots s) := by
  obtain ⟨-, nu, -⟩ := watchedTaken_acts s .noticeMask c last
  obtain ⟨-, stored, -⟩ := watchedStored_keeps s .noticeMask c
  have delivered : deliverWatched (watchedStored s .noticeMask c) .noticeMask (watchedCopy s .noticeMask)
      = look (watchedStored s .noticeMask c) := if_neg moved
  have slots : freeSlots (watchedStored s .noticeMask c) = freeSlots s := by
    have consumer : consumerCopy (watchedStored s .noticeMask c) = consumerCopy s :=
      congrArg lowHalf (watchedStored_others s .noticeMask c (k' := .evtConsumer) (by decide))
    rw [freeSlots, unconsumed, stored, consumer]
    rfl
  have looks := look_looked (s := watchedStored s .noticeMask c) (by rw [stored]; exact free) (by rw [stored]; exact none_)
  rw [slots, stored] at looks
  rw [delivered] at nu
  exact looked_congr looks (by rw [stored]) (by rw [nu]) (by rw [nu])

end

/-- Settles O8: a word that waits for the Sale Unit by `askFill`, one that is taken by the rules of `watchedTaken`. -/
theorem watchedWritesThatPassAreTaken : Obligations.WatchedWritesThatPassAreTaken := by
  unfold Obligations.WatchedWritesThatPassAreTaken
  refine ⟨watchedPasses_iff, fun be old new k inside => byteOfWord_mergeWord be old new inside,
    fun s be data last high free enabled waits => ?waits, fun s k be data last canonical may enabled rule sale => ?taken⟩
  case waits =>
    have asks : (asksSale s (watchedWord s .receiptFill be data last) && !saleReady s) = true := by
      have inside : 0x1010 < 524288 := by decide
      rw [waits, Bool.not_false, Bool.and_true, asksSale, Bool.and_eq_true, Bool.and_eq_true, bne_iff_ne]
      exact ⟨⟨enabled, decide_eq_true (laneArea_served s inside)⟩, decide_eq_true (laneOffset_at s inside)⟩
    have runs := exec_watchedRow (s := s) (be := be) (data := data) (last := last) .receiptFill high free
    rw [presentWord, asks, if_pos rfl] at runs
    exact runs
  case taken =>
    obtain ⟨copy, others, table, refused, opened, -⟩ := watchedTaken_copies s k (mergeWord be (watchedCopy s k) data) last
    refine ⟨_, exec_watchedRow_passes may enabled rule sale, copy, watchedTaken_written s k _ last canonical, others, table, refused,
      opened, ?_, ?_, watchedTaken_asks s k _ last, ?_, ?_, watchedTaken_blocks s k _ last⟩
    · rintro rfl moved
      exact watchedTaken_export moved
    · rintro rfl moved
      exact watchedTaken_fill moved
    · rintro rfl still
      exact watchedTaken_mask_still (still.imp_left fun same => copy.symm.trans same)
    · rintro rfl moved free none_
      have mask : (watchedTaken s .noticeMask (mergeWord be (watchedCopy s .noticeMask) data) last).bi.noticeMask
          = mergeWord be (watchedCopy s .noticeMask) data := copy
      rw [mask] at moved ⊢
      exact watchedTaken_mask_moved moved free none_

/-! ### The two indices (R21, R42, R43) -/

section
variable {s : State} {c : Word} {last : Bool}

/-- The Request Engine at a new producer index: nothing where a request is in hand or none is submitted. -/
theorem watchedTaken_producer_still (still : s.re.phase ≠ .idle ∨ s.resetOwed = true ∨ lowHalf c = s.re.consumer) :
    (watchedTaken s .reqProducer c last).re = s.re ∧ (watchedTaken s .reqProducer c last).nu = s.nu
    ∧ (watchedTaken s .reqProducer c last).bi.engine = s.bi.engine := by
  obtain ⟨re, nu, engine⟩ := watchedTaken_acts s .reqProducer c last
  obtain ⟨storedRe, storedNu, -, -, -, -, storedEngine, -⟩ := watchedStored_keeps s .reqProducer c
  have copy : producerCopy (watchedStored s .reqProducer c) = lowHalf c := congrArg lowHalf (watchedStored_copy s .reqProducer c)
  rw [re, nu, engine, ← storedRe, ← storedNu, ← storedEngine]
  rw [← storedRe, State.resetOwed, ← storedRe, ← copy] at still
  have runs : deliverWatched (watchedStored s .reqProducer c) .reqProducer (watchedCopy s .reqProducer)
      = if (watchedStored s .reqProducer c).re.phase = .idle && !(watchedStored s .reqProducer c).resetOwed then
          nextRequest (watchedStored s .reqProducer c) else watchedStored s .reqProducer c := rfl
  rw [runs]
  generalize watchedStored s .reqProducer c = u at *
  by_cases acts : (decide (u.re.phase = .idle) && !u.resetOwed) = true
  · rw [if_pos acts]
    rw [Bool.and_eq_true, decide_eq_true_eq, Bool.not_eq_true'] at acts
    obtain ⟨idle, none_⟩ := acts
    obtain busy | owed | same := still
    · exact absurd idle busy
    · exact absurd (owed.symm.trans none_) nofun
    · rw [nextRequest_idle same, ← idle]
      exact ⟨rfl, rfl, rfl⟩
  · rw [if_neg acts]
    exact ⟨rfl, rfl, rfl⟩

theorem watchedTaken_producer_asks (idle : s.re.phase = .idle) (none_ : s.resetOwed = false) (submitted : lowHalf c ≠ s.re.consumer) :
    (unconsumed s + s.nu.reserved + conditionBegun s.nu.writer < 256 →
      (watchedTaken s .reqProducer c last).re = { s.re with phase := .fetching, fetched := [] }
        ∧ (watchedTaken s .reqProducer c last).nu = { s.nu with reserved := 1 }
        ∧ (watchedTaken s .reqProducer c last).bi.engine = s.bi.engine ++ [.fetch 0, .fetch 1])
    ∧ (256 ≤ unconsumed s + s.nu.reserved + conditionBegun s.nu.writer →
      (watchedTaken s .reqProducer c last).re = { s.re with phase := .stalled } ∧ (watchedTaken s .reqProducer c last).nu = s.nu
        ∧ (watchedTaken s .reqProducer c last).bi.engine = s.bi.engine) := by
  obtain ⟨re, nu, engine⟩ := watchedTaken_acts s .reqProducer c last
  obtain ⟨storedRe, storedNu, -, -, -, -, storedEngine, -⟩ := watchedStored_keeps s .reqProducer c
  have copy : producerCopy (watchedStored s .reqProducer c) = lowHalf c := congrArg lowHalf (watchedStored_copy s .reqProducer c)
  have consumer : consumerCopy (watchedStored s .reqProducer c) = consumerCopy s :=
    congrArg lowHalf (watchedStored_others s .reqProducer c (k' := .evtConsumer) (by decide))
  have free : unconsumed (watchedStored s .reqProducer c) = unconsumed s := by rw [unconsumed, storedNu, consumer]; rfl
  have owed : (watchedStored s .reqProducer c).resetOwed = false := by rw [State.resetOwed, storedRe]; exact none_
  have runs : deliverWatched (watchedStored s .reqProducer c) .reqProducer (watchedCopy s .reqProducer)
      = nextRequest (watchedStored s .reqProducer c) := if_pos (by rw [storedRe, idle, owed]; rfl)
  have some_ : producerCopy (watchedStored s .reqProducer c) ≠ (watchedStored s .reqProducer c).re.consumer := by
    rw [copy, storedRe]
    exact submitted
  have fits := reservationFits_iff (watchedStored s .reqProducer c)
  rw [free, storedNu] at fits
  rw [re, nu, engine, runs, ← storedRe, ← storedEngine]
  refine ⟨fun room => ?_, fun full => ?_⟩
  · rw [nextRequest_granted some_ (fits.mpr room), ← storedNu]
    exact ⟨rfl, rfl, rfl⟩
  · rw [nextRequest_stalled some_ fun room => Nat.not_lt.mpr full (fits.mp room), ← storedNu]
    exact ⟨rfl, rfl, rfl⟩

/-- A consumer index that stays changes nothing. -/
theorem watchedTaken_consumer_still (still : lowHalf c = consumerCopy s) :
    (watchedTaken s .evtConsumer c last).nu = s.nu ∧ (watchedTaken s .evtConsumer c last).re = s.re := by
  obtain ⟨re, nu, -⟩ := watchedTaken_acts s .evtConsumer c last
  obtain ⟨storedRe, storedNu, -⟩ := watchedStored_keeps s .evtConsumer c
  have copy : consumerCopy (watchedStored s .evtConsumer c) = lowHalf (watchedCopy s .evtConsumer) :=
    (congrArg lowHalf (watchedStored_copy s .evtConsumer c)).trans still
  have runs : deliverWatched (watchedStored s .evtConsumer c) .evtConsumer (watchedCopy s .evtConsumer)
      = watchedStored s .evtConsumer c := if_pos copy
  rw [re, nu, runs]
  exact ⟨storedNu, storedRe⟩

/-- The reservation that waits is granted (R42). -/
def stallEnded (s : State) : State := if s.re.phase = .stalled then grantReservation s else s

theorem stallEnded_nu (s : State) : (stallEnded s).nu = { s.nu with reserved := if s.re.phase = .stalled then 1 else s.nu.reserved } := by
  unfold stallEnded
  split <;> rfl

theorem stallEnded_bi (s : State) : (stallEnded s).bi = { s.bi with
    engine := if s.re.phase = .stalled then s.bi.engine ++ [.fetch 0, .fetch 1] else s.bi.engine } := by
  unfold stallEnded
  split <;> rfl

theorem stallEnded_re (s : State) : (stallEnded s).re = if s.re.phase = .stalled then { s.re with phase := .fetching, fetched := [] }
    else s.re := by
  unfold stallEnded
  split <;> rfl

theorem consumerAdvance_eq (s : State) : consumerAdvance s = updateAttn (look (stallEnded s)) := rfl

/-- What a consumer advance does in the Notice Unit and the engine (R42, R46, R50). -/
structure consumerAdvanced (s t : State) : Prop where
  attn : t.nu.attn = (s.nu.producer != consumerCopy s)
  producer : t.nu.producer = s.nu.producer
  stalled : s.re.phase = .stalled → t.re = { s.re with phase := .fetching, fetched := [] } ∧ t.nu.reserved = 1
    ∧ t.bi.engine = s.bi.engine ++ [.fetch 0, .fetch 1]
  other : s.re.phase ≠ .stalled → t.re = s.re ∧ t.nu.reserved = s.nu.reserved ∧ t.bi.engine = s.bi.engine
  busy : s.nu.writer ≠ .free → t.nu.writer = s.nu.writer ∧ t.nu.latches = s.nu.latches ∧ t.nu.owed = s.nu.owed
  looks : s.nu.writer = .free → s.nu.owed = none → looked s t s.bi.noticeMask t.nu.reserved (freeSlots s)
  completes : ∀ c, s.nu.owed = some c → s.nu.writer = .free → t.nu.writer = .completion ∧ t.nu.owed = none
    ∧ t.nu.latches = s.nu.latches ∧ ∃ w ∈ t.bi.waiting, w.owner = .nu ∧ w.live = [.completion c]

theorem consumerAdvance_advances (s : State) : consumerAdvanced s (consumerAdvance s) := by
  have nu := stallEnded_nu s
  have bi := stallEnded_bi s
  have re := stallEnded_re s
  have kept : (look (stallEnded s)).nu.producer = s.nu.producer
      ∧ (look (stallEnded s)).nu.reserved = (if s.re.phase = .stalled then 1 else s.nu.reserved)
      ∧ consumerCopy (look (stallEnded s)) = consumerCopy s := by
    refine ⟨by simp [nu], by simp [nu], by simp [consumerCopy, bi]⟩
  have engine : (look (stallEnded s)).bi.engine = (stallEnded s).bi.engine := by simp
  have engineRe : (look (stallEnded s)).re = (stallEnded s).re := by simp
  rw [re] at engineRe
  rw [bi] at engine
  obtain ⟨producer, reserved, consumer⟩ := kept
  rw [consumerAdvance_eq]
  refine ⟨?_, producer, fun stalled => ?_, fun other => ?_, fun busy => ?_, fun free none_ => ?_, fun c owed free => ?_⟩
  · have line : (updateAttn (look (stallEnded s))).nu.attn
        = ((look (stallEnded s)).nu.producer != consumerCopy (look (stallEnded s))) := rfl
    rw [line, producer, consumer]
  · rw [if_pos stalled] at reserved engineRe
    simp only [if_pos stalled] at engine
    exact ⟨engineRe, reserved, engine⟩
  · rw [if_neg other] at reserved engineRe
    simp only [if_neg other] at engine
    exact ⟨engineRe, reserved, engine⟩
  · have same : (look (stallEnded s)).nu = (stallEnded s).nu := by rw [look_busy_same (by rw [nu]; exact busy)]
    have whole : (updateAttn (look (stallEnded s))).nu = { (look (stallEnded s)).nu with
        attn := (updateAttn (look (stallEnded s))).nu.attn } := rfl
    rw [whole, same, nu]
    exact ⟨rfl, rfl, rfl⟩
  · have looks := look_looked (s := stallEnded s) (by rw [nu]; exact free) (by rw [nu]; exact none_)
    have slots : freeSlots (stallEnded s) = freeSlots s := by
      rw [freeSlots, unconsumed, consumerCopy, nu, bi]
      rfl
    have amount : (updateAttn (look (stallEnded s))).nu.reserved = (stallEnded s).nu.reserved :=
      reserved.trans (congrArg Nu.reserved nu).symm
    have mask : (stallEnded s).bi.noticeMask = s.bi.noticeMask := by rw [bi]
    rw [slots, mask] at looks
    rw [amount]
    exact looked_congr looks (by rw [nu]) rfl rfl
  · have begins : look (stallEnded s) = beginCompletion (stallEnded s) c := look_completion (by rw [nu]; exact free) (by rw [nu]; exact owed)
    rw [begins]
    refine ⟨rfl, rfl, ?_, _, List.mem_append_right _ (List.mem_singleton_self _), rfl, rfl⟩
    have latches : (updateAttn (beginCompletion (stallEnded s) c)).nu.latches = (stallEnded s).nu.latches := rfl
    rw [latches, nu]

end

/-- A window of another owner waits on through a gathering. -/
theorem gatherInto_other_owner {owner : BlockId} {sections : List LaneSection} {live : List LiveBlock} {after : List After}
    {ofRequest : Bool} {ws : List WindowAsk} {w : WindowAsk} (is : w ∈ ws) (other : w.owner ≠ owner) :
    w ∈ gatherInto owner sections live after ofRequest ws := by
  induction ws with
  | nil => exact nomatch is
  | cons v rest ih =>
    unfold gatherInto
    split
    next gathered =>
      obtain rfl | later := List.mem_cons.mp is
      · simp [gathers, other] at gathered
      · exact List.mem_cons_of_mem _ later
    next =>
      obtain rfl | later := List.mem_cons.mp is
      · exact List.mem_cons_self
      · exact List.mem_cons_of_mem _ (ih later)

theorem closeBurst_waits {s : State} {last : Bool} {w : WindowAsk} (is : w ∈ s.bi.waiting) (other : w.owner ≠ .bi) :
    w ∈ (closeBurst s last).bi.waiting := by
  cases last with
  | false => exact is
  | true =>
    unfold closeBurst endBurst askBiStatus askLive askLiveAfter
    dsimp only
    rw [if_pos rfl]
    split
    next =>
      split
      next => exact gatherInto_other_owner is other
      next => exact List.mem_append_left _ is
    next => exact is

theorem watchedTaken_consumer_moves {s : State} {c : Word} {last : Bool} (moved : lowHalf c ≠ consumerCopy s) :
    (watchedTaken s .evtConsumer c last).nu.attn = (s.nu.producer != lowHalf c)
    ∧ (watchedTaken s .evtConsumer c last).nu.producer = s.nu.producer
    ∧ (s.re.phase = .stalled → (watchedTaken s .evtConsumer c last).re = { s.re with phase := .fetching, fetched := [] }
        ∧ (watchedTaken s .evtConsumer c last).nu.reserved = 1
        ∧ (watchedTaken s .evtConsumer c last).bi.engine = s.bi.engine ++ [.fetch 0, .fetch 1])
    ∧ (s.re.phase ≠ .stalled → (watchedTaken s .evtConsumer c last).re = s.re
        ∧ (watchedTaken s .evtConsumer c last).nu.reserved = s.nu.reserved
        ∧ (watchedTaken s .evtConsumer c last).bi.engine = s.bi.engine)
    ∧ (s.nu.writer ≠ .free → (watchedTaken s .evtConsumer c last).nu.writer = s.nu.writer
        ∧ (watchedTaken s .evtConsumer c last).nu.latches = s.nu.latches ∧ (watchedTaken s .evtConsumer c last).nu.owed = s.nu.owed)
    ∧ (s.nu.writer = .free → s.nu.owed = none → looked s (watchedTaken s .evtConsumer c last) s.bi.noticeMask
        (watchedTaken s .evtConsumer c last).nu.reserved (256 - (s.nu.producer - lowHalf c).toNat))
    ∧ ∀ x, s.nu.owed = some x → s.nu.writer = .free → (watchedTaken s .evtConsumer c last).nu.writer = .completion
        ∧ (watchedTaken s .evtConsumer c last).nu.owed = none ∧ (watchedTaken s .evtConsumer c last).nu.latches = s.nu.latches
        ∧ ∃ w ∈ (watchedTaken s .evtConsumer c last).bi.waiting, w.owner = .nu ∧ w.live = [.completion x] := by
  obtain ⟨re, nu, engine⟩ := watchedTaken_acts s .evtConsumer c last
  obtain ⟨storedRe, storedNu, -, -, -, -, storedEngine, -⟩ := watchedStored_keeps s .evtConsumer c
  have copy : consumerCopy (watchedStored s .evtConsumer c) = lowHalf c := congrArg lowHalf (watchedStored_copy s .evtConsumer c)
  have mask : (watchedStored s .evtConsumer c).bi.noticeMask = s.bi.noticeMask :=
    watchedStored_others s .evtConsumer c (k' := .noticeMask) (by decide)
  have runs : deliverWatched (watchedStored s .evtConsumer c) .evtConsumer (watchedCopy s .evtConsumer)
      = consumerAdvance (watchedStored s .evtConsumer c) := if_neg (by rw [copy]; exact moved)
  have waits {w : WindowAsk} (is : w ∈ (consumerAdvance (watchedStored s .evtConsumer c)).bi.waiting) (other : w.owner ≠ .bi) :
      w ∈ (watchedTaken s .evtConsumer c last).bi.waiting := by
    rw [watchedTaken, runs]
    exact closeBurst_waits is other
  have slots : freeSlots (watchedStored s .evtConsumer c) = 256 - (s.nu.producer - lowHalf c).toNat := by
    rw [freeSlots, unconsumed, copy, storedNu, ahead]
  have advanced := consumerAdvance_advances (watchedStored s .evtConsumer c)
  rw [runs] at re nu engine
  generalize consumerAdvance (watchedStored s .evtConsumer c) = t at *
  obtain ⟨attn, producer, stalled, other, busy, looks, completes⟩ := advanced
  simp only [storedNu, storedRe, storedEngine, copy, mask, slots] at attn producer stalled other busy looks completes
  rw [nu, re, engine]
  refine ⟨attn, producer, stalled, other, busy, fun free none_ => looked_congr (looks free none_) (by rw [storedNu]) ?_ ?_, fun x owed free => ?_⟩
  · rw [nu]
  · rw [nu]
  · obtain ⟨writer, none_, latches, w, is, owner, live⟩ := completes x owed free
    exact ⟨writer, none_, latches, w, waits is (by rw [owner]; exact nofun), owner, live⟩

/-- Settles O9: the engine's ask by `nextRequest`, the advance by `consumerAdvance_advances`. -/
theorem hostIndicesDriveEngineAndRing : Obligations.HostIndicesDriveEngineAndRing := by
  unfold Obligations.HostIndicesDriveEngineAndRing
  refine ⟨fun s be data last may enabled rule => ?producer, fun s be data last may enabled rule => ?consumer⟩
  case producer =>
    have runs := exec_watchedRow_passes (k := .reqProducer) (last := last) may enabled rule nofun
    obtain ⟨copy, -⟩ := watchedTaken_copies s .reqProducer (mergeWord be (watchedCopy s .reqProducer) data) last
    have index : producerCopy (watchedTaken s .reqProducer (mergeWord be (watchedCopy s .reqProducer) data) last)
        = lowHalf (mergeWord be s.bi.reqProducer data) := congrArg lowHalf copy
    refine ⟨_, runs, index, ?_, ?_, watchedTaken_blocks s .reqProducer _ last⟩
    all_goals rw [index]
    · exact watchedTaken_producer_still
    · exact watchedTaken_producer_asks
  case consumer =>
    have runs := exec_watchedRow_passes (k := .evtConsumer) (last := last) may enabled rule nofun
    obtain ⟨copy, -⟩ := watchedTaken_copies s .evtConsumer (mergeWord be (watchedCopy s .evtConsumer) data) last
    have index : consumerCopy (watchedTaken s .evtConsumer (mergeWord be (watchedCopy s .evtConsumer) data) last)
        = lowHalf (mergeWord be s.bi.evtConsumer data) := congrArg lowHalf copy
    refine ⟨_, runs, index, ?_, ?_, watchedTaken_blocks s .evtConsumer _ last⟩
    all_goals rw [index]
    · exact watchedTaken_consumer_still
    · exact watchedTaken_consumer_moves

end Sys2Proof.Machine
end

section
/-! Reads (R1, R3, R9, R17, R18; O10). -/

namespace Sys2Proof.Machine

/-! ### The words of a burst -/

theorem burstAddrs_length (a n : Nat) : (burstAddrs a n).length = n := by
  induction n generalizing a with
  | zero => rfl
  | succ n ih => rw [burstAddrs, List.length_cons, ih]

theorem burstAddrs_getElem? {a n i : Nat} (inside : i < n) : (burstAddrs a n)[i]? = some (a + 4 * i) := by
  induction n generalizing a i with
  | zero => exact absurd inside (Nat.not_lt_zero i)
  | succ n ih =>
    rw [burstAddrs]
    cases i with
    | zero => rfl
    | succ i =>
      rw [List.getElem?_cons_succ, ih (Nat.lt_of_succ_lt_succ inside)]
      exact congrArg some (by omega)

section
variable (s : State) (a n : Nat)

theorem readNeedsPort_iff : readNeedsPort s a = true ↔ portWord s a := by
  unfold readNeedsPort portWord
  split
  next above => simp [Nat.not_lt.mpr above]
  next served =>
    generalize sectionOf s a = section_
    rw [and_iff_right (Nat.not_le.mp served)]
    split
    next => simp [Option.isSome_iff_ne_none]
    next other => exact iff_of_true rfl fun is => (other is).elim

/-- A burst needs the port where one of its words does. -/
theorem burstNeedsPort_iff : ((burstAddrs a n).any (readNeedsPort s)) = true ↔ ∃ i < n, portWord s (a + 4 * i) := by
  rw [List.any_eq_true]
  constructor
  · rintro ⟨b, is, needs⟩
    obtain ⟨i, inside, rfl⟩ := (mem_burstAddrs n a b).mp is
    exact ⟨i, inside, (readNeedsPort_iff s _).mp needs⟩
  · rintro ⟨i, inside, needs⟩
    exact ⟨a + 4 * i, (mem_burstAddrs n a _).mpr ⟨i, inside, rfl⟩, (readNeedsPort_iff s _).mpr needs⟩

theorem hostReadWord_above (above : Config.servedBytes ≤ a) : hostReadWord s a = 0 := if_pos above

theorem hostReadWord_memory (served : a < Config.servedBytes) (other : sectionOf s a ≠ some .aperture) :
    hostReadWord s a = Memory.readWord s.mem a := by
  unfold hostReadWord
  rw [if_neg (Nat.not_le.mpr served)]
  split
  next aperture => exact absurd aperture other
  next => rfl

theorem hostReadWord_unmapped (served : a < Config.servedBytes) (aperture : sectionOf s a = some .aperture)
    (unmapped : translate s (a - laneBase s) = none) : hostReadWord s a = 0 := by
  unfold hostReadWord
  rw [if_neg (Nat.not_le.mpr served), aperture]
  dsimp only
  rw [unmapped]

theorem hostReadWord_mapped {m : Nat} (served : a < Config.servedBytes) (aperture : sectionOf s a = some .aperture)
    (maps : translate s (a - laneBase s) = some m) : hostReadWord s a = Memory.readWord s.mem m := by
  unfold hostReadWord
  rw [if_neg (Nat.not_le.mpr served), aperture]
  dsimp only
  rw [maps]

/-- A word that needs no port reads 0. -/
theorem hostReadWord_off (off : ¬ portWord s a) : hostReadWord s a = 0 := by
  by_cases served : a < Config.servedBytes
  · by_cases aperture : sectionOf s a = some .aperture
    · cases maps : translate s (a - laneBase s) with
      | none => exact hostReadWord_unmapped s a served aperture maps
      | some m => exact absurd ⟨served, fun _ => by rw [maps]; exact nofun⟩ off
    · exact absurd ⟨served, fun is => absurd is aperture⟩ off
  · exact hostReadWord_above s a (Nat.not_lt.mp served)

/-! ### The burst served (R9, R18) -/

/-- The burst has been read; it counts where a word of it needs the port. -/
def readServed : State :=
  s.setBi { s.bi with
    hostStall := none, readData := (burstAddrs a n).map (hostReadWord s)
    waitCount := if (burstAddrs a n).any (readNeedsPort s) then waitCounted s else s.bi.waitCount }

end

section
variable {s : State} {a n : Nat}

theorem serveRead_served (may : ((burstAddrs a n).any (readNeedsPort s)) = true → engineOwed s = false) :
    serveRead s a n = readServed s a n := by
  unfold serveRead readServed
  dsimp only
  cases needs : (burstAddrs a n).any (readNeedsPort s) with
  | false => simp
  | true =>
    rw [may needs]
    simp only [Bool.true_and, Bool.false_eq_true, if_false, if_true]
    rw [hostGrant, waitCounted]
    cases s.bi.engine <;> rfl

theorem serveRead_waits (needs : ((burstAddrs a n).any (readNeedsPort s)) = true) (owed : engineOwed s = true) :
    serveRead s a n = s.setBi { s.bi with hostStall := some (.readServing a n) } := by
  unfold serveRead
  dsimp only
  rw [needs, owed]
  rfl

theorem readServed_counts (needs : ∃ i < n, portWord s (a + 4 * i)) : (readServed s a n).bi.waitCount = waitCounted s :=
  if_pos ((burstNeedsPort_iff s a n).mpr needs)

theorem readServed_stays (needs : ∀ i < n, ¬ portWord s (a + 4 * i)) : (readServed s a n).bi.waitCount = s.bi.waitCount :=
  if_neg fun is => by
    obtain ⟨i, inside, port⟩ := (burstNeedsPort_iff s a n).mp is
    exact needs i inside port

theorem readServed_word {i : Nat} (inside : i < n) : (readServed s a n).bi.readData[i]? = some (hostReadWord s (a + 4 * i)) := by
  rw [readServed, State.setBi_bi, List.getElem?_map, burstAddrs_getElem? inside]
  rfl

theorem readServed_off (off : ∀ i < n, ¬ portWord s (a + 4 * i)) (free : s.bi.hostStall = none) :
    readServed s a n = s.setBi { s.bi with readData := List.replicate n 0 } := by
  have data : (burstAddrs a n).map (hostReadWord s) = List.replicate n 0 := by
    refine List.eq_replicate_iff.mpr ⟨by rw [List.length_map, burstAddrs_length], fun w is => ?_⟩
    obtain ⟨b, listed, rfl⟩ := List.mem_map.mp is
    obtain ⟨i, inside, rfl⟩ := (mem_burstAddrs n a b).mp listed
    exact hostReadWord_off s _ (off i inside)
  have needs : ((burstAddrs a n).any (readNeedsPort s)) = false := Bool.eq_false_iff.mpr fun is => by
    obtain ⟨i, inside, port⟩ := (burstNeedsPort_iff s a n).mp is
    exact off i inside port
  rw [readServed, data, needs, if_neg Bool.false_ne_true, ← free]

theorem readServed_frame (s : State) (a n : Nat) : eventFrame [.bi] s (readServed s a n) := eventFrame_setBi (.refl _ s) (by decide)

/-! ### The read presented (R4, R17) -/

theorem presentRead_held (held : burstHeld s a n = true) :
    presentRead s a n = s.setBi { s.bi with hostStall := some (.readHeld a n) } := if_pos held

theorem presentRead_free (free : burstHeld s a n = false) : presentRead s a n = serveRead s a n :=
  if_neg (Bool.eq_false_iff.mp free)

theorem busFree_of_readFree (free : readFree s = true) : s.bi.hostStall = none := by
  rw [readFree, Bool.and_eq_true, Bool.and_eq_true] at free
  exact Option.isNone_iff_eq_none.mp free.1.1

end

/-- Settles O10: what holds a burst by `burstHeld_iff`, its words by `readServed_word`, its grant by `burstNeedsPort_iff`. -/
theorem readsReturnMemoryOrWait : Obligations.ReadsReturnMemoryOrWait := by
  unfold Obligations.ReadsReturnMemoryOrWait
  refine ⟨burstHeld_iff, fun s addr len high ready formed owed free => ?served, fun s word high ready inside owed free => ?aperture,
    fun s addr len high ready formed owed free => ⟨fun needs => ?waits, fun off => ?off⟩,
    fun s addr len high ready formed held => ?held⟩
  case served =>
    have runs := exec_hostReadBurst_at (s := s) formed
    rw [stepIf_enabled high ready, presentRead_free free, serveRead_served fun _ => owed] at runs
    refine ⟨_, runs, rfl, ?_, ?_, readServed_counts, readServed_stays, fun i inside => ?_, readServed_frame s _ _⟩
    · rw [readServed, State.setBi_bi, ← busFree_of_readFree ready]
    · rw [readServed, State.setBi_bi, List.length_map, burstAddrs_length]
    · rw [readServed_word inside]
      refine ⟨fun above => congrArg some (hostReadWord_above s _ above), fun served => ⟨fun other => ?_, fun aperture => ⟨fun unmapped =>
        ?_, fun m maps => ?_⟩⟩⟩
      · exact congrArg some (hostReadWord_memory s _ served other)
      · exact congrArg some (hostReadWord_unmapped s _ served aperture unmapped)
      · exact congrArg some (hostReadWord_mapped s _ served aperture maps)
  case aperture =>
    have runs := exec_apertureRead_at (s := s) inside
    rw [stepIf_enabled high ready, presentRead_free free, serveRead_served fun _ => owed] at runs
    refine ⟨_, runs, rfl, ?_, readServed_frame s _ _⟩
    have served : laneBase s + (0x40000 + 4 * word) < Config.servedBytes := laneArea_served s (by omega)
    have place : laneBase s + (0x40000 + 4 * word) - laneBase s = 0x40000 + 4 * word := Nat.add_sub_cancel_left _ _
    have aperture : sectionOf s (laneBase s + (0x40000 + 4 * word)) = some .aperture := by
      rw [sectionOf_bind, laneOffset_at s (by omega)]
      exact sectionAt_aperture inside
    have data : (readServed s (laneBase s + 0x40000 + 4 * word) 1).bi.readData = [hostReadWord s (laneBase s + (0x40000 + 4 * word))] := by
      rw [← Nat.add_assoc]
      rfl
    rw [data]
    refine congrArg (fun w => [w]) ?_
    cases maps : translate s (0x40000 + 4 * word) with
    | none => exact hostReadWord_unmapped s _ served aperture (by rw [place, maps])
    | some m => exact hostReadWord_mapped s _ served aperture (by rw [place, maps])
  case waits =>
    rw [exec_hostReadBurst_at formed, stepIf_enabled high ready, presentRead_free free,
      serveRead_waits ((burstNeedsPort_iff s _ _).mpr needs) owed]
  case off =>
    have none_ : ((burstAddrs addr.toNat len).any (readNeedsPort s)) = true → engineOwed s = false := fun is => by
      obtain ⟨i, inside, port⟩ := (burstNeedsPort_iff s _ _).mp is
      exact absurd port (off i inside)
    rw [exec_hostReadBurst_at formed, stepIf_enabled high ready, presentRead_free free, serveRead_served none_,
      readServed_off off (busFree_of_readFree ready)]
  case held =>
    rw [exec_hostReadBurst_at formed, stepIf_enabled high ready, presentRead_held held]

end Sys2Proof.Machine
end

section
/-! The memory port (R4, R8, R14, R15, R18, R35, R152; O11). -/

namespace Sys2Proof.Machine

/-! ### Whose grant it is (R18) -/

section
variable {s : State}

theorem engineOwed_iff (s : State) : engineOwed s = true ↔ s.bi.engine ≠ [] ∧ 8 ≤ s.bi.waitCount := by
  rw [engineOwed, Bool.and_eq_true, Bool.not_eq_true', decide_eq_true_eq, List.isEmpty_eq_false_iff]

theorem exec_memoryPortGrant (high : s.bi.inReset = false) (free : s.bi.burstGranted = false) :
    exec .memoryPortGrant s = .next (portGrant s) := stepIf_enabled high (by rw [free]; rfl)

/-- The oldest engine access is granted where no host burst waits for the port, or the port is owed to the engine. -/
theorem exec_memoryPortGrant_engine (high : s.bi.inReset = false)
    (turn : (s.bi.burstGranted = false
        ∧ (s.bi.hostStall = none ∨ (∃ b n, s.bi.hostStall = some (.readHeld b n))
          ∨ (engineOwed s = true ∧ ∀ w, s.bi.hostStall ≠ some (.fillAsk w))))
      ∨ ((∃ w, s.bi.hostStall = some (.fillAsk w)) ∧ suFront s ≠ some .fillAsk)) :
    exec .memoryPortGrant s = .next (engineGrant s) := by
  obtain ⟨free, still⟩ | ⟨⟨w, stall⟩, behind⟩ := turn
  · rw [exec_memoryPortGrant high free, portGrant]
    obtain none_ | ⟨b, n, held⟩ | ⟨owed, other⟩ := still
    · rw [none_]
    · rw [held]
    · cases stall : s.bi.hostStall with
      | none => rfl
      | some x =>
        cases x with
        | fillAsk w => exact absurd stall (other w)
        | write w => simp only [owed, if_true]
        | readServing a n => simp only [owed, if_true]
        | readHeld a n => rfl
  · have waits : fillWaits s = true := by rw [fillWaits, stall]
    have runs : exec .memoryPortGrant s = .next (portGrant s) := stepIf_enabled high (by rw [waits, Bool.or_true])
    rw [runs, portGrant, stall]
    simp only [fillAnswered, behind, decide_false, Bool.false_eq_true, if_false]

end

/-! ### What an engine access does -/

section
variable {s : State} {rest : List EngineAccess}

/-- The access has left the queue, and the waiting count is back at 0. -/
def accessGranted (s : State) (rest : List EngineAccess) : State := s.setBi { s.bi with engine := rest, waitCount := 0 }

theorem engineGrant_access {a : EngineAccess} (oldest : s.bi.engine = a :: rest) :
    engineGrant s = engineAccess (accessGranted s rest) a := by
  rw [engineGrant, oldest]
  rfl

theorem entryMaps_iff (s : State) (e : PageEntry) : entryMaps s e = true ↔ e.valid.getLsbD 0 = true
    ∧ e.frame.toNat / 4096 * 4096 < Config.servedBytes
    ∧ (e.frame.toNat / 4096 * 4096 < laneBase s ∨ laneBase s + 524288 ≤ e.frame.toNat / 4096 * 4096) := by
  rw [entryMaps, Bool.and_eq_true, Bool.and_eq_true, Bool.not_eq_true', Bool.and_eq_false_iff, decide_eq_true_eq,
    decide_eq_false_iff_not, decide_eq_false_iff_not, Nat.not_le, Nat.not_lt, entryFrame, Config.laneBytes, and_assoc]

/-- The page table's entry has been read (R8, R152; log 28, log 48). -/
theorem engineAccess_pageEntry {p : Nat} {f : SlotFetch} {e : PageEntry} {frame : Nat} (fetch : s.pu.fetch = some f)
    (entry : e = { frame := Memory.readWord s.mem (laneBase s + 0xD000 + 8 * p)
                   valid := Memory.readWord s.mem (laneBase s + 0xD000 + 8 * p + 4) })
    (is : frame = e.frame.toNat / 4096 * 4096) :
    if f.wanted = false then
      engineAccess (accessGranted s rest) (.pageEntry p) = (accessGranted s rest).setPu { s.pu with fetch := none }
    else if e.valid.getLsbD 0 = true ∧ frame < Config.servedBytes ∧ (frame < laneBase s ∨ laneBase s + 524288 ≤ frame) then
      engineAccess (accessGranted s rest) (.pageEntry p) = (s.setBi { s.bi with
          engine := rest ++ [.slot (frame + f.slot % 64 * 64) 8, .slot (frame + f.slot % 64 * 64 + 32) 5]
          waitCount := 0 }).setPu { s.pu with fetch := some { f with left := 2 } }
    else
      engineAccess (accessGranted s rest) (.pageEntry p) = (accessGranted s rest).setPu
        { s.pu with fetch := some { f with left := 0, words := [0] } } := by
  have runs : engineAccess (accessGranted s rest) (.pageEntry p) = entryFetched (accessGranted s rest) f e := by
    rw [entry]
    simp only [engineAccess, show (accessGranted s rest).pu.fetch = some f from fetch]
    rfl
  have maps := entryMaps_iff (accessGranted s rest) e
  rw [← is] at maps
  rw [runs, entryFetched]
  cases wanted : f.wanted with
  | false => rfl
  | true =>
    rw [if_neg nofun]
    by_cases mapped : e.valid.getLsbD 0 = true ∧ frame < Config.servedBytes ∧ (frame < laneBase s ∨ laneBase s + 524288 ≤ frame)
    · rw [if_pos mapped, if_neg nofun, if_pos (maps.mpr mapped), entryFrame, ← is]
      rfl
    · rw [if_neg mapped, if_neg nofun, if_neg fun is => mapped (maps.mp is)]
      rfl

/-- Words of the slot have been read (log 28). -/
theorem engineAccess_slot {x n : Nat} {f : SlotFetch} (fetch : s.pu.fetch = some f) :
    engineAccess (accessGranted s rest) (.slot x n) = (accessGranted s rest).setPu { s.pu with
      fetch := if f.wanted = false ∧ f.left ≤ 1 then none
        else some { f with left := f.left - 1, words := f.words ++ Memory.readWords s.mem x n } } := by
  have runs : engineAccess (accessGranted s rest) (.slot x n)
      = slotFetched (accessGranted s rest) f (Memory.readWords (accessGranted s rest).mem x n) := by
    simp only [engineAccess, show (accessGranted s rest).pu.fetch = some f from fetch]
  have over_ : (decide (f.left ≤ 1) && !f.wanted) = true ↔ f.wanted = false ∧ f.left ≤ 1 := by
    rw [Bool.and_eq_true, decide_eq_true_eq, Bool.not_eq_true', and_comm]
  rw [runs, slotFetched, if_congr over_ rfl rfl]
  rfl

/-- No slot is being fetched: the words are dropped (log 28). -/
theorem engineAccess_dropped {a : EngineAccess} (none_ : s.pu.fetch = none) (page : (∃ p, a = .pageEntry p) ∨ ∃ x n, a = .slot x n) :
    engineAccess (accessGranted s rest) a = accessGranted s rest := by
  have free : (accessGranted s rest).pu.fetch = none := none_
  obtain ⟨p, rfl⟩ | ⟨x, n, rfl⟩ := page <;> simp only [engineAccess, free]

/-- The journal's indices are taken: head, copy and memory word together (R15, R35). -/
theorem engineAccess_journal {head exported : Word} (canonical : memoryCanonical s) :
    (engineAccess (accessGranted s rest) (.journalWrite head exported)).ju = { s.ju with head := head }
    ∧ wordWritten s (engineAccess (accessGranted s rest) (.journalWrite head exported)) (laneBase s + 0x1008) allBytes exported
    ∧ (engineAccess (accessGranted s rest) (.journalWrite head exported)).bi = { s.bi with
        engine := rest, waitCount := 0, journalExport := exported
        waiting := (engineAccess (accessGranted s rest) (.journalWrite head exported)).bi.waiting
        nextWindow := (engineAccess (accessGranted s rest) (.journalWrite head exported)).bi.nextWindow
        nextGroup := (engineAccess (accessGranted s rest) (.journalWrite head exported)).bi.nextGroup }
    ∧ (headOwed s = false → oneAsked s (engineAccess (accessGranted s rest) (.journalWrite head exported)) .ju [.statusPage]
        [(0x2024, head), (0x2028, exported)] [] true)
    ∧ blocksFrame [.bi, .ju] s (engineAccess (accessGranted s rest) (.journalWrite head exported)) := by
  refine ⟨rfl, wordWritten_of_mem canonical rfl, rfl, fun none_ => ?_, ?_⟩
  · refine ⟨_, rfl, rfl, rfl, ?_, rfl, rfl, rfl⟩
    have publishes (u : State) (calm : headOwed u = false) : publishedHead u = u.ju.head := if_neg (Bool.eq_false_iff.mp calm)
    have fixed := publishes ((((accessGranted s rest).setJu { (accessGranted s rest).ju with head := head }).setBi
      { (accessGranted s rest).bi with journalExport := exported }).setMem
        (Memory.writeWord (accessGranted s rest).mem (laneBase (accessGranted s rest) + 0x1008) allBytes exported)) none_
    dsimp only
    rw [fixed]
    rfl
  · exact blocksFrame_of_setMem (m := Memory.writeWord s.mem (laneBase s + 0x1008) allBytes exported)
      (askJuStatus_frame _ true (eventFrame_setBi (eventFrame_setJu (.refl _ _) (by decide)) (by decide)))

end

/-! ### A word of RECEIPT_FILL at its turn (R14, R108; log 42) -/

section
variable {s : State} {be : BitVec 4} {data : Word} {last : Bool}

/-- The Sale Unit has taken the ask, and no access waits at the bus. -/
def fillTurn (s : State) : State := suPop (s.setBi { s.bi with hostStall := none })

theorem fillTurn_rule (s : State) (w : Word) : watchedRule (fillTurn s) w .receiptFill ↔ watchedRule s w .receiptFill := Iff.rfl

theorem decideWrite_fillTurn (s : State) (be : BitVec 4) (data : Word) (last : Bool) (enabled : be ≠ 0) :
    decideWrite (fillTurn s) { addr := laneBase s + 0x1010, be := be, data := data, last := last }
      = if watchedPasses (fillTurn s) .receiptFill (mergeWord be s.bi.receiptFill data) then
          .control .receiptFill (mergeWord be s.bi.receiptFill data) else .refused false :=
  decideWrite_fill (fillTurn s) data last enabled

theorem fillTaken_su (s : State) (c : Word) (last : Bool) : (watchedTaken s .receiptFill c last).su = s.su := by
  obtain ⟨-, -, -, su, -⟩ := closeBurst_keeps (deliverWatched (watchedStored s .receiptFill c) .receiptFill (watchedCopy s .receiptFill)) last
  obtain ⟨-, -, stored, -⟩ := watchedStored_keeps s .receiptFill c
  rw [watchedTaken, su, ← stored, deliverWatched]
  split
  next => rfl
  next => simp

end

/-- A candidate that passes is taken. -/
theorem fillTurn_takes {s : State} {be : BitVec 4} {data : Word} {last : Bool} (enabled : be ≠ 0)
    (rule : watchedRule s (mergeWord be s.bi.receiptFill data) .receiptFill) (grant : s.bi.burstGranted = true ∨ engineOwed s = false) :
    offerWord (fillTurn s) { addr := laneBase s + 0x1010, be := be, data := data, last := last }
      = watchedTaken (fillTurn s) .receiptFill (mergeWord be s.bi.receiptFill data) last := by
  have passes : watchedPasses (fillTurn s) .receiptFill (mergeWord be s.bi.receiptFill data) = true :=
    (watchedPasses_iff (fillTurn s) .receiptFill _).mpr rule
  have decided : decideWrite (fillTurn s) { addr := laneBase s + 0x1010, be := be, data := data, last := last }
      = .control .receiptFill (mergeWord be s.bi.receiptFill data) := by
    rw [decideWrite_fillTurn s be data last enabled, if_pos passes]
  have free : (fillTurn s).bi.burstGranted = true ∨ engineOwed (fillTurn s) = false := grant
  rw [offerWord_takes fun _ => free, takeWord_decided decided, applyDecision, storeWatched_granted, watchedTaken]

theorem fillTaken_blocks (s : State) (c : Word) (last : Bool) :
    blocksFrame [.bi, .su] s (watchedTaken (fillTurn s) .receiptFill c last) :=
  blocksFrame_of_setMem (watchedTaken_frame (fillTurn s) .receiptFill c last
    (eventFrame_setSu (eventFrame_setBi (.refl _ (s.setMem (Memory.writeWord s.mem (laneBase s + 0x1010) allBytes c))) (by decide))
      (by decide)) (by decide))

/-- Settles O11: the engine's turn by `engineAccess`, a word that waits by `presentWord` and `offerWord`, a read by `serveRead`. -/
theorem memoryPortGrantsInOrder : Obligations.MemoryPortGrantsInOrder := by
  unfold Obligations.MemoryPortGrantsInOrder
  refine ⟨engineOwed_iff, fun s a rest high oldest turn => ?engine, fun s w high free stall owed fits aligned => ?write,
    fun s a n high free stall owed => ?read, fun s be data last high canonical enabled stall front grant rule => ?fill,
    fun s w high place enabled stall front free owed rule => ?fillWaits,
    fun s be data last high latches count enabled stall front fails => ?fillRefused,
    fun s addr be data last high none_ free owed aligned enabled served place => ?waits⟩
  case engine =>
    have runs := exec_memoryPortGrant_engine high turn
    rw [engineGrant_access oldest] at runs
    refine ⟨_, runs, ?_, ?_, ?_, fun p f e frame is fetch entry framed => ?_, fun x n f is fetch => ?_, fun none_ is => ?_,
      fun head exported is canonical => ?_⟩
    · rintro half rfl
      rfl
    · rintro k rfl
      rfl
    · rintro id words rfl
      rfl
    · subst is
      exact engineAccess_pageEntry fetch entry framed
    · subst is
      exact engineAccess_slot fetch
    · exact engineAccess_dropped none_ is
    · subst is
      exact engineAccess_journal canonical
  case write =>
    rw [exec_memoryPortGrant high free, portGrant, stall]
    simp only [owed, Bool.false_eq_true, if_false]
    rw [exec_hostWriteWord_at fits aligned]
    have idle : busFree (s.setBi { s.bi with hostStall := none }) = true := rfl
    exact (stepIf_enabled (s := s.setBi { s.bi with hostStall := none }) high idle).symm
  case read =>
    have runs := exec_memoryPortGrant high free
    rw [portGrant, stall] at runs
    simp only [owed, Bool.false_eq_true, if_false] at runs
    rw [serveRead_served fun _ => owed] at runs
    exact ⟨_, runs, rfl, rfl, rfl, readServed_counts, readServed_frame s a n⟩
  case fill =>
    have runs := memoryPortGrant_fillAsk high stall front
    have taken := fillTurn_takes (s := s) (data := data) (last := last) enabled rule grant
    obtain ⟨copy, -, -, -, -, free⟩ := watchedTaken_copies (fillTurn s) .receiptFill (mergeWord be s.bi.receiptFill data) last
    have written := watchedTaken_written (fillTurn s) .receiptFill (mergeWord be s.bi.receiptFill data) last canonical
    have su := fillTaken_su (fillTurn s) (mergeWord be s.bi.receiptFill data) last
    have blocks := fillTaken_blocks s (mergeWord be s.bi.receiptFill data) last
    refine ⟨_, runs.trans (congrArg _ taken), copy, written, free, su, blocks⟩
  case fillWaits =>
    obtain ⟨addr, be, data, last⟩ := w
    have runs := memoryPortGrant_fillAsk high stall front
    subst place
    have passes : watchedPasses (fillTurn s) .receiptFill (mergeWord be s.bi.receiptFill data) = true :=
      (watchedPasses_iff (fillTurn s) .receiptFill _).mpr rule
    have forwarded : (decideWrite (fillTurn s) { addr := laneBase s + 0x1010, be := be, data := data, last := last }).forwarded = true := by
      rw [decideWrite_fillTurn s be data last enabled, if_pos passes]
      rfl
    exact runs.trans (congrArg _ (offerWord_waits (s := fillTurn s) forwarded free owed))
  case fillRefused =>
    have runs := memoryPortGrant_fillAsk high stall front
    have decided : decideWrite (fillTurn s) { addr := laneBase s + 0x1010, be := be, data := data, last := last } = .refused false := by
      rw [decideWrite_fillTurn s be data last enabled, if_neg fun passes => fails ((watchedPasses_iff (fillTurn s) .receiptFill _).mp passes)]
    have taken : offerWord (fillTurn s) { addr := laneBase s + 0x1010, be := be, data := data, last := last }
        = closeBurst (refuseWord (fillTurn s) (laneBase s + 0x1010) false) last :=
      (offerWord_takes (by rw [decided]; exact nofun)).trans (takeWord_decided decided)
    obtain ⟨mem, nu, re, su, -⟩ := closeBurst_keeps (refuseWord (fillTurn s) (laneBase s + 0x1010) false) last
    have bi := closeBurst_bi (refuseWord (fillTurn s) (laneBase s + 0x1010) false) last
    have asks := closeBurst_asks (refuseWord (fillTurn s) (laneBase s + 0x1010) false) last
    have marked := refuseWord_bi (fillTurn s) (laneBase s + 0x1010) false
    obtain ⟨items, inbox, onlyAsks⟩ := refuseWord_su (fillTurn s) (laneBase s + 0x1010) false
    have told := refuseWord_reports (s := fillTurn s) (a := laneBase s + 0x1010) (unmapped := false) latches
    have kept : (refuseWord (fillTurn s) (laneBase s + 0x1010) false).mem = s.mem := by simp [fillTurn]
    have counted : sat (fillTurn s).bi.refusedCount = min (s.bi.refusedCount + 1) 65535 := sat_min count
    rw [marked, counted] at bi
    rw [marked] at asks
    refine ⟨_, runs.trans (congrArg _ taken), mem.trans kept, ?_, ⟨items, su.trans inbox, onlyAsks⟩,
      reported_of_nu told (by rw [nu]) (by rw [nu]), fun is => ?_, ?_⟩
    · rw [bi]
      cases last <;> rfl
    · rw [if_pos ⟨is, rfl⟩] at asks
      exact asks
    · exact closeBurst_frame _ last (refuseWord_frame _ _ _ (suPop_frame _ (eventFrame_setBi (.refl _ s) (by decide))) (by decide)) (by decide)
  case waits =>
    rw [exec_hostWriteWord high none_ aligned, presentWord, asksSale_portPlace place, if_neg Bool.false_ne_true,
      offerWord_waits (forwarded_portPlace enabled served place) free owed]
    rfl

end Sys2Proof.Machine
end

section
/-! The words of the Status Page and of the tables, byte by byte (R175, R179, R180; O12). -/

namespace Sys2Proof.Machine

/-- Whole words packed from these bytes. -/
theorem bytesFrom_packed {off : Nat} {bs cs : List Byte} (same : bs = cs) (whole : 4 ∣ cs.length) :
    bytesFrom off (wordsAt off (packWords bs)) cs := by
  subst same
  exact bytesFrom_packWords off whole

theorem bool1_isStable (window : List Int) (w : Nat) : bool1 (isStable window w) = if 0 < w ∧ window.length = w then 1 else 0 := by
  rw [bool1, isStable]
  simp only [Bool.and_eq_true, decide_eq_true_eq]

theorem biStatus_bytes (s : State) : bytesFrom 0x2000 (liveWords s .bi)
    ([BitVec.ofNat 8 s.bi.laSel.toNat, if s.bi.bagFit then 1 else 0] ++ le2 (BitVec.ofNat 16 s.bi.refusedCount)
      ++ le4 s.bi.lastRefused) :=
  bytesFrom_packed rfl (by simp [le2_length, le4_length])

theorem pwuStatus_bytes (s : State) : bytesFrom 0x2040 (liveWords s .pwu)
    (le4 (BitVec.ofInt 32 s.pwu.gross) ++ le4 (BitVec.ofInt 32 s.pwu.weight)
      ++ [if 0 < (cfg s).platWindow ∧ s.pwu.window.length = (cfg s).platWindow then 1 else 0
          , BitVec.ofNat 8 s.pwu.zone.code, BitVec.ofNat 8 s.pwu.limit.code, BitVec.ofNat 8 s.pwu.machine.code]
      ++ le4 (BitVec.ofInt 32 s.pwu.zero) ++ le4 (BitVec.ofInt 32 s.pwu.tare)
      ++ le2 (match s.pwu.table.find? fun c => decide (c.state = .fresh) with | some c => c.id | none => 0)
      ++ le2 s.pwu.nextId) := by
  refine bytesFrom_packed ?_ (by simp [le2_length, le4_length])
  rw [bool1_isStable]
  rfl

theorem bwuStatus_bytes (s : State) : ∃ expiry : Word,
    (∀ x, s.bwu.waitTimer = some x → expiry = x.start + BitVec.ofNat 32 x.limit)
    ∧ bytesFrom 0x2060 (liveWords s .bwu)
      (le4 (BitVec.ofInt 32 s.bwu.gross) ++ le4 (BitVec.ofInt 32 s.bwu.weight)
        ++ [if 0 < (cfg s).bagWindow ∧ s.bwu.window.length = (cfg s).bagWindow then 1 else 0
            , BitVec.ofNat 8 s.bwu.limit.code, BitVec.ofNat 8 s.bwu.verif.code, if s.bwu.hold then 1 else 0
            , BitVec.ofNat 8 s.bwu.holdReason.code, if s.bwu.waitTimer = none then 0 else 1]
        ++ le2 (BitVec.ofNat 16 s.bwu.pend.length) ++ le4 (BitVec.ofInt 32 s.bwu.settled)
        ++ le4 (BitVec.ofInt 32 s.bwu.baseline) ++ le4 expiry) := by
  cases timer : s.bwu.waitTimer with
  | none =>
    refine ⟨Config.stoppedExpiry s.free, nofun, bytesFrom_packed ?_ (by simp [le2_length, le4_length])⟩
    rw [bool1_isStable, timer]
    rfl
  | some x =>
    refine ⟨x.expiry, fun y same => by cases same; rfl, bytesFrom_packed ?_ (by simp [le2_length, le4_length])⟩
    rw [bool1_isStable, timer]
    rfl

theorem tuStatus_bytes (s : State) : bytesFrom 0x2080 (liveWords s .tu)
    ([BitVec.ofNat 8 s.tu.drawer.code, if s.tu.forced then 1 else 0, BitVec.ofNat 8 s.tu.attempts
      , BitVec.ofNat 8 s.tu.cause.code, if s.tu.sensor then 1 else 0, if s.tu.key then 1 else 0]
      ++ le2 (BitVec.ofNat 16 s.tu.forcedCount) ++ le2 (BitVec.ofNat 16 s.tu.nosaleCount) ++ [0, 0]
      ++ le4 s.tu.sensorStamp ++ le4 s.tu.keyStamp ++ le4 s.tu.openStamp ++ le4 s.tu.closeStamp) :=
  bytesFrom_packed rfl (by simp [le2_length, le4_length])

theorem linkStatus_bytes (s : State) (l : LinkId) (e : ErrorCounters) (is : e = (s.link l).errors) :
    bytesFrom (0x2100 + 32 * linkNo l) (liveWords s (.link l))
      (([e.framing, e.length, e.gap, e.check, e.brk, e.overrun, e.kind, (s.link l).seqGaps].map
          fun n => le2 (BitVec.ofNat 16 n)).flatten
        ++ [BitVec.ofNat 8 (s.link l).lastError.kind.code, BitVec.ofNat 8 (s.link l).lastError.field.code
            , BitVec.ofNat 8 (s.link l).lastError.offset, BitVec.ofNat 8 (s.link l).state.code, (s.link l).identKind, 0, 0, 0]
        ++ le4 (s.link l).lastError.stamp) := by
  subst is
  have words : liveWords s (.link l) = wordsAt (0x2100 + 32 * linkNo l) (linkStatus (s.link l)) := by cases l <;> rfl
  rw [words, linkStatus]
  refine bytesFrom_packed ?_ (by simp [le2_length, le4_length])
  simp [nat2, nat1]

theorem captureEntry_bytes (s : State) (k : Nat) (c : Capture) (here : s.pwu.table[k]? = some c) :
    bytesFrom (0xC000 + 64 * k) (liveWords s (.captureEntry k))
      (le2 c.id ++ [BitVec.ofNat 8 c.state.code, 0] ++ le4 (BitVec.ofInt 32 c.net) ++ le4 (BitVec.ofInt 32 c.tare)
        ++ le4 (BitVec.ofInt 32 c.gross) ++ le4 c.stamp ++ le2 (BitVec.ofNat 16 c.line) ++ List.replicate 42 0)
    ∧ bytesFrom (0xC000 + 64 * k) (liveWords s (.captureFree k)) (le2 c.id ++ [BitVec.ofNat 8 c.state.code, 0]) := by
  have entry : s.pwu.table.getD k Capture.free = c := by rw [List.getD_eq_getElem?_getD, here]; rfl
  rw [liveWords, liveWords, entry]
  exact ⟨bytesFrom_packed rfl (by simp [le2_length, le4_length]), bytesFrom_packed rfl (by simp [le2_length])⟩

theorem fourDigits {ds : List Byte} (four : ds.length = 4) : (ds ++ zeros 4).take 4 = ds := by
  rw [take_append_zeros four.le, four]
  exact List.append_nil ds

theorem cardSession_bytes (s : State) (q : Bool) : ∃ (ws : List (Nat × Word)) (view : Byte),
    oneAsked s (askCardSession s q) .ctu [.cardSession] ws [] q
    ∧ (∀ x, s.ctu.out = some x → view = BitVec.ofNat 8 x.state.code)
    ∧ (s.ctu.lastFour.length = 4 → bytesFrom 0xC400 ws
      ([if s.ctu.present then 1 else 0, s.ctu.entryMethod] ++ le2 s.ctu.scheme ++ s.ctu.lastFour
        ++ [BitVec.ofNat 8 s.ctu.module.code, match s.ctu.out with | some x => BitVec.ofNat 8 x.index | none => 0xFF, view
            , if s.ctu.queryAsked then 1 else 0]
        ++ le2 (match s.ctu.out with | some x => x.reference | none => 0)
        ++ le2 (BitVec.ofNat 16 s.ctu.stray) ++ le2 (BitVec.ofNat 16 s.ctu.late) ++ le2 (BitVec.ofNat 16 s.ctu.conflicts))) := by
  have asked : oneAsked s (askCardSession s q) .ctu [.cardSession]
      (wordsAt 0xC400 (cardSessionWords s.ctu (Config.noTenderView s.free))) [] q := ⟨_, rfl, rfl, rfl, rfl, rfl, rfl, rfl⟩
  cases out : s.ctu.out with
  | none =>
    refine ⟨_, Config.noTenderView s.free, asked, nofun, fun digits => ?_⟩
    refine bytesFrom_packed ?_ (by simp [le2_length, digits])
    rw [fourDigits digits, out]
    rfl
  | some x =>
    refine ⟨_, BitVec.ofNat 8 x.state.code, asked, fun y same => by cases same; rfl, fun digits => ?_⟩
    refine bytesFrom_packed ?_ (by simp [le2_length, digits])
    rw [fourDigits digits, out]
    rfl

theorem reStatus_bytes (s : State) : bytesFrom 0x2010 (wordsAt 0x2010 (reStatus s.re))
    ([BitVec.ofNat 8 s.re.device.code, BitVec.ofNat 8 s.re.lastCommit.code] ++ le2 (s.re.laneNumber.getD 0)
      ++ le2 s.re.consumer ++ [BitVec.ofNat 8 s.re.failField, 0]) :=
  bytesFrom_packed rfl (by simp [le2_length])

theorem askReStatus_one (s : State) (q : Bool) : oneAsked s (askReStatus s q) .re [.statusPage] (wordsAt 0x2010 (reStatus s.re)) [] q :=
  ⟨_, rfl, rfl, rfl, rfl, rfl, rfl, rfl⟩

/-- The window of an event of the Print Unit: its page, and the job entries the event changes. -/
theorem askPu_one (s : State) (old : Pu) (q : Bool) : oneAsked s (askPu old s q) .pu
    (if (changedJobs old s.pu).isEmpty then [.statusPage] else [.statusPage, .jobTable])
    (wordsAt 0x20A0 (puStatus s.pu (fillCopy s)) ++ ((changedJobs old s.pu).map (jobEntryWords s.pu)).flatten) [] q :=
  ⟨_, rfl, rfl, rfl, rfl, rfl, rfl, rfl⟩

theorem printUnit_bytes (s : State) (old : Pu) (q : Bool) (changed : List Nat)
    (is : changed = (List.range 8).filter (fun k => decide ((old.jobs.getD k Job.free).state ≠ (jobAt s k).state)
      || decide ((old.jobs.getD k Job.free).acked ≠ (jobAt s k).acked))) :
    ∃ (page : List (Nat × Word)) (entry : Nat → List (Nat × Word)),
      oneAsked s (askPu old s q) .pu (if changed = [] then [.statusPage] else [.statusPage, .jobTable])
        (page ++ (changed.map entry).flatten) [] q
      ∧ bytesFrom 0x20A0 page
        ([BitVec.ofNat 8 s.pu.cond.code, BitVec.ofNat 8 s.pu.cause.code, BitVec.ofNat 8 s.pu.paper.code
          , if s.pu.coverOpen then 1 else 0, BitVec.ofNat 8 s.pu.credits, BitVec.ofNat 8 s.pu.flight.length
          , BitVec.ofNat 8 s.pu.owner.code, BitVec.ofNat 8 s.pu.receipt.code]
          ++ le2 s.pu.printIndex ++ le2 s.pu.nextUnsent ++ le2 (fillCopy s) ++ le2 s.pu.closeMark ++ le2 s.pu.lineSeq
          ++ le2 (BitVec.ofNat 16 s.pu.stray))
      ∧ ∀ k ∈ changed, bytesFrom (0xD200 + 64 * k) (entry k)
        ([BitVec.ofNat 8 (jobAt s k).state.code, 0, 0, 0] ++ le2 (BitVec.ofNat 16 (jobAt s k).first)
          ++ le2 (BitVec.ofNat 16 (jobAt s k).count) ++ le2 (BitVec.ofNat 16 (jobAt s k).next)
          ++ le2 (BitVec.ofNat 16 (jobAt s k).acked) ++ le2 (jobAt s k).submission ++ [0, 0]
          ++ le4 (jobAt s k).submitted ++ le4 (jobAt s k).started ++ le4 (jobAt s k).finished ++ List.replicate 36 0) := by
  have listed : changed = changedJobs old s.pu := is
  refine ⟨wordsAt 0x20A0 (puStatus s.pu (fillCopy s)), jobEntryWords s.pu, ?_, bytesFrom_packed rfl (by simp [le2_length]),
    fun k _ => bytesFrom_packed rfl (by simp [le2_length, le4_length])⟩
  have asked := askPu_one s old q
  rw [← listed] at asked
  simp only [List.isEmpty_iff] at asked
  exact asked

end Sys2Proof.Machine
end

section
/-! Windows that open (R16, R18; O12). -/

namespace Sys2Proof.Machine

/-! ### Words cut into accesses -/

theorem takeRun_append (n a : Nat) (ws : List (Nat × Word)) : (takeRun n a ws).1 ++ (takeRun n a ws).2 = ws := by
  induction ws generalizing n a with
  | nil => cases n <;> rfl
  | cons x rest ih =>
    obtain ⟨b, w⟩ := x
    cases n with
    | zero => rfl
    | succ n =>
      rw [takeRun]
      split
      next => exact congrArg ((b, w) :: ·) (ih n b)
      next => rfl

theorem takeRun_bound (n a : Nat) (ws : List (Nat × Word)) : (takeRun n a ws).1.length ≤ n := by
  induction ws generalizing n a with
  | nil => cases n <;> exact Nat.zero_le _
  | cons x rest ih =>
    obtain ⟨b, w⟩ := x
    cases n with
    | zero => exact Nat.le_refl 0
    | succ n =>
      rw [takeRun]
      split
      next => exact Nat.succ_le_succ (ih n b)
      next => exact Nat.zero_le _

theorem takeRun_rest (n a : Nat) (ws : List (Nat × Word)) : (takeRun n a ws).2.length ≤ ws.length := by
  have all := congrArg List.length (takeRun_append n a ws)
  rw [List.length_append] at all
  omega

/-- The accesses hold the words in their order. -/
theorem cutRuns_flatten {n : Nat} {ws : List (Nat × Word)} (enough : ws.length ≤ n) : (cutRuns n ws).flatten = ws := by
  induction n generalizing ws with
  | zero => rw [List.eq_nil_of_length_eq_zero (Nat.le_zero.mp enough)]; rfl
  | succ n ih =>
    cases ws with
    | nil => rfl
    | cons x rest =>
      obtain ⟨a, w⟩ := x
      rw [cutRuns, List.flatten_cons, ih ((takeRun_rest 7 a rest).trans (Nat.le_of_succ_le_succ enough)), List.cons_append,
        takeRun_append]

theorem cutRuns_bounds {n : Nat} {ws : List (Nat × Word)} : ∀ x ∈ cutRuns n ws, 1 ≤ x.length ∧ x.length ≤ 8 := by
  induction n generalizing ws with
  | zero => exact nofun
  | succ n ih =>
    cases ws with
    | nil => exact nofun
    | cons y rest =>
      obtain ⟨a, w⟩ := y
      rw [cutRuns]
      intro x listed
      obtain rfl | later := List.mem_cons.mp listed
      · exact ⟨Nat.succ_le_succ (Nat.zero_le _), Nat.succ_le_succ (takeRun_bound 7 a rest)⟩
      · exact ih x later

/-! ### The step -/

section
variable {s : State} {i : Nat} {w : WindowAsk}

theorem exec_windowOpen (high : s.bi.inReset = false) (here : s.bi.waiting[i]? = some w) (may : canOpen s w = true) :
    exec (.updateWindowOpen i) s = .next (openWindow s w) := by
  have runs : exec (.updateWindowOpen i) s = execUpdateWindowOpen i s := rfl
  simp only [runs, execUpdateWindowOpen, here]
  exact stepIf_enabled high may

theorem canOpen_of (apart : ∀ o ∈ s.bi.opened, sectionsMeet o.sections w.sections = false)
    (unserved : servingTouches s w.sections = false)
    (first : ∀ x ∈ s.bi.waiting, x.group < w.group → sectionsMeet x.sections w.sections = false) : canOpen s w = true := by
  have opened : (s.bi.opened.any fun o => sectionsMeet o.sections w.sections) = false := by
    rw [List.any_eq_false]
    exact fun o listed => Bool.eq_false_iff.mp (apart o listed)
  have waiting : (s.bi.waiting.any fun x => decide (x.group < w.group) && sectionsMeet x.sections w.sections) = false := by
    rw [List.any_eq_false]
    intro x listed both
    rw [Bool.and_eq_true, decide_eq_true_eq] at both
    exact Bool.eq_false_iff.mp (first x listed both.1) both.2
  rw [canOpen, opened, unserved, waiting]
  rfl

end

/-- The accesses of the window that opens. -/
def openingRuns (s : State) (w : WindowAsk) : List (List (Nat × Word)) := cutRuns (windowWords s w).length (windowWords s w)

/-- The opening of a window (R16): its values are taken, and all its accesses stand in the engine's queue. -/
theorem windowOpens {s : State} {i : Nat} {w : WindowAsk} (high : s.bi.inReset = false) (here : s.bi.waiting[i]? = some w)
    (may : canOpen s w = true) :
    ∃ (t : State) (accesses : List (List (Nat × Word))), exec (.updateWindowOpen i) s = .next t
      ∧ t.bi = { s.bi with
          waiting := s.bi.waiting.filter fun x => x.id != w.id
          opened := s.bi.opened ++ [{ id := w.id, owner := w.owner, sections := w.sections, after := w.after,
                                      ofRequest := w.ofRequest }]
          engine := s.bi.engine ++ accesses.map (EngineAccess.write w.id) }
      ∧ accesses.flatten
          = (w.fixed ++ (w.live.map (liveWords s)).flatten).map (fun x => (laneBase s + x.1, x.2))
      ∧ (∀ a ∈ accesses, 1 ≤ a.length ∧ a.length ≤ 8) ∧ t.free = s.free + 1 ∧ eventFrame [.bi] s t :=
  ⟨openWindow s w, openingRuns s w, exec_windowOpen high here may, rfl, cutRuns_flatten (Nat.le_refl _), cutRuns_bounds, rfl,
    openWindow_frame _ _ (.refl _ s) (by decide)⟩

end Sys2Proof.Machine
end

section
/-! Windows that close: the bus goes on (R4, R16, R17), the owner goes on (R91), the request goes on (R24) (O12). -/

namespace Sys2Proof.Machine

section
variable {s u : State} {i : Nat} {o : OpenWindow}

theorem removeWindow_opened (s : State) (id : Nat) :
    (removeWindow s id).bi.opened = s.bi.opened.filter fun x => x.id != id := by
  rw [removeWindow, (releaseHeld_fields _).2.2.2.2.2.2.2.2.2.2.2.2.2.1, State.setBi_bi]

theorem requestPending_removeWindow (s : State) (id : Nat) : requestPending (removeWindow s id) = requestPending (windowGone s id) := by
  simp [requestPending, windowGone, removeWindow_opened]

/-- The close of a window in which the owner goes on to `u`. -/
theorem closeWindow_followed (followed : o.after.foldl runAfter (removeWindow s o.id) = u) (re : u.re = s.re)
    (calm : s.re.resetting = []) : closeWindow s o = requestProgress u := by
  rw [closeWindow, followed, resumeResets_none (by simp [re, calm])]

/-- Where the request has nothing to pass on, the close ends there. -/
theorem exec_windowClose_quiet (high : s.bi.inReset = false) (here : s.bi.opened[i]? = some o) (other : o.owner ≠ .nu)
    (written : windowWritten s o.id = true) (calm : s.re.resetting = [])
    (followed : o.after.foldl runAfter (removeWindow s o.id) = u) (re : u.re = s.re) (stays : requestProgress u = u) :
    exec (.updateWindowClose i) s = .next u := by
  rw [exec_windowClose high here other written, closeWindow_followed followed re calm, stays,
    freedNotices_same (unitBusy_of_re re .ctu) (unitBusy_of_re re .pu)]

/-! ### A read that is held (R4, R17) -/

theorem releaseHeld_held {a n : Nat} (held : s.bi.hostStall = some (.readHeld a n)) :
    releaseHeld s = if burstHeld s a n then s else serveRead s a n := by simp only [releaseHeld, held]

/-- What holds a burst, in terms of the windows it touches. -/
theorem burstHeld_iff_touches (s : State) (a n : Nat) : burstHeld s a n = true
    ↔ (∃ x ∈ s.bi.opened, burstTouches s a n x.sections = true)
      ∨ ((∃ w ∈ s.bi.waiting, w.owner = .bi) ∧ burstTouches s a n [.statusPage] = true) := by
  rw [burstHeld, Bool.or_eq_true, Bool.and_eq_true, windowHeld, statusOwed, List.any_eq_true, List.any_eq_true]
  simp only [decide_eq_true_eq]

theorem burstHeld_windowGone (s : State) (id a n : Nat) : burstHeld (windowGone s id) a n = true
    ↔ (∃ x ∈ s.bi.opened, x.id ≠ id ∧ burstTouches s a n x.sections = true)
      ∨ ((∃ w ∈ s.bi.waiting, w.owner = .bi) ∧ burstTouches s a n [.statusPage] = true) := by
  have touches (xs : List LaneSection) : burstTouches (windowGone s id) a n xs = burstTouches s a n xs :=
    burstTouches_congr (s := s) (t := windowGone s id) rfl a n xs
  have opened : (windowGone s id).bi.opened = s.bi.opened.filter fun x => x.id != id := rfl
  have waiting : (windowGone s id).bi.waiting = s.bi.waiting := rfl
  rw [burstHeld_iff_touches]
  simp only [touches, opened, waiting, List.mem_filter, bne_iff_ne, and_assoc]

theorem entryMaps_congr {s t : State} (strap : t.bi.laSel = s.bi.laSel) (e : PageEntry) : entryMaps t e = entryMaps s e := by
  rw [entryMaps, laneBase_congr strap]
  rfl

theorem translate_congr {s t : State} (strap : t.bi.laSel = s.bi.laSel) (table : t.bi.pageTable = s.bi.pageTable) (p : Nat) :
    translate t p = translate s p := by
  simp only [translate, pageEntry, table, entryMaps_congr strap]
  rfl

theorem hostReadWord_congr {s t : State} (strap : t.bi.laSel = s.bi.laSel) (table : t.bi.pageTable = s.bi.pageTable)
    (memory : t.mem = s.mem) : hostReadWord t = hostReadWord s := by
  funext a
  unfold hostReadWord
  rw [sectionOf_congr strap, laneBase_congr strap, translate_congr strap table, memory]

/-- A read that still waits behind a window or the BI's write goes on waiting. -/
theorem removeWindow_holds {a n id : Nat} (held : s.bi.hostStall = some (.readHeld a n))
    (holds : (∃ x ∈ s.bi.opened, x.id ≠ id ∧ burstTouches s a n x.sections = true)
      ∨ ((∃ w ∈ s.bi.waiting, w.owner = .bi) ∧ burstTouches s a n [.statusPage] = true)) :
    removeWindow s id = windowGone s id :=
  (releaseHeld_held (s := windowGone s id) held).trans (if_pos ((burstHeld_windowGone s id a n).mpr holds))

/-- A read that nothing holds any longer is served. -/
theorem removeWindow_serves {a n id : Nat} (held : s.bi.hostStall = some (.readHeld a n)) (owed : engineOwed s = false)
    (apart : ∀ x ∈ s.bi.opened, x.id ≠ id → burstTouches s a n x.sections = false)
    (unowed : (∃ w ∈ s.bi.waiting, w.owner = .bi) → burstTouches s a n [.statusPage] = false) :
    removeWindow s id = readServed (windowGone s id) a n := by
  have free : ¬ burstHeld (windowGone s id) a n = true := by
    rw [burstHeld_windowGone]
    rintro (⟨x, listed, kept, touches⟩ | ⟨waits, touches⟩)
    · exact Bool.eq_false_iff.mp (apart x listed kept) touches
    · exact Bool.eq_false_iff.mp (unowed waits) touches
  exact ((releaseHeld_held (s := windowGone s id) held).trans (if_neg free)).trans (serveRead_served fun _ => owed)

/-! ### A window whose close ends there -/

theorem windowGone_frame (s : State) (id : Nat) : eventFrame [.bi] s (windowGone s id) := eventFrame_setBi (.refl _ s) (by decide)

/-- The sale's window is asked (R91). -/
theorem suAskWindow_asks {e : SaleEvent} (event : u.su.event = some e) :
    suAskWindow u = askFixed u .su [.saleRecord] e.words (e.after ++ [.suDone]) e.ofRequest := by simp only [suAskWindow, event]

theorem askFixed_one (s : State) (b : BlockId) (xs : List LaneSection) (ws : List (Nat × Word)) (after : List After) (q : Bool) :
    oneAsked s (askFixed s b xs ws after q) b xs ws after q := ⟨_, rfl, rfl, rfl, rfl, rfl, rfl, rfl⟩

theorem requestPending_event {e : SaleEvent} (event : u.su.event = some e) (ofRequest : e.ofRequest = true) :
    requestPending u = true := by simp [requestPending, event, ofRequest]

theorem requestProgress_pending (pending : requestPending u = true) : requestProgress u = u := by
  unfold requestProgress
  split
  next => rfl
  next => rw [if_pos (by simp [pending])]

end

/-- The SU asks for its window at the close of the window before it. -/
theorem saleWindowAsked {s : State} {i : Nat} {o : OpenWindow} {e : SaleEvent} {j : Ju} (high : s.bi.inReset = false)
    (here : s.bi.opened[i]? = some o) (other : o.owner ≠ .nu) (written : windowWritten s o.id = true) (calm : s.re.resetting = [])
    (free : ∀ a n, s.bi.hostStall ≠ some (.readHeld a n)) (event : s.su.event = some e)
    (goes : s.re.outcome = none ∨ e.ofRequest = true)
    (after : o.after = [.suWrite] ∧ j = s.ju ∨ o.after = [.headAdvance, .suWrite] ∧ j = { s.ju with head := s.ju.head + 1 }) :
    ∃ t, exec (.updateWindowClose i) s = .next t ∧ t.ju = j ∧ t.su = s.su
      ∧ t.bi.opened = s.bi.opened.filter (fun x => x.id != o.id)
      ∧ oneAsked s t .su [.saleRecord] e.words (e.after ++ [.suDone]) e.ofRequest ∧ eventFrame [.bi, .ju] s t := by
  have followed : o.after.foldl runAfter (removeWindow s o.id)
      = askFixed ((windowGone s o.id).setJu j) .su [.saleRecord] e.words (e.after ++ [.suDone]) e.ofRequest := by
    have gone : removeWindow s o.id = windowGone s o.id := removeWindow_free o.id free
    obtain ⟨only, rfl⟩ | ⟨advances, rfl⟩ := after
    · rw [only, gone]
      exact suAskWindow_asks (u := windowGone s o.id) event
    · rw [advances, gone]
      exact suAskWindow_asks (u := (windowGone s o.id).setJu { s.ju with head := s.ju.head + 1 }) event
  have stays : requestProgress (askFixed ((windowGone s o.id).setJu j) .su [.saleRecord] e.words (e.after ++ [.suDone]) e.ofRequest)
      = askFixed ((windowGone s o.id).setJu j) .su [.saleRecord] e.words (e.after ++ [.suDone]) e.ofRequest := by
    obtain unanswered | pending := goes
    · exact requestProgress_none unanswered
    · exact requestProgress_pending (requestPending_event event pending)
  exact ⟨_, exec_windowClose_quiet high here other written calm followed rfl stays, rfl, rfl, rfl, askFixed_one _ _ _ _ _ _,
    askFixed_frame _ _ _ _ _ _ (eventFrame_setJu (eventFrame_setBi (.refl _ s) (by decide)) (by decide))⟩

end Sys2Proof.Machine
end

section
/-! Windows that close with tells, with the end of a request, or with a read that is held (R17, R24, R91; O12). -/

namespace Sys2Proof.Machine

section
variable {s : State} {i : Nat} {o : OpenWindow}

/-! ### The tells of a sale's event -/

def bagTold (s : State) (tell : BagTell) : State := (arrive s .bwu .tell).setBwu { s.bwu with tells := s.bwu.tells ++ [tell] }

def printTold (s : State) (tell : PrintTell) : State := (arrive s .pu .tell).setPu { s.pu with tells := s.pu.tells ++ [tell] }

def saleDone (s : State) : State := s.setSu { s.su with event := none }

theorem bagTold_frame {bs : List BlockId} {z : State} (tell : BagTell) (h : eventFrame bs z s) (bwu : .bwu ∈ bs) :
    eventFrame bs z (bagTold s tell) := eventFrame_setBwu (arrive_frame _ _ _ h) bwu

theorem printTold_frame {bs : List BlockId} {z : State} (tell : PrintTell) (h : eventFrame bs z s) (pu : .pu ∈ bs) :
    eventFrame bs z (printTold s tell) := eventFrame_setPu (arrive_frame _ _ _ h) pu

/-- What both tells and the end of the event leave. -/
structure toldBoth (s u : State) (bag : BagTell) (print : PrintTell) : Prop where
  bwu : u.bwu = { s.bwu with tells := s.bwu.tells ++ [bag] }
  pu : u.pu = { s.pu with tells := s.pu.tells ++ [print] }
  su : u.su = { s.su with event := none }
  bi : u.bi = s.bi
  re : u.re = s.re
  frame : ∀ z : State, eventFrame [.bi, .re, .su, .bwu, .pu] z s → eventFrame [.bi, .re, .su, .bwu, .pu] z u

theorem toldBoth_bag (s : State) (bag : BagTell) (print : PrintTell) :
    toldBoth s (saleDone (printTold (bagTold s bag) print)) bag print :=
  ⟨rfl, rfl, rfl, rfl, rfl, fun _ before =>
    eventFrame_setSu (printTold_frame _ (bagTold_frame _ before (by decide)) (by decide)) (by decide)⟩

theorem toldBoth_print (s : State) (bag : BagTell) (print : PrintTell) :
    toldBoth s (saleDone (bagTold (printTold s print) bag)) bag print :=
  ⟨rfl, rfl, rfl, rfl, rfl, fun _ before =>
    eventFrame_setSu (bagTold_frame _ (printTold_frame _ before (by decide)) (by decide)) (by decide)⟩

theorem tellsFollow {bag : BagTell} {print : PrintTell} (free : ∀ a n, s.bi.hostStall ≠ some (.readHeld a n))
    (after : o.after = [.tellBag bag, .tellPrint print, .suDone] ∨ o.after = [.tellPrint print, .tellBag bag, .suDone]) :
    ∃ u, o.after.foldl runAfter (removeWindow s o.id) = u ∧ toldBoth (windowGone s o.id) u bag print := by
  have gone : removeWindow s o.id = windowGone s o.id := removeWindow_free o.id free
  obtain bagFirst | printFirst := after
  · refine ⟨saleDone (printTold (bagTold (windowGone s o.id) bag) print), ?_, toldBoth_bag _ bag print⟩
    rw [bagFirst, gone]
    rfl
  · refine ⟨saleDone (bagTold (printTold (windowGone s o.id) print) bag), ?_, toldBoth_print _ bag print⟩
    rw [printFirst, gone]
    rfl

theorem windowTells {bag : BagTell} {print : PrintTell} (high : s.bi.inReset = false) (here : s.bi.opened[i]? = some o)
    (other : o.owner ≠ .nu) (written : windowWritten s o.id = true) (calm : s.re.resetting = [])
    (free : ∀ a n, s.bi.hostStall ≠ some (.readHeld a n))
    (after : o.after = [.tellBag bag, .tellPrint print, .suDone] ∨ o.after = [.tellPrint print, .tellBag bag, .suDone]) :
    ∃ t v, exec (.updateWindowClose i) s = .next v ∧ noticesFreed s t v
      ∧ t.bwu = { s.bwu with tells := s.bwu.tells ++ [bag] }
      ∧ t.pu = { s.pu with tells := s.pu.tells ++ [print] } ∧ t.su = { s.su with event := none, inbox := t.su.inbox }
      ∧ t.bi.opened = s.bi.opened.filter (fun x => x.id != o.id) ∧ courseOnly s t
      ∧ eventFrame [.bi, .re, .su, .bwu, .pu] s t := by
  obtain ⟨u, followed, told⟩ := tellsFollow free after
  have runs := exec_windowClose high here other written
  have re : u.re = s.re := told.re
  have frame : eventFrame [.bi, .re, .su, .bwu, .pu] s u := told.frame s (eventFrame_setBi (.refl _ s) (by decide))
  rw [closeWindow_followed followed re calm] at runs
  refine ⟨requestProgress u, _, runs, freedNotices_freed s _, ?_, ?_, ?_, ?_, courseOnly_requestProgress
    (courseOnly_of_re (courseOnly.refl s) re), requestProgress_frame _ frame (by decide)⟩
  · simpa [windowGone] using told.bwu
  · simpa [windowGone] using told.pu
  · rw [requestProgress_su, told.su]
    rfl
  · simp [told.bi, windowGone]

/-! ### The last window of a request (R24, R25) -/

theorem removeWindow_followed (after : o.after = []) : o.after.foldl runAfter (removeWindow s o.id) = removeWindow s o.id := by
  rw [after]
  rfl

/-- The Request Engine writes its own fields before it passes the completion. -/
theorem statusWindowAsked {r : ReqOutcome} (high : s.bi.inReset = false) (here : s.bi.opened[i]? = some o) (other : o.owner ≠ .nu)
    (written : windowWritten s o.id = true) (after : o.after = []) (executing : s.re.phase = .executing)
    (answered : s.re.outcome = some r) (due : s.re.statusDue = true) (calm : s.re.resetting = [])
    (free : requestPending (s.setBi { s.bi with opened := s.bi.opened.filter fun x => x.id != o.id }) = false) :
    ∃ (t : State) (ws : List (Nat × Word)), exec (.updateWindowClose i) s = .next t
      ∧ t.re = { s.re with statusDue := false } ∧ t.nu = s.nu
      ∧ t.bi.opened = s.bi.opened.filter (fun x => x.id != o.id) ∧ oneAsked s t .re [.statusPage] ws [] true
      ∧ bytesFrom 0x2010 ws
        ([BitVec.ofNat 8 s.re.device.code, BitVec.ofNat 8 s.re.lastCommit.code] ++ le2 (s.re.laneNumber.getD 0)
          ++ le2 s.re.consumer ++ [BitVec.ofNat 8 s.re.failField, 0])
      ∧ requestPending t = true ∧ eventFrame [.bi, .re] s t := by
  have re : (removeWindow s o.id).re = s.re := by simp
  have waiting : (removeWindow s o.id).bi.waiting = s.bi.waiting := by simp
  have none_ : requestPending (removeWindow s o.id) = false := (requestPending_removeWindow s o.id).trans free
  have asks : requestProgress (removeWindow s o.id)
      = askReStatus ((removeWindow s o.id).setRe { s.re with statusDue := false }) true := by
    simp [requestProgress, answered, executing, none_, due]
  have busy (b : BlockId) :
      unitBusy (askReStatus ((removeWindow s o.id).setRe { s.re with statusDue := false }) true) b = unitBusy s b := by
    simp [unitBusy]
  have runs := exec_windowClose high here other written
  rw [closeWindow_followed (removeWindow_followed after) re calm, asks, freedNotices_same (busy .ctu) (busy .pu)] at runs
  refine ⟨_, _, runs, by simp, by simp, by simp [removeWindow_opened], ?_, reStatus_bytes s, ?_,
    askReStatus_frame _ _ (eventFrame_setRe (removeWindow_frame _ _ (.refl _ s) (by decide)) (by decide))⟩
  · have asked := askReStatus_one ((removeWindow s o.id).setRe { s.re with statusDue := false }) true
    rw [oneAsked, State.setRe_bi, waiting] at asked
    exact asked
  · simp [requestPending, askReStatus, askFixed, askWindow]

/-- The completion passed to the Notice Unit, which has not looked yet. -/
def completionOwed (s : State) (c : Completion) : State :=
  (s.setRe { s.re with phase := .completing }).setNu { s.nu with owed := some c }

theorem passCompletion_owed (s : State) (r : ReqOutcome) :
    passCompletion s r = look (completionOwed s { tag := recTag s.re.record, kind := recKindByte s.re.record, outcome := r }) := rfl

theorem completionPassed {r : ReqOutcome} {c : Completion} (high : s.bi.inReset = false) (here : s.bi.opened[i]? = some o)
    (other : o.owner ≠ .nu) (written : windowWritten s o.id = true) (after : o.after = []) (executing : s.re.phase = .executing)
    (answered : s.re.outcome = some r) (fresh : s.re.statusDue = false) (unowed : s.nu.owed = none) (calm : s.re.resetting = [])
    (free : requestPending (s.setBi { s.bi with opened := s.bi.opened.filter fun x => x.id != o.id }) = false)
    (is : c = { tag := recTag s.re.record, kind := recKindByte s.re.record, outcome := r }) :
    ∃ t v, exec (.updateWindowClose i) s = .next v ∧ noticesFreed s t v ∧ t.re = { s.re with phase := .completing }
      ∧ (s.nu.writer ≠ .free → t.nu = { s.nu with owed := some c } ∧ t.bi.waiting = s.bi.waiting)
      ∧ (s.nu.writer = .free → t.nu = { s.nu with writer := .completion }
          ∧ ∃ w, t.bi.waiting = s.bi.waiting ++ [w] ∧ w.owner = .nu ∧ w.sections = [.eventRing, .statusPage]
              ∧ w.fixed = [] ∧ w.live = [.completion c] ∧ w.after = [])
      ∧ eventFrame [.bi, .re] s t := by
  have re : (removeWindow s o.id).re = s.re := by simp
  have nu : (removeWindow s o.id).nu = s.nu := by simp
  have waiting : (removeWindow s o.id).bi.waiting = s.bi.waiting := by simp
  have none_ : requestPending (removeWindow s o.id) = false := (requestPending_removeWindow s o.id).trans free
  have passes : requestProgress (removeWindow s o.id) = look (completionOwed (removeWindow s o.id) c) := by
    rw [requestProgress_passes (by rw [re, answered]) (by rw [re, executing]) none_ (by rw [re, fresh]), passCompletion_owed, re, is]
  have runs := exec_windowClose high here other written
  rw [closeWindow_followed (removeWindow_followed after) re calm, passes] at runs
  refine ⟨_, _, runs, freedNotices_freed s _, ?_, fun busy => ?_, fun idle => ?_,
    passes ▸ requestProgress_frame _ (removeWindow_frame _ _ (.refl _ s) (by decide)) (by decide)⟩
  · simp [completionOwed]
  · have still : look (completionOwed (removeWindow s o.id) c) = completionOwed (removeWindow s o.id) c :=
      look_busy_same (by simpa [completionOwed] using busy)
    rw [still]
    exact ⟨by simp [completionOwed], by simp [completionOwed]⟩
  · have begins : look (completionOwed (removeWindow s o.id) c) = beginCompletion (completionOwed (removeWindow s o.id) c) c :=
      look_completion (by simpa [completionOwed] using idle) rfl
    rw [begins]
    refine ⟨?_, _, congrArg (· ++ [_]) waiting, rfl, rfl, rfl, rfl, rfl⟩
    simp [beginCompletion, askWindow, completionOwed, ← unowed]

end

/-! ### The whole statement -/

/-- Settles O12: the opening by `cutRuns`, the closes by what follows them, the live words by their bytes. -/
theorem windowsOpenAndClose : Obligations.WindowsOpenAndClose := by
  unfold Obligations.WindowsOpenAndClose
  refine ⟨fun s i w high here apart unserved first => windowOpens high here (canOpen_of apart unserved first), ?quiet,
    ⟨fun s i o e j high here other written calm free event goes after =>
        saleWindowAsked high here other written calm free event goes after,
      fun s i o bag print high here other written calm free after => windowTells high here other written calm free after⟩,
    ⟨biStatus_bytes, pwuStatus_bytes, bwuStatus_bytes, tuStatus_bytes, fun s l e is => linkStatus_bytes s l e is⟩,
    ⟨captureEntry_bytes, cardSession_bytes, fun s q => ⟨_, askReStatus_one s q, reStatus_bytes s⟩⟩,
    fun s old q changed _ _ is => printUnit_bytes s old q changed is,
    fun s i o r high here other written after executing answered due calm free =>
      statusWindowAsked high here other written after executing answered due calm free,
    fun s i o r c high here other written after executing answered fresh unowed calm free is =>
      completionPassed high here other written after executing answered fresh unowed calm free is⟩
  case quiet =>
    intro s i o high here other written unanswered calm
    have ends {u : State} (followed : o.after.foldl runAfter (removeWindow s o.id) = u) (re : u.re = s.re) :
        exec (.updateWindowClose i) s = .next u :=
      exec_windowClose_quiet high here other written calm followed re (requestProgress_none (by rw [re, unanswered]))
    refine ⟨fun free none_ => ends ?_ rfl, fun free advances => ends ?_ rfl, fun a n held none_ holds => ends ?_ rfl,
      fun a n held none_ owed apart unowed => ?serves⟩
    · rw [removeWindow_followed none_]
      exact removeWindow_free o.id free
    · rw [advances, removeWindow_free o.id free]
      rfl
    · rw [removeWindow_followed none_]
      exact removeWindow_holds held holds
    case serves =>
      have served := removeWindow_serves held owed apart unowed
      refine ⟨_, ends ((removeWindow_followed none_).trans served) rfl, rfl, ?_, rfl,
        eventFrame_setBi (windowGone_frame s o.id) (by decide)⟩
      exact congrArg (fun f => (burstAddrs a n).map f) (hostReadWord_congr rfl rfl rfl)

end Sys2Proof.Machine
end

section
/-! RESET_N asserted and released (R2, R15, R19, R39, R41, R53, R62, R71, R139, R140, R151; O4). -/

namespace Sys2Proof.Machine

/-! ### Several words written -/

theorem readByte_writeWords_outside {m : List Host.Cell} {ws : List (Nat × Word)} {b : Nat} (wf : Memory.wf m = true)
    (outside : ∀ x ∈ ws, b < x.1 ∨ x.1 + 4 ≤ b) : Memory.readByte (Memory.writeWords m ws) b = Memory.readByte m b := by
  induction ws generalizing m with
  | nil => rfl
  | cons x rest ih =>
    obtain ⟨a, w⟩ := x
    rw [Memory.writeWords, ih (Memory.wf_writeWord a allBytes w wf) fun y listed => outside y (List.mem_cons_of_mem _ listed),
      Memory.readByte_writeWord_outside a allBytes w b wf (outside (a, w) List.mem_cons_self)]

theorem readWord_writeWord_same {m : List Host.Cell} (a : Nat) (w : Word) (wf : Memory.wf m = true) :
    Memory.readWord (Memory.writeWord m a allBytes w) a = w := by
  have byte {k : Nat} (inside : k < 4) : Memory.readByte (Memory.writeWord m a allBytes w) (a + k) = byteOfWord w k := by
    rw [Memory.readByte_writeWord_inside a allBytes w k wf inside]
    exact if_pos (by interval_cases k <;> rfl)
  rw [Memory.readWord, byte (k := 1) (by decide), byte (k := 2) (by decide), byte (k := 3) (by decide)]
  exact (congrArg (wordOfBytes · _ _ _) (byte (k := 0) (by decide))).trans (wordOfBytes_le4 w)

/-- Aligned words of which each address has one value: the word at each of them reads as that value. -/
theorem readWord_writeWords {m : List Host.Cell} {ws : List (Nat × Word)} (value : Nat → Word) (wf : Memory.wf m = true)
    (aligned : ∀ x ∈ ws, x.1 % 4 = 0) (one : ∀ x ∈ ws, x.2 = value x.1) {x : Nat × Word} (listed : x ∈ ws) :
    Memory.readWord (Memory.writeWords m ws) x.1 = value x.1 := by
  induction ws generalizing m x with
  | nil => exact nomatch listed
  | cons y rest ih =>
    obtain ⟨a, w⟩ := y
    rw [Memory.writeWords]
    have canonical := Memory.wf_writeWord a allBytes w wf
    by_cases again : ∃ z ∈ rest, z.1 = x.1
    · obtain ⟨z, later, same⟩ := again
      have read := ih canonical (x := z) (fun v is => aligned v (List.mem_cons_of_mem _ is))
        (fun v is => one v (List.mem_cons_of_mem _ is)) later
      rw [same] at read
      exact read
    · have here : x = (a, w) := (List.mem_cons.mp listed).resolve_right fun later => again ⟨x, later, rfl⟩
      have apart {k : Nat} (inside : k < 4) : ∀ z ∈ rest, x.1 + k < z.1 ∨ z.1 + 4 ≤ x.1 + k := by
        intro z later
        have own := aligned x listed
        have its := aligned z (List.mem_cons_of_mem _ later)
        have other : z.1 ≠ x.1 := fun same => again ⟨z, later, same⟩
        omega
      have kept {k : Nat} (inside : k < 4) := readByte_writeWords_outside canonical (apart inside)
      have word : Memory.readWord (Memory.writeWords (Memory.writeWord m a allBytes w) rest) x.1
          = Memory.readWord (Memory.writeWord m a allBytes w) x.1 := by
        rw [Memory.readWord, kept (k := 1) (by decide), kept (k := 2) (by decide), kept (k := 3) (by decide)]
        exact congrArg (wordOfBytes · _ _ _) (kept (k := 0) (by decide))
      rw [word, ← one x listed, here]
      exact readWord_writeWord_same a w wf

/-! ### The words of the release -/

/-- The straps as the Status Page shows them (R2, R4). -/
def strapWord (laSel : BitVec 4) (bagFit : Bool) : Word := BitVec.ofNat 32 (laSel.toNat + if bagFit then 256 else 0)

/-- What the release leaves at each of its offsets. -/
def releasedWord (laSel : BitVec 4) (bagFit : Bool) (o : Nat) : Word := if o = 0x2000 then strapWord laSel bagFit else 0

theorem straps_packed (laSel : BitVec 4) (bagFit : Bool) :
    biStatus { Bi.reset with laSel := laSel, bagFit := bagFit } = [strapWord laSel bagFit, 0] := by
  have packed : biStatus { Bi.reset with laSel := laSel, bagFit := bagFit }
      = [wordOfBytes (nat1 laSel.toNat) (bool1 bagFit) 0 0, 0] := by
    have count : nat2 Bi.reset.refusedCount = [0, 0] := by decide
    have last : le4 Bi.reset.lastRefused = [0, 0, 0, 0] := by decide
    rw [biStatus, count, last]
    rfl
  have straps : wordOfBytes (nat1 laSel.toNat) (bool1 bagFit) 0 0 = strapWord laSel bagFit := by
    have small := laSel.isLt
    refine BitVec.eq_of_toNat_eq ?_
    rw [wordOfBytes_toNat, strapWord, nat1, bool1]
    cases bagFit <;> simp <;> omega
  rw [packed, straps]

/-- The offsets before the straps: the control words and the Print Page Table. -/
def frontOffsets : List Nat := (List.range 5).map (fun k => 0x1000 + 4 * k) ++ (List.range 128).map (fun k => 0xD000 + 4 * k)

/-- The offsets after the BI's fields: those of the RE, the NU and the LU. -/
def restOffsets : List Nat :=
  [0x2010, 0x2014, 0x2020]
    ++ (List.range 7).map (fun k => 0x2100 + 4 * k) ++ (List.range 7).map (fun k => 0x2120 + 4 * k)
    ++ (List.range 7).map (fun k => 0x2140 + 4 * k) ++ (List.range 7).map (fun k => 0x2160 + 4 * k)

theorem releaseOffsets_parts : releaseOffsets = frontOffsets ++ [0x2000, 0x2004] ++ restOffsets := by
  simp only [releaseOffsets, frontOffsets, restOffsets, List.append_assoc, List.cons_append, List.nil_append]

theorem mem_frontOffsets {o : Nat} (listed : o ∈ frontOffsets) : o % 4 = 0 ∧ o ≠ 0x2000 := by
  simp only [frontOffsets, List.mem_append, List.mem_map, List.mem_range] at listed
  obtain ⟨k, small, rfl⟩ | ⟨k, -, rfl⟩ := listed <;> omega

theorem mem_restOffsets {o : Nat} (listed : o ∈ restOffsets) : o % 4 = 0 ∧ o ≠ 0x2000 := by
  simp only [restOffsets, List.mem_append, List.mem_cons, List.not_mem_nil, or_false, List.mem_map] at listed
  obtain ((((rfl | rfl | rfl) | ⟨k, -, rfl⟩) | ⟨k, -, rfl⟩) | ⟨k, -, rfl⟩) | ⟨k, -, rfl⟩ := listed <;> omega

theorem straps_listed : 0x2000 ∈ releaseOffsets := by
  rw [releaseOffsets_parts]
  simp

theorem releaseOffsets_aligned {o : Nat} (listed : o ∈ releaseOffsets) : o % 4 = 0 := by
  rw [releaseOffsets_parts, List.mem_append, List.mem_append, List.mem_pair] at listed
  obtain (front | here) | rest := listed
  · exact (mem_frontOffsets front).1
  · omega
  · exact (mem_restOffsets rest).1

theorem releaseWords_front : wordsAt Config.controlOff (List.replicate 5 0) ++ wordsAt Config.pageTableOff (List.replicate 128 0)
    = frontOffsets.map fun o => (o, 0) := by decide

theorem releaseWords_rest : wordsAt 0x2010 (reStatus Re.reset) ++ [((0x2020 : Nat), (0 : Word))]
      ++ wordsAt 0x2100 (linkStatus Link.reset) ++ wordsAt 0x2120 (linkStatus Link.reset)
      ++ wordsAt 0x2140 (linkStatus Link.reset) ++ wordsAt 0x2160 (linkStatus Link.reset)
    = restOffsets.map fun o => (o, 0) := by decide

/-- The words of the release stand at its offsets. -/
theorem releaseWords_eq {t : State} {laSel : BitVec 4} {bagFit : Bool} (bi : t.bi = { Bi.reset with laSel := laSel, bagFit := bagFit })
    (re : t.re = Re.reset) (lu : t.lu = Lu.reset) :
    releaseWords t = releaseOffsets.map fun o => (o, releasedWord laSel bagFit o) := by
  have zero {os : List Nat} (other : ∀ o ∈ os, o ≠ 0x2000) :
      (os.map fun o => (o, releasedWord laSel bagFit o)) = os.map fun o => (o, (0 : Word)) :=
    List.map_congr_left fun o listed => congrArg (Prod.mk o) (if_neg (other o listed))
  have front := zero (os := frontOffsets) fun o listed => (mem_frontOffsets listed).2
  have rest := zero (os := restOffsets) fun o listed => (mem_restOffsets listed).2
  have straps : ([0x2000, 0x2004].map fun o => (o, releasedWord laSel bagFit o))
      = wordsAt 0x2000 (biStatus { Bi.reset with laSel := laSel, bagFit := bagFit }) := by
    rw [straps_packed]
    rfl
  rw [releaseOffsets_parts, List.map_append, List.map_append, front, rest, straps, ← releaseWords_front, ← releaseWords_rest,
    releaseWords, bi, re]
  simp only [liveWords, lu, Lu.reset, List.append_assoc]

/-! ### The steps -/

theorem exec_resetNAssert {s : State} (high : s.bi.inReset = false) : exec .resetNAssert s = .next (resetAssert s) := by
  have runs : exec .resetNAssert s = .next (if s.bi.inReset then s else resetAssert s) := rfl
  rw [runs, high]
  rfl

theorem exec_resetNRelease {s : State} (laSel : BitVec 4) (bagFit : Bool) :
    exec (.resetNRelease laSel bagFit) s = .next (if s.bi.inReset then resetRelease s laSel bagFit else s) := rfl

/-- The blocks at the release, before its words are written. -/
def releasedBlocks (s : State) (laSel : BitVec 4) (bagFit : Bool) : State :=
  (s.setBi { Bi.reset with laSel := laSel, bagFit := bagFit }).setTu (releasedTill s.tu)

theorem resetRelease_eq {s : State} {laSel : BitVec 4} {bagFit : Bool} (re : s.re = Re.reset) (lu : s.lu = Lu.reset) :
    resetRelease s laSel bagFit = (releasedBlocks s laSel bagFit).setMem (Memory.writeWords s.mem
      (releaseOffsets.map fun o => (laSel.toNat * 16777216 + o, releasedWord laSel bagFit o))) := by
  have words := releaseWords_eq (t := releasedBlocks s laSel bagFit) rfl re lu
  have all : resetRelease s laSel bagFit = (releasedBlocks s laSel bagFit).setMem (Memory.writeWords s.mem
      ((releaseWords (releasedBlocks s laSel bagFit)).map fun x => (laSel.toNat * 16777216 + x.1, x.2))) := rfl
  rw [all, words, List.map_map]
  rfl

section
variable {s : State} {laSel : BitVec 4} {bagFit : Bool} (re : s.re = Re.reset) (lu : s.lu = Lu.reset) (canonical : memoryCanonical s)
include re lu canonical

theorem resetRelease_word {o : Nat} (listed : o ∈ releaseOffsets) :
    Memory.readWord (resetRelease s laSel bagFit).mem (laSel.toNat * 16777216 + o) = releasedWord laSel bagFit o := by
  rw [resetRelease_eq re lu, State.setMem_mem]
  have read := readWord_writeWords (m := s.mem) (fun a => releasedWord laSel bagFit (a - laSel.toNat * 16777216)) canonical
    (ws := releaseOffsets.map fun o => (laSel.toNat * 16777216 + o, releasedWord laSel bagFit o)) ?_ ?_
    (List.mem_map.mpr ⟨o, listed, rfl⟩)
  · rw [Nat.add_sub_cancel_left] at read
    exact read
  · intro x is
    obtain ⟨p, there, rfl⟩ := List.mem_map.mp is
    have aligned := releaseOffsets_aligned there
    dsimp only
    omega
  · intro x is
    obtain ⟨p, -, rfl⟩ := List.mem_map.mp is
    dsimp only
    rw [Nat.add_sub_cancel_left]

theorem resetRelease_outside {a : Nat}
    (outside : ∀ o ∈ releaseOffsets, a < laSel.toNat * 16777216 + o ∨ laSel.toNat * 16777216 + o + 4 ≤ a) :
    Memory.readByte (resetRelease s laSel bagFit).mem a = Memory.readByte s.mem a := by
  rw [resetRelease_eq re lu, State.setMem_mem]
  refine readByte_writeWords_outside canonical fun x is => ?_
  obtain ⟨o, listed, rfl⟩ := List.mem_map.mp is
  exact outside o listed

end

/-- Settles O4: what RESET_N low lets act by `exec_low`, the words of the release by `releaseWords_eq`. -/
theorem resetNHoldsThenReleasesTheBlocks : Obligations.ResetNHoldsThenReleasesTheBlocks := by
  unfold Obligations.ResetNHoldsThenReleasesTheBlocks
  refine ⟨⟨fun s high => ?assert, fun c s low release pins => exec_low low release pins⟩, fun s laSel bagFit high => ?early,
    fun s laSel bagFit low canonical re lu _ => ?release⟩
  case assert =>
    exact ⟨_, exec_resetNAssert high, rfl, rfl, rfl, rfl, rfl, rfl, rfl, rfl, rfl, rfl, rfl, rfl, fun _ => rfl, rfl⟩
  case early =>
    rw [exec_resetNRelease, high]
    rfl
  case release =>
    have runs := exec_resetNRelease (s := s) laSel bagFit
    rw [low, if_pos rfl] at runs
    refine ⟨_, runs, rfl, rfl, rfl, fun o listed other => ?_, ?_, fun a outside => resetRelease_outside re lu canonical outside,
      rfl, rfl, rfl, rfl, rfl, rfl, rfl, rfl, rfl, rfl⟩
    · exact (resetRelease_word re lu canonical listed).trans (if_neg other)
    · exact (resetRelease_word re lu canonical straps_listed).trans (if_pos rfl)

end Sys2Proof.Machine
end

section
/-! The links at a LANE_RESET, and their reports (R46, R52, R63, R70, R71; O17). -/

namespace Sys2Proof.Machine

/-! ### The look, by what it does -/

section
variable {s t : State}

/-- The Notice Unit does nothing, begins the completion it owes, or takes a latch. -/
theorem look_cases (s : State) : look s = s ∨ (∃ c, s.nu.writer = .free ∧ s.nu.owed = some c ∧ look s = beginCompletion s c)
    ∨ ∃ i, s.nu.writer = .free ∧ firstEligible s = some i ∧ s.nu.reserved < freeSlots s ∧ look s = takeLatch s i := by
  unfold look
  split
  next free =>
    split
    next c owed => exact .inr (.inl ⟨c, free, owed, rfl⟩)
    next =>
      split
      next i found =>
        split
        next room => exact .inr (.inr ⟨i, free, found, room, rfl⟩)
        next => exact .inl rfl
      next => exact .inl rfl
  next => exact .inl rfl

/-! ### A link goes QUIET (R71) -/

/-- The link a LANE_RESET leaves. -/
def quietedLink (x : Link) : Link :=
  if x.state = .quiet then x else { changedLink x .quiet .laneReset with
    identSeen := false, tracked := none, attempt := none, line := .stopped, freshStart := false
    path := (changedLink x .quiet .laneReset).path.filter fun y => !y.isFrame
    firstAfterUp := false, tx := [], txSeq := 0, rateNext := none, silence := none }

theorem quietLink_quiet {l : LinkId} (quiet : (s.link l).state = .quiet) : quietLink s l = s := if_pos quiet

theorem quietLink_changes {l : LinkId} (live : (s.link l).state ≠ .quiet) : quietLink s l
    = (forgetPath (changeLink s l .quiet .laneReset) l (((changeLink s l .quiet .laneReset).link l).path.map fun x => !x.isFrame)).setLink l
        { (changeLink s l .quiet .laneReset).link l with
          identSeen := false, tracked := none, txSeq := 0, attempt := none, line := .stopped, freshStart := false
          path := ((changeLink s l .quiet .laneReset).link l).path.filter fun x => !x.isFrame
          firstAfterUp := false, tx := [], rateNext := none, silence := none } := if_neg live

theorem quietLink_same (s : State) (l : LinkId) : (quietLink s l).link l = quietedLink (s.link l) := by
  by_cases quiet : (s.link l).state = .quiet
  · rw [quietLink_quiet quiet, quietedLink, if_pos quiet]
  · rw [quietLink_changes quiet, State.link_setLink_same, changeLink_same, quietedLink, if_neg quiet]

theorem quietLink_alone (s : State) (l : LinkId) : linkAlone l s (quietLink s l) := by
  by_cases quiet : (s.link l).state = .quiet
  · rw [quietLink_quiet quiet]
    exact linkAlone.refl s
  · rw [quietLink_changes quiet]
    exact ((changeLink_alone s l .quiet .laneReset).trans (linkAlone_of_lu rfl)).setLink _

/-- Notice Unit and Sale Unit are as the raise leaves them. -/
theorem quietLink_raises {l : LinkId} (live : (s.link l).state ≠ .quiet) :
    ∃ u, (quietLink s l).nu = (raise u .linkChange (linkNo l)).nu ∧ (quietLink s l).su = (raise u .linkChange (linkNo l)).su
      ∧ u.nu = s.nu ∧ u.re = s.re ∧ u.su = s.su :=
  ⟨_, by rw [quietLink_changes live]; simp [changeLink]; rfl, by rw [quietLink_changes live]; simp [changeLink], by simp, by simp,
    by simp⟩

theorem askedFor_quietLink {l : LinkId} {o : BlockId} {x : LaneSection} (h : askedFor s o x) : askedFor (quietLink s l) o x := by
  by_cases quiet : (s.link l).state = .quiet
  · rw [quietLink_quiet quiet]
    exact h
  · have changed : askedFor (changeLink s l .quiet .laneReset) o x :=
      askedFor_askLinkStatus_of (askedFor_raise (askedFor_of_bi h (by simp)))
    rw [quietLink_changes quiet]
    exact askedFor_of_bi changed rfl

/-- Of the Notice Unit's indices and line nothing changes. -/
theorem quietLink_indices (s : State) (l : LinkId) : noticesOnly s (quietLink s l) :=
  (quietLink_frame s l (.refl [.lu] s) (by decide)).nu.resolve_left (by decide)

/-! ### Asks for a payload that reach the Sale Unit (R91) -/

/-- In the Sale Unit's list only asks for a payload have joined. -/
def payloadsJoined (s t : State) : Prop := ∃ asks, t.su = { s.su with inbox := s.su.inbox ++ asks } ∧ ∀ x ∈ asks, x = .payloadAsk

theorem payloadsJoined_of_su (su : t.su = s.su) : payloadsJoined s t := ⟨[], by rw [su, List.append_nil], nofun⟩

theorem payloadsJoined.trans {u : State} (h : payloadsJoined s t) (g : payloadsJoined t u) : payloadsJoined s u := by
  obtain ⟨xs, hx, allX⟩ := h
  obtain ⟨ys, hy, allY⟩ := g
  refine ⟨xs ++ ys, by rw [hy, hx, List.append_assoc], fun x is => ?_⟩
  exact (List.mem_append.mp is).elim (allX x) (allY x)

theorem raise_payloads (s : State) (k : CondKind) (source : Nat) : payloadsJoined s (raise s k source) := look_su _

theorem quietLink_payloads (s : State) (l : LinkId) : payloadsJoined s (quietLink s l) := by
  by_cases quiet : (s.link l).state = .quiet
  · exact payloadsJoined_of_su (by rw [quietLink_quiet quiet])
  · obtain ⟨u, -, su, -, -, before⟩ := quietLink_raises quiet
    obtain ⟨asks, joined, all⟩ := raise_payloads u .linkChange (linkNo l)
    exact ⟨asks, by rw [su, joined, before], all⟩

/-! ### The reports of the links (R52, R71) -/

/-- The latch of a link that has changed state at the reset. -/
def linkLatch (l : LinkId) : Latch := { pending := true, count := 1, stamp := 0, source := linkNo l }

/-- The record the Notice Unit takes from that latch. -/
def linkAsking (l : LinkId) : Writer := .asking .linkChange 1 0 (linkNo l) [.lu] (List.replicate 16 0)

/-- The links of which `changed` says so have reported their change, and no other latch is set. -/
structure linksReported (changed : LinkId → Prop) (s : State) : Prop where
  length : s.nu.latches.length = 24
  cleared : ∀ i < 24, (i < 2 ∨ 6 ≤ i) → latchAt s i = Latch.clear
  still : ∀ l, ¬ changed l → latchAt s (2 + linkNo l) = Latch.clear
  raised : ∀ l, changed l → latchAt s (2 + linkNo l) = linkLatch l ∨ s.nu.writer = linkAsking l

theorem linksReported_of_nu {changed : LinkId → Prop} (h : linksReported changed s) (nu : t.nu = s.nu) : linksReported changed t := by
  have at_ (i : Nat) : latchAt t i = latchAt s i := by rw [latchAt, nu]; rfl
  exact ⟨by rw [nu]; exact h.length, fun i inside other => (at_ i).trans (h.cleared i inside other),
    fun l same => (at_ _).trans (h.still l same), fun l is => by rw [at_, nu]; exact h.raised l is⟩

theorem latchAt_of_set {i : Nat} {x : Latch} (set : t.nu.latches = s.nu.latches.set i x) (inside : i < s.nu.latches.length) (j : Nat) :
    latchAt t j = if i = j then x else latchAt s j := by
  rw [latchAt, latchAt, set, List.getD_eq_getElem?_getD, List.getD_eq_getElem?_getD, List.getElem?_set]
  by_cases same : i = j
  · rw [if_pos same, if_pos same, if_pos inside]
    rfl
  · rw [if_neg same, if_neg same]

theorem linkNo_injective {k l : LinkId} (same : linkNo k = linkNo l) : k = l := by
  revert same
  cases k <;> cases l <;> decide

theorem latchAt_link {i : Nat} (inside : 2 ≤ i ∧ i < 6) : ∃ l, i = 2 + linkNo l := by
  obtain ⟨low, high⟩ := inside
  interval_cases i
  · exact ⟨.platter, rfl⟩
  · exact ⟨.bag, rfl⟩
  · exact ⟨.card, rfl⟩
  · exact ⟨.printer, rfl⟩

/-- A latch that is set is the latch of a changed link. -/
theorem linksReported.pending {changed : LinkId → Prop} (h : linksReported changed s) {i : Nat} (inside : i < 24)
    (pending : (latchAt s i).pending = true) : ∃ l, i = 2 + linkNo l ∧ changed l := by
  have between : 2 ≤ i ∧ i < 6 := by
    by_contra outside
    rw [h.cleared i inside (by omega)] at pending
    exact nomatch pending
  obtain ⟨l, rfl⟩ := latchAt_link between
  refine ⟨l, rfl, ?_⟩
  by_contra same
  rw [h.still l same] at pending
  exact nomatch pending

theorem latchKind_link (l : LinkId) : latchKind (2 + linkNo l) = .linkChange := by cases l <;> rfl

theorem linksReported.look {changed : LinkId → Prop} (h : linksReported changed s) :
    linksReported changed (look s) ∧ (look s).su = s.su := by
  obtain same | ⟨c, free, -, begins⟩ | ⟨i, free, found, -, takes⟩ := look_cases s
  · rw [same]
    exact ⟨h, rfl⟩
  · rw [begins]
    refine ⟨⟨h.length, h.cleared, h.still, fun l is => .inl ((h.raised l is).resolve_right ?_)⟩, rfl⟩
    rw [free]
    exact nofun
  · obtain ⟨inside, set, -⟩ := (firstEligible_iff s i).mp found
    obtain ⟨k, rfl, is⟩ := h.pending inside set
    have own : latchAt s (2 + linkNo k) = linkLatch k := (h.raised k is).resolve_right (by rw [free]; exact nofun)
    obtain ⟨latches, writer⟩ := takeLatch_taken s (2 + linkNo k)
    have at_ := latchAt_of_set latches (h.length.symm ▸ inside)
    have other {j : Nat} (not : 2 + linkNo k ≠ j) : latchAt (takeLatch s (2 + linkNo k)) j = latchAt s j := by
      rw [at_ j, if_neg not]
    have small := linkNo_lt k
    rw [takes]
    refine ⟨⟨by rw [latches, List.length_set]; exact h.length, fun j within outside => ?_, fun l same => ?_, fun l changes => ?_⟩, ?_⟩
    · rw [other (by omega)]
      exact h.cleared j within outside
    · rw [other fun apart => same (by rw [← linkNo_injective (Nat.add_left_cancel apart)]; exact is)]
      exact h.still l same
    · by_cases here : l = k
      · subst here
        refine .inr (writer.trans ?_)
        rw [own, latchKind_link]
        rfl
      · rw [other fun apart => here (linkNo_injective (Nat.add_left_cancel apart)).symm]
        exact .inl ((h.raised l changes).resolve_right (by rw [free]; exact nofun))
    · rw [takeLatch, askSalePayload, latchKind_link]
      rfl

theorem linksReported.raise {changed : LinkId → Prop} (h : linksReported changed s) (clock : s.re.clock = 0) {k : LinkId}
    (new : ¬ changed k) : linksReported (fun l => changed l ∨ l = k) (raise s .linkChange (linkNo k))
      ∧ (raise s .linkChange (linkNo k)).su = s.su := by
  have small := linkNo_lt k
  refine linksReported.look (s := s.setNu { s.nu with
    latches := s.nu.latches.set (2 + linkNo k) ((latchAt s (2 + linkNo k)).raised s.re.clock (linkNo k)) }) ?_
  have at_ := latchAt_of_set (s := s) (t := s.setNu { s.nu with
    latches := s.nu.latches.set (2 + linkNo k) ((latchAt s (2 + linkNo k)).raised s.re.clock (linkNo k)) }) rfl
    (by rw [h.length]; omega)
  refine ⟨(List.length_set ..).trans h.length, fun j within outside => ?_, fun l same => ?_, fun l changes => ?_⟩
  · rw [at_ j, if_neg (by omega)]
    exact h.cleared j within outside
  · obtain ⟨still, other⟩ := not_or.mp same
    rw [at_, if_neg fun apart => other (linkNo_injective (Nat.add_left_cancel apart)).symm]
    exact h.still l still
  · by_cases here : l = k
    · subst here
      rw [at_, if_pos rfl, h.still l new, clock]
      exact .inl rfl
    · rw [at_, if_neg fun apart => here (linkNo_injective (Nat.add_left_cancel apart)).symm]
      exact h.raised l (changes.resolve_right here)

end

end Sys2Proof.Machine
end

section
/-! A LANE_RESET that reaches the last of the units: the Request Engine and the links (R38, R52, R71; O17). -/

namespace Sys2Proof.Machine

/-! ### The four links -/

section
variable {s t : State}

theorem linksReported.congr {c d : LinkId → Prop} (h : linksReported c s) (same : ∀ l, d l ↔ c l) : linksReported d s :=
  ⟨h.length, h.cleared, fun l not => h.still l fun is => not ((same l).mpr is), fun l is => h.raised l ((same l).mp is)⟩

theorem quietLink_reported {c : LinkId → Prop} (h : linksReported c s) (clock : s.re.clock = 0) {k : LinkId} (new : ¬ c k) :
    linksReported (fun l => c l ∨ (l = k ∧ (s.link l).state ≠ .quiet)) (quietLink s k) ∧ (quietLink s k).su = s.su := by
  by_cases quiet : (s.link k).state = .quiet
  · rw [quietLink_quiet quiet]
    refine ⟨h.congr fun l => or_iff_left ?_, rfl⟩
    rintro ⟨rfl, live⟩
    exact live quiet
  · obtain ⟨u, nu, su, nuBefore, re, suBefore⟩ := quietLink_raises quiet
    obtain ⟨reports, same⟩ := (linksReported_of_nu h nuBefore).raise (re ▸ clock) new
    refine ⟨(linksReported_of_nu reports nu).congr fun l => or_congr_right ?_, su.trans (same.trans suBefore)⟩
    constructor
    · rintro ⟨here, -⟩
      exact here
    · rintro rfl
      exact ⟨rfl, quiet⟩

theorem quietLinks_reported {c : LinkId → Prop} {ls : List LinkId} (once : ls.Nodup) (h : linksReported c s) (clock : s.re.clock = 0)
    (new : ∀ l ∈ ls, ¬ c l) :
    linksReported (fun l => c l ∨ (l ∈ ls ∧ (s.link l).state ≠ .quiet)) (ls.foldl quietLink s) ∧ (ls.foldl quietLink s).su = s.su := by
  induction ls generalizing s c with
  | nil => exact ⟨h.congr fun l => or_iff_left fun is => (nomatch is.1), rfl⟩
  | cons k rest ih =>
    obtain ⟨apart, once⟩ := List.nodup_cons.mp once
    obtain ⟨first, suFirst⟩ := quietLink_reported h clock (new k List.mem_cons_self)
    have re : (quietLink s k).re = s.re := by simp
    obtain ⟨all, su⟩ := ih once first (re ▸ clock) fun l later is =>
      is.elim (new l (List.mem_cons_of_mem _ later)) fun here => apart (here.1 ▸ later)
    refine ⟨all.congr fun l => ?_, su.trans suFirst⟩
    by_cases here : l = k
    · subst here
      simp [apart]
    · rw [quietLink_alone s k l here]
      simp [here]

theorem resetLinks_link (s : State) (l : LinkId) : (resetLinks s).link l = quietedLink (s.link l) :=
  (foldl_links (g := fun _ _ x => quietedLink x) quietLink_alone (by simp) quietLink_same (fun _ _ _ => rfl) (by decide) s).1 l
    (links_complete l)

theorem quietedLink_state (x : Link) : (quietedLink x).state = .quiet := by
  unfold quietedLink
  split
  next quiet => exact quiet
  next => rfl

theorem resetLinks_reported (clock : s.re.clock = 0) (clear : linksReported (fun _ => False) s) :
    linksReported (fun l => (s.link l).state ≠ .quiet) (resetLinks s) ∧ (resetLinks s).su = s.su := by
  obtain ⟨all, su⟩ := quietLinks_reported (ls := [.platter, .bag, .card, .printer]) (by decide) clear clock fun _ _ => id
  exact ⟨all.congr fun l => by simp only [links_complete l, true_and, false_or], su⟩

theorem foldl_quietLink_payloads (ls : List LinkId) (s : State) : payloadsJoined s (ls.foldl quietLink s) := by
  induction ls generalizing s with
  | nil => exact payloadsJoined_of_su rfl
  | cons k rest ih => exact (quietLink_payloads s k).trans (ih (quietLink s k))

theorem resetLinks_payloads (s : State) : payloadsJoined s (resetLinks s) := foldl_quietLink_payloads _ s

theorem resetLinks_asked {o : BlockId} {x : LaneSection} (h : askedFor s o x) : askedFor (resetLinks s) o x :=
  foldl_keeps (P := fun t => askedFor t o x) _ (fun _ => askedFor_quietLink) h

/-! ### The last of the units (log 16) -/

/-- The Request Engine and the links reset, the windows asked since number `start` count as asked together. -/
def engineReset (v : State) (start : Nat) : State :=
  (tieAsks (resetLinks (resetEngine v)) start).setRe { (tieAsks (resetLinks (resetEngine v)) start).re with resetting := [] }

/-- The lane is reset, and the engine goes on. -/
def laneDone (v : State) (start : Nat) : State := nextRequest (engineReset v start)

section
variable (v : State) (start : Nat)

theorem engineReset_re : (engineReset v start).re
    = { v.re with device := .unconfigured, clock := 0, setup := none, resetting := [] } := by
  simp [engineReset, resetEngine]

theorem engineReset_keeps : (engineReset v start).pwu = v.pwu ∧ (engineReset v start).bwu = v.bwu ∧ (engineReset v start).ctu = v.ctu
    ∧ (engineReset v start).tu = v.tu ∧ (engineReset v start).pu = v.pu ∧ (engineReset v start).ju = v.ju
    ∧ (engineReset v start).mem = v.mem ∧ (engineReset v start).pending = v.pending := by
  simp [engineReset]

theorem engineReset_lu : (engineReset v start).lu = (resetLinks (resetEngine v)).lu := by simp [engineReset]

theorem engineReset_link (l : LinkId) : (engineReset v start).link l = quietedLink (v.link l) := by
  rw [link_of_lu (engineReset_lu v start), resetLinks_link, link_of_lu (s := v) (by simp)]

theorem engineReset_su : (engineReset v start).su = (resetLinks (resetEngine v)).su := by simp [engineReset]

theorem engineReset_payloads : payloadsJoined v (engineReset v start) := by
  obtain ⟨asks, su, all⟩ := resetLinks_payloads (resetEngine v)
  have before : (resetEngine v).su = v.su := by simp
  rw [before] at su
  exact ⟨asks, (engineReset_su v start).trans su, all⟩

theorem engineReset_bi : (engineReset v start).bi = (tieAsks (resetLinks (resetEngine v)) start).bi := by simp [engineReset]

theorem engineReset_asked {o : BlockId} {x : LaneSection} (h : askedFor v o x) : askedFor (engineReset v start) o x :=
  have engine : askedFor (resetEngine v) o x := askedFor_askWindow_of (askedFor_of_bi h rfl)
  askedFor_of_bi (askedFor_tieAsks (resetLinks_asked engine)) (congrArg Bi.waiting (engineReset_bi v start))

theorem engineReset_asksStatus : askedFor (engineReset v start) .re .statusPage :=
  have engine : askedFor (resetEngine v) .re .statusPage := askedFor_askFixed (by decide)
  askedFor_of_bi (askedFor_tieAsks (resetLinks_asked engine)) (congrArg Bi.waiting (engineReset_bi v start))

end

end

end Sys2Proof.Machine
end

section
/-! The units at a LANE_RESET (R38, R89, R109, R110, R138, R151, R166, R174; O17). -/

namespace Sys2Proof.Machine

section
variable (s : State)

/-! ### One rule per unit -/

theorem resetSale_su : (resetSale s).su = { s.su with
    header := Header.cleared, lines := [], tenders := []
    inbox := s.su.inbox.filter fun x => decide (x = .payloadAsk) || decide (x = .fillAsk) } := by simp [resetSale]

theorem resetPlatter_pwu : (resetPlatter s).pwu = Pwu.reset := by simp [resetPlatter]

theorem resetBag_bwu : (resetBag s).bwu = Bwu.reset := by simp [resetBag]

theorem resetCard_ctu : (resetCard s).ctu = { Ctu.reset with refCounter := s.ctu.refCounter } := by simp [resetCard]

/-- The till a LANE_RESET leaves (R151). -/
def tillCut (u : Tu) : Tu :=
  { u with
    drawer := if u.sensor then .opened else .shut, forced := false, attempts := 0, cause := .none
    solenoid := false, width := none, confirm := none, limitTimer := none, forcedCount := 0, nosaleCount := 0 }

theorem resetTill_tu : (resetTill s).tu = tillCut s.tu := by simp [resetTill, tillCut]

/-- The Print Unit a LANE_RESET leaves (R166). -/
def printCut (fill : Half) (u : Pu) : Pu :=
  { Pu.reset with
    printIndex := fill, nextUnsent := fill, lineSeq := u.lineSeq, submissions := u.submissions
    stray := u.stray, paper := u.paper, coverOpen := u.coverOpen, fetch := u.dropFetch }

theorem resetPrinter_pu : (resetPrinter s).pu = printCut (fillCopy s) s.pu := by simp [resetPrinter, printCut]

theorem resetJournal_ju : (resetJournal s).ju = { s.ju with forcedCarry := 0, nosaleCarry := 0, fixed := none, tells := 0 } := rfl

end

section
variable {s : State} {o : BlockId} {x : LaneSection}

/-! ### What has been asked -/

theorem askedFor_resetSale_of (h : askedFor s o x) : askedFor (resetSale s) o x := askedFor_askWindow_of (askedFor_of_bi h rfl)

theorem askedFor_resetPlatter_of (h : askedFor s o x) : askedFor (resetPlatter s) o x :=
  askedFor_askLiveAfter_of (askedFor_of_bi (askedFor_freezeWaiting (old := s) (owner := .pwu) h) rfl)

theorem askedFor_resetBag_of (h : askedFor s o x) : askedFor (resetBag s) o x := askedFor_askLiveAfter_of (askedFor_of_bi h rfl)

theorem askedFor_resetCard_of (h : askedFor s o x) : askedFor (resetCard s) o x :=
  askedFor_of_bi (askedFor_askWindow_of (askedFor_of_bi h rfl)) rfl

theorem askedFor_resetTill_of (h : askedFor s o x) : askedFor (resetTill s) o x := askedFor_askLiveAfter_of (askedFor_of_bi h rfl)

theorem askedFor_resetPrinter_of (h : askedFor s o x) : askedFor (resetPrinter s) o x := askedFor_askWindow_of (askedFor_of_bi h rfl)

theorem askedFor_resetSale : askedFor (resetSale s) .su .saleRecord := askedFor_askFixed (by decide)

theorem askedFor_resetPlatter : askedFor (resetPlatter s) .pwu .captureTable := askedFor_askLiveAfter (by decide)

theorem askedFor_resetBag : askedFor (resetBag s) .bwu .statusPage := askedFor_askBwuStatus

theorem askedFor_resetCard : askedFor (resetCard s) .ctu .cardSession := askedFor_askCardSession _ false

theorem askedFor_resetTill : askedFor (resetTill s) .tu .statusPage := askedFor_askTuStatus _ false

theorem askedFor_resetPrinter : askedFor (resetPrinter s) .pu .jobTable := askedFor_askFixed (by decide)

end

/-! ### All the units but the last -/

section
variable (s : State)

def saleReset : State := resetBag (resetPlatter (resetSale s))

/-- Each unit but the Request Engine has reset, in the order of their numbers. -/
def unitsReset : State := resetJournal (resetPrinter (resetTill (resetCard (saleReset s))))

theorem unitsReset_re : (unitsReset s).re = s.re := by simp [unitsReset, saleReset]

theorem unitsReset_su : (unitsReset s).su = { s.su with
    header := Header.cleared, lines := [], tenders := []
    inbox := s.su.inbox.filter fun x => decide (x = .payloadAsk) || decide (x = .fillAsk) } := by
  simp [unitsReset, saleReset, resetSale_su]

theorem unitsReset_pwu : (unitsReset s).pwu = Pwu.reset := by simp [unitsReset, saleReset, resetPlatter_pwu]

theorem unitsReset_bwu : (unitsReset s).bwu = Bwu.reset := by simp [unitsReset, saleReset, resetBag_bwu]

theorem unitsReset_ctu : (unitsReset s).ctu = { Ctu.reset with refCounter := s.ctu.refCounter } := by
  simp [unitsReset, resetCard_ctu, saleReset]

theorem unitsReset_tu : (unitsReset s).tu = tillCut s.tu := by simp [unitsReset, resetTill_tu, saleReset]

theorem unitsReset_pu : (unitsReset s).pu = printCut (fillCopy s) s.pu := by
  simp [unitsReset, resetPrinter_pu, saleReset, resetSale, resetPlatter, resetBag, resetCard, resetTill, fillCopy]

theorem unitsReset_ju : (unitsReset s).ju = { s.ju with forcedCarry := 0, nosaleCarry := 0, fixed := none, tells := 0 } := by
  simp [unitsReset, resetJournal_ju, saleReset]

theorem unitsReset_others : (unitsReset s).lu = s.lu ∧ (unitsReset s).nu = s.nu ∧ (unitsReset s).mem = s.mem
    ∧ (unitsReset s).pending = s.pending := by simp [unitsReset, saleReset]

theorem unitsReset_bi : windowsAskedOnly s (unitsReset s) :=
  (resetJournal_frame _ (resetPrinter_frame _ (resetTill_frame _ (resetCard_frame _ (resetBag_frame _ (resetPlatter_frame _
    (resetSale_frame _ (.refl [.su, .pwu, .bwu, .ctu, .tu, .pu, .ju] s) (by decide)) (by decide)) (by decide)) (by decide))
    (by decide)) (by decide)) (by decide)).bi.resolve_left (by decide)

theorem unitsReset_asks : askedFor (unitsReset s) .su .saleRecord ∧ askedFor (unitsReset s) .pwu .captureTable
    ∧ askedFor (unitsReset s) .ctu .cardSession ∧ askedFor (unitsReset s) .pu .jobTable ∧ askedFor (unitsReset s) .bwu .statusPage
    ∧ askedFor (unitsReset s) .tu .statusPage := by
  have late {o : BlockId} {x : LaneSection} (h : askedFor (resetPrinter (resetTill (resetCard (saleReset s)))) o x) :
      askedFor (unitsReset s) o x := askedFor_of_bi h (by simp [unitsReset])
  have early {o : BlockId} {x : LaneSection} (h : askedFor (saleReset s) o x) : askedFor (unitsReset s) o x :=
    late (askedFor_resetPrinter_of (askedFor_resetTill_of (askedFor_resetCard_of h)))
  exact ⟨early (askedFor_resetBag_of (askedFor_resetPlatter_of askedFor_resetSale)), early (askedFor_resetBag_of askedFor_resetPlatter),
    late (askedFor_resetPrinter_of (askedFor_resetTill_of askedFor_resetCard)), late askedFor_resetPrinter, early askedFor_resetBag,
    late (askedFor_resetPrinter_of askedFor_resetTill)⟩

end

end Sys2Proof.Machine
end

section
/-! A LANE_RESET that finds every unit ready (R38, R46, R52, R71; log 16; O17). -/

namespace Sys2Proof.Machine

/-! ### Every unit takes the reset -/

section
variable {s z t : State}

theorem hasOpenWindow_none {b : BlockId} (windows : ∀ w ∈ s.bi.opened, w.owner ≠ b) : hasOpenWindow s b = false := by
  rw [hasOpenWindow, List.any_eq_false]
  exact fun w is owned => windows w is (of_decide_eq_true owned)

theorem unitReady_all {b : BlockId} (windows : hasOpenWindow s b = false) (event : s.su.event = none) (head : headOwed s = false) :
    unitReady s b = true := by
  unfold unitReady
  rw [windows, Bool.not_false, Bool.true_and]
  split
  next => rw [event]; rfl
  next => rw [head]; rfl
  next => rfl

theorem resetReady_all (windows : ∀ b, b ≠ .nu → hasOpenWindow s b = false) (event : s.su.event = none) (head : headOwed s = false)
    (told : s.re.resetting = resetOrder) : ∀ b ∈ resetOrder, resetReady s b = true := by
  have ready {b : BlockId} (other : b ≠ .nu) : unitReady s b = true := unitReady_all (windows b other) event head
  have apart {b : BlockId} (is : b ∈ resetOrder) : b ≠ .nu := by
    rintro rfl
    exact absurd is (by decide)
  intro b is
  unfold resetReady
  split
  next =>
    rw [windows .re (by decide), windows .lu (by decide), told, Bool.not_false, Bool.true_and, Bool.true_and, List.all_eq_true]
    intro x listed
    rw [ready (apart listed), Bool.or_true]
  next => exact ready (apart is)

theorem takeResets_all (told : s.re.resetting = resetOrder) (ready : ∀ b ∈ resetOrder, resetReady s b = true) :
    takeResets s = laneDone (unitsReset s) s.bi.nextWindow := by
  have all : s.re.resetting.filter (resetReady s) = resetOrder := by rw [told, List.filter_eq_self.mpr ready]
  have none_ : (s.re.resetting.filter fun b => !resetReady s b) = [] := by
    rw [told, List.filter_eq_nil_iff]
    exact fun b is => by simp [ready b is]
  have units : resetOrder.foldl resetUnit s = resetLinks (resetEngine (unitsReset s)) := by
    simp only [resetOrder, List.foldl_cons, List.foldl_nil, resetUnit, unitsReset, saleReset]
  simp only [takeResets, all, none_, units, State.setRe_re, List.isEmpty_nil, if_true, laneDone, engineReset]

/-! ### The lane as it was reset -/

/-- The state in which the units take the reset: the pulse is cut, and the units are told (R151; log 16). -/
structure resetBegins (s z : State) : Prop where
  memory : z.mem = s.mem
  queue : z.pending = s.pending
  re : z.re = { s.re with resetDue := false, resetting := z.re.resetting, phase := z.re.phase, outcome := z.re.outcome }
  su : z.su = s.su
  ctu : z.ctu = s.ctu
  tu : z.tu = { s.tu with solenoid := false, width := none }
  pu : z.pu = s.pu
  ju : z.ju = s.ju
  lu : z.lu = s.lu
  fill : fillCopy z = fillCopy s

theorem quietedLink_changed {x : Link} (live : x.state ≠ .quiet) : (quietedLink x).line = .stopped ∧ (quietedLink x).tx = []
    ∧ (quietedLink x).silence = none
    ∧ (quietedLink x).path = x.path.filter (fun y => !y.isFrame) ++ [.change x.state .quiet]
    ∧ (quietedLink x).reason = .laneReset ∧ (quietedLink x).prevState = x.state ∧ (quietedLink x).errors = x.errors
    ∧ (quietedLink x).errorSum = x.errors.sum := by
  rw [quietedLink, if_neg live]
  exact ⟨rfl, rfl, rfl, List.filter_append .., rfl, rfl, rfl, rfl⟩

theorem engineReset_laneWasReset (begins : resetBegins s z) (clear : linksReported (fun _ => False) z) (start : Nat) :
    laneWasReset s (engineReset (unitsReset z) start) := by
  obtain ⟨pwu, bwu, ctu, tu, pu, ju, mem, pending⟩ := engineReset_keeps (unitsReset z) start
  obtain ⟨lu, nu, unitsMem, unitsPending⟩ := unitsReset_others z
  obtain ⟨sale, platter, card, printer, bag, till⟩ := unitsReset_asks z
  have cleared : linksReported (fun _ => False) (resetEngine (unitsReset z)) := linksReported_of_nu clear (by simpa using nu)
  have su := (engineReset_su (unitsReset z) start).trans (resetLinks_reported rfl cleared).2
  have re := engineReset_re (unitsReset z) start
  have link := engineReset_link (unitsReset z) start
  have asked {o : BlockId} {x : LaneSection} := engineReset_asked (unitsReset z) start (o := o) (x := x)
  have status := engineReset_asksStatus (unitsReset z) start
  have unitsLink (l : LinkId) : (unitsReset z).link l = s.link l := link_of_lu (lu.trans begins.lu) l
  generalize engineReset (unitsReset z) start = t at *
  have engineSu : (resetEngine (unitsReset z)).su = (unitsReset z).su := by simp
  constructor
  case memory => intro a; rw [mem, unitsMem, begins.memory]
  case queue => rw [pending, unitsPending, begins.queue]
  case engine => rw [re, unitsReset_re, begins.re]
  case sale => rw [su, engineSu, unitsReset_su, begins.su]
  case platter => rw [pwu, unitsReset_pwu]
  case bag => rw [bwu, unitsReset_bwu]
  case card => rw [ctu, unitsReset_ctu, begins.ctu]
  case till => rw [tu, unitsReset_tu, begins.tu, tillCut]
  case printer => rw [pu, unitsReset_pu, begins.pu, begins.fill, printCut]
  case fetch =>
    rw [pu, unitsReset_pu]
    exact fun f is => dropFetch_unwanted is
  case journal => rw [ju, unitsReset_ju, begins.ju]
  case links =>
    intro l
    rw [link l, unitsLink l]
    exact ⟨quietedLink_state _, quietedLink_changed⟩
  case asked => exact ⟨asked sale, asked platter, asked card, asked printer, asked bag, asked till, status⟩

theorem engineReset_reported (clear : linksReported (fun _ => False) z) (start : Nat) :
    linksReported (fun l => (z.link l).state ≠ .quiet) (engineReset (unitsReset z) start) := by
  obtain ⟨lu, nu, -, -⟩ := unitsReset_others z
  have cleared : linksReported (fun _ => False) (resetEngine (unitsReset z)) := linksReported_of_nu clear (by simpa using nu)
  have reports := (resetLinks_reported rfl cleared).1
  have link (l : LinkId) : (resetEngine (unitsReset z)).link l = z.link l := link_of_lu (by simpa using lu) l
  refine linksReported_of_nu (reports.congr fun l => ?_) (by simp [engineReset])
  rw [link]

theorem latchesReset_of {u : State} (h : linksReported (fun l => (s.link l).state ≠ .quiet) u) : latchesReset s u :=
  ⟨h.cleared, fun l quiet => h.still l (not_not_intro quiet), fun l live => h.raised l live⟩

/-! ### What follows the reset -/

/-- A step in which the engine goes on and the Notice Unit looks: the lane's units are as before. -/
structure laneKept (t u : State) : Prop where
  memory : u.mem = t.mem
  queue : u.pending = t.pending
  re : u.re = { t.re with phase := u.re.phase, fetched := u.re.fetched }
  su : u.su = t.su
  pwu : u.pwu = t.pwu
  bwu : u.bwu = t.bwu
  ctu : u.ctu = t.ctu
  tu : u.tu = t.tu
  pu : u.pu = t.pu
  ju : u.ju = t.ju
  lu : u.lu = t.lu
  asked : ∀ o x, askedFor t o x → askedFor u o x

theorem laneWasReset.kept {u : State} (h : laneWasReset s t) (same : laneKept t u) : laneWasReset s u := by
  have link := link_of_lu same.lu
  constructor
  case memory => intro a; rw [same.memory, h.memory]
  case queue => rw [same.queue, h.queue]
  case engine => rw [same.re, h.engine]
  case sale => rw [same.su, h.sale]
  case platter => rw [same.pwu, h.platter]
  case bag => rw [same.bwu, h.bag]
  case card => rw [same.ctu, h.card]
  case till => rw [same.tu, h.till]
  case printer => rw [same.pu]; exact h.printer
  case fetch => rw [same.pu]; exact h.fetch
  case journal => rw [same.ju, h.journal]
  case links => intro l; rw [link]; exact h.links l
  case asked =>
    obtain ⟨sale, platter, card, printer, bag, till, status⟩ := h.asked
    exact ⟨same.asked _ _ sale, same.asked _ _ platter, same.asked _ _ card, same.asked _ _ printer, same.asked _ _ bag,
      same.asked _ _ till, same.asked _ _ status⟩

theorem nextRequest_waiting (s : State) : (nextRequest s).bi.waiting = s.bi.waiting := by
  unfold nextRequest
  split
  next => rfl
  next => split <;> rfl

theorem nextRequest_laneKept (t : State) : laneKept t (nextRequest t) := by
  have asked := nextRequest_asked t
  exact ⟨by simp, by simp, asked.re, by simp, by simp, by simp, by simp, by simp, by simp, by simp, by simp,
    fun o x h => askedFor_of_bi h (nextRequest_waiting t)⟩

theorem look_laneKept (su : (look t).su = t.su) : laneKept t (look t) :=
  ⟨by simp, by simp, by simp, su, by simp, by simp, by simp, by simp, by simp, by simp, by simp, fun _ _ => askedFor_look⟩

theorem linksReported_nextRequest {c : LinkId → Prop} (h : linksReported c t) : linksReported c (nextRequest t) := by
  have nu := (nextRequest_asked t).nu
  have latches : (nextRequest t).nu.latches = t.nu.latches := by rw [nu]
  have writer : (nextRequest t).nu.writer = t.nu.writer := by rw [nu]
  have at_ (i : Nat) : latchAt (nextRequest t) i = latchAt t i := by rw [latchAt, latches]; rfl
  exact ⟨by rw [latches]; exact h.length, fun i inside other => (at_ i).trans (h.cleared i inside other),
    fun l same => (at_ _).trans (h.still l same), fun l is => by rw [at_, writer]; exact h.raised l is⟩

end

end Sys2Proof.Machine
end

section
/-! LANE_RESET: its answer, its application and the engine's next request (R25, R38, R43, R46, R52; O17). -/

namespace Sys2Proof.Machine

section
variable {s : State}

/-! ### The reset begins -/

/-- Latches and pulse cleared, the units told. -/
def unitsTold (s : State) : State :=
  cutPulse ((resetLatches (s.setRe { s.re with resetDue := false })).setRe
    { (resetLatches (s.setRe { s.re with resetDue := false })).re with resetting := resetOrder })

theorem applyLaneReset_ready (ready : s.re.device = .ready) : applyLaneReset s = takeResets (unitsTold s) :=
  if_neg (by rw [ready]; exact nofun)

theorem unitsTold_re (s : State) : (unitsTold s).re = { s.re with resetDue := false, resetting := resetOrder } := rfl

theorem unitsTold_nu (s : State) : (unitsTold s).nu = { s.nu with latches := List.replicate 24 Latch.clear } := rfl

theorem unitsTold_latches (s : State) : (unitsTold s).nu.latches = List.replicate 24 Latch.clear := rfl

theorem unitsTold_bi (s : State) : (unitsTold s).bi = s.bi := rfl

theorem latches_clear {t : State} (latches : t.nu.latches = List.replicate 24 Latch.clear) (i : Nat) : latchAt t i = Latch.clear := by
  rw [latchAt, latches, List.getD_eq_getElem?_getD, List.getElem?_replicate]
  split <;> rfl

theorem noneReported {t : State} (latches : t.nu.latches = List.replicate 24 Latch.clear) : linksReported (fun _ => False) t :=
  ⟨by rw [latches]; rfl, fun i _ _ => latches_clear latches i, fun l _ => latches_clear latches _, nofun⟩

theorem unitsTold_begins (s : State) : resetBegins s (unitsTold s) := ⟨rfl, rfl, rfl, rfl, rfl, rfl, rfl, rfl, rfl, rfl⟩

theorem unitsTold_ready (windows : ∀ w ∈ s.bi.opened, w.owner = .nu) (event : s.su.event = none) (head : headOwed s = false) :
    ∀ b ∈ resetOrder, resetReady (unitsTold s) b = true :=
  resetReady_all (s := unitsTold s) (fun _ other => hasOpenWindow_none fun w is same => other (same.symm.trans (windows w is))) event head
    rfl

/-- The lane after a reset that finds every unit ready. -/
def laneReached (s : State) : State := engineReset (unitsReset (unitsTold s)) s.bi.nextWindow

theorem applyLaneReset_reached (ready : s.re.device = .ready) (windows : ∀ w ∈ s.bi.opened, w.owner = .nu) (event : s.su.event = none)
    (head : headOwed s = false) : applyLaneReset s = nextRequest (laneReached s) :=
  (applyLaneReset_ready ready).trans (takeResets_all rfl (unitsTold_ready windows event head))

theorem unitsTold_link (s : State) (l : LinkId) : (unitsTold s).link l = s.link l := link_of_lu rfl l

theorem laneReached_reported (s : State) : linksReported (fun l => (s.link l).state ≠ .quiet) (laneReached s) :=
  (engineReset_reported (noneReported (unitsTold_latches s)) s.bi.nextWindow).congr fun l => by rw [unitsTold_link]

theorem laneReached_laneWasReset {z : State} (begins : resetBegins z (unitsTold s)) : laneWasReset z (laneReached s) :=
  engineReset_laneWasReset begins (noneReported (unitsTold_latches s)) s.bi.nextWindow

theorem laneReached_re (s : State) : (laneReached s).re
    = { s.re with resetDue := false, resetting := [], device := .unconfigured, clock := 0, setup := none } := by
  rw [laneReached, engineReset_re, unitsReset_re, unitsTold_re]

theorem engineReset_frame (v : State) (start : Nat) : eventFrame [.re, .lu] v (engineReset v start) :=
  eventFrame_setRe (tieAsks_frame _ _ (resetLinks_frame _ (resetEngine_frame _ (.refl _ v) (by decide)) (by decide))) (by decide)

/-- Of the Notice Unit the reset changes latches and writer alone. -/
theorem laneReached_nu (s : State) : noticesOnly s (laneReached s) := by
  have engine := (engineReset_frame (unitsReset (unitsTold s)) s.bi.nextWindow).nu.resolve_left (by decide)
  obtain ⟨-, units, -, -⟩ := unitsReset_others (unitsTold s)
  unfold noticesOnly at *
  rw [units, unitsTold_nu] at engine
  exact engine

theorem laneReached_bi (s : State) : windowsAskedOnly s (laneReached s) := by
  have engine := (engineReset_frame (unitsReset (unitsTold s)) s.bi.nextWindow).bi.resolve_left (by decide)
  have units := unitsReset_bi (unitsTold s)
  unfold windowsAskedOnly at *
  rw [units, unitsTold_bi] at engine
  exact engine

/-! ### The request and its answer -/

theorem exec_laneReset (high : s.bi.inReset = false) (enabled : ((awaits s .laneReset && saleReady s) || s.re.resetDue) = true) :
    exec .laneReset s = .next (if s.re.resetDue then applyLaneReset s else laneReset s) := stepIf_enabled high enabled

theorem exec_laneReset_due (high : s.bi.inReset = false) (due : s.re.resetDue = true) :
    exec .laneReset s = .next (applyLaneReset s) := by
  rw [exec_laneReset high (by rw [due, Bool.or_true]), due, if_pos rfl]

theorem exec_laneReset_request (high : s.bi.inReset = false) (inHand : awaits s .laneReset = true) (ready : saleReady s = true)
    (fresh : s.re.resetDue = false) : exec .laneReset s = .next (laneReset s) := by
  rw [exec_laneReset high (by rw [inHand, ready]; rfl), fresh, if_neg Bool.false_ne_true]

theorem exec_completionWritten_reset {o : OpenWindow} {askFirst : Bool} (high : s.bi.inReset = false) (record : writtenRecord s = some o)
    (writer : s.nu.writer = .completion) (is : recKind s.re.record = some .laneReset) :
    exec (.completionWritten askFirst) s = .next (afterLaneReset (completionLeft s o) askFirst) := by
  have runs : completionWritten s o askFirst = afterLaneReset (completionLeft s o) askFirst := by
    simp only [completionWritten, if_pos is]
    rfl
  have step : exec (.completionWritten askFirst) s = execCompletionWritten askFirst s := rfl
  rw [step, ← runs]
  simp only [execCompletionWritten, record]
  exact stepIf_enabled high (by simp [writer])

/-! ### The engine goes on, and the Notice Unit looks (R43, R46) -/

/-- Whichever latch the look takes, it leaves room for the slot that has been reserved. -/
theorem looked_begun {w : State} (none_ : w.nu.reserved = 0) (some_ : producerCopy w ≠ w.re.consumer) :
    if unconsumed w + conditionBegun (look (nextRequest w)).nu.writer < 256 then
      (nextRequest w).re.phase = .fetching ∧ (nextRequest w).nu.reserved = 1
    else (nextRequest w).re.phase = .stalled ∧ (nextRequest w).nu.reserved = 0 := by
  have asks := nextRequest_asked w
  have asked := asks.asked some_
  have writer : (nextRequest w).nu.writer = w.nu.writer := by rw [asks.nu]
  have slots : freeSlots (nextRequest w) = 256 - unconsumed w := by simp [freeSlots, unconsumed, consumerCopy]
  rw [none_, Nat.add_zero] at asked
  obtain same | ⟨c, free, -, begins⟩ | ⟨i, free, -, room, takes⟩ := look_cases (nextRequest w)
  · rw [same, writer]
    exact asked
  · have before : w.nu.writer = .free := writer.symm.trans free
    have after : (look (nextRequest w)).nu.writer = .completion := by rw [begins]; rfl
    rw [after]
    rw [before] at asked
    exact asked
  · have before : w.nu.writer = .free := writer.symm.trans free
    have begun : conditionBegun (look (nextRequest w)).nu.writer = 1 := by rw [takes, (takeLatch_taken _ i).2]; rfl
    have idle : conditionBegun w.nu.writer = 0 := by rw [before]; rfl
    rw [idle, Nat.add_zero] at asked
    rw [begun]
    rw [slots] at room
    have inside : unconsumed w < 256 := by omega
    rw [if_pos inside] at asked
    rw [asked.2] at room
    rw [if_pos (by omega)]
    exact asked

end

end Sys2Proof.Machine
end

section
/-! LANE_RESET answered, written, and applied at once or later (R25, R38, R43, R46, R52; log 16; O17). -/

namespace Sys2Proof.Machine

section
variable {s : State} {o : OpenWindow}

/-! ### A completion that has been written -/

theorem completionLeft_others (s : State) (o : OpenWindow) : (completionLeft s o).mem = s.mem ∧ (completionLeft s o).pending = s.pending
    ∧ (completionLeft s o).su = s.su ∧ (completionLeft s o).ctu = s.ctu ∧ (completionLeft s o).tu = s.tu
    ∧ (completionLeft s o).pu = s.pu ∧ (completionLeft s o).ju = s.ju ∧ (completionLeft s o).lu = s.lu := by
  simp [completionLeft, leaveCompleting]

theorem completionLeft_opened (s : State) (o : OpenWindow) :
    (completionLeft s o).bi.opened = s.bi.opened.filter fun w => w.id != o.id := recordWritten_opened s o 0

theorem completionLeft_waiting (s : State) (o : OpenWindow) : (completionLeft s o).bi.waiting = s.bi.waiting := by
  simp [completionLeft, leaveCompleting, recordWritten, updateAttn]

theorem completionLeft_fill (s : State) (o : OpenWindow) : fillCopy (completionLeft s o) = fillCopy s := by
  simp [completionLeft, leaveCompleting, fillCopy]

theorem completionLeft_begins (s : State) (o : OpenWindow) : resetBegins s (unitsTold (completionLeft s o)) := by
  obtain ⟨mem, pending, su, ctu, tu, pu, ju, lu⟩ := completionLeft_others s o
  have re := completionLeft_re s o
  have fill := completionLeft_fill s o
  generalize completionLeft s o = u at *
  exact ⟨mem, pending, by rw [unitsTold_re, re], su, ctu, by rw [← tu]; rfl, pu, ju, lu, fill⟩

theorem headOwed_left (s : State) (o : OpenWindow) (head : headOwed s = false) : headOwed (completionLeft s o) = false := by
  unfold headOwed at *
  rw [completionLeft_waiting, completionLeft_opened]
  rw [Bool.or_eq_false_iff] at head ⊢
  refine ⟨head.1, List.any_eq_false.mpr fun w is => ?_⟩
  exact List.any_eq_false.mp head.2 w (List.mem_filter.mp is).1

/-- The reset applied to what the written completion leaves. -/
theorem completionLeft_reached (ready : s.re.device = .ready) (windows : ∀ w ∈ s.bi.opened, w.owner = .nu) (event : s.su.event = none)
    (head : headOwed s = false) : applyLaneReset (completionLeft s o) = nextRequest (laneReached (completionLeft s o)) := by
  obtain ⟨-, -, su, -⟩ := completionLeft_others s o
  refine applyLaneReset_reached ?_ (fun w is => ?_) (by rw [su]; exact event) (headOwed_left s o head)
  · rw [completionLeft_re]
    exact ready
  · rw [completionLeft_opened] at is
    exact windows w (List.mem_filter.mp is).1

/-! ### The reset with the completion (log 16) -/

theorem resetWithCompletion (high : s.bi.inReset = false) (record : writtenRecord s = some o) (writer : s.nu.writer = .completion)
    (is : recKind s.re.record = some .laneReset) (ready : s.re.device = .ready) (windows : ∀ w ∈ s.bi.opened, w.owner = .nu)
    (event : s.su.event = none) (head : headOwed s = false) :
    ∃ t, exec (.completionWritten true) s = .next t ∧ laneWasReset s t ∧ latchesReset s t
      ∧ t.nu.producer = s.nu.producer + 1 ∧ t.nu.attn = (s.nu.producer + 1 != consumerCopy s) ∧ t.re.outcome = none
      ∧ (producerCopy s = s.re.consumer → t.re.phase = .idle ∧ t.nu.reserved = 0)
      ∧ (producerCopy s ≠ s.re.consumer →
          if unconsumed t + conditionBegun t.nu.writer < 256 then t.re.phase = .fetching ∧ t.nu.reserved = 1
          else t.re.phase = .stalled ∧ t.nu.reserved = 0) := by
  have runs := exec_completionWritten_reset (askFirst := true) high record writer is
  have applied : afterLaneReset (completionLeft s o) true = look (nextRequest (laneReached (completionLeft s o))) :=
    congrArg look (completionLeft_reached ready windows event head)
  rw [applied] at runs
  have reset := laneReached_laneWasReset (completionLeft_begins s o)
  have link (l : LinkId) : (completionLeft s o).link l = s.link l := link_of_lu (completionLeft_others s o).2.2.2.2.2.2.2 l
  have reports := laneReached_reported (completionLeft s o)
  have re := laneReached_re (completionLeft s o)
  have nu := laneReached_nu (completionLeft s o)
  have bi := laneReached_bi (completionLeft s o)
  rw [completionLeft_re] at re
  have reserved : (laneReached (completionLeft s o)).nu.reserved = 0 := by rw [nu, completionLeft_nu]
  have producer : (laneReached (completionLeft s o)).nu.producer = s.nu.producer + 1 := by rw [nu, completionLeft_nu]
  have attn : (laneReached (completionLeft s o)).nu.attn = (s.nu.producer + 1 != consumerCopy s) := by rw [nu, completionLeft_nu]
  have copy : producerCopy (laneReached (completionLeft s o)) = producerCopy s := by
    rw [← (completionLeft_copies s o).1, producerCopy, bi]
    rfl
  have consumer : (laneReached (completionLeft s o)).re.consumer = s.re.consumer := by rw [re]
  have outcome : (laneReached (completionLeft s o)).re.outcome = none := by rw [re]
  generalize laneReached (completionLeft s o) = w at *
  have asks := nextRequest_asked w
  have looks := (linksReported_nextRequest reports).look
  have begun := looked_begun (w := w) reserved
  have unconsumed_ : unconsumed (look (nextRequest w)) = unconsumed w := by simp [unconsumed, consumerCopy]
  rw [copy, consumer] at begun
  refine ⟨_, runs, (reset.kept (nextRequest_laneKept w)).kept (look_laneKept looks.2),
    latchesReset_of (looks.1.congr fun l => by rw [link]), ?_, ?_, ?_, fun none_ => ?_, fun some_ => ?_⟩
  · simpa using producer
  · simpa using attn
  · simpa using outcome
  · rw [← copy, ← consumer] at none_
    obtain ⟨phase, kept⟩ := asks.idle none_
    exact ⟨by simpa using phase, by simpa using kept.trans reserved⟩
  · rw [unconsumed_]
    simpa using begun some_

/-! ### The look before the reset (log 16) -/

theorem lookBeforeReset (high : s.bi.inReset = false) (record : writtenRecord s = some o) (writer : s.nu.writer = .completion)
    (none_ : s.nu.owed = none) (is : recKind s.re.record = some .laneReset) :
    ∃ t, exec (.completionWritten false) s = .next t
      ∧ t.re = { s.re with resetDue := true, phase := .idle, outcome := none } ∧ t.nu.producer = s.nu.producer + 1
      ∧ t.nu.reserved = 0 ∧ looked s t s.bi.noticeMask 0 (256 - (s.nu.producer + 1 - consumerCopy s).toNat)
      ∧ eventFrame [.bi, .re, .nu] s t := by
  have runs := exec_completionWritten_reset (askFirst := false) high record writer is
  have whole : eventFrame [.bi, .re, .nu] s (afterLaneReset (completionLeft s o) false) :=
    look_frame _ (eventFrame_setRe (completionLeft_frame s o) (by decide))
  have left := completionLeft_nu s o
  have leftRe := completionLeft_re s o
  have mask := (completionLeft_copies s o).2
  have consumer : consumerCopy (completionLeft s o) = consumerCopy s := by simp [completionLeft, leaveCompleting, consumerCopy]
  have second : afterLaneReset (completionLeft s o) false
      = look ((completionLeft s o).setRe { (completionLeft s o).re with resetDue := true }) := rfl
  rw [second] at runs whole
  generalize completionLeft s o = u at *
  have slots : freeSlots (u.setRe { u.re with resetDue := true }) = 256 - (s.nu.producer + 1 - consumerCopy s).toNat := by
    rw [← consumer, freeSlots, unconsumed, State.setRe_nu, left]
    rfl
  have looks := look_looked (s := u.setRe { u.re with resetDue := true }) (by rw [State.setRe_nu, left])
    (by rw [State.setRe_nu, left]; exact none_)
  rw [slots, State.setRe_nu, State.setRe_bi, mask] at looks
  have held : u.nu.reserved = 0 := by rw [left]
  rw [held] at looks
  refine ⟨_, runs, ?_, by simp [left], by simp [left], looked_congr looks (by rw [State.setRe_nu, left]) rfl rfl, whole⟩
  simp [leftRe]

/-! ### The reset taken later -/

theorem resetTakenLater (high : s.bi.inReset = false) (due : s.re.resetDue = true) (ready : s.re.device = .ready)
    (windows : s.bi.opened = []) (event : s.su.event = none) (head : headOwed s = false) :
    ∃ t, exec .laneReset s = .next t ∧ laneWasReset s t ∧ latchesReset s t
      ∧ t.nu.producer = s.nu.producer ∧ t.nu.attn = s.nu.attn := by
  have runs := exec_laneReset_due high due
  rw [applyLaneReset_reached ready (by rw [windows]; nofun) event head] at runs
  have reset := laneReached_laneWasReset (unitsTold_begins s)
  have reports := laneReached_reported s
  have nu := laneReached_nu s
  have producer : (laneReached s).nu.producer = s.nu.producer := by rw [nu]
  have attn : (laneReached s).nu.attn = s.nu.attn := by rw [nu]
  generalize laneReached s = w at *
  have asks := nextRequest_asked w
  refine ⟨_, runs, reset.kept (nextRequest_laneKept w), latchesReset_of (linksReported_nextRequest reports), ?_, ?_⟩
  · rw [asks.nu]
    exact producer
  · rw [asks.nu]
    exact attn

/-! ### A reset of a lane that is UNCONFIGURED (R52) -/

theorem look_nothing {t : State} (latches : t.nu.latches = List.replicate 24 Latch.clear) (none_ : t.nu.owed = none) :
    look t = t := by
  obtain same | ⟨c, -, owed, -⟩ | ⟨i, -, found, -⟩ := look_cases t
  · exact same
  · rw [none_] at owed
    exact nomatch owed
  · have set := ((firstEligible_iff t i).mp found).2.1
    rw [latches_clear latches] at set
    exact nomatch set

theorem unconfiguredReset (high : s.bi.inReset = false) (record : writtenRecord s = some o) (writer : s.nu.writer = .completion)
    (none_ : s.nu.owed = none) (is : recKind s.re.record = some .laneReset) (unc : s.re.device = .unconfigured) :
    ∃ t, exec (.completionWritten true) s = .next t ∧ (∀ i < 24, s.nu.latches.length = 24 → latchAt t i = Latch.clear)
      ∧ t.nu.producer = s.nu.producer + 1 ∧ t.nu.writer = .free ∧ t.re.device = .unconfigured ∧ t.re.outcome = none
      ∧ t.re.resetDue = false ∧ eventFrame [.bi, .re, .nu] s t := by
  have runs := exec_completionWritten_reset (askFirst := true) high record writer is
  have left := completionLeft_nu s o
  have leftRe := completionLeft_re s o
  have frame := completionLeft_frame s o
  generalize completionLeft s o = u at *
  have applied : applyLaneReset u = nextRequest (resetLatches (u.setRe { u.re with resetDue := false })) :=
    if_pos (by rw [leftRe]; exact unc)
  have whole : eventFrame [.bi, .re, .nu] s (nextRequest (resetLatches (u.setRe { u.re with resetDue := false }))) :=
    nextRequest_frame _ (resetLatches_frame _ (eventFrame_setRe frame (by decide))) (by decide) (by decide) (by decide)
  have asks := nextRequest_asked (resetLatches (u.setRe { u.re with resetDue := false }))
  have re : (resetLatches (u.setRe { u.re with resetDue := false })).re = { u.re with resetDue := false } := rfl
  have nu : (resetLatches (u.setRe { u.re with resetDue := false })).nu = { u.nu with latches := List.replicate 24 Latch.clear } := rfl
  generalize resetLatches (u.setRe { u.re with resetDue := false }) = w at *
  have afterNu := asks.nu
  have afterRe := asks.re
  have latches : (nextRequest w).nu.latches = List.replicate 24 Latch.clear := by rw [afterNu, nu]
  have free : (nextRequest w).nu.writer = .free := by rw [afterNu, nu, left]
  have still := look_nothing latches (by rw [afterNu, nu, left]; exact none_)
  have second : afterLaneReset u true = nextRequest w := by
    have first : afterLaneReset u true = look (applyLaneReset u) := rfl
    rw [first, applied, still]
  rw [second] at runs
  refine ⟨_, runs, fun i _ _ => latches_clear latches i, ?_, free, ?_, ?_, ?_, whole⟩
  · rw [afterNu, nu, left]
  · rw [afterRe, re, leftRe]
    exact unc
  · rw [afterRe, re, leftRe]
  · rw [afterRe, re]

end

end Sys2Proof.Machine
end

section
/-! A LANE_RESET that waits for a unit (R16, R38, R91, R174; log 16; O17). -/

namespace Sys2Proof.Machine

section
variable {s t z : State} {b : BlockId}

/-! ### Units that are not reached -/

/-- A unit other than the Request Engine changes where its own turn comes, and nowhere else. -/
structure unitsSpared (xs : List BlockId) (z t : State) : Prop where
  re : t.re = z.re
  nu : t.nu = z.nu
  lu : t.lu = z.lu
  mem : t.mem = z.mem
  pending : t.pending = z.pending
  su : .su ∉ xs → t.su = z.su
  pwu : .pwu ∉ xs → t.pwu = z.pwu
  bwu : .bwu ∉ xs → t.bwu = z.bwu
  ctu : .ctu ∉ xs → t.ctu = z.ctu
  pu : .pu ∉ xs → t.pu = z.pu
  ju : .ju ∉ xs → t.ju = z.ju

theorem resetUnit_spares (s : State) (other : b ≠ .re) : unitsSpared [b] s (resetUnit s b) := by
  cases b with
  | re => exact absurd rfl other
  | _ => constructor <;> simp [resetUnit]

theorem resetUnits_spare (xs : List BlockId) (s : State) (others : .re ∉ xs) : unitsSpared xs s (xs.foldl resetUnit s) := by
  induction xs generalizing s with
  | nil => exact ⟨rfl, rfl, rfl, rfl, rfl, fun _ => rfl, fun _ => rfl, fun _ => rfl, fun _ => rfl, fun _ => rfl, fun _ => rfl⟩
  | cons b rest ih =>
    have first := resetUnit_spares s (b := b) fun is => others (is ▸ List.mem_cons_self)
    have later := ih (resetUnit s b) fun is => others (List.mem_cons_of_mem _ is)
    have head {c : BlockId} (not : c ∉ b :: rest) : c ∉ [b] := fun is => not (List.mem_singleton.mp is ▸ List.mem_cons_self)
    have tail {c : BlockId} (not : c ∉ b :: rest) : c ∉ rest := fun is => not (List.mem_cons_of_mem _ is)
    exact ⟨later.re.trans first.re, later.nu.trans first.nu, later.lu.trans first.lu, later.mem.trans first.mem,
      later.pending.trans first.pending, fun not => (later.su (tail not)).trans (first.su (head not)),
      fun not => (later.pwu (tail not)).trans (first.pwu (head not)), fun not => (later.bwu (tail not)).trans (first.bwu (head not)),
      fun not => (later.ctu (tail not)).trans (first.ctu (head not)), fun not => (later.pu (tail not)).trans (first.pu (head not)),
      fun not => (later.ju (tail not)).trans (first.ju (head not))⟩

/-- The solenoid stays off. -/
def solenoidOff (s : State) : Prop := s.tu.solenoid = false ∧ s.tu.width = none

theorem resetUnit_solenoid (off : solenoidOff s) (b : BlockId) : solenoidOff (resetUnit s b) := by
  by_cases till : b = .tu
  · subst till
    have tu : (resetUnit s .tu).tu = tillCut s.tu := resetTill_tu s
    rw [solenoidOff, tu]
    exact ⟨rfl, rfl⟩
  · have tu : (resetUnit s b).tu = s.tu := by
      cases b with
      | tu => exact absurd rfl till
      | _ => simp [resetUnit]
    rw [solenoidOff, tu]
    exact off

/-- The lane after the units of a first turn, the units `told` still to come. -/
def partlyReset (u : State) (start : Nat) (told : List BlockId) : State :=
  (tieAsks u start).setRe { (tieAsks u start).re with resetting := told }

theorem partlyReset_re (u : State) (start : Nat) (told : List BlockId) :
    (partlyReset u start told).re = { u.re with resetting := told } := rfl

/-- The units that can take the reset take it; the others, and the Request Engine behind them, stay told. -/
theorem takeResets_waits {told : List BlockId} (is : s.re.resetting.filter (fun x => !resetReady s x) = told) (some_ : told ≠ []) :
    takeResets s = partlyReset ((s.re.resetting.filter (resetReady s)).foldl resetUnit s) s.bi.nextWindow told := by
  have left : told.isEmpty = false := Bool.eq_false_iff.mpr fun empty => some_ (List.isEmpty_iff.mp empty)
  simp only [takeResets, is, State.setRe_re, left, Bool.false_eq_true, if_false, partlyReset]

theorem resetReady_engine (told : b ∈ s.re.resetting) (other : b ≠ .re) (busy : unitReady s b = false) : resetReady s .re = false := by
  have all : (s.re.resetting.all fun x => decide (x = .re) || unitReady s x) = false :=
    List.all_eq_false.mpr ⟨b, told, by simp [other, busy]⟩
  rw [resetReady, if_pos rfl, all, Bool.and_false]

theorem resetReady_unit (other : b ≠ .re) : resetReady s b = unitReady s b := if_neg other

theorem resetWaits (high : s.bi.inReset = false) (due : s.re.resetDue = true) (ready : s.re.device = .ready)
    (unit : b ∈ [BlockId.su, .pwu, .bwu, .ctu, .tu, .pu, .ju]) (busy : unitReady s b = false) :
    ∃ t, exec .laneReset s = .next t ∧ b ∈ t.re.resetting ∧ .re ∈ t.re.resetting ∧ t.re.device = .ready
      ∧ t.re.clock = s.re.clock ∧ t.re.phase = s.re.phase ∧ t.lu = s.lu ∧ t.tu.solenoid = false ∧ t.tu.width = none
      ∧ (∀ i < 24, s.nu.latches.length = 24 → latchAt t i = Latch.clear)
      ∧ (b = .su → t.su = s.su) ∧ (b = .pwu → t.pwu = s.pwu) ∧ (b = .bwu → t.bwu = s.bwu) ∧ (b = .ctu → t.ctu = s.ctu)
      ∧ (b = .pu → t.pu = s.pu) ∧ (b = .ju → t.ju = s.ju) ∧ sameMemory s t ∧ t.pending = s.pending := by
  have runs := exec_laneReset_due high due
  rw [applyLaneReset_ready ready] at runs
  have other : b ≠ .re := by
    rintro rfl
    exact absurd unit (by decide)
  have told : b ∈ resetOrder := List.mem_of_mem_dropLast (l := resetOrder) unit
  have engineTold : .re ∈ resetOrder := by decide
  have unitBusy_ : unitReady (unitsTold s) b = false := busy
  have unitWaits : resetReady (unitsTold s) b = false := (resetReady_unit other).trans unitBusy_
  have engineWaits : resetReady (unitsTold s) .re = false := resetReady_engine told other unitBusy_
  have unitLeft : b ∈ (unitsTold s).re.resetting.filter fun x => !resetReady (unitsTold s) x :=
    List.mem_filter.mpr ⟨told, by rw [unitWaits]; rfl⟩
  have engineLeft : .re ∈ (unitsTold s).re.resetting.filter fun x => !resetReady (unitsTold s) x :=
    List.mem_filter.mpr ⟨engineTold, by rw [engineWaits]; rfl⟩
  have engineApart : .re ∉ (unitsTold s).re.resetting.filter (resetReady (unitsTold s)) := fun is => by
    have taken := (List.mem_filter.mp is).2
    rw [engineWaits] at taken
    exact nomatch taken
  have unitApart : b ∉ (unitsTold s).re.resetting.filter (resetReady (unitsTold s)) := fun is => by
    have taken := (List.mem_filter.mp is).2
    rw [unitWaits] at taken
    exact nomatch taken
  have spared := resetUnits_spare _ (unitsTold s) engineApart
  have off : solenoidOff (((unitsTold s).re.resetting.filter (resetReady (unitsTold s))).foldl resetUnit (unitsTold s)) :=
    foldl_keeps (P := solenoidOff) _ (fun c off => resetUnit_solenoid off c) ⟨rfl, rfl⟩
  have begins := unitsTold_begins s
  have re := unitsTold_re s
  have latches := unitsTold_latches s
  have pwu : (unitsTold s).pwu = s.pwu := rfl
  have bwu : (unitsTold s).bwu = s.bwu := rfl
  rw [takeResets_waits rfl (List.ne_nil_of_mem unitLeft)] at runs
  generalize ((unitsTold s).re.resetting.filter fun x => !resetReady (unitsTold s) x) = left at *
  generalize (unitsTold s).re.resetting.filter (resetReady (unitsTold s)) = taken at *
  generalize taken.foldl resetUnit (unitsTold s) = u at *
  generalize (unitsTold s).bi.nextWindow = start at *
  have after := partlyReset_re u start left
  rw [spared.re, re] at after
  refine ⟨_, runs, unitLeft, engineLeft, ?_, ?_, ?_, ?_, off.1, off.2, fun i _ _ => latches_clear ?_ i, ?_, ?_, ?_, ?_, ?_, ?_, ?_, ?_⟩
  · rw [after]
    exact ready
  · rw [after]
  · rw [after]
  · exact spared.lu.trans begins.lu
  · exact (congrArg Nu.latches spared.nu).trans latches
  · rintro rfl
    exact (spared.su unitApart).trans begins.su
  · rintro rfl
    exact (spared.pwu unitApart).trans pwu
  · rintro rfl
    exact (spared.bwu unitApart).trans bwu
  · rintro rfl
    exact (spared.ctu unitApart).trans begins.ctu
  · rintro rfl
    exact (spared.pu unitApart).trans begins.pu
  · rintro rfl
    exact (spared.ju unitApart).trans begins.ju
  · exact fun a => congrArg (fun m => Memory.readByte m a) (spared.mem.trans begins.memory)
  · exact spared.pending.trans begins.queue

end

end Sys2Proof.Machine
end

section
/-! Notices at quiet links, and a window whose close lets the last unit reset (R16, R24, R38; log 16; O17). -/

namespace Sys2Proof.Machine

/-! ### Notices of links that are QUIET: no frame goes (R24, R64) -/

section
variable {s t : State}

theorem linkTakes_quiet {l : LinkId} (quiet : (t.link l).state = .quiet) : linkTakes t l = false := by
  rw [linkTakes, quiet]
  rfl

theorem cardNotices_quiet (quiet : (t.link .card).state = .quiet) :
    ∃ x, cardNotices t = t.setCtu x ∧ (t.ctu.notices = 0 → x = t.ctu) := by
  obtain ⟨m, least, same, -⟩ := takeCardNotices_settled (s := t) (.inr (.inl (linkTakes_quiet quiet))) rfl
  refine ⟨_, same, fun none_ => ?_⟩
  have zero : m = t.ctu.notices := by omega
  rw [zero]

theorem takeSent_quiet (quiet : (t.link .printer).state = .quiet) : ∃ x, takeSent t = t.setPu x := by
  cases waits : t.pu.ready with
  | none => exact ⟨_, takeSent_none waits⟩
  | some f =>
    cases may : t.pu.maySend with
    | false => exact ⟨_, takeSent_waits waits may⟩
    | true =>
      have down : ((unmarked t).link .printer).state ≠ .up := by
        have same : (unmarked t).link .printer = t.link .printer := rfl
        rw [same, quiet]
        exact nofun
      exact ⟨_, (takeSent_offers waits may).trans (offerPrint_lost down)⟩

theorem takePrintNotices_quiet (n : Nat) (quiet : (t.link .printer).state = .quiet) : ∃ x, takePrintNotices n t = t.setPu x := by
  induction n generalizing t with
  | zero => exact ⟨t.pu, rfl⟩
  | succ n ih =>
    unfold takePrintNotices
    split
    next =>
      obtain ⟨x, sent⟩ := takeSent_quiet (t := t.setPu { t.pu with notices := t.pu.notices - 1 }) quiet
      rw [sent]
      exact ih (t := (t.setPu { t.pu with notices := t.pu.notices - 1 }).setPu x) quiet
    next => exact ⟨t.pu, rfl⟩

theorem printNotices_quiet (quiet : (t.link .printer).state = .quiet) :
    ∃ x, printNotices t = t.setPu x ∧ (t.pu.notices = 0 → x = t.pu) := by
  by_cases none_ : t.pu.notices = 0
  · refine ⟨t.pu, ?_, fun _ => rfl⟩
    rw [printNotices, none_]
    rfl
  · obtain ⟨x, same⟩ := takePrintNotices_quiet t.pu.notices quiet
    exact ⟨x, same, fun is => absurd is none_⟩

/-- Of the notices that a request's end frees only CTU and PU take note. -/
theorem freedNotices_quiet (s : State) (quiet : ∀ l, (t.link l).state = .quiet) : ∃ x y, freedNotices s t = (t.setCtu x).setPu y
    ∧ (t.ctu.notices = 0 → x = t.ctu) ∧ (t.pu.notices = 0 → y = t.pu) := by
  have card : ∃ x, (if unitBusy s .ctu then cardNotices t else t) = t.setCtu x ∧ (t.ctu.notices = 0 → x = t.ctu) := by
    split
    next => exact cardNotices_quiet (quiet .card)
    next => exact ⟨t.ctu, rfl, fun _ => rfl⟩
  obtain ⟨x, cards, still⟩ := card
  unfold freedNotices
  rw [cards]
  dsimp only
  split
  next =>
    obtain ⟨y, prints, same⟩ := printNotices_quiet (t := t.setCtu x) (quiet .printer)
    exact ⟨x, y, prints, still, same⟩
  next => exact ⟨x, t.pu, rfl, still, fun _ => rfl⟩

/-! ### The last unit resets with the engine -/

/-- The lane after the last of the units, which the reset leaves as in `v`. -/
structure laneEnds (v t : State) : Prop where
  told : t.re.resetting = []
  device : t.re.device = .unconfigured
  clock : t.re.clock = 0
  setup : t.re.setup = none
  quiet : ∀ l, (t.link l).state = .quiet
  payloads : payloadsJoined v t
  pwu : t.pwu = v.pwu
  bwu : t.bwu = v.bwu
  tu : t.tu = v.tu
  ju : t.ju = v.ju
  ctu : v.ctu.notices = 0 → t.ctu = v.ctu
  pu : v.pu.notices = 0 → t.pu = v.pu
  asked : ∀ o x, askedFor v o x → askedFor t o x

theorem laneDone_ends (v : State) (start : Nat) : laneEnds v (laneDone v start) := by
  obtain ⟨pwu, bwu, ctu, tu, pu, ju, -, -⟩ := engineReset_keeps v start
  have re := engineReset_re v start
  have link := engineReset_link v start
  obtain ⟨asks, su, all⟩ := engineReset_payloads v start
  have asked := fun o x => engineReset_asked v start (o := o) (x := x)
  unfold laneDone
  generalize engineReset v start = w at *
  have kept := nextRequest_laneKept w
  refine ⟨?_, ?_, ?_, ?_, fun l => ?_, ⟨asks, kept.su.trans su, all⟩, kept.pwu.trans pwu, kept.bwu.trans bwu, kept.tu.trans tu,
    kept.ju.trans ju, fun _ => kept.ctu.trans ctu, fun _ => kept.pu.trans pu, fun o x h => kept.asked o x (asked o x h)⟩
  · rw [kept.re, re]
  · rw [kept.re, re]
  · rw [kept.re, re]
  · rw [kept.re, re]
  · rw [link_of_lu kept.lu, link]
    exact quietedLink_state _

theorem laneEnds.freed {v : State} (h : laneEnds v t) (s : State) : laneEnds v (freedNotices s t) := by
  obtain ⟨x, y, same, card, print⟩ := freedNotices_quiet s h.quiet
  rw [same]
  obtain ⟨asks, su, all⟩ := h.payloads
  refine ⟨h.told, h.device, h.clock, h.setup, h.quiet, ⟨asks, su, all⟩, h.pwu, h.bwu, h.tu, h.ju, fun none_ => ?_, fun none_ => ?_,
    fun o x is => askedFor_of_bi (h.asked o x is) rfl⟩
  · have ctu := h.ctu none_
    exact (card (by rw [ctu]; exact none_)).trans ctu
  · have pu := h.pu none_
    exact (print (by rw [pu]; exact none_)).trans pu

theorem closeWindow_resets {v : State} {o : OpenWindow} (followed : o.after.foldl runAfter (removeWindow s o.id) = v) (re : v.re = s.re)
    (unanswered : s.re.outcome = none) (told : s.re.resetting ≠ []) : closeWindow s o = takeResets v := by
  have waits : v.re.resetting.isEmpty = false := Bool.eq_false_iff.mpr fun empty => told (re ▸ List.isEmpty_iff.mp empty)
  rw [closeWindow, followed, requestProgress_none (by rw [re, unanswered]), resumeResets, waits, if_neg Bool.false_ne_true]

/-- A window closes, its owner goes on to `v`, and the unit `b` is the last that was told. -/
theorem windowEndsReset {v : State} {i : Nat} {o : OpenWindow} {b : BlockId} (high : s.bi.inReset = false)
    (here : s.bi.opened[i]? = some o) (other : o.owner ≠ .nu) (written : windowWritten s o.id = true)
    (unanswered : s.re.outcome = none) (told : s.re.resetting = [b, .re]) (unit : b ≠ .re)
    (followed : o.after.foldl runAfter (removeWindow s o.id) = v) (re : v.re = s.re) (opened : v.bi.opened = [])
    (ready : unitReady v b = true) : ∃ t, exec (.updateWindowClose i) s = .next t ∧ laneEnds (resetUnit v b) t := by
  have runs := exec_windowClose high here other written
  have last : takeResets v = laneDone (resetUnit v b) v.bi.nextWindow := takeResets_last unit (re ▸ told) opened ready
  rw [closeWindow_resets followed re unanswered (by rw [told]; nofun), last] at runs
  exact ⟨_, runs, (laneDone_ends _ _).freed s⟩

end

end Sys2Proof.Machine
end

section
/-! The last window of a unit that was told to reset (R16, R38, R91, R174; O17). -/

namespace Sys2Proof.Machine

section
variable {s : State} {i : Nat} {o : OpenWindow}

/-- The only open window has closed. -/
def allClosed (s : State) : State := s.setBi { s.bi with opened := [] }

theorem removeWindow_allClosed (only : s.bi.opened = [o]) (free : ∀ a n, s.bi.hostStall ≠ some (.readHeld a n)) :
    removeWindow s o.id = allClosed s := removeWindow_only only free

theorem here_of_only (only : s.bi.opened = [o]) : s.bi.opened[0]? = some o := by rw [only]; rfl

theorem unitReady_closed {v : State} {b : BlockId} (opened : v.bi.opened = []) (event : b = .su → v.su.event = none)
    (head : b = .ju → headOwed v = false) : unitReady v b = true := by
  have windows : hasOpenWindow v b = false := hasOpenWindow_none (by rw [opened]; nofun)
  unfold unitReady
  rw [windows, Bool.not_false, Bool.true_and]
  split
  next => rw [event rfl]; rfl
  next => rw [head rfl]; rfl
  next => rfl

/-! ### PWU, BWU, CTU, TU and PU -/

theorem unitEndsReset {b : BlockId} (high : s.bi.inReset = false) (only : s.bi.opened = [o]) (owner : o.owner = b)
    (unit : b ∈ [BlockId.pwu, .bwu, .ctu, .tu, .pu]) (after : o.after = []) (written : windowWritten s o.id = true)
    (told : s.re.resetting = [b, .re]) (unanswered : s.re.outcome = none) (free : ∀ a n, s.bi.hostStall ≠ some (.readHeld a n)) :
    ∃ t, exec (.updateWindowClose 0) s = .next t ∧ laneEnds (resetUnit (allClosed s) b) t := by
  have apart {c : BlockId} (not : c ∉ [BlockId.pwu, .bwu, .ctu, .tu, .pu]) : b ≠ c := fun is => not (is ▸ unit)
  refine windowEndsReset high (here_of_only only) (by rw [owner]; exact apart (by decide)) written unanswered told (apart (by decide))
    ((removeWindow_followed after).trans (removeWindow_allClosed only free)) rfl rfl
    (unitReady_closed rfl (fun is => absurd is (apart (by decide))) fun is => absurd is (apart (by decide)))

/-! ### The sale -/

theorem saleOver_payloads (s : State) : ∃ asks, (saleOver s).su = { s.su with event := none, inbox := s.su.inbox ++ asks }
    ∧ ∀ x ∈ asks, x = .payloadAsk := by
  obtain ⟨asks, su, all⟩ := raise_payloads s .saleFinished 0
  have finished : (saleOver s).su = { (raise s .saleFinished 0).su with event := none } := by simp [saleOver]
  exact ⟨asks, by rw [finished, su], all⟩

/-- What follows the sale's last window: its event ends, where the sale is over with the report and the tells. -/
theorem saleFollowed (only : s.bi.opened = [o]) (free : ∀ a n, s.bi.hostStall ≠ some (.readHeld a n))
    (after : o.after = [.suDone] ∨ o.after = [.saleFinished, .tellBag .saleEnded, .tellPrint .saleIdle, .suDone]) :
    ∃ v asks, o.after.foldl runAfter (removeWindow s o.id) = v ∧ v.re = s.re ∧ v.bi.opened = [] ∧ v.ju = s.ju
      ∧ v.su = { s.su with event := none, inbox := s.su.inbox ++ asks } ∧ ∀ x ∈ asks, x = .payloadAsk := by
  have gone := removeWindow_allClosed only free
  obtain done | finished := after
  · refine ⟨saleDone (allClosed s), [], ?_, rfl, rfl, rfl, ?_, nofun⟩
    · rw [done, gone]
      rfl
    · rw [List.append_nil]
      rfl
  · obtain ⟨asks, su, all⟩ := saleOver_payloads (allClosed s)
    refine ⟨saleOver (allClosed s), asks, ?_, ?_, ?_, ?_, su, all⟩
    · rw [finished, gone]
      rfl
    · simp [saleOver, allClosed]
    · simp [saleOver, allClosed]
    · simp [saleOver, allClosed]

/-- Asks for a payload keep their place. -/
theorem filter_payloads {asks : List SaleItem} (all : ∀ x ∈ asks, x = .payloadAsk) :
    (asks.filter fun x => decide (x = .payloadAsk) || decide (x = .fillAsk)) = asks :=
  List.filter_eq_self.mpr fun x is => by rw [all x is]; rfl

theorem saleEndsReset (high : s.bi.inReset = false) (only : s.bi.opened = [o]) (owner : o.owner = .su)
    (after : o.after = [.suDone] ∨ o.after = [.saleFinished, .tellBag .saleEnded, .tellPrint .saleIdle, .suDone])
    (written : windowWritten s o.id = true) (told : s.re.resetting = [.su, .re]) (unanswered : s.re.outcome = none)
    (free : ∀ a n, s.bi.hostStall ≠ some (.readHeld a n)) :
    ∃ (t : State) (asks : List SaleItem), exec (.updateWindowClose 0) s = .next t
      ∧ t.re.resetting = [] ∧ t.re.device = .unconfigured ∧ t.re.clock = 0 ∧ t.re.setup = none
      ∧ t.su = { s.su with
          header := Header.cleared, lines := [], tenders := [], event := none
          inbox := (s.su.inbox.filter fun x => decide (x = .payloadAsk) || decide (x = .fillAsk)) ++ asks }
      ∧ (∀ x ∈ asks, x = .payloadAsk) ∧ askedFor t .su .saleRecord ∧ (∀ l, (t.link l).state = .quiet) ∧ t.ju = s.ju := by
  obtain ⟨v, first, followed, re, opened, ju, su, allFirst⟩ := saleFollowed only free after
  obtain ⟨t, runs, ends⟩ := windowEndsReset high (here_of_only only) (by rw [owner]; nofun) written unanswered told (by decide) followed
    re opened (unitReady_closed opened (fun _ => by rw [su]) nofun)
  obtain ⟨later, joined, allLater⟩ := ends.payloads
  have reset : (resetUnit v .su).su = _ := resetSale_su v
  refine ⟨t, first ++ later, runs, ends.told, ends.device, ends.clock, ends.setup, ?_, fun x is => ?_,
    ends.asked _ _ askedFor_resetSale, ends.quiet, ?_⟩
  · rw [joined, reset, su]
    simp only [List.filter_append, filter_payloads allFirst, List.append_assoc]
  · exact (List.mem_append.mp is).elim (allFirst x) (allLater x)
  · rw [ends.ju, ← ju]
    exact (resetSale_keeps v).2.2.2.2.2.2.2.2.1

/-! ### The journal (R174) -/

theorem headOwed_closed {v : State} (opened : v.bi.opened = []) (windows : ∀ w ∈ v.bi.waiting, .headAdvance ∉ w.after) :
    headOwed v = false := by
  rw [headOwed, opened, Bool.or_eq_false_iff]
  refine ⟨List.any_eq_false.mpr fun w is owes => windows w is ?_, rfl⟩
  exact List.contains_iff_mem.mp owes

/-- The head has advanced. -/
def headAdvanced (s : State) : State := (allClosed s).setJu { s.ju with head := s.ju.head + 1 }

theorem journalEndsReset (high : s.bi.inReset = false) (only : s.bi.opened = [o]) (owner : o.owner = .ju)
    (written : windowWritten s o.id = true) (windows : ∀ w ∈ s.bi.waiting, .headAdvance ∉ w.after) (unanswered : s.re.outcome = none)
    (free : ∀ a n, s.bi.hostStall ≠ some (.readHeld a n)) (after : o.after = [.headAdvance]) (told : s.re.resetting = [.ju, .re]) :
    ∃ t, exec (.updateWindowClose 0) s = .next t
      ∧ t.ju = { s.ju with head := s.ju.head + 1, forcedCarry := 0, nosaleCarry := 0, fixed := none, tells := 0 }
      ∧ t.re.resetting = [] ∧ t.re.device = .unconfigured ∧ t.re.clock = 0 ∧ t.re.setup = none
      ∧ (∀ l, (t.link l).state = .quiet) ∧ listOnly s t := by
  have followed : o.after.foldl runAfter (removeWindow s o.id) = headAdvanced s := by
    rw [after, removeWindow_allClosed only free]
    rfl
  obtain ⟨t, runs, ends⟩ := windowEndsReset high (here_of_only only) (by rw [owner]; nofun) written unanswered told (by decide) followed
    rfl rfl (unitReady_closed rfl nofun fun _ => headOwed_closed rfl windows)
  obtain ⟨asks, joined, -⟩ := ends.payloads
  refine ⟨t, runs, ends.ju, ends.told, ends.device, ends.clock, ends.setup, ends.quiet, ?_⟩
  rw [listOnly, joined]
  rfl

/-- The JU's last window, with the sale's own window behind it: the journal resets, and the sale stays told. -/
theorem journalResetsFirst {e : SaleEvent} (high : s.bi.inReset = false) (only : s.bi.opened = [o]) (owner : o.owner = .ju)
    (written : windowWritten s o.id = true) (windows : ∀ w ∈ s.bi.waiting, .headAdvance ∉ w.after) (unanswered : s.re.outcome = none)
    (free : ∀ a n, s.bi.hostStall ≠ some (.readHeld a n)) (after : o.after = [.headAdvance, .suWrite]) (event : s.su.event = some e)
    (none_ : .headAdvance ∉ e.after) (told : s.re.resetting = [.su, .ju, .re]) :
    ∃ t, exec (.updateWindowClose 0) s = .next t
      ∧ t.ju = { s.ju with head := s.ju.head + 1, forcedCarry := 0, nosaleCarry := 0, fixed := none, tells := 0 }
      ∧ t.re = { s.re with resetting := [.su, .re] } ∧ t.su = s.su ∧ saleEventAsked t ∧ eventFrame [.bi, .re, .ju] s t := by
  have followed : o.after.foldl runAfter (removeWindow s o.id)
      = askFixed (headAdvanced s) .su [.saleRecord] e.words (e.after ++ [.suDone]) e.ofRequest := by
    rw [after, removeWindow_allClosed only free]
    exact suAskWindow_asks (u := headAdvanced s) event
  have frame : eventFrame [.bi, .re, .ju] s (askFixed (headAdvanced s) .su [.saleRecord] e.words (e.after ++ [.suDone]) e.ofRequest) :=
    askFixed_frame _ _ _ _ _ _ (eventFrame_setJu (eventFrame_setBi (.refl _ s) (by decide)) (by decide))
  obtain ⟨w, waiting, window⟩ := askFixed_one (headAdvanced s) .su [.saleRecord] e.words (e.after ++ [.suDone]) e.ofRequest
  have re : (askFixed (headAdvanced s) .su [.saleRecord] e.words (e.after ++ [.suDone]) e.ofRequest).re = s.re := rfl
  have su : (askFixed (headAdvanced s) .su [.saleRecord] e.words (e.after ++ [.suDone]) e.ofRequest).su = s.su := rfl
  have ju : (askFixed (headAdvanced s) .su [.saleRecord] e.words (e.after ++ [.suDone]) e.ofRequest).ju
      = { s.ju with head := s.ju.head + 1 } := rfl
  have opened : (askFixed (headAdvanced s) .su [.saleRecord] e.words (e.after ++ [.suDone]) e.ofRequest).bi.opened = [] := rfl
  have before : (headAdvanced s).bi.waiting = s.bi.waiting := rfl
  have runs := exec_windowClose high (here_of_only only) (by rw [owner]; nofun) written
  rw [closeWindow_resets followed re unanswered (by rw [told]; nofun)] at runs
  generalize askFixed (headAdvanced s) .su [.saleRecord] e.words (e.after ++ [.suDone]) e.ofRequest = v at *
  obtain ⟨owned, covers, fixed, live, follows, ofRequest⟩ := window
  have sale : resetReady v .su = false := by
    rw [resetReady_unit (by decide), unitReady, su, event]
    exact Bool.and_false _
  have head : headOwed v = false := headOwed_closed opened fun x is => by
    rw [waiting, before] at is
    obtain old | new := List.mem_append.mp is
    · exact windows x old
    · rw [List.mem_singleton.mp new, follows]
      simpa using none_
  have journal : resetReady v .ju = true := (resetReady_unit (by decide)).trans (unitReady_closed opened nofun fun _ => head)
  have engine : resetReady v .re = false :=
    resetReady_engine (b := .su) (by rw [re, told]; decide) (by decide) ((resetReady_unit (by decide)).symm.trans sale)
  have takes : v.re.resetting.filter (resetReady v) = [.ju] := by
    rw [re, told]
    simp [sale, journal, engine]
  have left : v.re.resetting.filter (fun x => !resetReady v x) = [.su, .re] := by
    rw [re, told]
    simp [sale, journal, engine]
  have waits := takeResets_waits left (by nofun)
  rw [takes] at waits
  have after_ : takeResets v = partlyReset (resetJournal v) v.bi.nextWindow [.su, .re] := waits
  have busy (b : BlockId) : unitBusy (partlyReset (resetJournal v) v.bi.nextWindow [.su, .re]) b = unitBusy s b := by
    have resets : (partlyReset (resetJournal v) v.bi.nextWindow [.su, .re]).re.resetting = [.su, .re] := rfl
    rw [unitBusy, unitBusy, resets, told]
    simp
  rw [after_, freedNotices_same (busy .ctu) (busy .pu)] at runs
  refine ⟨_, runs, ?_, ?_, su, ⟨e, if v.bi.nextWindow ≤ w.id then { w with group := v.bi.nextGroup } else w, su ▸ event, ?_, ?_⟩,
    eventFrame_setRe (tieAsks_frame _ _ (resetJournal_frame _ frame (by decide))) (by decide)⟩
  · have journals : (partlyReset (resetJournal v) v.bi.nextWindow [.su, .re]).ju = (resetJournal v).ju := rfl
    rw [journals, resetJournal_ju, ju]
  · rw [partlyReset_re, (resetJournal_keeps v).2.1, re]
  · have mem : w ∈ v.bi.waiting := waiting ▸ List.mem_append_right _ (List.mem_singleton_self w)
    exact List.mem_map_of_mem (f := fun w => if v.bi.nextWindow ≤ w.id then { w with group := v.bi.nextGroup } else w) mem
  · split
    next => exact ⟨owned, covers, fixed, live, follows, ofRequest⟩
    next => exact ⟨owned, covers, fixed, live, follows, ofRequest⟩

end

/-! ### The whole statement -/

/-- Settles O17: the reset at once by `laneReached`, a reset that waits by `takeResets_waits` and `windowEndsReset`. -/
theorem laneResetAnswersThenResets : Obligations.LaneResetAnswersThenResets := by
  unfold Obligations.LaneResetAnswersThenResets
  refine ⟨fun s high inHand ready fresh => ⟨_, exec_laneReset_request high inHand ready fresh, finishRequest_answered _ _ _ _,
      requestFrame_finish (.refl _ s) rfl⟩,
    fun s o high record writer is _ ready windows event head => resetWithCompletion high record writer is ready windows event head,
    fun s o high record writer none_ is => lookBeforeReset high record writer none_ is,
    fun s high due _ ready windows event head => resetTakenLater high due ready windows event head,
    fun s b high due ready unit busy => resetWaits high due ready unit busy, ?unit, ?sale, ?journal,
    fun s o high record writer none_ is unc => unconfiguredReset high record writer none_ is unc⟩
  case unit =>
    rintro s _ o b high - only rfl owner unit after written told - unanswered - free
    obtain ⟨t, runs, ends⟩ := unitEndsReset high only owner unit after written told unanswered free
    have engine : b ≠ .re := fun is => absurd (is ▸ unit) (by decide)
    have spared := resetUnit_spares (allClosed s) engine
    obtain ⟨asks, joined, -⟩ := ends.payloads
    refine ⟨t, runs, ends.told, ends.device, ends.clock, ends.setup, ?_, ?_, ?_, ?_, ?_, ends.quiet, ?_, ?_⟩
    · rintro rfl
      exact ends.pwu.trans (resetPlatter_pwu _)
    · rintro rfl
      exact ends.bwu.trans (resetBag_bwu _)
    · rintro rfl
      have reset : (resetUnit (allClosed s) .ctu).ctu = { Ctu.reset with refCounter := s.ctu.refCounter } := resetCard_ctu _
      exact (ends.ctu (by rw [reset]; rfl)).trans reset
    · rintro rfl
      exact ends.tu.trans (resetTill_tu _)
    · rintro rfl
      have reset : (resetUnit (allClosed s) .pu).pu = printCut (fillCopy s) s.pu := resetPrinter_pu _
      have pu := (ends.pu (by rw [reset]; rfl)).trans reset
      rw [pu]
      exact ⟨rfl, fun f is => dropFetch_unwanted is⟩
    · rw [listOnly, joined, spared.su fun is => absurd (List.mem_singleton.mp is ▸ unit) (by decide)]
      rfl
    · rw [ends.ju]
      exact spared.ju fun is => absurd (List.mem_singleton.mp is ▸ unit) (by decide)
  case sale =>
    rintro s _ o high only rfl owner after written told - unanswered - free
    exact saleEndsReset high only owner after written told unanswered free
  case journal =>
    rintro s _ o high only rfl owner written windows - unanswered - free
    exact ⟨fun after told => journalEndsReset high only owner written windows unanswered free after told,
      fun e after event none_ told => journalResetsFirst high only owner written windows unanswered free after event none_ told⟩

end Sys2Proof.Machine
end
